-- ==== Sys2Proof/Word.lean ====
section
/-! DEFINITION. The words the part's registers and stores are made of (00_scope.md R7, R9), and the shape of
every sparse store of the model. -/
namespace Sys2Proof

/-- A register (R9): 32 bits. -/
abbrev Word := BitVec 32

/-- One byte of a store (R7). -/
abbrev Byte := BitVec 8

/-- A sparse store: key and value pairs, keys strictly rising, no pair that holds the store's default value.
Equal stores are then equal lists. The operations are those of Machine/Maps.lean. -/
abbrev Map (α : Type) := List (Nat × α)

/-- A field of a register: the register's byte offset in PF BAR0 (R541, R547) and its bit range [hi:lo] (R7). -/
structure Fld where
  off : Nat
  hi : Nat
  lo : Nat
deriving DecidableEq, Repr

end Sys2Proof
end

