-- ==== Sys2Proof/Inputs.lean ====
section
/-! DEFINITION. What commands carry beside numbers: who makes a register access, who sends a service message, and what
the world outside the part decides and a command reports. -/
namespace Sys2Proof

/-- Who makes a register access (R539, R540, R543): the host through the PF, the sideband, VF n + 1 (plot n), or the
device itself. -/
inductive Accessor where
  | host
  | sideband
  | vf (n : Nat)
  | device
deriving DecidableEq, Repr

/-- A requester of the service protocol (R486): IPv4 address and UDP port. -/
structure Peer where
  ip : Nat
  port : Nat
deriving DecidableEq, Repr

/-- What a training step has found (R241): the partner's capabilities (byte 9 of its hello); the power at the receiver of
each lane in 0.01 dBm, of an active lane in VERIFY its mean (R286); clock recovery, lane deskew and FEC lock; whether eight
lanes can be mapped; the bit errors and bits of each active lane in the test frames, and their uncorrectable codewords; the
lanes on wavelength 8; the sampling phase, as a number of its own; and the path delay in 2⁻⁴ ns. -/
structure TrainInfo where
  caps : Nat
  powers : List Int
  locked : Bool
  lanes8 : Bool
  errors : List (Nat × Nat)
  uncorr : Nat
  txSpare : Nat
  rxSpare : Nat
  sample : Nat
  delay : Nat
deriving DecidableEq, Repr

/-- What a lane controller has seen of its lane (R245): how long clock recovery has been out of lock, in ns; the symbol
errors of two consecutive windows of 1 µs; how long received power has stood at or below a level, in ns and 0.01 dBm; or, of
a transmit lane, the Anneal engine's report. -/
inductive LaneFault where
  | unlock (ns : Nat)
  | symbols (first second : Nat)
  | power (ns : Nat) (level : Int)
  | ring
deriving DecidableEq, Repr

/-- What the comparison of IEEE 1588-2019 clause 9.3 reads of an Announce on the service port (R361). -/
structure ClockData where
  priority1 : Nat
  clockClass : Nat
  accuracy : Nat
  variance : Nat
  priority2 : Nat
  grandmaster : Nat
  steps : Nat
deriving DecidableEq, Repr

/-- Fields of a function's configuration space that R376 bounds: Max_Read_Request_Size and Max_Payload_Size in bytes, the
completion timeout value, D3hot, and of the PF the size of BAR2, 2^bar2 GiB. -/
structure PciConfig where
  maxRead : Nat := 512
  maxPayload : Nat := 128
  timeout : Nat := 0
  d3 : Bool := false
  bar2 : Nat := 0
deriving DecidableEq, Repr

/-- A codeword that carries bits of a frame (R234): its 10-bit symbols in error, and whether it carried bits of no earlier
frame. -/
structure Codeword where
  symbols : Nat
  first : Bool
deriving DecidableEq, Repr

/-- Bits a memory or the bridge loses by itself (R78, R84, R127, R177): 64-bit word of the instruction store, word of
a core's SRAM, word of a vector that crosses the bridge in a column, 32-byte word of HBM; each with 1 or 2 bits. -/
inductive Upset where
  | store (word bits : Nat)
  | sram (core word bits : Nat)
  | bridge (col word bits : Nat)
  | hbm (word bits : Nat)
deriving DecidableEq, Repr

end Sys2Proof
end

