-- ==== Sys2Proof/Syntax.lean ====
section
/-! DEFINITION. The commands: one constructor per row of the spec's table of operations and events. Every command carries
the instant `t` at which it takes place, in units of 1/11 ns, and what the row leaves to the world outside. A row that is a
register write carries who makes it and the word written. -/
namespace Sys2Proof

/-- A command (spec/opcode_table.json, 95_what_each_step_holds.md). -/
inductive Instr where
  /-- BUNDLE_ISSUE (R100): In an issue cycle the sequencer issues one bundle, and every slot of it reads its operands as
  they stood at the start of the cycle. -/
  | bundleIssue (t : Nat) (us : List Upset)
  /-- RESULT_VISIBLE (R77): A core-pipeline result of latency n lands in its register, accumulator or SRAM line n issue
  cycles after its bundle issued. -/
  | resultVisible (t : Nat)
  /-- STREAM_RELEASE (R124): A stream engine frees a position, and a bundle held on stream back-pressure issues one
  cycle later. -/
  | streamRelease (t : Nat)
  /-- WAKE_DELIVERY (R124): A wake reaches its wait slot, marks it Woken, and releases a bundle held on that slot two
  cycles later. -/
  | wakeDelivery (t : Nat) (k : Nat)
  /-- EXPIRY_ARRIVAL (R223): An expiry reaches its wait slot; a run held on that slot ends with WATCH_TIMEOUT, and
  otherwise the slot becomes Expired. -/
  | expiryArrival (t : Nat) (k : Nat)
  /-- MATRIX_OP_END (R142): A matrix operation reaches the end of its duration, and the operation queued behind it
  starts. -/
  | matrixOpEnd (t : Nat)
  /-- RUN_DONE (R125): After HALT, the last core operation, stream request, transfer and tally operation of the run
  retires, and the run's end is reported. -/
  | runDone (t : Nat)
  /-- CIRCUIT_OP_ARRIVAL (R278): A circuit-slot operation reaches the CSC 60 ns after its issue; it is checked by R279,
  or dropped when its run has ended. -/
  | circuitOpArrival (t : Nat)
  /-- SCRUB_START (R94): A host command that starts a scrub when the sequencer is halted. -/
  | scrubStart (t : Nat) (a : Accessor) (w : Word)
  /-- SCRUB_COMPLETE (R93): After 320 cycles the scrub ends: the service ports reopen and SCRUB_COUNT increments. -/
  | scrubComplete (t : Nat)
  /-- LOAD_GO (R129): A register command that starts a program load for a plot. -/
  | loadGo (t : Nat) (a : Accessor) (w : Word)
  /-- LOAD_END (R130): A program load ends with DONE or with REFUSED and its reason. -/
  | loadEnd (t : Nat)
  /-- SEQ_CTRL_START (R132): A register command that makes a plot's program runnable from ENTRY. -/
  | seqCtrlStart (t : Nat) (a : Accessor) (w : Word)
  /-- RUN_START (R407): A runnable plot's run begins in its slice with the state of R131. -/
  | runStart (t : Nat)
  /-- ACCESS_RETIRE (R182): A 64-byte HBM access of a stream request retires and frees one position. -/
  | accessRetire (t : Nat) (e : Nat)
  /-- PAGE_ENTRY_RETURN (R193): A page-table entry returns, and the request's tile accesses are placed by it, or the
  request faults with PAGE. -/
  | pageEntryReturn (t : Nat) (e : Nat)
  /-- SEGMENT_DECODE (R195): A KC4 segment's data arrives and is decoded into KB4, or fails and is delivered as NaN
  blocks. -/
  | segmentDecode (t : Nat) (e : Nat)
  /-- DLOAD_GO (R186): A register command that starts a descriptor load. -/
  | dloadGo (t : Nat) (a : Accessor) (w : Word)
  /-- DLOAD_END (R186): A descriptor load ends with DONE or with REFUSED and its reason. -/
  | dloadEnd (t : Nat)
  /-- HBM_TRAIN_TIMEOUT (R172): The 2 ms identity limit or the 20 ms training limit expires, and the stack drops to a
  lower rate or becomes FAILED. -/
  | hbmTrainTimeout (t : Nat) (k : Nat)
  /-- HBM_VERIFY_END (R172): A stack's training or verify ends, which moves it to DONE, a lower rate or FAILED, and can
  start equalising retrains. -/
  | hbmVerifyEnd (t : Nat) (k : Nat) (pass : Bool) (ch : Nat)
  /-- STACK_LOST (R174): A stack stops responding in service and becomes FAILED with CAUSE LOST. -/
  | stackLost (t : Nat) (k : Nat)
  /-- REFRESH (R175): The stack controller refreshes at the normal or the short interval. -/
  | refresh (t : Nat) (k : Nat) (us : List Upset)
  /-- RECALIBRATION (R176): At its MST slot, a stack pauses 2.2 µs to recalibrate its interface. -/
  | recalibration (t : Nat) (k : Nat)
  /-- RECALIBRATION_END (R176): A stack's recalibration pause ends, and its accesses resume. -/
  | recalibrationEnd (t : Nat) (k : Nat)
  /-- INCREMENT_APPLY (R214): The Tally unit applies every increment arriving in a cycle, evaluates the affected watches
  and groups, and sends their wakes. -/
  | incrementApply (t : Nat)
  /-- WATCH_EXPIRY (R223): A watch or group reaches its timeout, frees its entry and raises the timeout error record. -/
  | watchExpiry (t : Nat) (e : Nat)
  /-- GROUP_REBASE (R224): The cycle after a group is satisfied, its members are rebased and its wake is sent. -/
  | groupRebase (t : Nat) (e : Nat)
  /-- ZERO_GO (R226): A register command that zeroes a plot's tallies and cancels its host watches. -/
  | zeroGo (t : Nat) (a : Accessor) (w : Word)
  /-- TLY_TR_WRITE (R211): An accepted write of a tally region zeroes every tally of the new region. -/
  | tlyTrWrite (t : Nat) (a : Accessor) (n : Nat) (w : Word)
  /-- TLY_WR_WRITE (R211): An accepted write of a watch region cancels every watch of the plot. -/
  | tlyWrWrite (t : Nat) (a : Accessor) (n : Nat) (w : Word)
  /-- FLIT_SEND (R238): A link sends a flit frame when it holds a credit and retry-buffer room, or replays one. -/
  | flitSend (t : Nat) (p : Nat) (l : Nat)
  /-- CONTROL_FRAME_SEND (R237): In each 40th frame slot the link sends a control frame: LANE_FAIL, LANE_MAP or FLOW. -/
  | controlFrameSend (t : Nat) (p : Nat) (l : Nat)
  /-- FLIT_RECEIVE (R255): A received flit frame is checked and written through the service ports, or discarded; a
  receive completed by it is signalled. -/
  | flitReceive (t : Nat) (p : Nat) (l : Nat) (words : List Codeword) (frame : List Byte)
  /-- FLOW (R237): A received FLOW frame returns credits, acknowledges flits, or asks for a replay by NAK. -/
  | flow (t : Nat) (p : Nat) (l : Nat) (frame : List Byte)
  /-- HELLO (R242): A received port hello is compared item by item, and the link goes UP or the port into quarantine. -/
  | hello (t : Nat) (p : Nat) (l : Nat) (frame : List Byte)
  /-- LANE_FAIL (R246): A received LANE_FAIL makes the sender remap the failed lane onto wavelength 8. -/
  | laneFail (t : Nat) (p : Nat) (l : Nat) (count : Nat) (frame : List Byte)
  /-- LANE_MAP (R246): A received LANE_MAP names the new lane map and the codeword count from which it applies. -/
  | laneMap (t : Nat) (p : Nat) (l : Nat) (frame : List Byte)
  /-- LANE_MAP_APPLY (R246): At the named codeword count both ends switch to the new lane map. -/
  | laneMapApply (t : Nat) (p : Nat) (l : Nat) (count : Nat)
  /-- RETRY_TIMEOUT (R239): No ACK has advanced for 4 µs, and the sender replays from the oldest flit. -/
  | retryTimeout (t : Nat) (p : Nat) (l : Nat)
  /-- LANE_GIVE_UP (R245): A lane controller gives up its lane after loss of lock, symbol errors or low power, and hands
  it to the link controller. -/
  | laneGiveUp (t : Nat) (p : Nat) (l : Nat) (dir : Nat) (lane : Nat) (why : LaneFault) (count : Nat)
  /-- LOSS_OF_LIGHT (R248): An ingress loss-of-light detector trips, and the hop moves to fibre pair 16. -/
  | lossOfLight (t : Nat) (p : Nat) (f : Nat)
  /-- TRANSFER_START (R252): At its start instant within the schedule slot, a ready SEND begins on each named link. -/
  | transferStart (t : Nat) (p : Nat) (id : Nat)
  /-- NOPOST_TIMEOUT (R257): Flits waiting with no open POST beyond NOPOST_TMO are discarded, and NO_POST is recorded.
  -/
  | nopostTimeout (t : Nat) (p : Nat) (l : Nat)
  /-- LINK_TRAINING_ADVANCE (R241): A training step completes (signal, lock, negotiation, verify), and the link moves to
  its next training state. -/
  | linkTrainingAdvance (t : Nat) (p : Nat) (l : Nat) (info : TrainInfo)
  /-- TRAINING_TIMEOUT (R241): A training state's limit expires, and the link goes DOWN or to a lower mode. -/
  | trainingTimeout (t : Nat) (p : Nat) (l : Nat)
  /-- REHELLO (R262): A register command that repeats the hello on the port's home circuits. -/
  | rehello (t : Nat) (a : Accessor) (p : Nat) (w : Word)
  /-- QUARANTINE_REHELLO (R241): Every 1 s a quarantined port repeats its hello. -/
  | quarantineRehello (t : Nat) (p : Nat)
  /-- ENTRY_WRITE (R275): A write to a circuit entry moves its bank to WRITTEN, or is discarded for a protected bank. -/
  | entryWrite (t : Nat) (a : Accessor) (b : Nat) (e : Nat) (hi : Bool) (w : Word)
  /-- STAGE_GO (R275): A register command that starts CHECKING of a bank. -/
  | stageGo (t : Nat) (a : Accessor) (w : Word)
  /-- CHECKING_END (R276): CHECKING ends with the bank STAGED, REJECTED or MISMATCH. -/
  | checkingEnd (t : Nat) (b : Nat)
  /-- REPLAN_GO (R285): A register command that schedules a slow re-plan at CSC_REPLAN_TIME. -/
  | replanGo (t : Nat) (a : Accessor) (w : Word)
  /-- REPLAN_NOW (R285): A register command that starts a slow re-plan at once. -/
  | replanNow (t : Nat) (a : Accessor) (w : Word)
  /-- REPLAN_START (R285): A scheduled re-plan reaches its start time: triggers are disarmed, shutters close, links go
  DOWN and substitutions clear. -/
  | replanStart (t : Nat)
  /-- REPLAN_PHASE (R285): A 17.4 ms phase of a slow re-plan begins, for a bank or for the spare test. -/
  | replanPhase (t : Nat) (spares : List (Nat × Bool × Bool)) (counts : Map Nat)
  /-- UNFENCE (R288): A register command that releases every missed-staging fence. -/
  | unfence (t : Nat) (a : Accessor) (w : Word)
  /-- CSC_TRIG_ARM (R279): A register command that arms a register trigger at CSC_TRIG_TIME. -/
  | cscTrigArm (t : Nat) (a : Accessor) (w : Word)
  /-- CSC_TRIG_DISARM (R292): A register command that disarms a register trigger. -/
  | cscTrigDisarm (t : Nat) (a : Accessor) (w : Word)
  /-- FIRE (R280): At its fire time T the armed trigger swaps to a READY bank, or misses. -/
  | fire (t : Nat)
  /-- GUARD_SWITCH (R281): At T + 0.200 µs the shutters and phase shifters of changing paths switch. -/
  | guardSwitch (t : Nat) (counts : Map Nat)
  /-- GUARD_END (R281): At T + 2.0 µs the new bank is ACTIVE, detection resumes and links of the new plan send. -/
  | guardEnd (t : Nat) (unlocked : List (Nat × Nat)) (counts : Map Nat)
  /-- UNCACHED_ACQUIRE_TIMEOUT (R283): A receiver not locked by T + 8.44 µs falls back to ACQUIRE, and a later failure
  there fails the link. -/
  | uncachedAcquireTimeout (t : Nat) (p : Nat) (l : Nat)
  /-- REROUTE_DONE (R290): The re-route of a staged bank for a substitution finishes. -/
  | rerouteDone (t : Nat) (b : Nat)
  /-- BANK_ENABLE (R301): Setting ENABLE of a laser bank starts its grid lasers. -/
  | bankEnable (t : Nat) (a : Accessor) (p : Nat) (w : Word)
  /-- BANK_DISABLE (R313): Clearing ENABLE of a laser bank turns every laser OFF. -/
  | bankDisable (t : Nat) (a : Accessor) (p : Nat) (w : Word)
  /-- LASER_LOCK (R301): A starting grid laser reaches its power and wavelength and becomes LOCKED. -/
  | laserLock (t : Nat) (p : Nat) (w : Nat)
  /-- LASER_START_TIMEOUT (R301): A grid laser not LOCKED within 30 ms becomes FAILED with CAUSE START. -/
  | laserStartTimeout (t : Nat) (p : Nat) (w : Nat) (counts : Map Nat)
  /-- COMPARATOR_TRIP (R311): A laser's fast comparator trips, and the laser fails with CAUSE POWER. -/
  | comparatorTrip (t : Nat) (p : Nat) (j : Nat) (counts : Map Nat)
  /-- DRIVER_FAULT (R311): A laser driver reports an open or a short, and the laser fails. -/
  | driverFault (t : Nat) (p : Nat) (j : Nat) (counts : Map Nat)
  /-- SPARE_LOCK (R302): A tuning spare laser becomes LOCKED, and its rings are released. -/
  | spareLock (t : Nat) (p : Nat) (sp : Nat)
  /-- SPARE_TUNE_TIMEOUT (R302): A spare shows no light at 3 ms or is not LOCKED at 30 ms, and becomes BAD. -/
  | spareTuneTimeout (t : Nat) (p : Nat) (sp : Nat) (dark : Bool)
  /-- MONITOR_SCAN (R308): A monitor ADC finishes integrating a channel and reports its reading. -/
  | monitorScan (t : Nat) (ch : Nat) (x : Int)
  /-- MEAS_GO (R308): A register command that requests an on-demand measurement of a channel. -/
  | measGo (t : Nat) (a : Accessor) (w : Word)
  /-- MEAS_DONE (R308): An on-demand measurement ends and its result is stored. -/
  | measDone (t : Nat) (x : Int)
  /-- AGE_STEP (R310): Every AGE_PERIOD the ageing step adjusts a laser's bias, or retires the laser as AGED. -/
  | ageStep (t : Nat) (p : Nat) (j : Nat) (power : Int) (counts : Map Nat)
  /-- FRONT_END_TICK (R324): Every 2 µs each heater front-end samples its monitor, writes its DAC with the pilot and
  updates its demodulators. -/
  | frontEndTick (t : Nat) (k : Nat) (sample : Nat)
  /-- LOOP_UPDATE (R327): At the end of its sample period a loop runs its control law, lock checks and plausibility
  model. -/
  | loopUpdate (t : Nat) (k : Nat) (power : Nat) (lit : Bool) (counts : Map Nat)
  /-- WINDOW_END (R326): At the end of each 16.384 ms window a loop's plant gain s is estimated. -/
  | windowEnd (t : Nat) (k : Nat) (counts : Map Nat)
  /-- LOOP_ENABLE (R332): An owner enables a loop, which starts homing or ramping. -/
  | loopEnable (t : Nat) (k : Nat) (cross : Bool)
  /-- LOOP_DISABLE (R332): An owner disables a loop, which ramps its heater down to OFF. -/
  | loopDisable (t : Nat) (k : Nat)
  /-- HOMING_STEP (R339): A homing sweep sets its next code after the dwell and judges the monitor against the window
  threshold. -/
  | homingStep (t : Nat) (k : Nat) (m : Nat) (counts : Map Nat)
  /-- LOOP_HOLD (R336): An owner holds a loop, which freezes it from its next update. -/
  | loopHold (t : Nat) (k : Nat)
  /-- LOOP_RELEASE (R336): An owner releases a held loop, which ramps again. -/
  | loopRelease (t : Nat) (k : Nat)
  /-- ANL_ENABLE (R347): Setting or clearing ENABLE of ANL_CTRL starts the schedule, or turns every loop OFF. -/
  | anlEnable (t : Nat) (a : Accessor) (w : Word)
  /-- ANL_SWAP (R329): A register command that requests the other coefficient bank for a class. -/
  | anlSwap (t : Nat) (a : Accessor) (w : Word)
  /-- COEF_SWAP_APPLY (R329): A pending bank swap takes effect at a class period start with no loop homing. -/
  | coefSwapApply (t : Nat) (c : Nat)
  /-- SETPT_WRITE (R332): A write of a loop's set-point starts a ramp at its next update. -/
  | setptWrite (t : Nat) (a : Accessor) (w : Word)
  /-- SELFTEST (R344): A calibration request that runs the engine's vector and loop-back self-test. -/
  | selftest (t : Nat) (a : Accessor) (w : Word)
  /-- GAINCAL (R344): A calibration request that raises the pilot on a port's ring loops for one window to re-measure s.
  -/
  | gaincal (t : Nat) (a : Accessor) (w : Word)
  /-- CAL_START (R345): A deferred calibration request starts at its boundary, or moves to the next slice start. -/
  | calStart (t : Nat)
  /-- CAL_DONE (R345): A calibration action ends and sets DONE. -/
  | calDone (t : Nat) (lanes : List Nat) (loops : List Nat)
  /-- TRIM_REQUEST (R342): A write of a trim or equaliser request makes it pending until a boundary. -/
  | trimRequest (t : Nat) (a : Accessor) (off : Nat) (w : Word)
  /-- NO_WORK (R342): With no run in progress, pending trims are applied within 10 µs of their write. -/
  | noWork (t : Nat)
  /-- SYNC (R358): A Sync time cell is accepted, relayed, and used for the offset, servo and step of MST. -/
  | sync (t : Nat) (p : Nat) (l : Nat) (cell : List Byte)
  /-- ANNOUNCE (R356): An Announce time cell gives the origin's MST state for the choice of upstream. -/
  | announce (t : Nat) (p : Nat) (l : Nat) (cell : List Byte)
  /-- LOCAL_SYNC (R368): A partner's local Sync gives the peer skew of the port. -/
  | localSync (t : Nat) (p : Nat) (l : Nat) (cell : List Byte)
  /-- SYNC_SEND (R356): Every 62.5 µs the package sends its Syncs, and every 1 ms its Announce, on its UP links. -/
  | syncSend (t : Nat)
  /-- SYNC_TIMEOUT (R354): No Sync from the origin for 1 ms puts MST into HOLDOVER with its rate frozen. -/
  | syncTimeout (t : Nat)
  /-- SKEW_EVALUATION (R368): The slot-skew state is evaluated every 8 Syncs, or every 0.5 ms in holdover, and may fence
  or release every port. -/
  | skewEvaluation (t : Nat)
  /-- STEP_APPLY (R358): A step deferred by a run is made at the run's end. -/
  | stepApply (t : Nat)
  /-- SET_MST (R354): A register command that sets MST on the mesh master. -/
  | setMst (t : Nat) (a : Accessor) (w : Word)
  /-- MST_FROM_TOD (R354): A register command that sets MST from TOD on the mesh master. -/
  | mstFromTod (t : Nat) (a : Accessor) (w : Word)
  /-- SET_TOD (R362): A register command that sets TOD when TOD_SRC is HOST. -/
  | setTod (t : Nat) (a : Accessor) (w : Word)
  /-- VT_ZERO (R363): A register command that zeroes a plot's virtual time. -/
  | vtZero (t : Nat) (a : Accessor) (w : Word)
  /-- SVC_SYNC (R361): A Sync on the service port disciplines TOD. -/
  | svcSync (t : Nat) (domain : Nat) (src : Nat) (seq : Nat) (log : Int) (ns : Nat) (corr : Int) (twoStep : Bool)
  /-- SVC_FOLLOW_UP (R361): A Follow_Up of a two-step master on the service port. -/
  | svcFollowUp (t : Nat) (domain : Nat) (src : Nat) (seq : Nat) (ns : Nat) (corr : Int)
  /-- SVC_DELAY_RESP (R361): A Delay_Resp on the service port for the end-to-end delay. -/
  | svcDelayResp (t : Nat) (domain : Nat) (src : Nat) (seq : Nat) (asker : Nat) (ns : Nat) (corr : Int)
  /-- SVC_ANNOUNCE (R361): An Announce on the service port for the best master clock algorithm. -/
  | svcAnnounce (t : Nat) (domain : Nat) (src : Nat) (data : ClockData) (interval : Nat)
  /-- ANNOUNCE_TIMEOUT (R361): Announce receipt timeout puts TOD into HOLDOVER. -/
  | announceTimeout (t : Nat)
  /-- SLOT_START (R364): A schedule slot starts; it can also serve as an idle-slot trim boundary. -/
  | slotStart (t : Nat)
  /-- DRAIN_START (R409): At t0 − DRAIN a run still in progress ends with SLICE_END. -/
  | drainStart (t : Nat)
  /-- SEND_STOP (R409): At t0 − 2.0 µs every SEND of the ending plot not yet finished is cut. -/
  | sendStop (t : Nat)
  /-- RECEIVE_CLOSE (R409): At t0 − 1.0 µs every open POST of the ending plot is closed without a signal. -/
  | receiveClose (t : Nat)
  /-- SLICE_START (R409): At a slice start stream requests are ended, the scrub starts, the home bank swaps, trims apply
  and virtual time switches. -/
  | sliceStart (t : Nat) (counts : Map Nat)
  /-- TP_OUT_FIRE (R369): A time pin rises at its programmed time, or late after a step. -/
  | tpOutFire (t : Nat) (n : Nat)
  /-- TP_OUT_FALL (R369): A time pin falls after WIDTH × 16 ns. -/
  | tpOutFall (t : Nat) (n : Nat)
  /-- TPO_ENABLE (R369): Setting ENABLE arms a pulse, after the check of its period. -/
  | tpoEnable (t : Nat) (a : Accessor) (n : Nat) (w : Word)
  /-- TP_IN_CAPTURE (R370): A rising edge on TP_IN captures MST and TOD, or sets OVERRUN. -/
  | tpInCapture (t : Nat) (n : Nat)
  /-- SQ_DOORBELL (R384): An SQ tail doorbell submits entries, or is refused for range or credit. -/
  | sqDoorbell (t : Nat) (n : Nat) (q : Nat) (w : Word)
  /-- CQ_DOORBELL (R384): A CQ head doorbell frees completion entries. -/
  | cqDoorbell (t : Nat) (n : Nat) (w : Word)
  /-- QUEUE_ENABLE (R382): A write of PLOT_Q_CTRL enables or disables the CQ and the SQs under the ordering rules. -/
  | queueEnable (t : Nat) (n : Nat) (w : Word)
  /-- GRANT_STEP (R383): In each cycle of the queue engine, an SQ's grant rises when staging and CQ room allow. -/
  | grantStep (t : Nat) (n : Nat)
  /-- COMMAND_FETCH (R387): A fetched command entry is checked against its sequence number and staged, or answered as
  gap or duplicate. -/
  | commandFetch (t : Nat) (n : Nat) (q : Nat)
  /-- COMMAND_START (R388): A staged command starts in fetch order under the rate limits and WAIT_PREV. -/
  | commandStart (t : Nat) (n : Nat) (q : Nat)
  /-- COPY_DONE (R390): A copy's last byte is written, and the copy completes. -/
  | copyDone (t : Nat) (n : Nat) (q : Nat) (seq : Nat)
  /-- READ_COMPLETION (R392): A completion for a non-posted request arrives from the host, frees its tag, or is
  discarded on a fenced tag. -/
  | readCompletion (t : Nat) (f : Nat) (id : Nat) (data : Option (List Byte))
  /-- COALESCE_TIMEOUT (R386): TIME µs after the first unsignalled completion, the CQ signals its vector. -/
  | coalesceTimeout (t : Nat) (n : Nat)
  /-- BME_CLEAR (R394): Bus Master Enable is cleared: requests stop, tags are fenced, and queues pause. -/
  | bmeClear (t : Nat) (f : Nat) (cfg : PciConfig)
  /-- BME_SET (R394): Bus Master Enable is set again: discarded requests reissue and held completions and interrupts are
  sent. -/
  | bmeSet (t : Nat) (f : Nat) (cfg : PciConfig)
  /-- FLR (R395): A function-level reset of a VF aborts its plot and resets its queues. -/
  | flr (t : Nat) (f : Nat)
  /-- TAG_TIMEOUT (R394): The completion timeout runs out for a fenced tag, which is freed. -/
  | tagTimeout (t : Nat) (f : Nat) (id : Nat)
  /-- LINK_UP (R378): The PCIe link trains up, and an entry is placed in the status FIFO. -/
  | linkUp (t : Nat) (rate : Nat) (width : Nat) (flit : Bool) (tagBits : Nat)
  /-- LINK_RATE_CHANGE (R378): The PCIe link changes rate or width. -/
  | linkRateChange (t : Nat) (rate : Nat) (width : Nat) (flit : Bool) (tagBits : Nat)
  /-- LINK_DOWN (R378): A PCIe link-down or hot reset acts as an FLR of every function. -/
  | linkDown (t : Nat)
  /-- PERST_N (R503): PERST_N low acts as an FLR of every function. -/
  | perstN (t : Nat)
  /-- APERTURE_ACCESS (R380): A host access through PF BAR2 reads or writes linear HBM. -/
  | apertureAccess (t : Nat) (x : Nat) (write : Option (List Byte)) (n : Nat)
  /-- READ32 (R400): A sideband read of BAR0 registers. -/
  | read32 (t : Nat) (off : Nat) (count : Nat)
  /-- WRITE32 (R400): A sideband write of a BAR0 register. -/
  | write32 (t : Nat) (off : Nat) (w : Word) (counts : Map Nat)
  /-- READ_FIFO (R397): Reads entries of the status FIFO, oldest first. -/
  | readFifo (t : Nat) (count : Nat)
  /-- GET_STATUS (R400): Returns the FIFO and PCIe status. -/
  | getStatus (t : Nat)
  /-- SET_ENDPOINT_ID (R399): An MCTP control message that sets the endpoint ID. -/
  | setEndpointId (t : Nat) (op : Nat) (eid : Nat)
  /-- GET_ENDPOINT_ID (R399): An MCTP control message that returns the endpoint ID. -/
  | getEndpointId (t : Nat)
  /-- GET_MCTP_VERSION_SUPPORT (R399): An MCTP control message that returns the supported versions. -/
  | getMctpVersionSupport (t : Nat) (type : Nat)
  /-- GET_MESSAGE_TYPE_SUPPORT (R399): An MCTP control message that returns the supported message types. -/
  | getMessageTypeSupport (t : Nat)
  /-- GET_VENDOR_DEFINED_MESSAGE_SUPPORT (R399): An MCTP control message that returns vendor message support. -/
  | getVendorDefinedMessageSupport (t : Nat) (sel : Nat)
  /-- ENTDAA (R399): I3C dynamic address assignment. -/
  | entdaa (t : Nat) (addr : Nat)
  /-- OPEN (R404): The PF opens a plot whose regions are valid. -/
  | openPlot (t : Nat) (a : Accessor) (n : Nat) (w : Word)
  /-- CLOSE (R404): The PF closes a plot, which aborts it and enters CLOSING. -/
  | closePlot (t : Nat) (a : Accessor) (n : Nat) (w : Word)
  /-- TEARDOWN (R405): Once the abort is complete and its tags are freed, a closing plot's tallies, watches, image and
  descriptors are cleared. -/
  | teardown (t : Nat) (n : Nat)
  /-- ISO_EN (R414): A write of ISO_EN turns isolation mode on or off, when its conditions hold. -/
  | isoEn (t : Nat) (a : Accessor) (w : Word)
  /-- METERING_BOUNDARY (R418): At each PERIOD boundary, a metering record is closed for every open plot. -/
  | meteringBoundary (t : Nat)
  /-- PENDING_RECORD_WRITE (R420): A pending metering record is written once ring space and Bus Master Enable allow. -/
  | pendingRecordWrite (t : Nat)
  /-- ABORT_COMPLETE (R434): An abort's last access retires and its completions are queued; ABORTING clears. -/
  | abortComplete (t : Nat) (n : Nat)
  /-- HALT_ALL (R435): A register command that aborts every open plot and halts the device. -/
  | haltAll (t : Nat) (a : Accessor) (w : Word)
  /-- HALT_ALL_COMPLETE (R435): Every abort of a HALT_ALL completes, and HALTED is set. -/
  | haltAllComplete (t : Nat)
  /-- RESUME (R435): A register command that clears HALTED. -/
  | resume (t : Nat) (a : Accessor) (w : Word)
  /-- SENSOR_READ (R442): Every 1 ms the temperature sensors are read, and each group's thermal state moves. -/
  | sensorRead (t : Nat) (temps : List Nat)
  /-- TRIP_OPTICS_OFF (R444): 260 µs after a trip every laser is OFF and the CSC is in OFF. -/
  | tripOpticsOff (t : Nat)
  /-- WATCHDOG_EXPIRY (R439): The management watchdog expires, and the management core is held in reset. -/
  | watchdogExpiry (t : Nat)
  /-- CHOUS_RESTART (R439): After 1 ms in reset, Chous restarts from the active image. -/
  | chousRestart (t : Nat)
  /-- INJ_ARM (R445): A register command that arms one error injection. -/
  | injArm (t : Nat) (a : Accessor) (w : Word) (counts : Map Nat)
  /-- INJ_DONE_CLEAR (R445): Clearing DONE ends a LANE_DARK or FIBRE_DARK injection. -/
  | injDoneClear (t : Nat) (a : Accessor) (w : Word)
  /-- SNAP_NOW (R454): A register command that triggers a HOST snapshot. -/
  | snapNow (t : Nat) (a : Accessor) (w : Word)
  /-- PERIODIC (R454): A periodic snapshot trigger at each multiple of PERIOD µs. -/
  | periodic (t : Nat)
  /-- SNAPSHOT_COMPLETE (R455): A snapshot record is complete, and any pending trigger of its class starts. -/
  | snapshotComplete (t : Nat) (trace : Bool)
  /-- FLUSH_HOLDOFF_END (R460): A waiting fault flush starts once 1 s has passed since the last fault flush. -/
  | flushHoldoffEnd (t : Nat)
  /-- FLUSH_RECORD_COMMIT (R462): A record and its commit mark are written to the flush slot. -/
  | flushRecordCommit (t : Nat)
  /-- FLUSH_PAUSE (R464): The flush rails report failing, and the flush abandons its write and waits. -/
  | flushPause (t : Nat)
  /-- FLUSH_RESUME (R464): Rails are good and PWRFAIL_N has been high for 1 ms, and the flush resumes. -/
  | flushResume (t : Nat)
  /-- HALLMARK_CLEAR_END (R459): The power-on clear of the recorder ends after 120 µs. -/
  | hallmarkClearEnd (t : Nat)
  /-- BOOT (R481): The ROM reads the boot and health records and chooses a slot to check. -/
  | boot (t : Nat)
  /-- SLOT_CHECK_END (R482): A slot's check ends, and the ROM starts it, turns to the other slot, falls back, or enters
  Crucible. -/
  | slotCheckEnd (t : Nat)
  /-- COMPONENT_READY (R481): A loaded component's unit reports ready. -/
  | componentReady (t : Nat) (id : Nat)
  /-- COMPONENT_LOAD_TIMEOUT (R481): A component's unit is not ready within 50 ms, and the slot fails with a firmware
  reset. -/
  | componentLoadTimeout (t : Nat)
  /-- CONFIRMATION (R483): Every confirmation condition holds, and the trial image is confirmed. -/
  | confirmation (t : Nat)
  /-- TRIAL_TIMEOUT (R483): 600 s pass without confirmation, and the device falls back. -/
  | trialTimeout (t : Nat)
  /-- CONFIRM (R483): A register command that supplies the PF confirmation of a trial. -/
  | confirm (t : Nat) (a : Accessor) (w : Word)
  /-- REJECT (R483): A register command that falls back from a trial. -/
  | reject (t : Nat) (a : Accessor) (w : Word)
  /-- CRUCIBLE (R490): A register command that requests Crucible and resets. -/
  | crucible (t : Nat) (a : Accessor) (w : Word)
  /-- ACTIVATE (R487): A register command that activates a READY update. -/
  | activate (t : Nat) (a : Accessor) (w : Word)
  /-- STATUS (R486): A service message that returns the firmware status. -/
  | fwStatus (t : Nat) (p : Peer) (seq : Nat)
  /-- FW_BEGIN (R487): Begins an update with its header. -/
  | fwBegin (t : Nat) (p : Peer) (seq : Nat) (delta : Bool) (header : List Byte)
  /-- FW_DATA (R487): Delivers update stream data at an offset. -/
  | fwData (t : Nat) (p : Peer) (seq : Nat) (off : Nat) (data : List Byte)
  /-- FW_END (R487): Ends the stream and starts verification. -/
  | fwEnd (t : Nat) (p : Peer) (seq : Nat) (total : Nat)
  /-- UPDATE_VERIFY_END (R487): Verification of the new slot ends as READY or FAILED, and FW_END is answered. -/
  | updateVerifyEnd (t : Nat) (storeError : Bool)
  /-- UPDATE_TIMEOUT (R487): 30 s without FW_DATA abandon the update. -/
  | updateTimeout (t : Nat)
  /-- FW_ACTIVATE (R489): Activates the READY slot for trial. -/
  | fwActivate (t : Nat) (p : Peer) (seq : Nat) (now_ : Bool)
  /-- FW_ABORT (R487): Abandons the update. -/
  | fwAbort (t : Nat) (p : Peer) (seq : Nat)
  /-- CAL_READ (R486): Reads the calibration body. -/
  | calRead (t : Nat) (p : Peer) (seq : Nat) (off : Nat) (len : Nat)
  /-- CAL_WRITE (R477): Writes the calibration body as a new generation. -/
  | calWrite (t : Nat) (p : Peer) (seq : Nat) (off : Nat) (data : List Byte)
  /-- PLAN_STAGE (R486): Carries staged plan entries from the rack master. -/
  | planStage (t : Nat) (p : Peer) (seq : Nat) (bank : Nat) (entries : List (Nat × Word × Word)) (digest : List Byte)
  /-- PLAN_REPORT (R486): Reports a bank's state and digest to the rack master. -/
  | planReport (t : Nat) (p : Peer) (seq : Nat) (node : Nat) (bank : Nat) (st : Word) (digest : List Byte)
  /-- RACK_CONFIRM (R486): A rack master confirms its rack to the mesh master. -/
  | rackConfirm (t : Nat) (p : Peer) (seq : Nat) (rack : Nat) (bank : Nat)
  /-- FIRE_TIME (R486): Carries the chosen fire time T to the packages. -/
  | fireTime (t : Nat) (p : Peer) (seq : Nat) (bank : Nat) (at_ : Nat)
  /-- MRAM_READ (R486): Reads MRAM on chip-select 1. -/
  | mramRead (t : Nat) (p : Peer) (seq : Nat) (off : Nat) (len : Nat)
  /-- ARP_REQUEST (R485): An ARP request on the service port. -/
  | arpRequest (t : Nat) (mac : Nat) (ip : Nat) (target : Nat)
  /-- ICMP_ECHO (R485): An ICMP echo request on the service port. -/
  | icmpEcho (t : Nat) (body : List Byte)
  /-- POWER_ON_RESET (R503): VAON rises through its threshold and resets the whole device. -/
  | powerOnReset (t : Nat)
  /-- PIN_RESET (R503): RESET_N is low for at least 10 µs, and the device resets. -/
  | pinReset (t : Nat) (lost : List Nat)
  /-- FW_RESET (R513): A register command with KEY that performs HALT_ALL and then a firmware reset. -/
  | fwReset (t : Nat) (a : Accessor) (w : Word)
  /-- FIRMWARE_RESET (R503): A firmware reset acts exactly as a pin reset. -/
  | firmwareReset (t : Nat) (lost : List Nat)
  /-- REF_VALID (R501): The reference is found valid, AON is steered to it and the PLLs lock. -/
  | refValid (t : Nat)
  /-- REF_LOST (R502): No REF edge for 200 ns starts the power-down. -/
  | refLost (t : Nat)
  /-- PWRFAIL_FALL (R511): PWRFAIL_N falls, and the snapshot and flush start. -/
  | pwrfailFall (t : Nat)
  /-- BKP_FAIL (R464): BKP_FAIL_N falls while a flush runs and pauses it. -/
  | bkpFail (t : Nat)
  /-- POWER_DOWN (R511): PWRFAIL_N low for 20 µs aborts every plot and takes the CSC to OFF. -/
  | powerDown (t : Nat)
  /-- POWER_DOWN_STEP (R511): A later timed step of power-down: self-refresh, lasers off, domains gated. -/
  | powerDownStep (t : Nat)
  /-- COMPUTE_HBM (R508): The start-up stage of remap, first scrub, bridge training and HBM training begins. -/
  | computeHbm (t : Nat)
  /-- SIDEBAND (R508): The start-up stage that waits for the role table and extents. -/
  | sideband (t : Nat)
  /-- OPTICS (R508): The start-up stage that enables the Anneal engine and the banks, locks lasers and homes loops. -/
  | optics (t : Nat) (cal : Map Int)
  /-- BRING_UP_PLAN (R509): Chous stages the bring-up plan in bank 0 and waits for REPLAN_NOW. -/
  | bringUpPlan (t : Nat)
  /-- READY (R508): MST is LOCKED or MASTER, slices start and runs are allowed. -/
  | ready (t : Nat)
  /-- DESIGNATION_WRITE (R545): A sideband write of the node or role registers re-evaluates the designation. -/
  | designationWrite (t : Nat) (off : Nat) (w : Word)
  /-- REGISTER_WRITE (R12): A write to a register with no row of its own takes effect by its field types, or is
  discarded and recorded. -/
  | registerWrite (t : Nat) (a : Accessor) (off : Nat) (w : Word) (counts : Map Nat)
  /-- RC_READ (R12): A read of an RC counter returns it and clears it. -/
  | rcRead (t : Nat) (a : Accessor) (off : Nat)
  /-- LOW_WORD_READ (R9): A read of the low word of a 64-bit pair latches the high word. -/
  | lowWordRead (t : Nat) (a : Accessor) (off : Nat)
  /-- UNALIGNED_ACCESS (R10): An access other than an aligned 32-bit one reads 0, drops its write, and is recorded. -/
  | unalignedAccess (t : Nat) (a : Accessor) (off : Nat) (write : Bool)
  /-- RE_ACQUISITION (R283): A receiver completes clock recovery, deskew and FEC lock on a changed or remapped path,
  sends its NAK, and the link resumes sending. -/
  | reAcquisition (t : Nat) (p : Nat) (l : Nat)
  /-- REF_MISMATCH (R367): A lane 8 receiver finds the partner's symbol rate differs by more than 0.1 ppm on a PLESIO 0
  circuit, and REF_MISMATCH is set and reported. -/
  | refMismatch (t : Nat) (p : Nat) (l : Nat)
  /-- COMPLETION_TIMEOUT (R393): A non-posted request to the host that is not fenced gets no completion within the
  completion timeout, stopping its SQ's fetch or ending its copy with HOST_ERR. -/
  | completionTimeout (t : Nat) (f : Nat) (id : Nat)
  /-- NUMVFS_WRITE (R377): A configuration write of NumVFs or VF Enable sets which plots' VFs are enabled, clamping to 7
  without ARI. -/
  | numvfsWrite (t : Nat) (num : Nat) (enable : Bool) (ari : Bool)
  /-- MSIX_ENABLE (R381): Setting MSI-X Enable of a function sends the interrupts held pending in its PBA. -/
  | msixEnable (t : Nat) (f : Nat)
  /-- POWER_LOSS (R464): VAON or the service-die supply is lost, ending a flush where it stood and removing every state
  held in volatile storage. -/
  | powerLoss (t : Nat)
  /-- PWRFAIL_RISE (R511): PWRFAIL_N rises again, cancelling a power-down not yet begun and starting the 1 ms high count
  that a paused flush waits for. -/
  | pwrfailRise (t : Nat)
  /-- RESET_RELEASE (R525): RESET_N rises, the straps and TEST_EN are sampled, and start-up begins from the REF stage.
  -/
  | resetRelease (t : Nat) (sel : Bool) (addr : Nat) (testEn : Bool)
  /-- TRANSCEIVER_FAULT (R248): A transceiver's transmit or receive electronics report a fault, and the link moves to
  transceiver 16 or fails. -/
  | transceiverFault (t : Nat) (p : Nat) (x : Nat) (dir : Nat)
  /-- STACK_IDENTITY_READ (R172): A stack's identity read completes within 2 ms and is checked against R171, moving the
  stack from INIT to TRAIN or FAILED. -/
  | stackIdentityRead (t : Nat) (k : Nat) (ok : Bool) (rates : Nat)
  /-- UNKNOWN_TYPE (R486): A service message with an unknown TYPE is answered with STATUS 0xFFFF, and one whose CRC
  fails is dropped without an answer. -/
  | unknownType (t : Nat) (p : Peer) (seq : Nat) (type : Nat) (crcOk : Bool)
  /-- SGMII_LINK_STATUS (R485): The SGMII in-band link status changes, setting or clearing LINK_UP of FWU_SVC_CFG. -/
  | sgmiiLinkStatus (t : Nat) (up : Bool) (full : Bool)
deriving DecidableEq, Repr

end Sys2Proof
end

