-- ==== Sys2Proof/Decode.lean ====
section
/-! DEFINITION. The command a word spells. The spec's table gives its rows no bits: a command is an event or an access, and
no word spells one. -/
namespace Sys2Proof

/-- The command spelt by the `nbits` bits of `w`: none, the table giving no bits. -/
def decodeTableWord (_nbits _w : Nat) : Option Instr := none

end Sys2Proof
end

