-- ==== Sys2Proof/Machine/Maps.lean ====
section
/-! DEFINITION. Sparse stores in one canonical form, and bit fields of numbers (00_scope.md R7). -/
namespace Sys2Proof.Machine

/-- The value a store holds for `k`: that of its pair, or the store's default `d`. -/
def get {α : Type} (d : α) (k : Nat) : Map α → α
  | [] => d
  | (k', v) :: m => if k = k' then v else get d k m

/-- Remove the pair of `k`. -/
def del {α : Type} (k : Nat) : Map α → Map α
  | [] => []
  | (k', v) :: m => if k = k' then del k m else (k', v) :: del k m

/-- Set the pair of `k`, keeping the keys rising. -/
def ins {α : Type} (k : Nat) (v : α) : Map α → Map α
  | [] => [(k, v)]
  | (k', v') :: m =>
    if k = k' then (k, v) :: m else if k < k' then (k, v) :: (k', v') :: m else (k', v') :: ins k v m

/-- Write `v` at `k` in a store whose default is `d`: a default value is not listed. -/
def put {α : Type} [DecidableEq α] (d : α) (k : Nat) (v : α) (m : Map α) : Map α :=
  if v = d then del k m else ins k v m

/-- Change the value at `k`. -/
def upd {α : Type} [DecidableEq α] (d : α) (k : Nat) (f : α → α) (m : Map α) : Map α :=
  put d k (f (get d k m)) m

/-- The value listed for `k`, if any. -/
def look {α : Type} (k : Nat) : Map α → Option α
  | [] => none
  | (k', v) :: m => if k = k' then some v else look k m

/-- Keys strictly rising, all of them above `lo` where one is given. -/
def rising {α : Type} : Option Nat → Map α → Bool
  | _, [] => true
  | lo, (k, _) :: m => (match lo with | none => true | some b => decide (b < k)) && rising (some k) m

/-- The canonical form: keys strictly rising and no pair that holds the default. -/
def canon {α : Type} [DecidableEq α] (d : α) (m : Map α) : Bool :=
  rising none m && m.all fun p => decide (p.2 ≠ d)

/-- Write the bytes of `bs` at `k`, `k + 1`, … in one pass over the tail of the store. -/
def putRange {α : Type} [DecidableEq α] (d : α) : Nat → List α → Map α → Map α
  | _, [], m => m
  | k, b :: bs, m => putRange d (k + 1) bs (put d k b m)

/-- The `n` values at `k`, `k + 1`, …. -/
def getRange {α : Type} (d : α) (m : Map α) : Nat → Nat → List α
  | _, 0 => []
  | k, n + 1 => get d k m :: getRange d m (k + 1) n

/-- Drop every pair whose key lies in [lo, lo + n). -/
def clearRange {α : Type} (lo n : Nat) (m : Map α) : Map α :=
  m.filter fun p => !(decide (lo ≤ p.1) && decide (p.1 < lo + n))

/-- The elements of a list with their positions. -/
def enum {α : Type} : Nat → List α → List (Nat × α)
  | _, [] => []
  | i, a :: as => (i, a) :: enum (i + 1) as

/-- The `n` values at `k`, `k + 1`, … of a store whose keys below `k` have been dropped. -/
def readFrom {α : Type} (d : α) : Nat → Nat → Map α → List α
  | _, 0, _ => []
  | k, n + 1, [] => d :: readFrom d (k + 1) n []
  | k, n + 1, (k', v) :: m => if k = k' then v :: readFrom d (k + 1) n m else d :: readFrom d (k + 1) n ((k', v) :: m)

/-- The `n` values at `lo`, in one pass: as `getRange` on a store with rising keys. -/
def readRun {α : Type} (d : α) (lo n : Nat) (m : Map α) : List α := readFrom d lo n (m.dropWhile fun p => decide (p.1 < lo))

/-- Write the values of `vs` at `lo`, in one pass: as `putRange` on a store with rising keys. -/
def writeRun {α : Type} [DecidableEq α] (d : α) (lo : Nat) (vs : List α) (m : Map α) : Map α :=
  (m.takeWhile fun p => decide (p.1 < lo)) ++ ((enum lo vs).filter fun p => decide (p.2 ≠ d))
    ++ m.dropWhile fun p => decide (p.1 < lo + vs.length)

/-- Bits [hi:lo] of `x` (R7). -/
def bits (x hi lo : Nat) : Nat := (x >>> lo) % 2 ^ (hi + 1 - lo)

/-- Bit `n` of `x` (R7). -/
def bit (x n : Nat) : Bool := x.testBit n

/-- `x` with bits [hi:lo] replaced by `v`, taken modulo the field's width. -/
def putBits (x hi lo v : Nat) : Nat :=
  x - bits x hi lo * 2 ^ lo + v % 2 ^ (hi + 1 - lo) * 2 ^ lo

/-- 1 for true, 0 for false. -/
def b2n (b : Bool) : Nat := if b then 1 else 0

/-- The low `w` bits of `x` as a two's-complement number. -/
def signed (w x : Nat) : Int :=
  let y := x % 2 ^ w
  if y < 2 ^ (w - 1) then (y : Int) else (y : Int) - (2 ^ w : Nat)

/-- The low `w` bits of an integer, two's complement. -/
def unsigned (w : Nat) (x : Int) : Nat := (x % ((2 ^ w : Nat) : Int)).toNat

/-- Clamp an integer to [lo, hi]. -/
def clamp (lo hi x : Int) : Int := if x < lo then lo else if hi < x then hi else x

/-- The `n` low bytes of `x`, least significant first (R7). -/
def bytesLE : Nat → Nat → List Byte
  | 0, _ => []
  | n + 1, x => BitVec.ofNat 8 x :: bytesLE n (x / 256)

/-- The number whose bytes, least significant first, are `bs` (R7). -/
def natLE : List Byte → Nat
  | [] => 0
  | b :: bs => b.toNat + 256 * natLE bs

/-- Bytes [i, i + n) of `bs` as a number, least significant first. -/
def leAt (bs : List Byte) (i n : Nat) : Nat := natLE ((bs.drop i).take n)

/-- The same, most significant byte first. -/
def bytesBE (n x : Nat) : List Byte := (bytesLE n x).reverse
def natBE (bs : List Byte) : Nat := natLE bs.reverse
def beAt (bs : List Byte) (i n : Nat) : Nat := natBE ((bs.drop i).take n)

/-- The 32-bit words of a byte string (R7). -/
def wordsLE : List Byte → List Word
  | b0 :: b1 :: b2 :: b3 :: bs => BitVec.ofNat 32 (natLE [b0, b1, b2, b3]) :: wordsLE bs
  | _ => []

/-- Repeat a change `n` times, giving it the counts 0, 1, … . -/
def loop {σ : Type} (f : Nat → σ → σ) : Nat → σ → σ
  | 0, s => s
  | n + 1, s => f n (loop f n s)

/-- Apply a change for every element of a list, in order. -/
def forAll {α σ : Type} (f : α → σ → σ) : List α → σ → σ
  | [], s => s
  | a :: as, s => forAll f as (f a s)

/-- `f s` where `c` holds, else `s`. -/
def when {σ : Type} (c : Bool) (f : σ → σ) (s : σ) : σ := if c then f s else s

end Sys2Proof.Machine
end

