-- ==== Sys2Proof/Machine/Fp.lean ====
section
/-! DEFINITION. Number formats and FP32 arithmetic (02_number_formats.md): exact values, the two roundings, the
element formats of R34, the conversions of R53, and the matrix unit's terms (R41–R43). -/
namespace Sys2Proof.Machine

/-- An exact value: NaN, an infinity, or (−1)^neg × m × 2^e. Zero keeps its sign. -/
inductive FVal where
  | nan
  | inf (neg : Bool)
  | fin (neg : Bool) (m : Nat) (e : Int)
deriving DecidableEq, Repr

/-- +0. -/
def fzero : FVal := .fin false 0 0

/-- Exact product. Infinity times zero is NaN (R42, R45). -/
def fmul : FVal → FVal → FVal
  | .nan, _ => .nan
  | _, .nan => .nan
  | .inf s, .inf t => .inf (s != t)
  | .inf s, .fin t m _ => if m = 0 then .nan else .inf (s != t)
  | .fin t m _, .inf s => if m = 0 then .nan else .inf (s != t)
  | .fin s m e, .fin t n f => .fin (s != t) (m * n) (e + f)

/-- The magnitude of a finite value as a signed integer of the unit 2^`e`, for `e` not above its exponent. -/
def scaled (neg : Bool) (m : Nat) (e' e : Int) : Int :=
  let x : Int := ((m * 2 ^ (e' - e).toNat : Nat) : Int)
  if neg then -x else x

/-- Exact sum. The sign of an exact zero follows IEEE 754-2019 under round-to-nearest-even (R43): −0 only of two
−0 operands. Opposite infinities give NaN. -/
def fadd : FVal → FVal → FVal
  | .nan, _ => .nan
  | _, .nan => .nan
  | .inf s, .inf t => if s = t then .inf s else .nan
  | .inf s, .fin .. => .inf s
  | .fin .., .inf t => .inf t
  | .fin s m e, .fin t n f =>
    let g := if e ≤ f then e else f
    let x := scaled s m e g + scaled t n f g
    if x = 0 then .fin (s && t && m = 0 && n = 0) 0 0 else .fin (decide (x < 0)) x.natAbs g

/-- Negation of the value. -/
def fneg : FVal → FVal
  | .nan => .nan
  | .inf s => .inf !s
  | .fin s m e => .fin (!s) m e

/-- Is the value NaN? -/
def isNan : FVal → Bool
  | .nan => true
  | _ => false

/-- Is the value an infinity? -/
def isInf : FVal → Bool
  | .inf _ => true
  | _ => false

/-- Is the value a zero of either sign? -/
def isZero : FVal → Bool
  | .fin _ m _ => m = 0
  | _ => false

/-- Sign of the value; NaN counts as positive. -/
def fsign : FVal → Bool
  | .nan => false
  | .inf s => s
  | .fin s _ _ => s

/-- Order of two values that are not NaN: −1, 0 or 1, −0 equal to +0. -/
def fcmp (x y : FVal) : Int :=
  match fadd x (fneg y) with
  | .fin s m _ => if m = 0 then 0 else if s then -1 else 1
  | .inf s => if s then -1 else 1
  | .nan => 0   -- equal infinities

/-- Floor of log₂ of n/d × 2^e, for n, d ≠ 0. -/
def flog2 (n d : Nat) (e : Int) : Int :=
  let k : Int := (Nat.log2 n : Int) - (Nat.log2 d : Int)
  -- n/d lies in [2^(k-1), 2^(k+1))
  let ge : Bool := if 0 ≤ k then d * 2 ^ k.toNat ≤ n else d ≤ n * 2 ^ (-k).toNat
  (if ge then k else k - 1) + e

/-- Quotient and remainder of n/d × 2^e by the quantum 2^q: (floor, remainder, divisor). -/
def quantum (n d : Nat) (e q : Int) : Nat × Nat × Nat :=
  let n' := if q ≤ e then n * 2 ^ (e - q).toNat else n
  let d' := if q ≤ e then d else d * 2 ^ (q - e).toNat
  (n' / d', n' % d', d')

/-- A rounding mode (R48): nearest even, stochastic with generator state g, or toward +infinity of the magnitude. -/
inductive Rnd where
  | rne
  | sr (g : Nat)
  | up
deriving DecidableEq, Repr

/-- The code of the magnitude n/d × 2^e in a format of `mb` mantissa bits whose smallest subnormal is 2^`emin`,
exponent unbounded above: (exponent field) × 2^mb + mantissa. Codes rise with magnitude by one per representable
magnitude, so adding 1 gives "the next magnitude above" of R50, and an even code is R49's tie. -/
def roundCode (mb : Nat) (emin : Int) (rm : Rnd) (n d : Nat) (e : Int) : Nat :=
  if n = 0 then 0 else
    let k := flog2 n d e
    let q := if k - mb < emin then emin else k - mb
    let (fl, rem, dv) := quantum n d e q
    let base := (q - emin).toNat * 2 ^ mb
    let code := base + fl
    match rm with
    | .rne => if 2 * rem > dv ∨ (2 * rem = dv ∧ code % 2 = 1) then code + 1 else code
    | .sr g => if rem * 65536 / dv + g > 65535 then code + 1 else code
    | .up => if rem = 0 then code else code + 1

/-- The canonical NaN of FP32 (R46). -/
def nan32 : Nat := 0x7FC00000

/-- The value of an FP32 word (R33, R34). -/
def fromF32 (w : Nat) : FVal :=
  let s := bit w 31
  let e := bits w 30 23
  let m := bits w 22 0
  if e = 255 then (if m = 0 then .inf s else .nan)
  else if e = 0 then .fin s m (-149) else .fin s (m + 2 ^ 23) ((e : Int) - 150)

/-- round_fp32_rne of n/d × 2^e with a sign (R43). A nonzero value that rounds to zero keeps its sign. -/
def roundF32 (neg : Bool) (n d : Nat) (e : Int) : Nat :=
  let c := roundCode 23 (-149) .rne n d e
  b2n neg * 2 ^ 31 + (if c < 0x7F800000 then c else 0x7F800000)

/-- round_fp32_rne of an exact value; NaN is canonical (R46). -/
def toF32 : FVal → Nat
  | .nan => nan32
  | .inf s => b2n s * 2 ^ 31 + 0x7F800000
  | .fin s m e => roundF32 s m 1 e

/-- round_fp32_rne of an exact value that is no sum of two FP32 operands: an exact zero becomes +0 (R43). -/
def toF32Term (x : FVal) : Nat := if isZero x then 0 else toF32 x

/-- FP32 addition (R43, R44). -/
def addF32 (x y : Nat) : Nat := toF32 (fadd (fromF32 x) (fromF32 y))

/-- FP32 subtraction. -/
def subF32 (x y : Nat) : Nat := toF32 (fadd (fromF32 x) (fneg (fromF32 y)))

/-- FP32 multiplication. -/
def mulF32 (x y : Nat) : Nat := toF32 (fmul (fromF32 x) (fromF32 y))

/-- FP32 fused multiply-add x × y + z, rounded once (R44). -/
def fmaF32 (x y z : Nat) : Nat := toF32 (fadd (fmul (fromF32 x) (fromF32 y)) (fromF32 z))

/-- Key that orders FP32 words that are not NaN with −0 below +0 (R47). -/
def orderKey (w : Nat) : Int := if bit w 31 then -((w % 2 ^ 31 : Nat) : Int) - 1 else ((w % 2 ^ 31 : Nat) : Int)

/-- minimumNumber and maximumNumber (R47). -/
def minMaxF32 (wantMax : Bool) (x y : Nat) : Nat :=
  if isNan (fromF32 x) then (if isNan (fromF32 y) then nan32 else y)
  else if isNan (fromF32 y) then x
  else if (orderKey x < orderKey y) = !wantMax then x else y

/-- The element formats of R34 and R35, with the matrix slot's operand formats. -/
inductive Elem where
  | e2m1 | e2m3 | e3m2 | e4m3 | e5m2 | int8 | bf16
deriving DecidableEq, Repr

/-- Mantissa bits, smallest subnormal exponent, width, largest finite code and emax (R34, R54) of a format. -/
structure ElemP where
  mb : Nat
  emin : Int
  width : Nat
  maxCode : Nat
  emax : Int

/-- Parameters of an element format (R34, R54). -/
def elemP : Elem → ElemP
  | .e2m1 => ⟨1, -1, 4, 0x7, 2⟩
  | .e2m3 => ⟨3, -3, 6, 0x1F, 2⟩
  | .e3m2 => ⟨2, -4, 6, 0x1F, 4⟩
  | .e4m3 => ⟨3, -9, 8, 0x7E, 8⟩
  | .e5m2 => ⟨2, -16, 8, 0x7B, 15⟩
  | .int8 => ⟨20, -6, 8, 127, 0⟩
  | .bf16 => ⟨7, -133, 16, 0x7F7F, 127⟩

/-- The value of an element code (R33–R35). -/
def elemVal (t : Elem) (c : Nat) : FVal :=
  match t with
  | .int8 => let n := signed 8 c; .fin (decide (n < 0)) n.natAbs (-6)
  | _ =>
    let p := elemP t
    let s := bit c (p.width - 1)
    let a := c % 2 ^ (p.width - 1)
    let e := a / 2 ^ p.mb
    let m := a % 2 ^ p.mb
    if t = .e4m3 ∧ a = 0x7F then .nan
    else if t = .e5m2 ∧ a ≥ 0x7C then (if a = 0x7C then .inf s else .nan)
    else if t = .bf16 ∧ e = 255 then (if m = 0 then .inf s else .nan)
    else if e = 0 then .fin s m p.emin else .fin s (m + 2 ^ p.mb) (p.emin + (e : Int) - 1)

/-- An E8M0 scale (R36). -/
def e8m0Val (x : Nat) : FVal := if x = 255 then .nan else .fin false 1 ((x : Int) - 127)

/-- FP32 to BF16 (R53): RNE or SR to 8 mantissa bits; overflow gives an infinity. -/
def toBf16 (rm : Rnd) (w : Nat) : Nat :=
  match fromF32 w with
  | .nan => 0x7FC0
  | .inf s => b2n s * 2 ^ 15 + 0x7F80
  | .fin s m e =>
    let c := roundCode 7 (-133) rm m 1 e
    b2n s * 2 ^ 15 + (if c < 0x7F80 then c else 0x7F80)

/-- Absolute magnitude order of finite values, for the block maxima of R54 and R55. -/
def absMax : List FVal → FVal
  | [] => fzero
  | x :: xs =>
    let y := absMax xs
    match x with
    | .fin _ m e => let ax := FVal.fin false m e; if fcmp y ax < 0 then ax else y
    | _ => y

/-- Round a finite magnitude n/d × 2^e onto element type `t` and saturate (R54). -/
def elemRound (t : Elem) (rm : Rnd) (neg : Bool) (n d : Nat) (e : Int) : Nat :=
  let p := elemP t
  let c := roundCode p.mb p.emin rm n d e
  let c := if c ≤ p.maxCode then c else p.maxCode
  match t with
  | .int8 => if neg then (256 - c) % 256 else c
  | _ => b2n neg * 2 ^ (p.width - 1) + c

/-- mx_encode (R54): the scale and the elements of a block. -/
def mxEncode (t : Elem) (rms : List Rnd) (v : List Nat) : Nat × List Nat :=
  let xs := v.map fromF32
  if xs.any (fun x => isNan x || (isInf x && t ≠ .e5m2)) then (0xFF, v.map fun _ => 0) else
  let infCode (s : Bool) : Nat := b2n s * 128 + 0x7C
  match absMax xs with
  | .fin _ m e =>
    if m = 0 then (0x7F, xs.map fun x => match x with
      | .inf s => infCode s
      | x => if t = .int8 then 0 else b2n (fsign x) * 2 ^ ((elemP t).width - 1))
    else
      let x0 := flog2 m 1 e - (elemP t).emax
      let x := clamp (-127) 127 x0
      ((x + 127).toNat, List.zipWith (fun x' rm => match x' with
        | .fin s n f => elemRound t rm s n 1 (f - x)
        | .inf s => infCode s
        | .nan => 0) xs rms)
  | _ => (0xFF, v.map fun _ => 0)

/-- MX block element to FP32 (R53): element × scale, exact, an infinity beyond the range. -/
def mxDecode (t : Elem) (scale : Nat) (c : Nat) : Nat := toF32 (fmul (elemVal t c) (e8m0Val scale))

/-- kb4_encode (R55). -/
def kb4Encode (rms : List Rnd) (rs : Nat) (v : List Nat) : Nat × List Nat :=
  let xs := v.map fromF32
  let bad : Nat × List Nat := (0x7F, v.map fun _ => 0)
  match fromF32 rs with
  | .fin false rm re =>
    if rm < 2 ^ 23 then bad      -- zero or subnormal
    else if xs.any (fun x => isNan x || isInf x) then bad
    else match absMax xs with
      | .fin _ am ae =>
        if am = 0 then (0x00, xs.map fun x => b2n (fsign x) * 8) else
        let c := roundCode 3 (-9) .up am (6 * rm) (ae - re)
        let b := if c ≤ 0x7E then c else 0x7E
        match elemVal .e4m3 b with
        | .fin _ bm be =>
          (b, List.zipWith (fun x r => match x with
            | .fin s n f => elemRound .e2m1 r s n (bm * rm) (f - be - re)
            | _ => 0) xs rms)
        | _ => bad
      | _ => bad
  | _ => bad

/-- KB4 block element to FP32 (R53): element × block scale × row scale, rounded once. A zero result, here and in mxDecode,
keeps the sign of the product (DESIGN CHOICE, log entry 6). -/
def kb4Decode (bscale rs c : Nat) : Nat :=
  toF32 (fmul (fmul (elemVal .e2m1 c) (elemVal .e4m3 bscale)) (fromF32 rs))

/-- term_value and special_term (R41, R42): the exact sum of products, then the block scales, then the row scales,
rounded once; an exact zero is +0. An infinite or subnormal row scale enters the same product (R41, R42; where R66 says
otherwise DEDUCED, log entry 8). -/
def termValue (as bs : List FVal) (sa sb ra rb : FVal) : Nat :=
  let s := (List.zipWith fmul as bs).foldl fadd fzero
  toF32Term (fmul (fmul (fmul (fmul s sa) sb) ra) rb)

/-- lfsr_step (R50). -/
def lfsrStep (g : Nat) : Nat := if g % 2 = 1 then Nat.xor (g / 2) 0xB400 else g / 2

/-- seed_state (R52) for the core of index c = flat row × 32 + column and one lane. -/
def seedState (q c lane : Nat) : Nat :=
  let g := Nat.xor (Nat.xor q ((0x9E37 * (c + 1)) % 65536)) ((0x7F4B * lane) % 65536)
  if g = 0 then 1 else g

/-- Element j of a packed element plane, width 4, 6, 8 or 16 bits (R38). -/
def unpackElem (width : Nat) (bs : List Byte) (j : Nat) : Nat :=
  match width with
  | 4 => bits (leAt bs (j / 2) 1) (4 * (j % 2) + 3) (4 * (j % 2))
  | 6 => bits (leAt bs (3 * (j / 4)) 3) (6 * (j % 4) + 5) (6 * (j % 4))
  | 8 => leAt bs j 1
  | _ => leAt bs (2 * j) 2

/-- Pack elements into bytes (R38): element i in bits [w·i + w − 1 : w·i] of the little-endian string. -/
def packElems (width : Nat) (es : List Nat) : List Byte :=
  bytesLE (es.length * width / 8) (es.foldr (fun e acc => acc * 2 ^ width + e % 2 ^ width) 0)

end Sys2Proof.Machine
end

