-- ==== Sys2Proof/Config.lean ====
section
/-! DEFINITION. What the spec leaves open: opaque free values (no proof can know them) and the fixed inputs of one
part. A free value is applied to a fresh number that State counts (notes/assumptions). -/
namespace Sys2Proof.Config

/-- Word of a result the spec leaves undefined, one for each fresh number. -/
opaque freeWord : Nat → Word

/-- Word of a recorder slot nothing has written since power-on (R474): by number of the power-on, slot and word. -/
opaque freeRec : Nat → Nat → Nat → Word

/-- Byte the spec leaves undefined: an HBM byte no write has covered (R549). -/
opaque freeByte : Nat → Byte

/-- The adjustment TOD's servo on the service port makes (R361), which the spec does not fix. -/
opaque freeInt : Nat → Int

/-- The settings format SET_VER of an image, by its MANIFEST_VER (R484); the image's own choice. -/
opaque setVer : Nat → Nat

/-- What an image makes of another format's settings body, by its MANIFEST_VER (R484). -/
opaque migrate : Nat → List Byte → List Byte

/-- HOLD_CONFIRM in a settings body (R483), whose layout the spec does not give. -/
opaque holdConfirm : List Byte → Bool

/-- A settings body with another service address (R496). -/
opaque withAddress : List Byte → Nat → List Byte

/-- The failed-core record of a flat row that a body of the calibration store holds, where it holds one: the failed physical
columns (R89, R477). The spec gives the body no layout. -/
opaque failedCores : List Byte → Nat → Option (List Nat)

/-- The bias code of a laser (11 · bank + laser) at an instant of its ramp (R301): the spec gives the ramp no shape. -/
opaque rampCode : Nat → Nat → Nat

/-- The state an element homes in at start-up (R337, R341): cross or not, by the CSC controller's homing routes. -/
opaque homeCross : Nat → Bool

/-- How long after its trigger a snapshot makes its first read (R455), in units of the model's clock, by the instant of the
trigger: at most 0.5 µs is used of it. -/
opaque snapDelay : Nat → Nat

/-- A byte of a mesh time message that the spec leaves open (R355, R356): by its messageType and place. -/
opaque cellByte : Nat → Nat → Byte

/-- How long a relayed time cell waits for a link's idle pattern (R357), in units of the model's clock: by draw and link. -/
opaque relayWait : Nat → Nat → Nat

/-- The portIdentity of the service port's clock (R361), 80 bits, which the spec does not give. -/
opaque svcIdentity : Nat

/-- The packages of a rack (R25, R26), each as its coordinate's word, and the racks of the mesh: the spec gives a rack master no
list of them (log entry 31). -/
opaque rackPackages : Nat → List Nat
opaque meshRacks : List Nat

/-- The MAC address of the service port (R485), which the spec does not give. -/
opaque macAddress : Nat

end Sys2Proof.Config
end

