-- ==== Sys2Proof/Machine/Registers.lean ====
section
/-! DEFINITION. Every register of the device by the manual's names (20_register_map.md R538, R541, R547): `rNAME` is
its byte offset in PF BAR0, `NAME_FIELD` one of its fields, and `regTable` gives its reset value and the types
(R12) of its bits. Each register is laid out as the "Registers" section of the chapter named above it gives it. -/
namespace Sys2Proof.Machine


/-! 03_cores.md -/
abbrev rSEQ_CORE_CTRL : Nat := 0x208000
abbrev SEQ_CORE_CTRL_SCRUB_START : Fld := ⟨rSEQ_CORE_CTRL, 0, 0⟩
abbrev rSEQ_CORE_STATUS : Nat := 0x208004
abbrev SEQ_CORE_STATUS_REMAP_DONE : Fld := ⟨rSEQ_CORE_STATUS, 31, 31⟩
abbrev SEQ_CORE_STATUS_DEGRADED : Fld := ⟨rSEQ_CORE_STATUS, 30, 30⟩
abbrev SEQ_CORE_STATUS_SCRUB_BUSY : Fld := ⟨rSEQ_CORE_STATUS, 29, 29⟩
abbrev SEQ_CORE_STATUS_BRIDGE_READY : Fld := ⟨rSEQ_CORE_STATUS, 28, 28⟩
abbrev SEQ_CORE_STATUS_SCRUB_COUNT : Fld := ⟨rSEQ_CORE_STATUS, 15, 0⟩
abbrev rSEQ_SRAM_CE_COUNT : Nat := 0x208008
abbrev SEQ_SRAM_CE_COUNT_COUNT : Fld := ⟨rSEQ_SRAM_CE_COUNT, 31, 0⟩
abbrev rSEQ_SRAM_UE_COUNT : Nat := 0x20800C
abbrev SEQ_SRAM_UE_COUNT_COUNT : Fld := ⟨rSEQ_SRAM_UE_COUNT, 31, 0⟩
abbrev rSEQ_SRAM_ERR_LOC : Nat := 0x208010
abbrev SEQ_SRAM_ERR_LOC_VALID : Fld := ⟨rSEQ_SRAM_ERR_LOC, 31, 31⟩
abbrev SEQ_SRAM_ERR_LOC_UNCORR : Fld := ⟨rSEQ_SRAM_ERR_LOC, 30, 30⟩
abbrev SEQ_SRAM_ERR_LOC_CORE : Fld := ⟨rSEQ_SRAM_ERR_LOC, 29, 20⟩
abbrev SEQ_SRAM_ERR_LOC_ADDR : Fld := ⟨rSEQ_SRAM_ERR_LOC, 18, 3⟩
abbrev rSEQ_BANK_CONFLICT_COUNT : Nat := 0x208014
abbrev SEQ_BANK_CONFLICT_COUNT_COUNT : Fld := ⟨rSEQ_BANK_CONFLICT_COUNT, 31, 0⟩
abbrev rSEQ_BANK_CONFLICT_LOC : Nat := 0x208018
abbrev SEQ_BANK_CONFLICT_LOC_VALID : Fld := ⟨rSEQ_BANK_CONFLICT_LOC, 31, 31⟩
abbrev SEQ_BANK_CONFLICT_LOC_SLOT1_LOST : Fld := ⟨rSEQ_BANK_CONFLICT_LOC, 30, 30⟩
abbrev SEQ_BANK_CONFLICT_LOC_SLOT0_LOST : Fld := ⟨rSEQ_BANK_CONFLICT_LOC, 29, 29⟩
abbrev SEQ_BANK_CONFLICT_LOC_CORE : Fld := ⟨rSEQ_BANK_CONFLICT_LOC, 28, 19⟩
abbrev SEQ_BANK_CONFLICT_LOC_BANK : Fld := ⟨rSEQ_BANK_CONFLICT_LOC, 18, 16⟩
abbrev rSEQ_BRIDGE_ERR : Nat := 0x20801C
abbrev SEQ_BRIDGE_ERR_CE_COUNT : Fld := ⟨rSEQ_BRIDGE_ERR, 31, 16⟩
abbrev SEQ_BRIDGE_ERR_UE_COUNT : Fld := ⟨rSEQ_BRIDGE_ERR, 15, 0⟩
abbrev rSEQ_ADDR_FAULT_COUNT : Nat := 0x208020
abbrev SEQ_ADDR_FAULT_COUNT_COUNT : Fld := ⟨rSEQ_ADDR_FAULT_COUNT, 31, 0⟩
abbrev rSEQ_CMASK_ROW (n : Nat) : Nat := 0x208100 + 8 * n
abbrev SEQ_CMASK_ROW_ROWS (n : Nat) : Fld := ⟨(rSEQ_CMASK_ROW n), 31, 0⟩
abbrev rSEQ_CMASK_COL (n : Nat) : Nat := 0x208104 + 8 * n
abbrev SEQ_CMASK_COL_COLS (n : Nat) : Fld := ⟨(rSEQ_CMASK_COL n), 31, 0⟩
abbrev rSEQ_REMAP_ROW (n : Nat) : Nat := 0x208200 + 4 * n
abbrev SEQ_REMAP_ROW_VALID (n : Nat) : Fld := ⟨(rSEQ_REMAP_ROW n), 31, 31⟩
abbrev SEQ_REMAP_ROW_SPARE_USED (n : Nat) : Fld := ⟨(rSEQ_REMAP_ROW n), 30, 30⟩
abbrev SEQ_REMAP_ROW_SOURCE (n : Nat) : Fld := ⟨(rSEQ_REMAP_ROW n), 29, 29⟩
abbrev SEQ_REMAP_ROW_MULTI_FAIL (n : Nat) : Fld := ⟨(rSEQ_REMAP_ROW n), 28, 28⟩
abbrev SEQ_REMAP_ROW_FAILED_PCOL (n : Nat) : Fld := ⟨(rSEQ_REMAP_ROW n), 5, 0⟩

/-! 04_bundle_format.md -/
abbrev rSEQ_CTRL : Nat := 0x200000
abbrev SEQ_CTRL_LOAD_GO : Fld := ⟨rSEQ_CTRL, 8, 8⟩
abbrev SEQ_CTRL_PLOT : Fld := ⟨rSEQ_CTRL, 7, 4⟩
abbrev SEQ_CTRL_START : Fld := ⟨rSEQ_CTRL, 0, 0⟩
abbrev rSEQ_STATUS : Nat := 0x200004
abbrev SEQ_STATUS_RUNNING : Fld := ⟨rSEQ_STATUS, 31, 31⟩
abbrev SEQ_STATUS_LOADING : Fld := ⟨rSEQ_STATUS, 30, 30⟩
abbrev SEQ_STATUS_RUN_PLOT : Fld := ⟨rSEQ_STATUS, 29, 26⟩
abbrev SEQ_STATUS_LOAD_PLOT : Fld := ⟨rSEQ_STATUS, 25, 22⟩
abbrev SEQ_STATUS_LAST_PLOT : Fld := ⟨rSEQ_STATUS, 21, 18⟩
abbrev SEQ_STATUS_END_CAUSE : Fld := ⟨rSEQ_STATUS, 17, 15⟩
abbrev SEQ_STATUS_PC : Fld := ⟨rSEQ_STATUS, 14, 0⟩
abbrev rSEQ_LOAD_SRC_LO : Nat := 0x200008
abbrev SEQ_LOAD_SRC_LO_ADDR_LO : Fld := ⟨rSEQ_LOAD_SRC_LO, 31, 8⟩
abbrev rSEQ_LOAD_SRC_HI : Nat := 0x20000C
abbrev SEQ_LOAD_SRC_HI_ADDR_HI : Fld := ⟨rSEQ_LOAD_SRC_HI, 31, 0⟩
abbrev rSEQ_LOAD_STATUS : Nat := 0x200010
abbrev SEQ_LOAD_STATUS_DONE : Fld := ⟨rSEQ_LOAD_STATUS, 31, 31⟩
abbrev SEQ_LOAD_STATUS_REFUSED : Fld := ⟨rSEQ_LOAD_STATUS, 30, 30⟩
abbrev SEQ_LOAD_STATUS_REASON : Fld := ⟨rSEQ_LOAD_STATUS, 29, 26⟩
abbrev SEQ_LOAD_STATUS_BAD_INDEX : Fld := ⟨rSEQ_LOAD_STATUS, 14, 0⟩
abbrev rSEQ_HOLD_WAIT : Nat := 0x200014
abbrev SEQ_HOLD_WAIT_COUNT : Fld := ⟨rSEQ_HOLD_WAIT, 31, 0⟩
abbrev rSEQ_HOLD_STREAM : Nat := 0x200018
abbrev SEQ_HOLD_STREAM_COUNT : Fld := ⟨rSEQ_HOLD_STREAM, 31, 0⟩
abbrev rSEQ_HAZARD_COUNT : Nat := 0x20001C
abbrev SEQ_HAZARD_COUNT_COUNT : Fld := ⟨rSEQ_HAZARD_COUNT, 31, 0⟩
abbrev rSEQ_HAZARD_LOC : Nat := 0x200020
abbrev SEQ_HAZARD_LOC_VALID : Fld := ⟨rSEQ_HAZARD_LOC, 31, 31⟩
abbrev SEQ_HAZARD_LOC_KIND : Fld := ⟨rSEQ_HAZARD_LOC, 30, 27⟩
abbrev SEQ_HAZARD_LOC_PLOT : Fld := ⟨rSEQ_HAZARD_LOC, 26, 23⟩
abbrev SEQ_HAZARD_LOC_PC : Fld := ⟨rSEQ_HAZARD_LOC, 14, 0⟩
abbrev rSEQ_IS_ECC : Nat := 0x200024
abbrev SEQ_IS_ECC_CE_COUNT : Fld := ⟨rSEQ_IS_ECC, 31, 16⟩
abbrev SEQ_IS_ECC_UE_COUNT : Fld := ⟨rSEQ_IS_ECC, 15, 0⟩
abbrev rSEQ_ISR (n : Nat) : Nat := 0x200040 + 4 * n
abbrev SEQ_ISR_VALID (n : Nat) : Fld := ⟨(rSEQ_ISR n), 31, 31⟩
abbrev SEQ_ISR_LIMIT (n : Nat) : Fld := ⟨(rSEQ_ISR n), 24, 16⟩
abbrev SEQ_ISR_BASE (n : Nat) : Fld := ⟨(rSEQ_ISR n), 8, 0⟩

/-! 06_stream_memory.md -/
abbrev rSTM_CTRL : Nat := 0x400000
abbrev STM_CTRL_DLOAD_GO : Fld := ⟨rSTM_CTRL, 8, 8⟩
abbrev STM_CTRL_PLOT : Fld := ⟨rSTM_CTRL, 7, 4⟩
abbrev rSTM_DLOAD_SRC_LO : Nat := 0x400004
abbrev STM_DLOAD_SRC_LO_ADDR_LO : Fld := ⟨rSTM_DLOAD_SRC_LO, 31, 7⟩
abbrev rSTM_DLOAD_SRC_HI : Nat := 0x400008
abbrev STM_DLOAD_SRC_HI_ADDR_HI : Fld := ⟨rSTM_DLOAD_SRC_HI, 31, 0⟩
abbrev rSTM_DLOAD_STATUS : Nat := 0x40000C
abbrev STM_DLOAD_STATUS_DONE : Fld := ⟨rSTM_DLOAD_STATUS, 31, 31⟩
abbrev STM_DLOAD_STATUS_REFUSED : Fld := ⟨rSTM_DLOAD_STATUS, 30, 30⟩
abbrev STM_DLOAD_STATUS_LOADING : Fld := ⟨rSTM_DLOAD_STATUS, 29, 29⟩
abbrev STM_DLOAD_STATUS_REASON : Fld := ⟨rSTM_DLOAD_STATUS, 28, 25⟩
abbrev STM_DLOAD_STATUS_BAD_INDEX : Fld := ⟨rSTM_DLOAD_STATUS, 11, 0⟩
abbrev rSTM_FAULT_COUNT : Nat := 0x400010
abbrev STM_FAULT_COUNT_COUNT : Fld := ⟨rSTM_FAULT_COUNT, 31, 0⟩
abbrev rSTM_FAULT_LOC : Nat := 0x400014
abbrev STM_FAULT_LOC_VALID : Fld := ⟨rSTM_FAULT_LOC, 31, 31⟩
abbrev STM_FAULT_LOC_KIND : Fld := ⟨rSTM_FAULT_LOC, 30, 27⟩
abbrev STM_FAULT_LOC_PLOT : Fld := ⟨rSTM_FAULT_LOC, 26, 23⟩
abbrev STM_FAULT_LOC_ENG : Fld := ⟨rSTM_FAULT_LOC, 22, 19⟩
abbrev STM_FAULT_LOC_PC : Fld := ⟨rSTM_FAULT_LOC, 14, 0⟩
abbrev rSTM_KC4_ERR_COUNT : Nat := 0x400018
abbrev STM_KC4_ERR_COUNT_COUNT : Fld := ⟨rSTM_KC4_ERR_COUNT, 31, 0⟩
abbrev rSTM_KC4_ERR_LOC : Nat := 0x40001C
abbrev STM_KC4_ERR_LOC_VALID : Fld := ⟨rSTM_KC4_ERR_LOC, 31, 31⟩
abbrev STM_KC4_ERR_LOC_CHECK : Fld := ⟨rSTM_KC4_ERR_LOC, 30, 27⟩
abbrev STM_KC4_ERR_LOC_LOST : Fld := ⟨rSTM_KC4_ERR_LOC, 26, 26⟩
abbrev STM_KC4_ERR_LOC_ENG : Fld := ⟨rSTM_KC4_ERR_LOC, 25, 22⟩
abbrev STM_KC4_ERR_LOC_PLOT : Fld := ⟨rSTM_KC4_ERR_LOC, 21, 18⟩
abbrev rSTM_KC4_ERR_ADDR : Nat := 0x400020
abbrev STM_KC4_ERR_ADDR_SEG : Fld := ⟨rSTM_KC4_ERR_ADDR, 26, 0⟩
abbrev rSTM_DSR (n : Nat) : Nat := 0x400040 + 4 * n
abbrev STM_DSR_VALID (n : Nat) : Fld := ⟨(rSTM_DSR n), 31, 31⟩
abbrev STM_DSR_LIMIT (n : Nat) : Fld := ⟨(rSTM_DSR n), 13, 8⟩
abbrev STM_DSR_BASE (n : Nat) : Fld := ⟨(rSTM_DSR n), 5, 0⟩
abbrev rSTM_ENG_STATUS (e : Nat) : Nat := 0x400100 + 4 * e
abbrev STM_ENG_STATUS_BUSY (e : Nat) : Fld := ⟨(rSTM_ENG_STATUS e), 31, 31⟩
abbrev STM_ENG_STATUS_QUEUED (e : Nat) : Fld := ⟨(rSTM_ENG_STATUS e), 27, 16⟩
abbrev STM_ENG_STATUS_OCC (e : Nat) : Fld := ⟨(rSTM_ENG_STATUS e), 11, 0⟩
abbrev rHBM_CTRL : Nat := 0x500000
abbrev HBM_CTRL_EQUALIZE : Fld := ⟨rHBM_CTRL, 2, 2⟩
abbrev HBM_CTRL_RATE_CEIL : Fld := ⟨rHBM_CTRL, 1, 0⟩
abbrev rHBM_ERR_LOC : Nat := 0x500004
abbrev HBM_ERR_LOC_VALID : Fld := ⟨rHBM_ERR_LOC, 31, 31⟩
abbrev HBM_ERR_LOC_UNCORR : Fld := ⟨rHBM_ERR_LOC, 30, 30⟩
abbrev HBM_ERR_LOC_STACK : Fld := ⟨rHBM_ERR_LOC, 29, 27⟩
abbrev HBM_ERR_LOC_LOADER : Fld := ⟨rHBM_ERR_LOC, 26, 26⟩
abbrev HBM_ERR_LOC_PLOT : Fld := ⟨rHBM_ERR_LOC, 25, 22⟩
abbrev HBM_ERR_LOC_ENG : Fld := ⟨rHBM_ERR_LOC, 21, 18⟩
abbrev rHBM_ERR_ADDR : Nat := 0x500008
abbrev HBM_ERR_ADDR_ADDR : Fld := ⟨rHBM_ERR_ADDR, 30, 0⟩
abbrev rHBM_STACK_STATUS (s : Nat) : Nat := 0x500020 + 4 * s
abbrev HBM_STACK_STATUS_DONE (s : Nat) : Fld := ⟨(rHBM_STACK_STATUS s), 31, 31⟩
abbrev HBM_STACK_STATUS_FAILED (s : Nat) : Fld := ⟨(rHBM_STACK_STATUS s), 30, 30⟩
abbrev HBM_STACK_STATUS_HOT (s : Nat) : Fld := ⟨(rHBM_STACK_STATUS s), 29, 29⟩
abbrev HBM_STACK_STATUS_RECAL (s : Nat) : Fld := ⟨(rHBM_STACK_STATUS s), 28, 28⟩
abbrev HBM_STACK_STATUS_RATE (s : Nat) : Fld := ⟨(rHBM_STACK_STATUS s), 27, 26⟩
abbrev HBM_STACK_STATUS_CAUSE (s : Nat) : Fld := ⟨(rHBM_STACK_STATUS s), 25, 23⟩
abbrev HBM_STACK_STATUS_FAILED_CH (s : Nat) : Fld := ⟨(rHBM_STACK_STATUS s), 22, 18⟩
abbrev HBM_STACK_STATUS_TEMP (s : Nat) : Fld := ⟨(rHBM_STACK_STATUS s), 15, 8⟩
abbrev rHBM_CE_COUNT (s : Nat) : Nat := 0x500040 + 4 * s
abbrev HBM_CE_COUNT_COUNT (s : Nat) : Fld := ⟨(rHBM_CE_COUNT s), 31, 0⟩
abbrev rHBM_UE_COUNT (s : Nat) : Nat := 0x500060 + 4 * s
abbrev HBM_UE_COUNT_COUNT (s : Nat) : Fld := ⟨(rHBM_UE_COUNT s), 31, 0⟩
abbrev rHBM_WIN (p : Nat) (s : Nat) : Nat := 0x501000 + 32 * p + 4 * s
abbrev HBM_WIN_VALID (p : Nat) (s : Nat) : Fld := ⟨(rHBM_WIN p s), 31, 31⟩
abbrev HBM_WIN_SIZE (p : Nat) (s : Nat) : Fld := ⟨(rHBM_WIN p s), 27, 16⟩
abbrev HBM_WIN_BASE (p : Nat) (s : Nat) : Fld := ⟨(rHBM_WIN p s), 11, 0⟩

/-! 07_tally.md -/
abbrev rTLY_CTRL : Nat := 0x300000
abbrev TLY_CTRL_ZERO_GO : Fld := ⟨rTLY_CTRL, 8, 8⟩
abbrev TLY_CTRL_PLOT : Fld := ⟨rTLY_CTRL, 7, 4⟩
abbrev rTLY_STATUS : Nat := 0x300004
abbrev TLY_STATUS_WATCHES : Fld := ⟨rTLY_STATUS, 28, 16⟩
abbrev TLY_STATUS_GROUPS : Fld := ⟨rTLY_STATUS, 10, 0⟩
abbrev rTLY_FAULT_COUNT : Nat := 0x300008
abbrev TLY_FAULT_COUNT_COUNT : Fld := ⟨rTLY_FAULT_COUNT, 31, 0⟩
abbrev rTLY_FAULT_LOC : Nat := 0x30000C
abbrev TLY_FAULT_LOC_VALID : Fld := ⟨rTLY_FAULT_LOC, 31, 31⟩
abbrev TLY_FAULT_LOC_KIND : Fld := ⟨rTLY_FAULT_LOC, 30, 27⟩
abbrev TLY_FAULT_LOC_PLOT : Fld := ⟨rTLY_FAULT_LOC, 26, 23⟩
abbrev TLY_FAULT_LOC_SRC : Fld := ⟨rTLY_FAULT_LOC, 22, 20⟩
abbrev TLY_FAULT_LOC_SRC_ID : Fld := ⟨rTLY_FAULT_LOC, 19, 13⟩
abbrev TLY_FAULT_LOC_TLY : Fld := ⟨rTLY_FAULT_LOC, 11, 0⟩
abbrev rTLY_TMO_COUNT : Nat := 0x300010
abbrev TLY_TMO_COUNT_COUNT : Fld := ⟨rTLY_TMO_COUNT, 31, 0⟩
abbrev rTLY_TMO_LOC : Nat := 0x300014
abbrev TLY_TMO_LOC_VALID : Fld := ⟨rTLY_TMO_LOC, 31, 31⟩
abbrev TLY_TMO_LOC_WKIND : Fld := ⟨rTLY_TMO_LOC, 30, 29⟩
abbrev TLY_TMO_LOC_PLOT : Fld := ⟨rTLY_TMO_LOC, 28, 25⟩
abbrev TLY_TMO_LOC_WID : Fld := ⟨rTLY_TMO_LOC, 24, 19⟩
abbrev TLY_TMO_LOC_CMP : Fld := ⟨rTLY_TMO_LOC, 18, 16⟩
abbrev TLY_TMO_LOC_TLY : Fld := ⟨rTLY_TMO_LOC, 11, 0⟩
abbrev rTLY_TMO_SRC : Nat := 0x300018
abbrev TLY_TMO_SRC_SKIND : Fld := ⟨rTLY_TMO_SRC, 31, 29⟩
abbrev TLY_TMO_SRC_X : Fld := ⟨rTLY_TMO_SRC, 28, 25⟩
abbrev TLY_TMO_SRC_Y : Fld := ⟨rTLY_TMO_SRC, 24, 21⟩
abbrev TLY_TMO_SRC_Z : Fld := ⟨rTLY_TMO_SRC, 20, 18⟩
abbrev TLY_TMO_SRC_PORT : Fld := ⟨rTLY_TMO_SRC, 17, 15⟩
abbrev TLY_TMO_SRC_LINK : Fld := ⟨rTLY_TMO_SRC, 14, 10⟩
abbrev TLY_TMO_SRC_ID : Fld := ⟨rTLY_TMO_SRC, 9, 6⟩
abbrev rTLY_TMO_VALUE : Nat := 0x30001C
abbrev TLY_TMO_VALUE_VALUE : Fld := ⟨rTLY_TMO_VALUE, 31, 0⟩
abbrev rTLY_TMO_TARGET : Nat := 0x300020
abbrev TLY_TMO_TARGET_TARGET : Fld := ⟨rTLY_TMO_TARGET, 31, 0⟩
abbrev rTLY_TR (n : Nat) : Nat := 0x300040 + 4 * n
abbrev TLY_TR_VALID (n : Nat) : Fld := ⟨(rTLY_TR n), 31, 31⟩
abbrev TLY_TR_LIMIT (n : Nat) : Fld := ⟨(rTLY_TR n), 13, 8⟩
abbrev TLY_TR_BASE (n : Nat) : Fld := ⟨(rTLY_TR n), 5, 0⟩
abbrev rTLY_WR (n : Nat) : Nat := 0x300080 + 4 * n
abbrev TLY_WR_VALID (n : Nat) : Fld := ⟨(rTLY_WR n), 31, 31⟩
abbrev TLY_WR_LIMIT (n : Nat) : Fld := ⟨(rTLY_WR n), 13, 8⟩
abbrev TLY_WR_BASE (n : Nat) : Fld := ⟨(rTLY_WR n), 5, 0⟩
abbrev rTLY_VALUE (i : Nat) : Nat := 0x310000 + 4 * i
abbrev TLY_VALUE_VALUE (i : Nat) : Fld := ⟨(rTLY_VALUE i), 31, 0⟩

/-! 08_mesh_links.md -/
abbrev rLNK_CTRL : Nat := 0x600000
abbrev LNK_CTRL_GEN1_DETECT : Fld := ⟨rLNK_CTRL, 8, 8⟩
abbrev LNK_CTRL_NOPOST_TMO : Fld := ⟨rLNK_CTRL, 3, 0⟩
abbrev rLNK_LANE_THR : Nat := 0x600004
abbrev LNK_LANE_THR_SYM_THR : Fld := ⟨rLNK_LANE_THR, 15, 0⟩
abbrev rLNK_FAULT_COUNT : Nat := 0x600008
abbrev LNK_FAULT_COUNT_COUNT : Fld := ⟨rLNK_FAULT_COUNT, 31, 0⟩
abbrev rLNK_FAULT_LOC : Nat := 0x60000C
abbrev LNK_FAULT_LOC_VALID : Fld := ⟨rLNK_FAULT_LOC, 31, 31⟩
abbrev LNK_FAULT_LOC_KIND : Fld := ⟨rLNK_FAULT_LOC, 30, 27⟩
abbrev LNK_FAULT_LOC_PLOT : Fld := ⟨rLNK_FAULT_LOC, 26, 23⟩
abbrev LNK_FAULT_LOC_PORT : Fld := ⟨rLNK_FAULT_LOC, 22, 20⟩
abbrev LNK_FAULT_LOC_LINK : Fld := ⟨rLNK_FAULT_LOC, 19, 15⟩
abbrev LNK_FAULT_LOC_PC : Fld := ⟨rLNK_FAULT_LOC, 14, 0⟩
abbrev rLNK_FAILOVER_COUNT : Nat := 0x600010
abbrev LNK_FAILOVER_COUNT_COUNT : Fld := ⟨rLNK_FAILOVER_COUNT, 31, 0⟩
abbrev rLNK_FAILOVER_LOC : Nat := 0x600014
abbrev LNK_FAILOVER_LOC_VALID : Fld := ⟨rLNK_FAILOVER_LOC, 31, 31⟩
abbrev LNK_FAILOVER_LOC_KIND : Fld := ⟨rLNK_FAILOVER_LOC, 30, 28⟩
abbrev LNK_FAILOVER_LOC_PORT : Fld := ⟨rLNK_FAILOVER_LOC, 27, 25⟩
abbrev LNK_FAILOVER_LOC_LINK : Fld := ⟨rLNK_FAILOVER_LOC, 24, 20⟩
abbrev LNK_FAILOVER_LOC_LANE : Fld := ⟨rLNK_FAILOVER_LOC, 19, 16⟩
abbrev LNK_FAILOVER_LOC_DIR : Fld := ⟨rLNK_FAILOVER_LOC, 15, 15⟩
abbrev LNK_FAILOVER_LOC_DUR : Fld := ⟨rLNK_FAILOVER_LOC, 11, 0⟩
abbrev rLNK_DIGEST (n : Nat) : Nat := 0x600020 + 4 * n
abbrev LNK_DIGEST_DIGEST (n : Nat) : Fld := ⟨(rLNK_DIGEST n), 31, 0⟩
abbrev rLNK_CFG (n : Nat) : Nat := 0x600040 + 4 * n
abbrev LNK_CFG_WORD (n : Nat) : Fld := ⟨(rLNK_CFG n), 31, 0⟩
abbrev LNK_CFG0_ZMAX : Fld := ⟨(rLNK_CFG 0), 10, 8⟩
abbrev LNK_CFG0_YMAX : Fld := ⟨(rLNK_CFG 0), 7, 4⟩
abbrev LNK_CFG0_XMAX : Fld := ⟨(rLNK_CFG 0), 3, 0⟩
abbrev rLNK_PORT_CTRL (p : Nat) : Nat := 0x600100 + 16 * p
abbrev LNK_PORT_CTRL_REHELLO (p : Nat) : Fld := ⟨(rLNK_PORT_CTRL p), 8, 8⟩
abbrev LNK_PORT_CTRL_FENCE (p : Nat) : Fld := ⟨(rLNK_PORT_CTRL p), 7, 7⟩
abbrev LNK_PORT_CTRL_MODE_CEIL (p : Nat) : Fld := ⟨(rLNK_PORT_CTRL p), 5, 4⟩
abbrev LNK_PORT_CTRL_ENABLE (p : Nat) : Fld := ⟨(rLNK_PORT_CTRL p), 0, 0⟩
abbrev rLNK_PORT_STATUS (p : Nat) : Nat := 0x600104 + 16 * p
abbrev LNK_PORT_STATUS_STATE (p : Nat) : Fld := ⟨(rLNK_PORT_STATUS p), 31, 29⟩
abbrev LNK_PORT_STATUS_ITEM (p : Nat) : Fld := ⟨(rLNK_PORT_STATUS p), 28, 25⟩
abbrev LNK_PORT_STATUS_SPARE_XCVR_USED (p : Nat) : Fld := ⟨(rLNK_PORT_STATUS p), 24, 24⟩
abbrev LNK_PORT_STATUS_SPARE_FIBRE_USED (p : Nat) : Fld := ⟨(rLNK_PORT_STATUS p), 23, 23⟩
abbrev LNK_PORT_STATUS_LINKS_UP (p : Nat) : Fld := ⟨(rLNK_PORT_STATUS p), 22, 18⟩
abbrev LNK_PORT_STATUS_FENCE_CAUSE (p : Nat) : Fld := ⟨(rLNK_PORT_STATUS p), 17, 16⟩
abbrev rLNK_HELLO_PEER (p : Nat) : Nat := 0x600108 + 16 * p
abbrev LNK_HELLO_PEER_X (p : Nat) : Fld := ⟨(rLNK_HELLO_PEER p), 31, 28⟩
abbrev LNK_HELLO_PEER_Y (p : Nat) : Fld := ⟨(rLNK_HELLO_PEER p), 27, 24⟩
abbrev LNK_HELLO_PEER_Z (p : Nat) : Fld := ⟨(rLNK_HELLO_PEER p), 23, 21⟩
abbrev LNK_HELLO_PEER_PORT (p : Nat) : Fld := ⟨(rLNK_HELLO_PEER p), 20, 18⟩
abbrev LNK_HELLO_PEER_LINK (p : Nat) : Fld := ⟨(rLNK_HELLO_PEER p), 17, 13⟩
abbrev LNK_HELLO_PEER_VALID (p : Nat) : Fld := ⟨(rLNK_HELLO_PEER p), 12, 12⟩
abbrev rLNK_HELLO_MFST (p : Nat) : Nat := 0x60010C + 16 * p
abbrev LNK_HELLO_MFST_VERSION (p : Nat) : Fld := ⟨(rLNK_HELLO_MFST p), 31, 0⟩
abbrev rLNK_LINK_STATUS (p : Nat) (l : Nat) : Nat := 0x601000 + 128 * p + 4 * l
abbrev LNK_LINK_STATUS_STATE (p : Nat) (l : Nat) : Fld := ⟨(rLNK_LINK_STATUS p l), 31, 29⟩
abbrev LNK_LINK_STATUS_GEN (p : Nat) (l : Nat) : Fld := ⟨(rLNK_LINK_STATUS p l), 28, 28⟩
abbrev LNK_LINK_STATUS_LANES4 (p : Nat) (l : Nat) : Fld := ⟨(rLNK_LINK_STATUS p l), 27, 27⟩
abbrev LNK_LINK_STATUS_DETECT (p : Nat) (l : Nat) : Fld := ⟨(rLNK_LINK_STATUS p l), 26, 26⟩
abbrev LNK_LINK_STATUS_XCVR (p : Nat) (l : Nat) : Fld := ⟨(rLNK_LINK_STATUS p l), 25, 21⟩
abbrev LNK_LINK_STATUS_TX_SPARE_FOR (p : Nat) (l : Nat) : Fld := ⟨(rLNK_LINK_STATUS p l), 15, 12⟩
abbrev LNK_LINK_STATUS_RX_SPARE_FOR (p : Nat) (l : Nat) : Fld := ⟨(rLNK_LINK_STATUS p l), 11, 8⟩
abbrev rLNK_LINK_CNT (p : Nat) (l : Nat) : Nat := 0x602000 + 128 * p + 4 * l
abbrev LNK_LINK_CNT_RETRY (p : Nat) (l : Nat) : Fld := ⟨(rLNK_LINK_CNT p l), 31, 16⟩
abbrev LNK_LINK_CNT_UNCORR (p : Nat) (l : Nat) : Fld := ⟨(rLNK_LINK_CNT p l), 15, 0⟩

/-! 09_circuit_switch.md -/
abbrev rCSC_CTRL : Nat := 0x700000
abbrev CSC_CTRL_REPLAN_MASK : Fld := ⟨rCSC_CTRL, 31, 24⟩
abbrev CSC_CTRL_REPLAN_TARGET : Fld := ⟨rCSC_CTRL, 18, 16⟩
abbrev CSC_CTRL_STAGE_BANK : Fld := ⟨rCSC_CTRL, 11, 9⟩
abbrev CSC_CTRL_STAGE_GO : Fld := ⟨rCSC_CTRL, 8, 8⟩
abbrev CSC_CTRL_UNFENCE : Fld := ⟨rCSC_CTRL, 2, 2⟩
abbrev CSC_CTRL_REPLAN_NOW : Fld := ⟨rCSC_CTRL, 1, 1⟩
abbrev CSC_CTRL_REPLAN_GO : Fld := ⟨rCSC_CTRL, 0, 0⟩
abbrev rCSC_STATUS : Nat := 0x700004
abbrev CSC_STATUS_MODE : Fld := ⟨rCSC_STATUS, 31, 29⟩
abbrev CSC_STATUS_ACTIVE : Fld := ⟨rCSC_STATUS, 28, 26⟩
abbrev CSC_STATUS_ACTIVE_VALID : Fld := ⟨rCSC_STATUS, 25, 25⟩
abbrev CSC_STATUS_ARMED : Fld := ⟨rCSC_STATUS, 24, 24⟩
abbrev CSC_STATUS_ARMED_BANK : Fld := ⟨rCSC_STATUS, 23, 21⟩
abbrev CSC_STATUS_ARM_SRC : Fld := ⟨rCSC_STATUS, 20, 19⟩
abbrev CSC_STATUS_ARM_PLOT : Fld := ⟨rCSC_STATUS, 18, 15⟩
abbrev CSC_STATUS_MISS_FENCE : Fld := ⟨rCSC_STATUS, 14, 9⟩
abbrev CSC_STATUS_REPLAN_BANK : Fld := ⟨rCSC_STATUS, 8, 6⟩
abbrev CSC_STATUS_SPARE_PHASE : Fld := ⟨rCSC_STATUS, 5, 5⟩
abbrev CSC_STATUS_REPLAN_PENDING : Fld := ⟨rCSC_STATUS, 4, 4⟩
abbrev rCSC_TRIG_CTRL : Nat := 0x700008
abbrev CSC_TRIG_CTRL_DISARM : Fld := ⟨rCSC_TRIG_CTRL, 4, 4⟩
abbrev CSC_TRIG_CTRL_ARM : Fld := ⟨rCSC_TRIG_CTRL, 3, 3⟩
abbrev CSC_TRIG_CTRL_BANK : Fld := ⟨rCSC_TRIG_CTRL, 2, 0⟩
abbrev rCSC_TRIG_TIME_LO : Nat := 0x70000C
abbrev CSC_TRIG_TIME_LO_TIME : Fld := ⟨rCSC_TRIG_TIME_LO, 31, 0⟩
abbrev rCSC_TRIG_TIME_HI : Nat := 0x700010
abbrev CSC_TRIG_TIME_HI_TIME : Fld := ⟨rCSC_TRIG_TIME_HI, 31, 0⟩
abbrev rCSC_FAULT_COUNT : Nat := 0x700014
abbrev CSC_FAULT_COUNT_COUNT : Fld := ⟨rCSC_FAULT_COUNT, 31, 0⟩
abbrev rCSC_FAULT_LOC : Nat := 0x700018
abbrev CSC_FAULT_LOC_VALID : Fld := ⟨rCSC_FAULT_LOC, 31, 31⟩
abbrev CSC_FAULT_LOC_KIND : Fld := ⟨rCSC_FAULT_LOC, 30, 27⟩
abbrev CSC_FAULT_LOC_SRC : Fld := ⟨rCSC_FAULT_LOC, 26, 25⟩
abbrev CSC_FAULT_LOC_PLOT : Fld := ⟨rCSC_FAULT_LOC, 24, 21⟩
abbrev CSC_FAULT_LOC_BANK : Fld := ⟨rCSC_FAULT_LOC, 20, 18⟩
abbrev CSC_FAULT_LOC_PC : Fld := ⟨rCSC_FAULT_LOC, 14, 0⟩
abbrev rCSC_SWAP_COUNT : Nat := 0x70001C
abbrev CSC_SWAP_COUNT_COUNT : Fld := ⟨rCSC_SWAP_COUNT, 31, 0⟩
abbrev rCSC_ELEM_FAULT : Nat := 0x700020
abbrev CSC_ELEM_FAULT_VALID : Fld := ⟨rCSC_ELEM_FAULT, 31, 31⟩
abbrev CSC_ELEM_FAULT_STATE : Fld := ⟨rCSC_ELEM_FAULT, 30, 30⟩
abbrev CSC_ELEM_FAULT_ELEMENT : Fld := ⟨rCSC_ELEM_FAULT, 26, 16⟩
abbrev CSC_ELEM_FAULT_COUNT : Fld := ⟨rCSC_ELEM_FAULT, 15, 0⟩
abbrev rCSC_REPLAN_TIME_LO : Nat := 0x700024
abbrev CSC_REPLAN_TIME_LO_TIME : Fld := ⟨rCSC_REPLAN_TIME_LO, 31, 0⟩
abbrev rCSC_REPLAN_TIME_HI : Nat := 0x700028
abbrev CSC_REPLAN_TIME_HI_TIME : Fld := ⟨rCSC_REPLAN_TIME_HI, 31, 0⟩
abbrev rCSC_SUBST (p : Nat) : Nat := 0x700040 + 4 * p
abbrev CSC_SUBST_XCVR_VALID (p : Nat) : Fld := ⟨(rCSC_SUBST p), 31, 31⟩
abbrev CSC_SUBST_XCVR_FOR (p : Nat) : Fld := ⟨(rCSC_SUBST p), 27, 24⟩
abbrev CSC_SUBST_FIBRE_VALID (p : Nat) : Fld := ⟨(rCSC_SUBST p), 23, 23⟩
abbrev CSC_SUBST_FIBRE_FOR (p : Nat) : Fld := ⟨(rCSC_SUBST p), 19, 16⟩
abbrev CSC_SUBST_XCVR_SPARE_BAD (p : Nat) : Fld := ⟨(rCSC_SUBST p), 15, 15⟩
abbrev CSC_SUBST_FIBRE_SPARE_BAD (p : Nat) : Fld := ⟨(rCSC_SUBST p), 14, 14⟩
abbrev rCSC_PLOT (n : Nat) : Nat := 0x700080 + 4 * n
abbrev CSC_PLOT_HOME_VALID (n : Nat) : Fld := ⟨(rCSC_PLOT n), 31, 31⟩
abbrev CSC_PLOT_HOME (n : Nat) : Fld := ⟨(rCSC_PLOT n), 10, 8⟩
abbrev CSC_PLOT_BANKS (n : Nat) : Fld := ⟨(rCSC_PLOT n), 7, 0⟩
abbrev rCSC_BANK_STATUS (b : Nat) : Nat := 0x701000 + 64 * b
abbrev CSC_BANK_STATUS_STATE (b : Nat) : Fld := ⟨(rCSC_BANK_STATUS b), 31, 29⟩
abbrev CSC_BANK_STATUS_READY (b : Nat) : Fld := ⟨(rCSC_BANK_STATUS b), 28, 28⟩
abbrev CSC_BANK_STATUS_REASON (b : Nat) : Fld := ⟨(rCSC_BANK_STATUS b), 27, 24⟩
abbrev CSC_BANK_STATUS_ENTRY (b : Nat) : Fld := ⟨(rCSC_BANK_STATUS b), 23, 16⟩
abbrev CSC_BANK_STATUS_UNTRAINED (b : Nat) : Fld := ⟨(rCSC_BANK_STATUS b), 15, 8⟩
abbrev CSC_BANK_STATUS_REFUSED (b : Nat) : Fld := ⟨(rCSC_BANK_STATUS b), 7, 0⟩
abbrev rCSC_BANK_EXP (b : Nat) (i : Nat) : Nat := 0x701010 + 64 * b + 4 * i
abbrev CSC_BANK_EXP_DIGEST (b : Nat) (i : Nat) : Fld := ⟨(rCSC_BANK_EXP b i), 31, 0⟩
abbrev rCSC_BANK_DIG (b : Nat) (i : Nat) : Nat := 0x701020 + 64 * b + 4 * i
abbrev CSC_BANK_DIG_DIGEST (b : Nat) (i : Nat) : Fld := ⟨(rCSC_BANK_DIG b i), 31, 0⟩
abbrev rCSC_ENTRY_LO (b : Nat) (e : Nat) : Nat := 0x710000 + 2048 * b + 8 * e
abbrev CSC_ENTRY_LO_VALID (b : Nat) (e : Nat) : Fld := ⟨(rCSC_ENTRY_LO b e), 31, 31⟩
abbrev CSC_ENTRY_LO_KIND (b : Nat) (e : Nat) : Fld := ⟨(rCSC_ENTRY_LO b e), 30, 29⟩
abbrev CSC_ENTRY_LO_IN_PORT (b : Nat) (e : Nat) : Fld := ⟨(rCSC_ENTRY_LO b e), 26, 24⟩
abbrev CSC_ENTRY_LO_IN_IDX (b : Nat) (e : Nat) : Fld := ⟨(rCSC_ENTRY_LO b e), 23, 19⟩
abbrev CSC_ENTRY_LO_OUT_PORT (b : Nat) (e : Nat) : Fld := ⟨(rCSC_ENTRY_LO b e), 18, 16⟩
abbrev CSC_ENTRY_LO_OUT_IDX (b : Nat) (e : Nat) : Fld := ⟨(rCSC_ENTRY_LO b e), 15, 11⟩
abbrev CSC_ENTRY_LO_LLINK (b : Nat) (e : Nat) : Fld := ⟨(rCSC_ENTRY_LO b e), 10, 7⟩
abbrev CSC_ENTRY_LO_INTER (b : Nat) (e : Nat) : Fld := ⟨(rCSC_ENTRY_LO b e), 6, 4⟩
abbrev CSC_ENTRY_LO_PLESIO (b : Nat) (e : Nat) : Fld := ⟨(rCSC_ENTRY_LO b e), 3, 3⟩
abbrev rCSC_ENTRY_HI (b : Nat) (e : Nat) : Nat := 0x710004 + 2048 * b + 8 * e
abbrev CSC_ENTRY_HI_X (b : Nat) (e : Nat) : Fld := ⟨(rCSC_ENTRY_HI b e), 31, 28⟩
abbrev CSC_ENTRY_HI_Y (b : Nat) (e : Nat) : Fld := ⟨(rCSC_ENTRY_HI b e), 27, 24⟩
abbrev CSC_ENTRY_HI_Z (b : Nat) (e : Nat) : Fld := ⟨(rCSC_ENTRY_HI b e), 23, 21⟩
abbrev CSC_ENTRY_HI_CSTATE (b : Nat) (e : Nat) : Fld := ⟨(rCSC_ENTRY_HI b e), 20, 18⟩

/-! 10_optical_engines.md -/
abbrev rOPT_CTRL : Nat := 0x900000
abbrev OPT_CTRL_AGE_PERIOD : Fld := ⟨rOPT_CTRL, 23, 16⟩
abbrev OPT_CTRL_MON_INT : Fld := ⟨rOPT_CTRL, 2, 0⟩
abbrev rOPT_RX_WARN : Nat := 0x900004
abbrev OPT_RX_WARN_THRESH : Fld := ⟨rOPT_RX_WARN, 15, 0⟩
abbrev rOPT_MEAS_CTRL : Nat := 0x900008
abbrev OPT_MEAS_CTRL_GO : Fld := ⟨rOPT_MEAS_CTRL, 31, 31⟩
abbrev OPT_MEAS_CTRL_BUSY : Fld := ⟨rOPT_MEAS_CTRL, 30, 30⟩
abbrev OPT_MEAS_CTRL_INT : Fld := ⟨rOPT_MEAS_CTRL, 29, 27⟩
abbrev OPT_MEAS_CTRL_CHANNEL : Fld := ⟨rOPT_MEAS_CTRL, 11, 0⟩
abbrev rOPT_MEAS_RESULT : Nat := 0x90000C
abbrev OPT_MEAS_RESULT_VALID : Fld := ⟨rOPT_MEAS_RESULT, 31, 31⟩
abbrev OPT_MEAS_RESULT_POWER : Fld := ⟨rOPT_MEAS_RESULT, 15, 0⟩
abbrev rOPT_WARN_STATUS : Nat := 0x900010
abbrev OPT_WARN_STATUS_WL_LOST : Fld := ⟨rOPT_WARN_STATUS, 29, 24⟩
abbrev OPT_WARN_STATUS_SPARE_BAD : Fld := ⟨rOPT_WARN_STATUS, 21, 16⟩
abbrev OPT_WARN_STATUS_RX_LOW : Fld := ⟨rOPT_WARN_STATUS, 13, 8⟩
abbrev OPT_WARN_STATUS_EOL : Fld := ⟨rOPT_WARN_STATUS, 5, 0⟩
abbrev rOPT_LASER_FAIL_COUNT : Nat := 0x900014
abbrev OPT_LASER_FAIL_COUNT_COUNT : Fld := ⟨rOPT_LASER_FAIL_COUNT, 31, 0⟩
abbrev rOPT_LASER_FAIL_LOC : Nat := 0x900018
abbrev OPT_LASER_FAIL_LOC_VALID : Fld := ⟨rOPT_LASER_FAIL_LOC, 31, 31⟩
abbrev OPT_LASER_FAIL_LOC_PORT : Fld := ⟨rOPT_LASER_FAIL_LOC, 30, 28⟩
abbrev OPT_LASER_FAIL_LOC_LASER : Fld := ⟨rOPT_LASER_FAIL_LOC, 27, 24⟩
abbrev OPT_LASER_FAIL_LOC_CAUSE : Fld := ⟨rOPT_LASER_FAIL_LOC, 23, 21⟩
abbrev OPT_LASER_FAIL_LOC_SPARE : Fld := ⟨rOPT_LASER_FAIL_LOC, 20, 19⟩
abbrev rOPT_RX_LOW_LOC : Nat := 0x90001C
abbrev OPT_RX_LOW_LOC_VALID : Fld := ⟨rOPT_RX_LOW_LOC, 31, 31⟩
abbrev OPT_RX_LOW_LOC_PORT : Fld := ⟨rOPT_RX_LOW_LOC, 30, 28⟩
abbrev OPT_RX_LOW_LOC_XCVR : Fld := ⟨rOPT_RX_LOW_LOC, 27, 23⟩
abbrev OPT_RX_LOW_LOC_WL : Fld := ⟨rOPT_RX_LOW_LOC, 22, 19⟩
abbrev OPT_RX_LOW_LOC_POWER : Fld := ⟨rOPT_RX_LOW_LOC, 15, 0⟩
abbrev rOPT_LANE_SEL : Nat := 0x900020
abbrev OPT_LANE_SEL_PORT : Fld := ⟨rOPT_LANE_SEL, 11, 9⟩
abbrev OPT_LANE_SEL_XCVR : Fld := ⟨rOPT_LANE_SEL, 8, 4⟩
abbrev OPT_LANE_SEL_WL : Fld := ⟨rOPT_LANE_SEL, 3, 0⟩
abbrev rOPT_LANE_FFE : Nat := 0x900024
abbrev OPT_LANE_FFE_PRE : Fld := ⟨rOPT_LANE_FFE, 23, 16⟩
abbrev OPT_LANE_FFE_MAIN : Fld := ⟨rOPT_LANE_FFE, 15, 8⟩
abbrev OPT_LANE_FFE_POST : Fld := ⟨rOPT_LANE_FFE, 7, 0⟩
abbrev rOPT_BANK_CTRL (p : Nat) : Nat := 0x900100 + 32 * p
abbrev OPT_BANK_CTRL_ENABLE (p : Nat) : Fld := ⟨(rOPT_BANK_CTRL p), 0, 0⟩
abbrev rOPT_BANK_STATUS (p : Nat) : Nat := 0x900104 + 32 * p
abbrev OPT_BANK_STATUS_STATE (p : Nat) : Fld := ⟨(rOPT_BANK_STATUS p), 31, 29⟩
abbrev OPT_BANK_STATUS_HOT (p : Nat) : Fld := ⟨(rOPT_BANK_STATUS p), 28, 28⟩
abbrev OPT_BANK_STATUS_EOL (p : Nat) : Fld := ⟨(rOPT_BANK_STATUS p), 27, 27⟩
abbrev OPT_BANK_STATUS_LOST (p : Nat) : Fld := ⟨(rOPT_BANK_STATUS p), 26, 18⟩
abbrev OPT_BANK_STATUS_TEMP (p : Nat) : Fld := ⟨(rOPT_BANK_STATUS p), 15, 8⟩
abbrev rOPT_SPARE_STATUS (p : Nat) : Nat := 0x900108 + 32 * p
abbrev OPT_SPARE_STATUS_S1_STATE (p : Nat) : Fld := ⟨(rOPT_SPARE_STATUS p), 31, 29⟩
abbrev OPT_SPARE_STATUS_S1_FOR (p : Nat) : Fld := ⟨(rOPT_SPARE_STATUS p), 28, 25⟩
abbrev OPT_SPARE_STATUS_S1_RETURNED (p : Nat) : Fld := ⟨(rOPT_SPARE_STATUS p), 24, 24⟩
abbrev OPT_SPARE_STATUS_S0_STATE (p : Nat) : Fld := ⟨(rOPT_SPARE_STATUS p), 15, 13⟩
abbrev OPT_SPARE_STATUS_S0_FOR (p : Nat) : Fld := ⟨(rOPT_SPARE_STATUS p), 12, 9⟩
abbrev OPT_SPARE_STATUS_S0_RETURNED (p : Nat) : Fld := ⟨(rOPT_SPARE_STATUS p), 8, 8⟩
abbrev rOPT_EOL_CEIL (p : Nat) : Nat := 0x90010C + 32 * p
abbrev OPT_EOL_CEIL_CEIL (p : Nat) : Fld := ⟨(rOPT_EOL_CEIL p), 11, 0⟩
abbrev rOPT_LASER_STATUS (p : Nat) (j : Nat) : Nat := 0x900200 + 64 * p + 4 * j
abbrev OPT_LASER_STATUS_STATE (p : Nat) (j : Nat) : Fld := ⟨(rOPT_LASER_STATUS p j), 31, 29⟩
abbrev OPT_LASER_STATUS_RANGE (p : Nat) (j : Nat) : Fld := ⟨(rOPT_LASER_STATUS p j), 28, 28⟩
abbrev OPT_LASER_STATUS_BIAS (p : Nat) (j : Nat) : Fld := ⟨(rOPT_LASER_STATUS p j), 27, 16⟩
abbrev OPT_LASER_STATUS_POWER (p : Nat) (j : Nat) : Fld := ⟨(rOPT_LASER_STATUS p j), 15, 0⟩
abbrev rOPT_MON_VALUE (i : Nat) : Nat := 0x910000 + 4 * i
abbrev OPT_MON_VALUE_VALID (i : Nat) : Fld := ⟨(rOPT_MON_VALUE i), 31, 31⟩
abbrev OPT_MON_VALUE_INT (i : Nat) : Fld := ⟨(rOPT_MON_VALUE i), 30, 28⟩
abbrev OPT_MON_VALUE_POWER (i : Nat) : Fld := ⟨(rOPT_MON_VALUE i), 15, 0⟩

/-! 11_anneal_engine.md -/
abbrev rANL_CTRL : Nat := 0x800000
abbrev ANL_CTRL_CHATTER_MAX : Fld := ⟨rANL_CTRL, 31, 24⟩
abbrev ANL_CTRL_SWAP : Fld := ⟨rANL_CTRL, 11, 8⟩
abbrev ANL_CTRL_ENABLE : Fld := ⟨rANL_CTRL, 0, 0⟩
abbrev rANL_STATUS : Nat := 0x800004
abbrev ANL_STATUS_RUNNING : Fld := ⟨rANL_STATUS, 31, 31⟩
abbrev ANL_STATUS_ACTIVE_BANK : Fld := ⟨rANL_STATUS, 30, 27⟩
abbrev ANL_STATUS_SWAP_PENDING : Fld := ⟨rANL_STATUS, 26, 23⟩
abbrev ANL_STATUS_LOAD : Fld := ⟨rANL_STATUS, 22, 16⟩
abbrev ANL_STATUS_HOMING : Fld := ⟨rANL_STATUS, 15, 12⟩
abbrev ANL_STATUS_FAILED : Fld := ⟨rANL_STATUS, 11, 0⟩
abbrev rANL_FAULT_COUNT : Nat := 0x800008
abbrev ANL_FAULT_COUNT_COUNT : Fld := ⟨rANL_FAULT_COUNT, 31, 0⟩
abbrev rANL_FAULT_LOC : Nat := 0x80000C
abbrev ANL_FAULT_LOC_VALID : Fld := ⟨rANL_FAULT_LOC, 31, 31⟩
abbrev ANL_FAULT_LOC_KIND : Fld := ⟨rANL_FAULT_LOC, 30, 28⟩
abbrev ANL_FAULT_LOC_LOOP : Fld := ⟨rANL_FAULT_LOC, 27, 16⟩
abbrev ANL_FAULT_LOC_CODE : Fld := ⟨rANL_FAULT_LOC, 15, 0⟩
abbrev rANL_CAL_CTRL : Nat := 0x800010
abbrev ANL_CAL_CTRL_GO : Fld := ⟨rANL_CAL_CTRL, 31, 31⟩
abbrev ANL_CAL_CTRL_KIND : Fld := ⟨rANL_CAL_CTRL, 30, 28⟩
abbrev ANL_CAL_CTRL_PORT : Fld := ⟨rANL_CAL_CTRL, 27, 25⟩
abbrev rANL_CAL_STATUS : Nat := 0x800014
abbrev ANL_CAL_STATUS_DONE : Fld := ⟨rANL_CAL_STATUS, 31, 31⟩
abbrev ANL_CAL_STATUS_PENDING : Fld := ⟨rANL_CAL_STATUS, 30, 30⟩
abbrev ANL_CAL_STATUS_RUNNING : Fld := ⟨rANL_CAL_STATUS, 29, 29⟩
abbrev ANL_CAL_STATUS_AT_ONCE : Fld := ⟨rANL_CAL_STATUS, 28, 28⟩
abbrev ANL_CAL_STATUS_MOVED : Fld := ⟨rANL_CAL_STATUS, 27, 27⟩
abbrev ANL_CAL_STATUS_ST_FAIL : Fld := ⟨rANL_CAL_STATUS, 26, 26⟩
abbrev ANL_CAL_STATUS_BOUNDARY : Fld := ⟨rANL_CAL_STATUS, 25, 23⟩
abbrev rANL_CAL_TIME_LO : Nat := 0x800018
abbrev ANL_CAL_TIME_LO_TIME : Fld := ⟨rANL_CAL_TIME_LO, 31, 0⟩
abbrev rANL_CAL_TIME_HI : Nat := 0x80001C
abbrev ANL_CAL_TIME_HI_TIME : Fld := ⟨rANL_CAL_TIME_HI, 31, 0⟩
abbrev rANL_LOOP_SEL : Nat := 0x800020
abbrev ANL_LOOP_SEL_LOOP : Fld := ⟨rANL_LOOP_SEL, 11, 0⟩
abbrev rANL_LOOP_STATE : Nat := 0x800024
abbrev ANL_LOOP_STATE_STATE : Fld := ⟨rANL_LOOP_STATE, 31, 29⟩
abbrev ANL_LOOP_STATE_TONE : Fld := ⟨rANL_LOOP_STATE, 28, 25⟩
abbrev ANL_LOOP_STATE_SAT : Fld := ⟨rANL_LOOP_STATE, 24, 24⟩
abbrev ANL_LOOP_STATE_CODE : Fld := ⟨rANL_LOOP_STATE, 15, 0⟩
abbrev rANL_LOOP_SETPT : Nat := 0x800028
abbrev ANL_LOOP_SETPT_SETPT : Fld := ⟨rANL_LOOP_SETPT, 17, 0⟩
abbrev rANL_LOOP_GAIN : Nat := 0x80002C
abbrev ANL_LOOP_GAIN_VALID : Fld := ⟨rANL_LOOP_GAIN, 31, 31⟩
abbrev ANL_LOOP_GAIN_M : Fld := ⟨rANL_LOOP_GAIN, 23, 6⟩
abbrev ANL_LOOP_GAIN_E : Fld := ⟨rANL_LOOP_GAIN, 5, 0⟩
abbrev rANL_COEF (c : Nat) (b : Nat) (k : Nat) : Nat := 0x801000 + 256 * c + 128 * b + 4 * k
abbrev ANL_COEF_WORD (c : Nat) (b : Nat) (k : Nat) : Fld := ⟨(rANL_COEF c b k), 31, 0⟩
abbrev rTRM_CTRL : Nat := 0xE00000
abbrev TRM_CTRL_IDLE_EN : Fld := ⟨rTRM_CTRL, 0, 0⟩
abbrev rTRM_STATUS : Nat := 0xE00004
abbrev TRM_STATUS_PENDING : Fld := ⟨rTRM_STATUS, 31, 20⟩
abbrev TRM_STATUS_LAST : Fld := ⟨rTRM_STATUS, 19, 17⟩
abbrev rTRM_APPLY_TIME_LO : Nat := 0xE00008
abbrev TRM_APPLY_TIME_LO_TIME : Fld := ⟨rTRM_APPLY_TIME_LO, 31, 0⟩
abbrev rTRM_APPLY_TIME_HI : Nat := 0xE0000C
abbrev TRM_APPLY_TIME_HI_TIME : Fld := ⟨rTRM_APPLY_TIME_HI, 31, 0⟩
abbrev rTRM_LASER (p : Nat) (j : Nat) : Nat := 0xE01000 + 64 * p + 4 * j
abbrev TRM_LASER_PEND (p : Nat) (j : Nat) : Fld := ⟨(rTRM_LASER p j), 31, 31⟩
abbrev TRM_LASER_REQ (p : Nat) (j : Nat) : Fld := ⟨(rTRM_LASER p j), 28, 16⟩
abbrev TRM_LASER_RANGE (p : Nat) (j : Nat) : Fld := ⟨(rTRM_LASER p j), 15, 15⟩
abbrev TRM_LASER_CODE (p : Nat) (j : Nat) : Fld := ⟨(rTRM_LASER p j), 11, 0⟩
abbrev rTRM_RING (i : Nat) : Nat := 0xE02000 + 4 * i
abbrev TRM_RING_PEND (i : Nat) : Fld := ⟨(rTRM_RING i), 31, 31⟩
abbrev TRM_RING_REQ (i : Nat) : Fld := ⟨(rTRM_RING i), 25, 16⟩
abbrev TRM_RING_CODE (i : Nat) : Fld := ⟨(rTRM_RING i), 9, 0⟩
abbrev rTRM_SWING (i : Nat) : Nat := 0xE03000 + 4 * i
abbrev TRM_SWING_PEND (i : Nat) : Fld := ⟨(rTRM_SWING i), 31, 31⟩
abbrev TRM_SWING_REQ (i : Nat) : Fld := ⟨(rTRM_SWING i), 23, 16⟩
abbrev TRM_SWING_CODE (i : Nat) : Fld := ⟨(rTRM_SWING i), 7, 0⟩

/-! 12_sundial.md -/
abbrev rSDL_CTRL : Nat := 0xA00000
abbrev SDL_CTRL_SET_MST : Fld := ⟨rSDL_CTRL, 31, 31⟩
abbrev SDL_CTRL_MST_FROM_TOD : Fld := ⟨rSDL_CTRL, 30, 30⟩
abbrev SDL_CTRL_SET_TOD : Fld := ⟨rSDL_CTRL, 29, 29⟩
abbrev SDL_CTRL_VT_ZERO : Fld := ⟨rSDL_CTRL, 28, 28⟩
abbrev SDL_CTRL_VT_PLOT : Fld := ⟨rSDL_CTRL, 27, 24⟩
abbrev SDL_CTRL_TOD_SRC : Fld := ⟨rSDL_CTRL, 17, 16⟩
abbrev SDL_CTRL_ENABLE : Fld := ⟨rSDL_CTRL, 0, 0⟩
abbrev rSDL_STATUS : Nat := 0xA00004
abbrev SDL_STATUS_MST_STATE : Fld := ⟨rSDL_STATUS, 31, 29⟩
abbrev SDL_STATUS_TOD_STATE : Fld := ⟨rSDL_STATUS, 28, 27⟩
abbrev SDL_STATUS_SKEW_STATE : Fld := ⟨rSDL_STATUS, 26, 25⟩
abbrev SDL_STATUS_STEP_PENDING : Fld := ⟨rSDL_STATUS, 24, 24⟩
abbrev SDL_STATUS_MST_SEEN_VALID : Fld := ⟨rSDL_STATUS, 23, 23⟩
abbrev rSDL_MST_LO : Nat := 0xA00008
abbrev SDL_MST_LO_NS : Fld := ⟨rSDL_MST_LO, 31, 0⟩
abbrev rSDL_MST_HI : Nat := 0xA0000C
abbrev SDL_MST_HI_NS : Fld := ⟨rSDL_MST_HI, 31, 0⟩
abbrev rSDL_TOD_LO : Nat := 0xA00014
abbrev SDL_TOD_LO_NS : Fld := ⟨rSDL_TOD_LO, 31, 0⟩
abbrev rSDL_TOD_HI : Nat := 0xA00018
abbrev SDL_TOD_HI_NS : Fld := ⟨rSDL_TOD_HI, 31, 0⟩
abbrev rSDL_FREE_LO : Nat := 0xA00020
abbrev SDL_FREE_LO_NS : Fld := ⟨rSDL_FREE_LO, 31, 0⟩
abbrev rSDL_FREE_HI : Nat := 0xA00024
abbrev SDL_FREE_HI_NS : Fld := ⟨rSDL_FREE_HI, 31, 0⟩
abbrev rSDL_MST_FRAC : Nat := 0xA00010
abbrev SDL_MST_FRAC_FRAC : Fld := ⟨rSDL_MST_FRAC, 31, 0⟩
abbrev rSDL_TOD_FRAC : Nat := 0xA0001C
abbrev SDL_TOD_FRAC_FRAC : Fld := ⟨rSDL_TOD_FRAC, 31, 0⟩
abbrev rSDL_SET_LO : Nat := 0xA00028
abbrev SDL_SET_LO_NS : Fld := ⟨rSDL_SET_LO, 31, 0⟩
abbrev rSDL_SET_HI : Nat := 0xA0002C
abbrev SDL_SET_HI_NS : Fld := ⟨rSDL_SET_HI, 31, 0⟩
abbrev rSDL_OFFSET : Nat := 0xA00030
abbrev SDL_OFFSET_OFFSET : Fld := ⟨rSDL_OFFSET, 31, 0⟩
abbrev rSDL_RATE : Nat := 0xA00034
abbrev SDL_RATE_RATE : Fld := ⟨rSDL_RATE, 31, 0⟩
abbrev rSDL_SLOT_LEN : Nat := 0xA00038
abbrev SDL_SLOT_LEN_LEN : Fld := ⟨rSDL_SLOT_LEN, 12, 0⟩
abbrev rSDL_SLICE_SLOTS : Nat := 0xA0003C
abbrev SDL_SLICE_SLOTS_SLOTS : Fld := ⟨rSDL_SLICE_SLOTS, 23, 0⟩
abbrev rSDL_SKEW_THR : Nat := 0xA00040
abbrev SDL_SKEW_THR_FENCE : Fld := ⟨rSDL_SKEW_THR, 23, 16⟩
abbrev SDL_SKEW_THR_WARN : Fld := ⟨rSDL_SKEW_THR, 15, 8⟩
abbrev rSDL_UPSTREAM : Nat := 0xA00044
abbrev SDL_UPSTREAM_VALID : Fld := ⟨rSDL_UPSTREAM, 31, 31⟩
abbrev SDL_UPSTREAM_PORT : Fld := ⟨rSDL_UPSTREAM, 30, 28⟩
abbrev SDL_UPSTREAM_LINK : Fld := ⟨rSDL_UPSTREAM, 27, 23⟩
abbrev SDL_UPSTREAM_RELAYS : Fld := ⟨rSDL_UPSTREAM, 22, 17⟩
abbrev SDL_UPSTREAM_ORIGIN : Fld := ⟨rSDL_UPSTREAM, 16, 16⟩
abbrev rSDL_SVC_CFG : Nat := 0xA00048
abbrev SDL_SVC_CFG_DOMAIN : Fld := ⟨rSDL_SVC_CFG, 31, 24⟩
abbrev SDL_SVC_CFG_SVC_ASYM : Fld := ⟨rSDL_SVC_CFG, 15, 0⟩
abbrev rSDL_EVENT : Nat := 0xA0004C
abbrev SDL_EVENT_STEP : Fld := ⟨rSDL_EVENT, 31, 31⟩
abbrev SDL_EVENT_HOLDOVER : Fld := ⟨rSDL_EVENT, 30, 30⟩
abbrev SDL_EVENT_SKEW_FENCE : Fld := ⟨rSDL_EVENT, 29, 29⟩
abbrev SDL_EVENT_REF_MISMATCH : Fld := ⟨rSDL_EVENT, 28, 28⟩
abbrev SDL_EVENT_TOD_STEP : Fld := ⟨rSDL_EVENT, 27, 27⟩
abbrev SDL_EVENT_UPSTREAM_CHANGE : Fld := ⟨rSDL_EVENT, 26, 26⟩
abbrev rSDL_TPI_STATUS : Nat := 0xA00050
abbrev SDL_TPI_STATUS_OVERRUN : Fld := ⟨rSDL_TPI_STATUS, 5, 4⟩
abbrev SDL_TPI_STATUS_CAPTURED : Fld := ⟨rSDL_TPI_STATUS, 1, 0⟩
abbrev rSDL_ASYM (p : Nat) : Nat := 0xA00060 + 4 * p
abbrev SDL_ASYM_ASYM (p : Nat) : Fld := ⟨(rSDL_ASYM p), 15, 0⟩
abbrev rSDL_PEER (p : Nat) : Nat := 0xA00080 + 4 * p
abbrev SDL_PEER_VALID (p : Nat) : Fld := ⟨(rSDL_PEER p), 31, 31⟩
abbrev SDL_PEER_REF_MISMATCH (p : Nat) : Fld := ⟨(rSDL_PEER p), 30, 30⟩
abbrev SDL_PEER_PARTNER_LOCKED (p : Nat) : Fld := ⟨(rSDL_PEER p), 29, 29⟩
abbrev SDL_PEER_SKEW (p : Nat) : Fld := ⟨(rSDL_PEER p), 15, 0⟩
abbrev rSDL_TPO_CTRL (n : Nat) : Nat := 0xA00100 + 16 * n
abbrev SDL_TPO_CTRL_ENABLE (n : Nat) : Fld := ⟨(rSDL_TPO_CTRL n), 31, 31⟩
abbrev SDL_TPO_CTRL_BASE (n : Nat) : Fld := ⟨(rSDL_TPO_CTRL n), 30, 30⟩
abbrev SDL_TPO_CTRL_PERIODIC (n : Nat) : Fld := ⟨(rSDL_TPO_CTRL n), 29, 29⟩
abbrev SDL_TPO_CTRL_FIRED (n : Nat) : Fld := ⟨(rSDL_TPO_CTRL n), 28, 28⟩
abbrev SDL_TPO_CTRL_LATE (n : Nat) : Fld := ⟨(rSDL_TPO_CTRL n), 27, 27⟩
abbrev SDL_TPO_CTRL_WIDTH (n : Nat) : Fld := ⟨(rSDL_TPO_CTRL n), 15, 0⟩
abbrev rSDL_TPO_TIME_LO (n : Nat) : Nat := 0xA00104 + 16 * n
abbrev SDL_TPO_TIME_LO_NS (n : Nat) : Fld := ⟨(rSDL_TPO_TIME_LO n), 31, 0⟩
abbrev rSDL_TPO_TIME_HI (n : Nat) : Nat := 0xA00108 + 16 * n
abbrev SDL_TPO_TIME_HI_NS (n : Nat) : Fld := ⟨(rSDL_TPO_TIME_HI n), 31, 0⟩
abbrev rSDL_TPO_PERIOD (n : Nat) : Nat := 0xA0010C + 16 * n
abbrev SDL_TPO_PERIOD_PERIOD (n : Nat) : Fld := ⟨(rSDL_TPO_PERIOD n), 31, 0⟩
abbrev rSDL_TPI_MST_LO (n : Nat) : Nat := 0xA00140 + 16 * n
abbrev SDL_TPI_MST_LO_NS (n : Nat) : Fld := ⟨(rSDL_TPI_MST_LO n), 31, 0⟩
abbrev rSDL_TPI_MST_HI (n : Nat) : Nat := 0xA00144 + 16 * n
abbrev SDL_TPI_MST_HI_NS (n : Nat) : Fld := ⟨(rSDL_TPI_MST_HI n), 31, 0⟩
abbrev rSDL_TPI_TOD_LO (n : Nat) : Nat := 0xA00148 + 16 * n
abbrev SDL_TPI_TOD_LO_NS (n : Nat) : Fld := ⟨(rSDL_TPI_TOD_LO n), 31, 0⟩
abbrev rSDL_TPI_TOD_HI (n : Nat) : Nat := 0xA0014C + 16 * n
abbrev SDL_TPI_TOD_HI_NS (n : Nat) : Fld := ⟨(rSDL_TPI_TOD_HI n), 31, 0⟩
abbrev rSDL_VT_LO (n : Nat) : Nat := 0xA00200 + 8 * n
abbrev SDL_VT_LO_NS (n : Nat) : Fld := ⟨(rSDL_VT_LO n), 31, 0⟩
abbrev rSDL_VT_HI (n : Nat) : Nat := 0xA00204 + 8 * n
abbrev SDL_VT_HI_NS (n : Nat) : Fld := ⟨(rSDL_VT_HI n), 31, 0⟩
abbrev rSDL_ADT_SEL : Nat := 0xA00300
abbrev SDL_ADT_SEL_PORT : Fld := ⟨rSDL_ADT_SEL, 14, 12⟩
abbrev SDL_ADT_SEL_XCVR : Fld := ⟨rSDL_ADT_SEL, 11, 7⟩
abbrev SDL_ADT_SEL_ENTRY : Fld := ⟨rSDL_ADT_SEL, 3, 0⟩
abbrev rSDL_ADT_KEY : Nat := 0xA00304
abbrev SDL_ADT_KEY_VALID : Fld := ⟨rSDL_ADT_KEY, 31, 31⟩
abbrev SDL_ADT_KEY_LLINK : Fld := ⟨rSDL_ADT_KEY, 30, 27⟩
abbrev SDL_ADT_KEY_X : Fld := ⟨rSDL_ADT_KEY, 26, 23⟩
abbrev SDL_ADT_KEY_Y : Fld := ⟨rSDL_ADT_KEY, 22, 19⟩
abbrev SDL_ADT_KEY_Z : Fld := ⟨rSDL_ADT_KEY, 18, 16⟩
abbrev SDL_ADT_KEY_INTER : Fld := ⟨rSDL_ADT_KEY, 15, 13⟩
abbrev rSDL_ADT_DELAY : Nat := 0xA00308
abbrev SDL_ADT_DELAY_DELAY : Fld := ⟨rSDL_ADT_DELAY, 31, 0⟩

/-! 13_host_queues.md -/
abbrev rPLOT_Q_CTRL (n : Nat) : Nat := 0x100000 + 65536 * n
abbrev PLOT_Q_CTRL_CQ_EN (n : Nat) : Fld := ⟨(rPLOT_Q_CTRL n), 4, 4⟩
abbrev PLOT_Q_CTRL_SQ_EN (n : Nat) : Fld := ⟨(rPLOT_Q_CTRL n), 3, 0⟩
abbrev rPLOT_Q_STATUS (n : Nat) : Nat := 0x100004 + 65536 * n
abbrev PLOT_Q_STATUS_PAUSED (n : Nat) : Fld := ⟨(rPLOT_Q_STATUS n), 31, 31⟩
abbrev PLOT_Q_STATUS_IDLE (n : Nat) : Fld := ⟨(rPLOT_Q_STATUS n), 30, 30⟩
abbrev PLOT_Q_STATUS_HELD (n : Nat) : Fld := ⟨(rPLOT_Q_STATUS n), 27, 16⟩
abbrev PLOT_Q_STATUS_TAGS (n : Nat) : Fld := ⟨(rPLOT_Q_STATUS n), 10, 0⟩
abbrev rPLOT_CQ_BASE_LO (n : Nat) : Nat := 0x100008 + 65536 * n
abbrev PLOT_CQ_BASE_LO_ADDR_LO (n : Nat) : Fld := ⟨(rPLOT_CQ_BASE_LO n), 31, 12⟩
abbrev rPLOT_SQ_BASE_LO (n : Nat) (q : Nat) : Nat := 0x100040 + 65536 * n + 16 * q
abbrev PLOT_SQ_BASE_LO_ADDR_LO (n : Nat) (q : Nat) : Fld := ⟨(rPLOT_SQ_BASE_LO n q), 31, 12⟩
abbrev rPLOT_CQ_BASE_HI (n : Nat) : Nat := 0x10000C + 65536 * n
abbrev PLOT_CQ_BASE_HI_ADDR_HI (n : Nat) : Fld := ⟨(rPLOT_CQ_BASE_HI n), 31, 0⟩
abbrev rPLOT_SQ_BASE_HI (n : Nat) (q : Nat) : Nat := 0x100044 + 65536 * n + 16 * q
abbrev PLOT_SQ_BASE_HI_ADDR_HI (n : Nat) (q : Nat) : Fld := ⟨(rPLOT_SQ_BASE_HI n q), 31, 0⟩
abbrev rPLOT_CQ_CFG (n : Nat) : Nat := 0x100010 + 65536 * n
abbrev PLOT_CQ_CFG_VEC (n : Nat) : Fld := ⟨(rPLOT_CQ_CFG n), 31, 29⟩
abbrev PLOT_CQ_CFG_IRQ_EN (n : Nat) : Fld := ⟨(rPLOT_CQ_CFG n), 28, 28⟩
abbrev PLOT_CQ_CFG_SIZE_M1 (n : Nat) : Fld := ⟨(rPLOT_CQ_CFG n), 11, 0⟩
abbrev rPLOT_CQ_COAL (n : Nat) : Nat := 0x100014 + 65536 * n
abbrev PLOT_CQ_COAL_COUNT (n : Nat) : Fld := ⟨(rPLOT_CQ_COAL n), 15, 8⟩
abbrev PLOT_CQ_COAL_TIME (n : Nat) : Fld := ⟨(rPLOT_CQ_COAL n), 7, 0⟩
abbrev rPLOT_CREDIT_ADDR_LO (n : Nat) : Nat := 0x100018 + 65536 * n
abbrev PLOT_CREDIT_ADDR_LO_ADDR_LO (n : Nat) : Fld := ⟨(rPLOT_CREDIT_ADDR_LO n), 31, 6⟩
abbrev PLOT_CREDIT_ADDR_LO_CREDIT_EN (n : Nat) : Fld := ⟨(rPLOT_CREDIT_ADDR_LO n), 0, 0⟩
abbrev rPLOT_CREDIT_ADDR_HI (n : Nat) : Nat := 0x10001C + 65536 * n
abbrev PLOT_CREDIT_ADDR_HI_ADDR_HI (n : Nat) : Fld := ⟨(rPLOT_CREDIT_ADDR_HI n), 31, 0⟩
abbrev rPLOT_Q_ERR (n : Nat) : Nat := 0x100020 + 65536 * n
abbrev PLOT_Q_ERR_VALID (n : Nat) : Fld := ⟨(rPLOT_Q_ERR n), 31, 31⟩
abbrev PLOT_Q_ERR_KIND (n : Nat) : Fld := ⟨(rPLOT_Q_ERR n), 30, 28⟩
abbrev PLOT_Q_ERR_SQ (n : Nat) : Fld := ⟨(rPLOT_Q_ERR n), 27, 26⟩
abbrev rPLOT_CQ_STATE (n : Nat) : Nat := 0x100024 + 65536 * n
abbrev PLOT_CQ_STATE_PHASE (n : Nat) : Fld := ⟨(rPLOT_CQ_STATE n), 31, 31⟩
abbrev PLOT_CQ_STATE_TAIL (n : Nat) : Fld := ⟨(rPLOT_CQ_STATE n), 27, 16⟩
abbrev PLOT_CQ_STATE_HEAD (n : Nat) : Fld := ⟨(rPLOT_CQ_STATE n), 11, 0⟩
abbrev rPLOT_SQ_CFG (n : Nat) (q : Nat) : Nat := 0x100048 + 65536 * n + 16 * q
abbrev PLOT_SQ_CFG_SIZE_M1 (n : Nat) (q : Nat) : Fld := ⟨(rPLOT_SQ_CFG n q), 11, 0⟩
abbrev rPLOT_SQ_SEQ (n : Nat) (q : Nat) : Nat := 0x10004C + 65536 * n + 16 * q
abbrev PLOT_SQ_SEQ_EXP (n : Nat) (q : Nat) : Fld := ⟨(rPLOT_SQ_SEQ n q), 31, 0⟩
abbrev rPLOT_SQ_GRANT (n : Nat) (q : Nat) : Nat := 0x100080 + 65536 * n + 4 * q
abbrev PLOT_SQ_GRANT_GRANT (n : Nat) (q : Nat) : Fld := ⟨(rPLOT_SQ_GRANT n q), 31, 0⟩
abbrev rPLOT_SQ_HEAD (n : Nat) (q : Nat) : Nat := 0x100090 + 65536 * n + 4 * q
abbrev PLOT_SQ_HEAD_STAGED (n : Nat) (q : Nat) : Fld := ⟨(rPLOT_SQ_HEAD n q), 22, 16⟩
abbrev PLOT_SQ_HEAD_HEAD (n : Nat) (q : Nat) : Fld := ⟨(rPLOT_SQ_HEAD n q), 11, 0⟩
abbrev rGLB_PCIE_STATUS : Nat := 0x001000
abbrev GLB_PCIE_STATUS_RATE : Fld := ⟨rGLB_PCIE_STATUS, 31, 29⟩
abbrev GLB_PCIE_STATUS_WIDTH : Fld := ⟨rGLB_PCIE_STATUS, 28, 24⟩
abbrev GLB_PCIE_STATUS_FLIT : Fld := ⟨rGLB_PCIE_STATUS, 23, 23⟩
abbrev GLB_PCIE_STATUS_LINK_UP : Fld := ⟨rGLB_PCIE_STATUS, 22, 22⟩
abbrev GLB_PCIE_STATUS_DEGRADED : Fld := ⟨rGLB_PCIE_STATUS, 21, 21⟩
abbrev GLB_PCIE_STATUS_DOWN_COUNT : Fld := ⟨rGLB_PCIE_STATUS, 15, 0⟩
abbrev rGLB_TAG_STATUS : Nat := 0x001004
abbrev GLB_TAG_STATUS_IN_USE : Fld := ⟨rGLB_TAG_STATUS, 26, 16⟩
abbrev GLB_TAG_STATUS_LIMIT : Fld := ⟨rGLB_TAG_STATUS, 10, 0⟩
abbrev rGLB_TAG_FLOOR : Nat := 0x001008
abbrev GLB_TAG_FLOOR_FLOOR : Fld := ⟨rGLB_TAG_FLOOR, 6, 0⟩
abbrev rGLB_APER_BASE : Nat := 0x00100C
abbrev GLB_APER_BASE_BASE : Fld := ⟨rGLB_APER_BASE, 8, 0⟩
abbrev rGLB_SFIFO_CTRL : Nat := 0x001010
abbrev GLB_SFIFO_CTRL_HIGH : Fld := ⟨rGLB_SFIFO_CTRL, 24, 16⟩
abbrev GLB_SFIFO_CTRL_LOW : Fld := ⟨rGLB_SFIFO_CTRL, 8, 0⟩
abbrev rGLB_SFIFO_STATUS : Nat := 0x001014
abbrev GLB_SFIFO_STATUS_UNDERRUN : Fld := ⟨rGLB_SFIFO_STATUS, 31, 31⟩
abbrev GLB_SFIFO_STATUS_HOLD : Fld := ⟨rGLB_SFIFO_STATUS, 30, 30⟩
abbrev GLB_SFIFO_STATUS_LOST : Fld := ⟨rGLB_SFIFO_STATUS, 29, 29⟩
abbrev GLB_SFIFO_STATUS_FILL : Fld := ⟨rGLB_SFIFO_STATUS, 24, 16⟩
abbrev GLB_SFIFO_STATUS_DROPPED : Fld := ⟨rGLB_SFIFO_STATUS, 15, 0⟩
abbrev rGLB_SFIFO_LAST : Nat := 0x001018
abbrev GLB_SFIFO_LAST_ENTRY : Fld := ⟨rGLB_SFIFO_LAST, 31, 0⟩
abbrev rGLB_SB_CFG : Nat := 0x00101C
abbrev GLB_SB_CFG_I3C : Fld := ⟨rGLB_SB_CFG, 8, 8⟩
abbrev GLB_SB_CFG_I3C_IBI_EN : Fld := ⟨rGLB_SB_CFG, 7, 7⟩
abbrev GLB_SB_CFG_SMB_ADDR : Fld := ⟨rGLB_SB_CFG, 6, 0⟩

/-! 14_plots_isolation.md -/
abbrev rSEQ_SLICE_CTRL : Nat := 0x200100
abbrev SEQ_SLICE_CTRL_ENABLE : Fld := ⟨rSEQ_SLICE_CTRL, 31, 31⟩
abbrev SEQ_SLICE_CTRL_DRAIN : Fld := ⟨rSEQ_SLICE_CTRL, 23, 16⟩
abbrev SEQ_SLICE_CTRL_LEN_M1 : Fld := ⟨rSEQ_SLICE_CTRL, 5, 0⟩
abbrev rSEQ_SLICE_STATUS : Nat := 0x200104
abbrev SEQ_SLICE_STATUS_PLOT : Fld := ⟨rSEQ_SLICE_STATUS, 31, 28⟩
abbrev SEQ_SLICE_STATUS_IDLE : Fld := ⟨rSEQ_SLICE_STATUS, 27, 27⟩
abbrev SEQ_SLICE_STATUS_DRAINING : Fld := ⟨rSEQ_SLICE_STATUS, 26, 26⟩
abbrev SEQ_SLICE_STATUS_ENTRY : Fld := ⟨rSEQ_SLICE_STATUS, 25, 20⟩
abbrev SEQ_SLICE_STATUS_FORCED : Fld := ⟨rSEQ_SLICE_STATUS, 15, 0⟩
abbrev rSEQ_ISO_CTRL : Nat := 0x200108
abbrev SEQ_ISO_CTRL_ISO_EN : Fld := ⟨rSEQ_ISO_CTRL, 31, 31⟩
abbrev SEQ_ISO_CTRL_ISO_ON : Fld := ⟨rSEQ_ISO_CTRL, 30, 30⟩
abbrev SEQ_ISO_CTRL_REASON : Fld := ⟨rSEQ_ISO_CTRL, 29, 27⟩
abbrev rSEQ_SLICE_TAB (k : Nat) : Nat := 0x200200 + 4 * k
abbrev SEQ_SLICE_TAB_VALID (k : Nat) : Fld := ⟨(rSEQ_SLICE_TAB k), 31, 31⟩
abbrev SEQ_SLICE_TAB_PLOT (k : Nat) : Fld := ⟨(rSEQ_SLICE_TAB k), 3, 0⟩
abbrev rPLOT_CTRL (n : Nat) : Nat := 0x101000 + 65536 * n
abbrev PLOT_CTRL_CLOSE (n : Nat) : Fld := ⟨(rPLOT_CTRL n), 1, 1⟩
abbrev PLOT_CTRL_OPEN (n : Nat) : Fld := ⟨(rPLOT_CTRL n), 0, 0⟩
abbrev rPLOT_STATUS (n : Nat) : Nat := 0x101004 + 65536 * n
abbrev PLOT_STATUS_STATE (n : Nat) : Fld := ⟨(rPLOT_STATUS n), 31, 30⟩
abbrev PLOT_STATUS_RUNNABLE (n : Nat) : Fld := ⟨(rPLOT_STATUS n), 29, 29⟩
abbrev PLOT_STATUS_RUNNING (n : Nat) : Fld := ⟨(rPLOT_STATUS n), 28, 28⟩
abbrev PLOT_STATUS_LOADING (n : Nat) : Fld := ⟨(rPLOT_STATUS n), 27, 27⟩
abbrev PLOT_STATUS_DEFERRED (n : Nat) : Fld := ⟨(rPLOT_STATUS n), 26, 26⟩
abbrev rMTR_CTRL : Nat := 0xD00000
abbrev MTR_CTRL_ENABLE : Fld := ⟨rMTR_CTRL, 31, 31⟩
abbrev MTR_CTRL_PERIOD : Fld := ⟨rMTR_CTRL, 15, 0⟩
abbrev rMTR_STATUS : Nat := 0xD00004
abbrev MTR_STATUS_PENDING : Fld := ⟨rMTR_STATUS, 15, 0⟩
abbrev rMTR_RING_BASE_LO : Nat := 0xD00008
abbrev MTR_RING_BASE_LO_ADDR_LO : Fld := ⟨rMTR_RING_BASE_LO, 31, 12⟩
abbrev rMTR_RING_BASE_HI : Nat := 0xD0000C
abbrev MTR_RING_BASE_HI_ADDR_HI : Fld := ⟨rMTR_RING_BASE_HI, 31, 0⟩
abbrev rMTR_RING_CFG : Nat := 0xD00010
abbrev MTR_RING_CFG_RING_EN : Fld := ⟨rMTR_RING_CFG, 31, 31⟩
abbrev MTR_RING_CFG_SIZE_LOG2 : Fld := ⟨rMTR_RING_CFG, 3, 0⟩
abbrev rMTR_RING_HEAD : Nat := 0xD00014
abbrev MTR_RING_HEAD_HEAD : Fld := ⟨rMTR_RING_HEAD, 11, 0⟩
abbrev rMTR_RING_TAIL : Nat := 0xD00018
abbrev MTR_RING_TAIL_TAIL : Fld := ⟨rMTR_RING_TAIL, 11, 0⟩
abbrev rMTR_CNT_LO (n : Nat) (k : Nat) : Nat := 0xD01000 + 64 * n + 8 * k
abbrev MTR_CNT_LO_COUNT (n : Nat) (k : Nat) : Fld := ⟨(rMTR_CNT_LO n k), 31, 0⟩
abbrev rMTR_CNT_HI (n : Nat) (k : Nat) : Nat := 0xD01004 + 64 * n + 8 * k
abbrev MTR_CNT_HI_COUNT (n : Nat) (k : Nat) : Fld := ⟨(rMTR_CNT_HI n k), 31, 0⟩

/-! 15_faults.md -/
abbrev rPLOT_FAULT_CFG (n : Nat) : Nat := 0x101010 + 65536 * n
abbrev PLOT_FAULT_CFG_IRQ_EN (n : Nat) : Fld := ⟨(rPLOT_FAULT_CFG n), 11, 11⟩
abbrev PLOT_FAULT_CFG_VEC (n : Nat) : Fld := ⟨(rPLOT_FAULT_CFG n), 10, 8⟩
abbrev PLOT_FAULT_CFG_STOP (n : Nat) : Fld := ⟨(rPLOT_FAULT_CFG n), 7, 1⟩
abbrev rPLOT_FAULT_STATUS (n : Nat) : Nat := 0x101014 + 65536 * n
abbrev PLOT_FAULT_STATUS_AUTO_ABORT (n : Nat) : Fld := ⟨(rPLOT_FAULT_STATUS n), 31, 31⟩
abbrev PLOT_FAULT_STATUS_ABORTING (n : Nat) : Fld := ⟨(rPLOT_FAULT_STATUS n), 30, 30⟩
abbrev PLOT_FAULT_STATUS_CLASS (n : Nat) : Fld := ⟨(rPLOT_FAULT_STATUS n), 8, 1⟩
abbrev rPLOT_FAULT_FIRST (n : Nat) : Nat := 0x101018 + 65536 * n
abbrev PLOT_FAULT_FIRST_VALID (n : Nat) : Fld := ⟨(rPLOT_FAULT_FIRST n), 31, 31⟩
abbrev PLOT_FAULT_FIRST_CLASS (n : Nat) : Fld := ⟨(rPLOT_FAULT_FIRST n), 30, 27⟩
abbrev PLOT_FAULT_FIRST_CODE (n : Nat) : Fld := ⟨(rPLOT_FAULT_FIRST n), 26, 19⟩
abbrev PLOT_FAULT_FIRST_PC (n : Nat) : Fld := ⟨(rPLOT_FAULT_FIRST n), 14, 0⟩
abbrev rPLOT_FAULT_COUNT (n : Nat) : Nat := 0x10101C + 65536 * n
abbrev PLOT_FAULT_COUNT_COUNT (n : Nat) : Fld := ⟨(rPLOT_FAULT_COUNT n), 31, 0⟩
abbrev rGLB_HALT_CTRL : Nat := 0x002000
abbrev GLB_HALT_CTRL_RESUME : Fld := ⟨rGLB_HALT_CTRL, 1, 1⟩
abbrev GLB_HALT_CTRL_HALT_ALL : Fld := ⟨rGLB_HALT_CTRL, 0, 0⟩
abbrev rGLB_HALT_STATUS : Nat := 0x002004
abbrev GLB_HALT_STATUS_HALTED : Fld := ⟨rGLB_HALT_STATUS, 31, 31⟩
abbrev GLB_HALT_STATUS_HALTING : Fld := ⟨rGLB_HALT_STATUS, 30, 30⟩
abbrev GLB_HALT_STATUS_CAUSE : Fld := ⟨rGLB_HALT_STATUS, 29, 27⟩
abbrev GLB_HALT_STATUS_LAST_DUR : Fld := ⟨rGLB_HALT_STATUS, 15, 0⟩
abbrev rGLB_THERM_STATUS : Nat := 0x002008
abbrev GLB_THERM_STATUS_STATE_A : Fld := ⟨rGLB_THERM_STATUS, 31, 30⟩
abbrev GLB_THERM_STATUS_STATE_B : Fld := ⟨rGLB_THERM_STATUS, 29, 28⟩
abbrev GLB_THERM_STATUS_STATE_HBM : Fld := ⟨rGLB_THERM_STATUS, 27, 26⟩
abbrev GLB_THERM_STATUS_TRIPPED : Fld := ⟨rGLB_THERM_STATUS, 25, 25⟩
abbrev GLB_THERM_STATUS_THROTTLE : Fld := ⟨rGLB_THERM_STATUS, 24, 24⟩
abbrev GLB_THERM_STATUS_TJ_A : Fld := ⟨rGLB_THERM_STATUS, 23, 16⟩
abbrev GLB_THERM_STATUS_TJ_B : Fld := ⟨rGLB_THERM_STATUS, 15, 8⟩
abbrev rGLB_THERM_CFG : Nat := 0x00200C
abbrev GLB_THERM_CFG_TJ_WARN : Fld := ⟨rGLB_THERM_CFG, 7, 0⟩
abbrev rGLB_WDOG_STATUS : Nat := 0x002010
abbrev GLB_WDOG_STATUS_EXPIRIES : Fld := ⟨rGLB_WDOG_STATUS, 15, 0⟩
abbrev rGLB_INJ_CTRL : Nat := 0x002020
abbrev GLB_INJ_CTRL_ARM : Fld := ⟨rGLB_INJ_CTRL, 31, 31⟩
abbrev GLB_INJ_CTRL_BUSY : Fld := ⟨rGLB_INJ_CTRL, 30, 30⟩
abbrev GLB_INJ_CTRL_DONE : Fld := ⟨rGLB_INJ_CTRL, 29, 29⟩
abbrev GLB_INJ_CTRL_KIND : Fld := ⟨rGLB_INJ_CTRL, 27, 24⟩
abbrev GLB_INJ_CTRL_TARGET : Fld := ⟨rGLB_INJ_CTRL, 23, 0⟩
abbrev rGLB_INJ_ADDR_LO : Nat := 0x002024
abbrev GLB_INJ_ADDR_LO_ADDR : Fld := ⟨rGLB_INJ_ADDR_LO, 31, 0⟩
abbrev rGLB_INJ_ADDR_HI : Nat := 0x002028
abbrev GLB_INJ_ADDR_HI_ADDR : Fld := ⟨rGLB_INJ_ADDR_HI, 31, 0⟩

/-! 16_hallmark_replay.md -/
abbrev rHMK_CTRL : Nat := 0xB00000
abbrev HMK_CTRL_SNAP_NOW : Fld := ⟨rHMK_CTRL, 2, 2⟩
abbrev HMK_CTRL_FREEZE : Fld := ⟨rHMK_CTRL, 1, 1⟩
abbrev HMK_CTRL_ENABLE : Fld := ⟨rHMK_CTRL, 0, 0⟩
abbrev rHMK_STATUS : Nat := 0xB00004
abbrev HMK_STATUS_PRESERVED : Fld := ⟨rHMK_STATUS, 31, 31⟩
abbrev HMK_STATUS_CLEARING : Fld := ⟨rHMK_STATUS, 30, 30⟩
abbrev HMK_STATUS_FAULT_BUSY : Fld := ⟨rHMK_STATUS, 29, 29⟩
abbrev HMK_STATUS_TRACE_BUSY : Fld := ⟨rHMK_STATUS, 28, 28⟩
abbrev rHMK_TRIG_CFG : Nat := 0xB00008
abbrev HMK_TRIG_CFG_ROUTE : Fld := ⟨rHMK_TRIG_CFG, 11, 0⟩
abbrev rHMK_FAULT_MASK : Nat := 0xB0000C
abbrev HMK_FAULT_MASK_FLUSH : Fld := ⟨rHMK_FAULT_MASK, 31, 16⟩
abbrev HMK_FAULT_MASK_SNAP : Fld := ⟨rHMK_FAULT_MASK, 15, 0⟩
abbrev rHMK_PERIOD : Nat := 0xB00010
abbrev HMK_PERIOD_PERIOD : Fld := ⟨rHMK_PERIOD, 31, 0⟩
abbrev rHMK_FCUR : Nat := 0xB00014
abbrev HMK_FCUR_SLOT : Fld := ⟨rHMK_FCUR, 12, 0⟩
abbrev rHMK_TCUR : Nat := 0xB00018
abbrev HMK_TCUR_SLOT : Fld := ⟨rHMK_TCUR, 12, 0⟩
abbrev rHMK_DROP_COUNT : Nat := 0xB0001C
abbrev HMK_DROP_COUNT_COUNT : Fld := ⟨rHMK_DROP_COUNT, 31, 0⟩
abbrev rHMK_FAULT_STATUS : Nat := 0xB00020
abbrev HMK_FAULT_STATUS_THEAD : Fld := ⟨rHMK_FAULT_STATUS, 28, 16⟩
abbrev HMK_FAULT_STATUS_HEAD : Fld := ⟨rHMK_FAULT_STATUS, 9, 0⟩
abbrev rHMK_FLUSH_STATUS : Nat := 0xB00024
abbrev HMK_FLUSH_STATUS_RUNNING : Fld := ⟨rHMK_FLUSH_STATUS, 31, 31⟩
abbrev HMK_FLUSH_STATUS_WAITING : Fld := ⟨rHMK_FLUSH_STATUS, 30, 30⟩
abbrev HMK_FLUSH_STATUS_PAUSED : Fld := ⟨rHMK_FLUSH_STATUS, 29, 29⟩
abbrev HMK_FLUSH_STATUS_DONE : Fld := ⟨rHMK_FLUSH_STATUS, 28, 28⟩
abbrev HMK_FLUSH_STATUS_SLOT : Fld := ⟨rHMK_FLUSH_STATUS, 27, 27⟩
abbrev HMK_FLUSH_STATUS_CAUSE : Fld := ⟨rHMK_FLUSH_STATUS, 26, 25⟩
abbrev HMK_FLUSH_STATUS_RECORDS : Fld := ⟨rHMK_FLUSH_STATUS, 10, 0⟩
abbrev rHMK_CAP_BASE : Nat := 0xB00028
abbrev HMK_CAP_BASE_BASE : Fld := ⟨rHMK_CAP_BASE, 18, 0⟩
abbrev rHMK_CAP_CFG : Nat := 0xB0002C
abbrev HMK_CAP_CFG_CAP_EN : Fld := ⟨rHMK_CAP_CFG, 31, 31⟩
abbrev HMK_CAP_CFG_REPLAY : Fld := ⟨rHMK_CAP_CFG, 30, 30⟩
abbrev HMK_CAP_CFG_FLITDATA : Fld := ⟨rHMK_CAP_CFG, 29, 29⟩
abbrev HMK_CAP_CFG_CAP_PLOT : Fld := ⟨rHMK_CAP_CFG, 28, 25⟩
abbrev HMK_CAP_CFG_CAP_SIZE : Fld := ⟨rHMK_CAP_CFG, 15, 0⟩
abbrev rHMK_CAP_STATUS : Nat := 0xB00030
abbrev HMK_CAP_STATUS_STOP : Fld := ⟨rHMK_CAP_STATUS, 31, 29⟩
abbrev HMK_CAP_STATUS_USED : Fld := ⟨rHMK_CAP_STATUS, 28, 0⟩
abbrev rHMK_RPL_STATUS : Nat := 0xB00034
abbrev HMK_RPL_STATUS_VALID : Fld := ⟨rHMK_RPL_STATUS, 31, 31⟩
abbrev HMK_RPL_STATUS_KIND : Fld := ⟨rHMK_RPL_STATUS, 30, 28⟩
abbrev HMK_RPL_STATUS_REC : Fld := ⟨rHMK_RPL_STATUS, 27, 0⟩
abbrev rHMK_SET0 (k : Nat) : Nat := 0xB00400 + 4 * k
abbrev HMK_SET0_VALID (k : Nat) : Fld := ⟨(rHMK_SET0 k), 31, 31⟩
abbrev HMK_SET0_OFFSET (k : Nat) : Fld := ⟨(rHMK_SET0 k), 27, 2⟩
abbrev rHMK_SET1 (k : Nat) : Nat := 0xB00800 + 4 * k
abbrev HMK_SET1_VALID (k : Nat) : Fld := ⟨(rHMK_SET1 k), 31, 31⟩
abbrev HMK_SET1_OFFSET (k : Nat) : Fld := ⟨(rHMK_SET1 k), 27, 2⟩
abbrev rHMK_FWIN (k : Nat) : Nat := 0xB10000 + 4 * k
abbrev HMK_FWIN_WORD (k : Nat) : Fld := ⟨(rHMK_FWIN k), 31, 0⟩
abbrev rHMK_TWIN (k : Nat) : Nat := 0xB10400 + 4 * k
abbrev HMK_TWIN_WORD (k : Nat) : Fld := ⟨(rHMK_TWIN k), 31, 0⟩

/-! 17_firmware.md -/
abbrev rFWU_CTRL : Nat := 0xC00000
abbrev FWU_CTRL_CRUCIBLE : Fld := ⟨rFWU_CTRL, 4, 4⟩
abbrev FWU_CTRL_REJECT : Fld := ⟨rFWU_CTRL, 3, 3⟩
abbrev FWU_CTRL_CONFIRM : Fld := ⟨rFWU_CTRL, 2, 2⟩
abbrev FWU_CTRL_RESET_NOW : Fld := ⟨rFWU_CTRL, 1, 1⟩
abbrev FWU_CTRL_ACTIVATE : Fld := ⟨rFWU_CTRL, 0, 0⟩
abbrev rFWU_STATUS : Nat := 0xC00004
abbrev FWU_STATUS_AUTHENTIC : Fld := ⟨rFWU_STATUS, 31, 31⟩
abbrev FWU_STATUS_TRIAL : Fld := ⟨rFWU_STATUS, 30, 30⟩
abbrev FWU_STATUS_ACTIVE_SLOT : Fld := ⟨rFWU_STATUS, 29, 29⟩
abbrev FWU_STATUS_ALT_VALID : Fld := ⟨rFWU_STATUS, 28, 28⟩
abbrev FWU_STATUS_FALLBACK : Fld := ⟨rFWU_STATUS, 27, 27⟩
abbrev FWU_STATUS_FB_CAUSE : Fld := ⟨rFWU_STATUS, 26, 24⟩
abbrev FWU_STATUS_TRIAL_BOOTS : Fld := ⟨rFWU_STATUS, 23, 22⟩
abbrev FWU_STATUS_MIGRATED : Fld := ⟨rFWU_STATUS, 21, 21⟩
abbrev rFWU_RUN_VER : Nat := 0xC00008
abbrev FWU_RUN_VER_VERSION : Fld := ⟨rFWU_RUN_VER, 31, 0⟩
abbrev rFWU_ALT_VER : Nat := 0xC0000C
abbrev FWU_ALT_VER_VERSION : Fld := ⟨rFWU_ALT_VER, 31, 0⟩
abbrev rFWU_TRIAL : Nat := 0xC00010
abbrev FWU_TRIAL_LEFT : Fld := ⟨rFWU_TRIAL, 15, 0⟩
abbrev rFWU_UPD_STATUS : Nat := 0xC00014
abbrev FWU_UPD_STATUS_STATE : Fld := ⟨rFWU_UPD_STATUS, 31, 29⟩
abbrev FWU_UPD_STATUS_REASON : Fld := ⟨rFWU_UPD_STATUS, 28, 25⟩
abbrev FWU_UPD_STATUS_KIB : Fld := ⟨rFWU_UPD_STATUS, 15, 0⟩
abbrev rFWU_CAL_STATUS : Nat := 0xC00018
abbrev FWU_CAL_STATUS_VALID : Fld := ⟨rFWU_CAL_STATUS, 31, 31⟩
abbrev FWU_CAL_STATUS_COPY : Fld := ⟨rFWU_CAL_STATUS, 30, 30⟩
abbrev FWU_CAL_STATUS_OTHER_VALID : Fld := ⟨rFWU_CAL_STATUS, 29, 29⟩
abbrev rFWU_SEC : Nat := 0xC0001C
abbrev FWU_SEC_FLOOR : Fld := ⟨rFWU_SEC, 15, 8⟩
abbrev FWU_SEC_REVOKED : Fld := ⟨rFWU_SEC, 3, 2⟩
abbrev FWU_SEC_PRESENT : Fld := ⟨rFWU_SEC, 1, 0⟩
abbrev rFWU_SVC_ADDR : Nat := 0xC00020
abbrev FWU_SVC_ADDR_ADDR : Fld := ⟨rFWU_SVC_ADDR, 31, 0⟩
abbrev rFWU_SVC_CFG : Nat := 0xC00024
abbrev FWU_SVC_CFG_LINK_UP : Fld := ⟨rFWU_SVC_CFG, 31, 31⟩
abbrev FWU_SVC_CFG_PREFIX : Fld := ⟨rFWU_SVC_CFG, 5, 0⟩
abbrev rFWU_CAL_GEN : Nat := 0xC00028
abbrev FWU_CAL_GEN_GEN : Fld := ⟨rFWU_CAL_GEN, 31, 0⟩

/-! 18_power_reset_clocks.md -/
abbrev rGLB_RESET_CTRL : Nat := 0x003000
abbrev GLB_RESET_CTRL_KEY : Fld := ⟨rGLB_RESET_CTRL, 31, 16⟩
abbrev GLB_RESET_CTRL_FW_RESET : Fld := ⟨rGLB_RESET_CTRL, 0, 0⟩
abbrev rGLB_RESET_CAUSE : Nat := 0x003004
abbrev GLB_RESET_CAUSE_POR : Fld := ⟨rGLB_RESET_CAUSE, 31, 31⟩
abbrev GLB_RESET_CAUSE_PIN : Fld := ⟨rGLB_RESET_CAUSE, 30, 30⟩
abbrev GLB_RESET_CAUSE_FIRMWARE : Fld := ⟨rGLB_RESET_CAUSE, 29, 29⟩
abbrev GLB_RESET_CAUSE_PWR_DOWN : Fld := ⟨rGLB_RESET_CAUSE, 28, 28⟩
abbrev GLB_RESET_CAUSE_REF_LOST : Fld := ⟨rGLB_RESET_CAUSE, 27, 27⟩
abbrev GLB_RESET_CAUSE_TRIP : Fld := ⟨rGLB_RESET_CAUSE, 26, 26⟩
abbrev GLB_RESET_CAUSE_PIN_COUNT : Fld := ⟨rGLB_RESET_CAUSE, 15, 0⟩
abbrev rGLB_CLK_STATUS : Nat := 0x003008
abbrev GLB_CLK_STATUS_REF_VALID : Fld := ⟨rGLB_CLK_STATUS, 31, 31⟩
abbrev GLB_CLK_STATUS_AON_STEERED : Fld := ⟨rGLB_CLK_STATUS, 30, 30⟩
abbrev GLB_CLK_STATUS_PLL_C_LOCK : Fld := ⟨rGLB_CLK_STATUS, 29, 29⟩
abbrev GLB_CLK_STATUS_PLL_S_LOCK : Fld := ⟨rGLB_CLK_STATUS, 28, 28⟩
abbrev GLB_CLK_STATUS_PLL_P_LOCK : Fld := ⟨rGLB_CLK_STATUS, 27, 27⟩
abbrev GLB_CLK_STATUS_PLL_L_LOCK : Fld := ⟨rGLB_CLK_STATUS, 26, 26⟩
abbrev GLB_CLK_STATUS_PLL_H_LOCK : Fld := ⟨rGLB_CLK_STATUS, 25, 18⟩
abbrev rGLB_STARTUP_STATUS : Nat := 0x00300C
abbrev GLB_STARTUP_STATUS_STAGE : Fld := ⟨rGLB_STARTUP_STATUS, 31, 28⟩
abbrev GLB_STARTUP_STATUS_WAIT_ROLES : Fld := ⟨rGLB_STARTUP_STATUS, 27, 27⟩
abbrev GLB_STARTUP_STATUS_WAIT_REPLAN : Fld := ⟨rGLB_STARTUP_STATUS, 26, 26⟩
abbrev GLB_STARTUP_STATUS_WAIT_TIME : Fld := ⟨rGLB_STARTUP_STATUS, 25, 25⟩
abbrev GLB_STARTUP_STATUS_STAGE_MS : Fld := ⟨rGLB_STARTUP_STATUS, 15, 0⟩

/-! 20_register_map.md -/
abbrev rGLB_ID : Nat := 0x000000
abbrev GLB_ID_PART : Fld := ⟨rGLB_ID, 31, 16⟩
abbrev GLB_ID_STEP_LETTER : Fld := ⟨rGLB_ID, 15, 8⟩
abbrev GLB_ID_STEP_DIGIT : Fld := ⟨rGLB_ID, 7, 0⟩
abbrev rGLB_IANA : Nat := 0x000004
abbrev GLB_IANA_ENTERPRISE : Fld := ⟨rGLB_IANA, 31, 0⟩
abbrev rGLB_SERIAL_LO : Nat := 0x000008
abbrev GLB_SERIAL_LO_SERIAL : Fld := ⟨rGLB_SERIAL_LO, 31, 0⟩
abbrev rGLB_SERIAL_HI : Nat := 0x00000C
abbrev GLB_SERIAL_HI_SERIAL : Fld := ⟨rGLB_SERIAL_HI, 31, 0⟩
abbrev rGLB_STATUS : Nat := 0x000020
abbrev GLB_STATUS_READY : Fld := ⟨rGLB_STATUS, 31, 31⟩
abbrev GLB_STATUS_DEGRADED : Fld := ⟨rGLB_STATUS, 30, 30⟩
abbrev GLB_STATUS_HALTED : Fld := ⟨rGLB_STATUS, 29, 29⟩
abbrev GLB_STATUS_TRIPPED : Fld := ⟨rGLB_STATUS, 28, 28⟩
abbrev GLB_STATUS_ISO_ON : Fld := ⟨rGLB_STATUS, 27, 27⟩
abbrev GLB_STATUS_AUTHENTIC : Fld := ⟨rGLB_STATUS, 26, 26⟩
abbrev GLB_STATUS_TRIAL : Fld := ⟨rGLB_STATUS, 25, 25⟩
abbrev GLB_STATUS_MST_VALID : Fld := ⟨rGLB_STATUS, 24, 24⟩
abbrev GLB_STATUS_QUARANTINE : Fld := ⟨rGLB_STATUS, 23, 23⟩
abbrev GLB_STATUS_FENCED : Fld := ⟨rGLB_STATUS, 22, 22⟩
abbrev GLB_STATUS_PORTS_UP : Fld := ⟨rGLB_STATUS, 21, 16⟩
abbrev GLB_STATUS_PLOTS_OPEN : Fld := ⟨rGLB_STATUS, 15, 0⟩
abbrev rGLB_ERR_LOC : Nat := 0x000100
abbrev GLB_ERR_LOC_VALID : Fld := ⟨rGLB_ERR_LOC, 31, 31⟩
abbrev GLB_ERR_LOC_KIND : Fld := ⟨rGLB_ERR_LOC, 30, 28⟩
abbrev GLB_ERR_LOC_SRC : Fld := ⟨rGLB_ERR_LOC, 27, 26⟩
abbrev GLB_ERR_LOC_FUNC : Fld := ⟨rGLB_ERR_LOC, 25, 21⟩
abbrev rGLB_ERR_OFFSET : Nat := 0x000104
abbrev GLB_ERR_OFFSET_OFFSET : Fld := ⟨rGLB_ERR_OFFSET, 27, 0⟩
abbrev rGLB_ERR_COUNT : Nat := 0x000108
abbrev GLB_ERR_COUNT_COUNT : Fld := ⟨rGLB_ERR_COUNT, 31, 0⟩
abbrev rGLB_NODE : Nat := 0x000200
abbrev GLB_NODE_VALID : Fld := ⟨rGLB_NODE, 31, 31⟩
abbrev GLB_NODE_Z : Fld := ⟨rGLB_NODE, 10, 8⟩
abbrev GLB_NODE_Y : Fld := ⟨rGLB_NODE, 7, 4⟩
abbrev GLB_NODE_X : Fld := ⟨rGLB_NODE, 3, 0⟩
abbrev rGLB_RACK_MASTER : Nat := 0x000208
abbrev GLB_RACK_MASTER_VALID : Fld := ⟨rGLB_RACK_MASTER, 31, 31⟩
abbrev GLB_RACK_MASTER_Z : Fld := ⟨rGLB_RACK_MASTER, 10, 8⟩
abbrev GLB_RACK_MASTER_Y : Fld := ⟨rGLB_RACK_MASTER, 7, 4⟩
abbrev GLB_RACK_MASTER_X : Fld := ⟨rGLB_RACK_MASTER, 3, 0⟩
abbrev rGLB_MESH_MASTER : Nat := 0x00020C
abbrev GLB_MESH_MASTER_VALID : Fld := ⟨rGLB_MESH_MASTER, 31, 31⟩
abbrev GLB_MESH_MASTER_Z : Fld := ⟨rGLB_MESH_MASTER, 10, 8⟩
abbrev GLB_MESH_MASTER_Y : Fld := ⟨rGLB_MESH_MASTER, 7, 4⟩
abbrev GLB_MESH_MASTER_X : Fld := ⟨rGLB_MESH_MASTER, 3, 0⟩
abbrev rGLB_ROLE : Nat := 0x000204
abbrev GLB_ROLE_VALID : Fld := ⟨rGLB_ROLE, 31, 31⟩
abbrev GLB_ROLE_RACK : Fld := ⟨rGLB_ROLE, 7, 0⟩
abbrev rGLB_ROLE_STATUS : Nat := 0x000210
abbrev GLB_ROLE_STATUS_SET : Fld := ⟨rGLB_ROLE_STATUS, 31, 31⟩
abbrev GLB_ROLE_STATUS_REFUSED : Fld := ⟨rGLB_ROLE_STATUS, 30, 30⟩
abbrev GLB_ROLE_STATUS_RACK_MASTER : Fld := ⟨rGLB_ROLE_STATUS, 29, 29⟩
abbrev GLB_ROLE_STATUS_MESH_MASTER : Fld := ⟨rGLB_ROLE_STATUS, 28, 28⟩
abbrev rGLB_IRQ_ROUTE (s : Nat) : Nat := 0x000400 + 4 * s
abbrev GLB_IRQ_ROUTE_EN (s : Nat) : Fld := ⟨(rGLB_IRQ_ROUTE s), 31, 31⟩
abbrev GLB_IRQ_ROUTE_VEC (s : Nat) : Fld := ⟨(rGLB_IRQ_ROUTE s), 5, 0⟩
abbrev rGLB_IRQ_PEND : Nat := 0x000480
abbrev GLB_IRQ_PEND_PEND : Fld := ⟨rGLB_IRQ_PEND, 24, 0⟩

/-- One row of the register map: `n1` registers `s1` bytes apart, in each place `n2` of them `s2` bytes apart; the
reset value (R547; `inc` more per inner index), and the masks of the bits of each type of R12 (bits in none of the
masks are RO or reserved). A row covers registers that differ in their index only. -/
structure RegRow where
  base : Nat
  n1 : Nat
  s1 : Nat
  n2 : Nat
  s2 : Nat
  reset : Nat
  inc : Nat
  rw : Nat
  w1c : Nat
  rc : Nat
  wo : Nat
deriving DecidableEq, Repr

/-- The registers of block 0x000_xxxx (R538). -/
def regGlobal : List RegRow := [
  ⟨0x001000, 1, 1, 1, 1, 0x0, 0x0, 0x0, 0x0, 0xFFFF, 0x0⟩,
  ⟨0x001004, 1, 1, 1, 1, 0x100, 0x0, 0x0, 0x0, 0x0, 0x0⟩,
  ⟨0x001008, 1, 1, 1, 1, 0xF, 0x0, 0x7F, 0x0, 0x0, 0x0⟩,
  ⟨0x00100C, 1, 1, 1, 1, 0x0, 0x0, 0x1FF, 0x0, 0x0, 0x0⟩,
  ⟨0x001010, 1, 1, 1, 1, 0xC00040, 0x0, 0x1FF01FF, 0x0, 0x0, 0x0⟩,
  ⟨0x001014, 1, 1, 1, 1, 0x0, 0x0, 0x0, 0xA0000000, 0xFFFF, 0x0⟩,
  ⟨0x001018, 1, 1, 1, 1, 0x0, 0x0, 0x0, 0x0, 0x0, 0x0⟩,
  ⟨0x00101C, 1, 1, 1, 1, 0x80, 0x0, 0x80, 0x0, 0x0, 0x0⟩,
  ⟨0x002000, 1, 1, 1, 1, 0x0, 0x0, 0x0, 0x0, 0x0, 0x3⟩,
  ⟨0x002004, 1, 1, 1, 1, 0x0, 0x0, 0x0, 0x0, 0x0, 0x0⟩,
  ⟨0x002008, 1, 1, 1, 1, 0x0, 0x0, 0x0, 0x0, 0x0, 0x0⟩,
  ⟨0x00200C, 1, 1, 1, 1, 0x5A, 0x0, 0xFF, 0x0, 0x0, 0x0⟩,
  ⟨0x002010, 1, 1, 1, 1, 0x0, 0x0, 0x0, 0x0, 0xFFFF, 0x0⟩,
  ⟨0x002020, 1, 1, 1, 1, 0x0, 0x0, 0xFFFFFFF, 0x20000000, 0x0, 0x80000000⟩,
  ⟨0x002024, 1, 1, 1, 1, 0x0, 0x0, 0xFFFFFFFF, 0x0, 0x0, 0x0⟩,
  ⟨0x002028, 1, 1, 1, 1, 0x0, 0x0, 0xFFFFFFFF, 0x0, 0x0, 0x0⟩,
  ⟨0x003000, 1, 1, 1, 1, 0x0, 0x0, 0x0, 0x0, 0x0, 0xFFFF0001⟩,
  ⟨0x003004, 1, 1, 1, 1, 0x80000000, 0x0, 0x0, 0x0, 0x0, 0x0⟩,
  ⟨0x003008, 1, 1, 1, 1, 0x0, 0x0, 0x0, 0x0, 0x0, 0x0⟩,
  ⟨0x00300C, 1, 1, 1, 1, 0x0, 0x0, 0x0, 0x0, 0x0, 0x0⟩,
  ⟨0x000000, 1, 1, 1, 1, 0x4F964201, 0x0, 0x0, 0x0, 0x0, 0x0⟩,
  ⟨0x000004, 1, 1, 1, 1, 0xE2A1, 0x0, 0x0, 0x0, 0x0, 0x0⟩,
  ⟨0x000008, 1, 1, 1, 1, 0x0, 0x0, 0x0, 0x0, 0x0, 0x0⟩,
  ⟨0x00000C, 1, 1, 1, 1, 0x0, 0x0, 0x0, 0x0, 0x0, 0x0⟩,
  ⟨0x000020, 1, 1, 1, 1, 0x0, 0x0, 0x0, 0x0, 0x0, 0x0⟩,
  ⟨0x000100, 1, 1, 1, 1, 0x0, 0x0, 0x0, 0x80000000, 0x0, 0x0⟩,
  ⟨0x000104, 1, 1, 1, 1, 0x0, 0x0, 0x0, 0x0, 0x0, 0x0⟩,
  ⟨0x000108, 1, 1, 1, 1, 0x0, 0x0, 0x0, 0x0, 0xFFFFFFFF, 0x0⟩,
  ⟨0x000200, 1, 1, 1, 1, 0x0, 0x0, 0x800007FF, 0x0, 0x0, 0x0⟩,
  ⟨0x000208, 1, 1, 1, 1, 0x0, 0x0, 0x800007FF, 0x0, 0x0, 0x0⟩,
  ⟨0x00020C, 1, 1, 1, 1, 0x0, 0x0, 0x800007FF, 0x0, 0x0, 0x0⟩,
  ⟨0x000204, 1, 1, 1, 1, 0x0, 0x0, 0x800000FF, 0x0, 0x0, 0x0⟩,
  ⟨0x000210, 1, 1, 1, 1, 0x0, 0x0, 0x0, 0x0, 0x0, 0x0⟩,
  ⟨0x000400, 1, 1, 25, 4, 0x0, 0x0, 0x8000003F, 0x0, 0x0, 0x0⟩,
  ⟨0x000480, 1, 1, 1, 1, 0x0, 0x0, 0x0, 0x1FFFFFF, 0x0, 0x0⟩]

/-- The registers of block 0x001_xxxx (R538). -/
def regPlot : List RegRow := [
  ⟨0x100000, 1, 1, 16, 65536, 0x0, 0x0, 0x1F, 0x0, 0x0, 0x0⟩,
  ⟨0x100004, 1, 1, 16, 65536, 0x40000000, 0x0, 0x0, 0x0, 0x0, 0x0⟩,
  ⟨0x100008, 1, 1, 16, 65536, 0x0, 0x0, 0xFFFFF000, 0x0, 0x0, 0x0⟩,
  ⟨0x100040, 16, 65536, 4, 16, 0x0, 0x0, 0xFFFFF000, 0x0, 0x0, 0x0⟩,
  ⟨0x10000C, 1, 1, 16, 65536, 0x0, 0x0, 0xFFFFFFFF, 0x0, 0x0, 0x0⟩,
  ⟨0x100044, 16, 65536, 4, 16, 0x0, 0x0, 0xFFFFFFFF, 0x0, 0x0, 0x0⟩,
  ⟨0x100010, 1, 1, 16, 65536, 0x0, 0x0, 0xF0000FFF, 0x0, 0x0, 0x0⟩,
  ⟨0x100014, 1, 1, 16, 65536, 0x0, 0x0, 0xFFFF, 0x0, 0x0, 0x0⟩,
  ⟨0x100018, 1, 1, 16, 65536, 0x0, 0x0, 0xFFFFFFC1, 0x0, 0x0, 0x0⟩,
  ⟨0x10001C, 1, 1, 16, 65536, 0x0, 0x0, 0xFFFFFFFF, 0x0, 0x0, 0x0⟩,
  ⟨0x100020, 1, 1, 16, 65536, 0x0, 0x0, 0x0, 0x80000000, 0x0, 0x0⟩,
  ⟨0x100024, 1, 1, 16, 65536, 0x80000000, 0x0, 0x0, 0x0, 0x0, 0x0⟩,
  ⟨0x100048, 16, 65536, 4, 16, 0x0, 0x0, 0xFFF, 0x0, 0x0, 0x0⟩,
  ⟨0x10004C, 16, 65536, 4, 16, 0x0, 0x0, 0xFFFFFFFF, 0x0, 0x0, 0x0⟩,
  ⟨0x100080, 16, 65536, 4, 4, 0x0, 0x0, 0x0, 0x0, 0x0, 0x0⟩,
  ⟨0x100090, 16, 65536, 4, 4, 0x0, 0x0, 0x0, 0x0, 0x0, 0x0⟩,
  ⟨0x101000, 1, 1, 16, 65536, 0x0, 0x0, 0x0, 0x0, 0x0, 0x3⟩,
  ⟨0x101004, 1, 1, 16, 65536, 0x0, 0x0, 0x0, 0x0, 0x0, 0x0⟩,
  ⟨0x101010, 1, 1, 16, 65536, 0x0, 0x0, 0xFFE, 0x0, 0x0, 0x0⟩,
  ⟨0x101014, 1, 1, 16, 65536, 0x0, 0x0, 0x0, 0x800001FE, 0x0, 0x0⟩,
  ⟨0x101018, 1, 1, 16, 65536, 0x0, 0x0, 0x0, 0x80000000, 0x0, 0x0⟩,
  ⟨0x10101C, 1, 1, 16, 65536, 0x0, 0x0, 0x0, 0x0, 0xFFFFFFFF, 0x0⟩]

/-- The registers of block 0x002_xxxx (R538). -/
def regSeq : List RegRow := [
  ⟨0x208000, 1, 1, 1, 1, 0x0, 0x0, 0x0, 0x0, 0x0, 0x1⟩,
  ⟨0x208004, 1, 1, 1, 1, 0x0, 0x0, 0x0, 0x0, 0x0, 0x0⟩,
  ⟨0x208008, 1, 1, 1, 1, 0x0, 0x0, 0x0, 0x0, 0xFFFFFFFF, 0x0⟩,
  ⟨0x20800C, 1, 1, 1, 1, 0x0, 0x0, 0x0, 0x0, 0xFFFFFFFF, 0x0⟩,
  ⟨0x208010, 1, 1, 1, 1, 0x0, 0x0, 0x0, 0x80000000, 0x0, 0x0⟩,
  ⟨0x208014, 1, 1, 1, 1, 0x0, 0x0, 0x0, 0x0, 0xFFFFFFFF, 0x0⟩,
  ⟨0x208018, 1, 1, 1, 1, 0x0, 0x0, 0x0, 0x80000000, 0x0, 0x0⟩,
  ⟨0x20801C, 1, 1, 1, 1, 0x0, 0x0, 0x0, 0x0, 0xFFFFFFFF, 0x0⟩,
  ⟨0x208020, 1, 1, 1, 1, 0x0, 0x0, 0x0, 0x0, 0xFFFFFFFF, 0x0⟩,
  ⟨0x208100, 1, 1, 1, 1, 0xFFFFFFFF, 0x0, 0x0, 0x0, 0x0, 0x0⟩,
  ⟨0x208108, 1, 1, 15, 8, 0xFFFFFFFF, 0x0, 0xFFFFFFFF, 0x0, 0x0, 0x0⟩,
  ⟨0x208104, 1, 1, 1, 1, 0xFFFFFFFF, 0x0, 0x0, 0x0, 0x0, 0x0⟩,
  ⟨0x20810C, 1, 1, 15, 8, 0xFFFFFFFF, 0x0, 0xFFFFFFFF, 0x0, 0x0, 0x0⟩,
  ⟨0x208200, 1, 1, 32, 4, 0x3F, 0x0, 0x0, 0x0, 0x0, 0x0⟩,
  ⟨0x200000, 1, 1, 1, 1, 0x0, 0x0, 0xF0, 0x0, 0x0, 0x101⟩,
  ⟨0x200004, 1, 1, 1, 1, 0x0, 0x0, 0x0, 0x0, 0x0, 0x0⟩,
  ⟨0x200008, 1, 1, 1, 1, 0x0, 0x0, 0xFFFFFF00, 0x0, 0x0, 0x0⟩,
  ⟨0x20000C, 1, 1, 1, 1, 0x0, 0x0, 0xFFFFFFFF, 0x0, 0x0, 0x0⟩,
  ⟨0x200010, 1, 1, 1, 1, 0x0, 0x0, 0x0, 0xC0000000, 0x0, 0x0⟩,
  ⟨0x200014, 1, 1, 1, 1, 0x0, 0x0, 0x0, 0x0, 0xFFFFFFFF, 0x0⟩,
  ⟨0x200018, 1, 1, 1, 1, 0x0, 0x0, 0x0, 0x0, 0xFFFFFFFF, 0x0⟩,
  ⟨0x20001C, 1, 1, 1, 1, 0x0, 0x0, 0x0, 0x0, 0xFFFFFFFF, 0x0⟩,
  ⟨0x200020, 1, 1, 1, 1, 0x0, 0x0, 0x0, 0x80000000, 0x0, 0x0⟩,
  ⟨0x200024, 1, 1, 1, 1, 0x0, 0x0, 0x0, 0x0, 0xFFFFFFFF, 0x0⟩,
  ⟨0x200040, 1, 1, 16, 4, 0x0, 0x0, 0x81FF01FF, 0x0, 0x0, 0x0⟩,
  ⟨0x200100, 1, 1, 1, 1, 0x140000, 0x0, 0x80FF003F, 0x0, 0x0, 0x0⟩,
  ⟨0x200104, 1, 1, 1, 1, 0x8000000, 0x0, 0x0, 0x0, 0xFFFF, 0x0⟩,
  ⟨0x200108, 1, 1, 1, 1, 0x0, 0x0, 0x80000000, 0x0, 0x0, 0x0⟩,
  ⟨0x200200, 1, 1, 64, 4, 0x0, 0x0, 0x8000000F, 0x0, 0x0, 0x0⟩]

/-- The registers of block 0x003_xxxx (R538). -/
def regTally : List RegRow := [
  ⟨0x300000, 1, 1, 1, 1, 0x0, 0x0, 0xF0, 0x0, 0x0, 0x100⟩,
  ⟨0x300004, 1, 1, 1, 1, 0x0, 0x0, 0x0, 0x0, 0x0, 0x0⟩,
  ⟨0x300008, 1, 1, 1, 1, 0x0, 0x0, 0x0, 0x0, 0xFFFFFFFF, 0x0⟩,
  ⟨0x30000C, 1, 1, 1, 1, 0x0, 0x0, 0x0, 0x80000000, 0x0, 0x0⟩,
  ⟨0x300010, 1, 1, 1, 1, 0x0, 0x0, 0x0, 0x0, 0xFFFFFFFF, 0x0⟩,
  ⟨0x300014, 1, 1, 1, 1, 0x0, 0x0, 0x0, 0x80000000, 0x0, 0x0⟩,
  ⟨0x300018, 1, 1, 1, 1, 0x0, 0x0, 0x0, 0x0, 0x0, 0x0⟩,
  ⟨0x30001C, 1, 1, 1, 1, 0x0, 0x0, 0x0, 0x0, 0x0, 0x0⟩,
  ⟨0x300020, 1, 1, 1, 1, 0x0, 0x0, 0x0, 0x0, 0x0, 0x0⟩,
  ⟨0x300040, 1, 1, 16, 4, 0x0, 0x0, 0x80003F3F, 0x0, 0x0, 0x0⟩,
  ⟨0x300080, 1, 1, 16, 4, 0x0, 0x0, 0x80003F3F, 0x0, 0x0, 0x0⟩,
  ⟨0x310000, 1, 1, 4096, 4, 0x0, 0x0, 0x0, 0x0, 0x0, 0x0⟩]

/-- The registers of block 0x004_xxxx (R538). -/
def regStream : List RegRow := [
  ⟨0x400000, 1, 1, 1, 1, 0x0, 0x0, 0xF0, 0x0, 0x0, 0x100⟩,
  ⟨0x400004, 1, 1, 1, 1, 0x0, 0x0, 0xFFFFFF80, 0x0, 0x0, 0x0⟩,
  ⟨0x400008, 1, 1, 1, 1, 0x0, 0x0, 0xFFFFFFFF, 0x0, 0x0, 0x0⟩,
  ⟨0x40000C, 1, 1, 1, 1, 0x0, 0x0, 0x0, 0xC0000000, 0x0, 0x0⟩,
  ⟨0x400010, 1, 1, 1, 1, 0x0, 0x0, 0x0, 0x0, 0xFFFFFFFF, 0x0⟩,
  ⟨0x400014, 1, 1, 1, 1, 0x0, 0x0, 0x0, 0x80000000, 0x0, 0x0⟩,
  ⟨0x400018, 1, 1, 1, 1, 0x0, 0x0, 0x0, 0x0, 0xFFFFFFFF, 0x0⟩,
  ⟨0x40001C, 1, 1, 1, 1, 0x0, 0x0, 0x0, 0x80000000, 0x0, 0x0⟩,
  ⟨0x400020, 1, 1, 1, 1, 0x0, 0x0, 0x0, 0x0, 0x0, 0x0⟩,
  ⟨0x400040, 1, 1, 16, 4, 0x0, 0x0, 0x80003F3F, 0x0, 0x0, 0x0⟩,
  ⟨0x400100, 1, 1, 16, 4, 0x0, 0x0, 0x0, 0x0, 0x0, 0x0⟩]

/-- The registers of block 0x005_xxxx (R538). -/
def regHbm : List RegRow := [
  ⟨0x500000, 1, 1, 1, 1, 0x3, 0x0, 0x7, 0x0, 0x0, 0x0⟩,
  ⟨0x500004, 1, 1, 1, 1, 0x0, 0x0, 0x0, 0x80000000, 0x0, 0x0⟩,
  ⟨0x500008, 1, 1, 1, 1, 0x0, 0x0, 0x0, 0x0, 0x0, 0x0⟩,
  ⟨0x500020, 1, 1, 8, 4, 0x0, 0x0, 0x0, 0x0, 0x0, 0x0⟩,
  ⟨0x500040, 1, 1, 8, 4, 0x0, 0x0, 0x0, 0x0, 0xFFFFFFFF, 0x0⟩,
  ⟨0x500060, 1, 1, 8, 4, 0x0, 0x0, 0x0, 0x0, 0xFFFFFFFF, 0x0⟩,
  ⟨0x501000, 16, 32, 8, 4, 0x0, 0x0, 0x8FFF0FFF, 0x0, 0x0, 0x0⟩]

/-- The registers of block 0x006_xxxx (R538). -/
def regLink : List RegRow := [
  ⟨0x600000, 1, 1, 1, 1, 0xA, 0x0, 0x10F, 0x0, 0x0, 0x0⟩,
  ⟨0x600004, 1, 1, 1, 1, 0x40, 0x0, 0xFFFF, 0x0, 0x0, 0x0⟩,
  ⟨0x600008, 1, 1, 1, 1, 0x0, 0x0, 0x0, 0x0, 0xFFFFFFFF, 0x0⟩,
  ⟨0x60000C, 1, 1, 1, 1, 0x0, 0x0, 0x0, 0x80000000, 0x0, 0x0⟩,
  ⟨0x600010, 1, 1, 1, 1, 0x0, 0x0, 0x0, 0x0, 0xFFFFFFFF, 0x0⟩,
  ⟨0x600014, 1, 1, 1, 1, 0x0, 0x0, 0x0, 0x80000000, 0x0, 0x0⟩,
  ⟨0x600020, 1, 1, 4, 4, 0x0, 0x0, 0x0, 0x0, 0x0, 0x0⟩,
  ⟨0x600040, 1, 1, 12, 4, 0x0, 0x0, 0xFFFFFFFF, 0x0, 0x0, 0x0⟩,
  ⟨0x600100, 1, 1, 6, 16, 0x30, 0x0, 0xB1, 0x0, 0x0, 0x100⟩,
  ⟨0x600104, 1, 1, 6, 16, 0x0, 0x0, 0x0, 0x0, 0x0, 0x0⟩,
  ⟨0x600108, 1, 1, 6, 16, 0x0, 0x0, 0x0, 0x0, 0x0, 0x0⟩,
  ⟨0x60010C, 1, 1, 6, 16, 0x0, 0x0, 0x0, 0x0, 0x0, 0x0⟩,
  ⟨0x601000, 6, 128, 17, 4, 0xFF00, 0x200000, 0x0, 0x0, 0x0, 0x0⟩,
  ⟨0x602000, 6, 128, 17, 4, 0x0, 0x0, 0x0, 0x0, 0xFFFFFFFF, 0x0⟩]

/-- The registers of block 0x007_xxxx (R538). -/
def regCsc : List RegRow := [
  ⟨0x700000, 1, 1, 1, 1, 0x0, 0x0, 0xFF070E00, 0x0, 0x0, 0x107⟩,
  ⟨0x700004, 1, 1, 1, 1, 0x0, 0x0, 0x0, 0x0, 0x0, 0x0⟩,
  ⟨0x700008, 1, 1, 1, 1, 0x0, 0x0, 0x7, 0x0, 0x0, 0x18⟩,
  ⟨0x70000C, 1, 1, 1, 1, 0x0, 0x0, 0xFFFFFFFF, 0x0, 0x0, 0x0⟩,
  ⟨0x700010, 1, 1, 1, 1, 0x0, 0x0, 0xFFFFFFFF, 0x0, 0x0, 0x0⟩,
  ⟨0x700014, 1, 1, 1, 1, 0x0, 0x0, 0x0, 0x0, 0xFFFFFFFF, 0x0⟩,
  ⟨0x700018, 1, 1, 1, 1, 0x0, 0x0, 0x0, 0x80000000, 0x0, 0x0⟩,
  ⟨0x70001C, 1, 1, 1, 1, 0x0, 0x0, 0x0, 0x0, 0xFFFFFFFF, 0x0⟩,
  ⟨0x700020, 1, 1, 1, 1, 0x0, 0x0, 0x0, 0x80000000, 0x0, 0x0⟩,
  ⟨0x700024, 1, 1, 1, 1, 0x0, 0x0, 0xFFFFFFFF, 0x0, 0x0, 0x0⟩,
  ⟨0x700028, 1, 1, 1, 1, 0x0, 0x0, 0xFFFFFFFF, 0x0, 0x0, 0x0⟩,
  ⟨0x700040, 1, 1, 6, 4, 0x0, 0x0, 0x0, 0x0, 0x0, 0x0⟩,
  ⟨0x700080, 1, 1, 16, 4, 0x0, 0x0, 0x800007FF, 0x0, 0x0, 0x0⟩,
  ⟨0x701000, 1, 1, 8, 64, 0x0, 0x0, 0x0, 0x0, 0x0, 0x0⟩,
  ⟨0x701010, 8, 64, 4, 4, 0x0, 0x0, 0xFFFFFFFF, 0x0, 0x0, 0x0⟩,
  ⟨0x701020, 8, 64, 4, 4, 0x0, 0x0, 0x0, 0x0, 0x0, 0x0⟩,
  ⟨0x710000, 8, 2048, 256, 8, 0x0, 0x0, 0xE7FFFFF8, 0x0, 0x0, 0x0⟩,
  ⟨0x710004, 8, 2048, 256, 8, 0x0, 0x0, 0xFFE00000, 0x0, 0x0, 0x0⟩]

/-- The registers of block 0x008_xxxx (R538). -/
def regAnneal : List RegRow := [
  ⟨0x800000, 1, 1, 1, 1, 0x10000000, 0x0, 0xFF000001, 0x0, 0x0, 0xF00⟩,
  ⟨0x800004, 1, 1, 1, 1, 0x0, 0x0, 0x0, 0x0, 0x0, 0x0⟩,
  ⟨0x800008, 1, 1, 1, 1, 0x0, 0x0, 0x0, 0x0, 0xFFFFFFFF, 0x0⟩,
  ⟨0x80000C, 1, 1, 1, 1, 0x0, 0x0, 0x0, 0x80000000, 0x0, 0x0⟩,
  ⟨0x800010, 1, 1, 1, 1, 0x0, 0x0, 0x7E000000, 0x0, 0x0, 0x80000000⟩,
  ⟨0x800014, 1, 1, 1, 1, 0x0, 0x0, 0x0, 0x80000000, 0x0, 0x0⟩,
  ⟨0x800018, 1, 1, 1, 1, 0x0, 0x0, 0x0, 0x0, 0x0, 0x0⟩,
  ⟨0x80001C, 1, 1, 1, 1, 0x0, 0x0, 0x0, 0x0, 0x0, 0x0⟩,
  ⟨0x800020, 1, 1, 1, 1, 0x0, 0x0, 0xFFF, 0x0, 0x0, 0x0⟩,
  ⟨0x800024, 1, 1, 1, 1, 0x0, 0x0, 0x0, 0x0, 0x0, 0x0⟩,
  ⟨0x800028, 1, 1, 1, 1, 0x0, 0x0, 0x3FFFF, 0x0, 0x0, 0x0⟩,
  ⟨0x80002C, 1, 1, 1, 1, 0x0, 0x0, 0x0, 0x0, 0x0, 0x0⟩,
  ⟨0x801000, 8, 128, 16, 4, 0x0, 0x0, 0xFFFFFFFF, 0x0, 0x0, 0x0⟩]

/-- The registers of block 0x009_xxxx (R538). -/
def regOptics : List RegRow := [
  ⟨0x900000, 1, 1, 1, 1, 0x3C0001, 0x0, 0xFF0007, 0x0, 0x0, 0x0⟩,
  ⟨0x900004, 1, 1, 1, 1, 0xFC18, 0x0, 0xFFFF, 0x0, 0x0, 0x0⟩,
  ⟨0x900008, 1, 1, 1, 1, 0x20000000, 0x0, 0x38000FFF, 0x0, 0x0, 0x80000000⟩,
  ⟨0x90000C, 1, 1, 1, 1, 0x8000, 0x0, 0x0, 0x80000000, 0x0, 0x0⟩,
  ⟨0x900010, 1, 1, 1, 1, 0x0, 0x0, 0x0, 0x3F3F3F3F, 0x0, 0x0⟩,
  ⟨0x900014, 1, 1, 1, 1, 0x0, 0x0, 0x0, 0x0, 0xFFFFFFFF, 0x0⟩,
  ⟨0x900018, 1, 1, 1, 1, 0x0, 0x0, 0x0, 0x80000000, 0x0, 0x0⟩,
  ⟨0x90001C, 1, 1, 1, 1, 0x0, 0x0, 0x0, 0x80000000, 0x0, 0x0⟩,
  ⟨0x900020, 1, 1, 1, 1, 0x0, 0x0, 0xFFF, 0x0, 0x0, 0x0⟩,
  ⟨0x900024, 1, 1, 1, 1, 0x4000, 0x0, 0xFFFFFF, 0x0, 0x0, 0x0⟩,
  ⟨0x900100, 1, 1, 6, 32, 0x0, 0x0, 0x1, 0x0, 0x0, 0x0⟩,
  ⟨0x900104, 1, 1, 6, 32, 0x0, 0x0, 0x0, 0x0, 0x0, 0x0⟩,
  ⟨0x900108, 1, 1, 6, 32, 0x1E001E00, 0x0, 0x0, 0x0, 0x0, 0x0⟩,
  ⟨0x90010C, 1, 1, 6, 32, 0xEA6, 0x0, 0xFFF, 0x0, 0x0, 0x0⟩,
  ⟨0x900200, 6, 64, 9, 4, 0x8000, 0x0, 0x0, 0x0, 0x0, 0x0⟩,
  ⟨0x900224, 6, 64, 2, 4, 0x80008000, 0x0, 0x0, 0x0, 0x0, 0x0⟩,
  ⟨0x910000, 1, 1, 2106, 4, 0x8000, 0x0, 0x0, 0x0, 0x0, 0x0⟩]

/-- The registers of block 0x00A_xxxx (R538). -/
def regSundial : List RegRow := [
  ⟨0xA00000, 1, 1, 1, 1, 0x0, 0x0, 0xF030001, 0x0, 0x0, 0xF0000000⟩,
  ⟨0xA00004, 1, 1, 1, 1, 0x4000000, 0x0, 0x0, 0x0, 0x0, 0x0⟩,
  ⟨0xA00008, 1, 1, 1, 1, 0x0, 0x0, 0x0, 0x0, 0x0, 0x0⟩,
  ⟨0xA0000C, 1, 1, 1, 1, 0x0, 0x0, 0x0, 0x0, 0x0, 0x0⟩,
  ⟨0xA00014, 1, 1, 1, 1, 0x0, 0x0, 0x0, 0x0, 0x0, 0x0⟩,
  ⟨0xA00018, 1, 1, 1, 1, 0x0, 0x0, 0x0, 0x0, 0x0, 0x0⟩,
  ⟨0xA00020, 1, 1, 1, 1, 0x0, 0x0, 0x0, 0x0, 0x0, 0x0⟩,
  ⟨0xA00024, 1, 1, 1, 1, 0x0, 0x0, 0x0, 0x0, 0x0, 0x0⟩,
  ⟨0xA00010, 1, 1, 1, 1, 0x0, 0x0, 0x0, 0x0, 0x0, 0x0⟩,
  ⟨0xA0001C, 1, 1, 1, 1, 0x0, 0x0, 0x0, 0x0, 0x0, 0x0⟩,
  ⟨0xA00028, 1, 1, 1, 1, 0x0, 0x0, 0xFFFFFFFF, 0x0, 0x0, 0x0⟩,
  ⟨0xA0002C, 1, 1, 1, 1, 0x0, 0x0, 0xFFFFFFFF, 0x0, 0x0, 0x0⟩,
  ⟨0xA00030, 1, 1, 1, 1, 0x0, 0x0, 0x0, 0x0, 0x0, 0x0⟩,
  ⟨0xA00034, 1, 1, 1, 1, 0x0, 0x0, 0x0, 0x0, 0x0, 0x0⟩,
  ⟨0xA00038, 1, 1, 1, 1, 0x271, 0x0, 0x1FFF, 0x0, 0x0, 0x0⟩,
  ⟨0xA0003C, 1, 1, 1, 1, 0x3E8, 0x0, 0xFFFFFF, 0x0, 0x0, 0x0⟩,
  ⟨0xA00040, 1, 1, 1, 1, 0x502800, 0x0, 0xFFFF00, 0x0, 0x0, 0x0⟩,
  ⟨0xA00044, 1, 1, 1, 1, 0x0, 0x0, 0x0, 0x0, 0x0, 0x0⟩,
  ⟨0xA00048, 1, 1, 1, 1, 0x0, 0x0, 0xFF00FFFF, 0x0, 0x0, 0x0⟩,
  ⟨0xA0004C, 1, 1, 1, 1, 0x0, 0x0, 0x0, 0xFC000000, 0x0, 0x0⟩,
  ⟨0xA00050, 1, 1, 1, 1, 0x0, 0x0, 0x0, 0x33, 0x0, 0x0⟩,
  ⟨0xA00060, 1, 1, 6, 4, 0x0, 0x0, 0xFFFF, 0x0, 0x0, 0x0⟩,
  ⟨0xA00080, 1, 1, 6, 4, 0x0, 0x0, 0x0, 0x0, 0x0, 0x0⟩,
  ⟨0xA00100, 1, 1, 4, 16, 0x40, 0x0, 0xE000FFFF, 0x18000000, 0x0, 0x0⟩,
  ⟨0xA00104, 1, 1, 4, 16, 0x0, 0x0, 0xFFFFFFFF, 0x0, 0x0, 0x0⟩,
  ⟨0xA00108, 1, 1, 4, 16, 0x0, 0x0, 0xFFFFFFFF, 0x0, 0x0, 0x0⟩,
  ⟨0xA0010C, 1, 1, 4, 16, 0x0, 0x0, 0xFFFFFFFF, 0x0, 0x0, 0x0⟩,
  ⟨0xA00140, 1, 1, 2, 16, 0x0, 0x0, 0x0, 0x0, 0x0, 0x0⟩,
  ⟨0xA00144, 1, 1, 2, 16, 0x0, 0x0, 0x0, 0x0, 0x0, 0x0⟩,
  ⟨0xA00148, 1, 1, 2, 16, 0x0, 0x0, 0x0, 0x0, 0x0, 0x0⟩,
  ⟨0xA0014C, 1, 1, 2, 16, 0x0, 0x0, 0x0, 0x0, 0x0, 0x0⟩,
  ⟨0xA00200, 1, 1, 16, 8, 0x0, 0x0, 0x0, 0x0, 0x0, 0x0⟩,
  ⟨0xA00204, 1, 1, 16, 8, 0x0, 0x0, 0x0, 0x0, 0x0, 0x0⟩,
  ⟨0xA00300, 1, 1, 1, 1, 0x0, 0x0, 0x7F8F, 0x0, 0x0, 0x0⟩,
  ⟨0xA00304, 1, 1, 1, 1, 0x0, 0x0, 0x0, 0x0, 0x0, 0x0⟩,
  ⟨0xA00308, 1, 1, 1, 1, 0x0, 0x0, 0x0, 0x0, 0x0, 0x0⟩]

/-- The registers of block 0x00B_xxxx (R538). -/
def regHallmark : List RegRow := [
  ⟨0xB00000, 1, 1, 1, 1, 0x0, 0x0, 0x3, 0x0, 0x0, 0x4⟩,
  ⟨0xB00004, 1, 1, 1, 1, 0x40000000, 0x0, 0x0, 0x80000000, 0x0, 0x0⟩,
  ⟨0xB00008, 1, 1, 1, 1, 0x0, 0x0, 0xFFF, 0x0, 0x0, 0x0⟩,
  ⟨0xB0000C, 1, 1, 1, 1, 0xFFFE, 0x0, 0xFFFFFFFF, 0x0, 0x0, 0x0⟩,
  ⟨0xB00010, 1, 1, 1, 1, 0x0, 0x0, 0xFFFFFFFF, 0x0, 0x0, 0x0⟩,
  ⟨0xB00014, 1, 1, 1, 1, 0x0, 0x0, 0x1FFF, 0x0, 0x0, 0x0⟩,
  ⟨0xB00018, 1, 1, 1, 1, 0x0, 0x0, 0x1FFF, 0x0, 0x0, 0x0⟩,
  ⟨0xB0001C, 1, 1, 1, 1, 0x0, 0x0, 0x0, 0x0, 0xFFFFFFFF, 0x0⟩,
  ⟨0xB00020, 1, 1, 1, 1, 0x4000000, 0x0, 0x0, 0x0, 0x0, 0x0⟩,
  ⟨0xB00024, 1, 1, 1, 1, 0x0, 0x0, 0x0, 0x10000000, 0x0, 0x0⟩,
  ⟨0xB00028, 1, 1, 1, 1, 0x0, 0x0, 0x7FFFF, 0x0, 0x0, 0x0⟩,
  ⟨0xB0002C, 1, 1, 1, 1, 0x0, 0x0, 0xFE00FFFF, 0x0, 0x0, 0x0⟩,
  ⟨0xB00030, 1, 1, 1, 1, 0x0, 0x0, 0x0, 0x0, 0x0, 0x0⟩,
  ⟨0xB00034, 1, 1, 1, 1, 0x0, 0x0, 0x0, 0x80000000, 0x0, 0x0⟩,
  ⟨0xB00400, 1, 1, 240, 4, 0x0, 0x0, 0x8FFFFFFC, 0x0, 0x0, 0x0⟩,
  ⟨0xB00800, 1, 1, 240, 4, 0x0, 0x0, 0x8FFFFFFC, 0x0, 0x0, 0x0⟩,
  ⟨0xB10000, 1, 1, 256, 4, 0x0, 0x0, 0x0, 0x0, 0x0, 0x0⟩,
  ⟨0xB10400, 1, 1, 256, 4, 0x0, 0x0, 0x0, 0x0, 0x0, 0x0⟩]

/-- The registers of block 0x00C_xxxx (R538). -/
def regFirmware : List RegRow := [
  ⟨0xC00000, 1, 1, 1, 1, 0x0, 0x0, 0x0, 0x0, 0x0, 0x1F⟩,
  ⟨0xC00004, 1, 1, 1, 1, 0x0, 0x0, 0x0, 0x8000000, 0x0, 0x0⟩,
  ⟨0xC00008, 1, 1, 1, 1, 0x0, 0x0, 0x0, 0x0, 0x0, 0x0⟩,
  ⟨0xC0000C, 1, 1, 1, 1, 0x0, 0x0, 0x0, 0x0, 0x0, 0x0⟩,
  ⟨0xC00010, 1, 1, 1, 1, 0x0, 0x0, 0x0, 0x0, 0x0, 0x0⟩,
  ⟨0xC00014, 1, 1, 1, 1, 0x0, 0x0, 0x0, 0x0, 0x0, 0x0⟩,
  ⟨0xC00018, 1, 1, 1, 1, 0x0, 0x0, 0x0, 0x0, 0x0, 0x0⟩,
  ⟨0xC0001C, 1, 1, 1, 1, 0x0, 0x0, 0x0, 0x0, 0x0, 0x0⟩,
  ⟨0xC00020, 1, 1, 1, 1, 0x0, 0x0, 0xFFFFFFFF, 0x0, 0x0, 0x0⟩,
  ⟨0xC00024, 1, 1, 1, 1, 0x18, 0x0, 0x3F, 0x0, 0x0, 0x0⟩,
  ⟨0xC00028, 1, 1, 1, 1, 0x0, 0x0, 0x0, 0x0, 0x0, 0x0⟩]

/-- The registers of block 0x00D_xxxx (R538). -/
def regMetering : List RegRow := [
  ⟨0xD00000, 1, 1, 1, 1, 0x3E8, 0x0, 0x8000FFFF, 0x0, 0x0, 0x0⟩,
  ⟨0xD00004, 1, 1, 1, 1, 0x0, 0x0, 0x0, 0x0, 0x0, 0x0⟩,
  ⟨0xD00008, 1, 1, 1, 1, 0x0, 0x0, 0xFFFFF000, 0x0, 0x0, 0x0⟩,
  ⟨0xD0000C, 1, 1, 1, 1, 0x0, 0x0, 0xFFFFFFFF, 0x0, 0x0, 0x0⟩,
  ⟨0xD00010, 1, 1, 1, 1, 0x4, 0x0, 0x8000000F, 0x0, 0x0, 0x0⟩,
  ⟨0xD00014, 1, 1, 1, 1, 0x0, 0x0, 0xFFF, 0x0, 0x0, 0x0⟩,
  ⟨0xD00018, 1, 1, 1, 1, 0x0, 0x0, 0x0, 0x0, 0x0, 0x0⟩,
  ⟨0xD01000, 16, 64, 6, 8, 0x0, 0x0, 0x0, 0x0, 0x0, 0x0⟩,
  ⟨0xD01004, 16, 64, 6, 8, 0x0, 0x0, 0x0, 0x0, 0x0, 0x0⟩]

/-- The registers of block 0x00E_xxxx (R538). -/
def regTrim : List RegRow := [
  ⟨0xE00000, 1, 1, 1, 1, 0x1, 0x0, 0x1, 0x0, 0x0, 0x0⟩,
  ⟨0xE00004, 1, 1, 1, 1, 0x0, 0x0, 0x0, 0x0, 0x0, 0x0⟩,
  ⟨0xE00008, 1, 1, 1, 1, 0x0, 0x0, 0x0, 0x0, 0x0, 0x0⟩,
  ⟨0xE0000C, 1, 1, 1, 1, 0x0, 0x0, 0x0, 0x0, 0x0, 0x0⟩,
  ⟨0xE01000, 6, 64, 11, 4, 0x0, 0x0, 0x1FFF0000, 0x0, 0x0, 0x0⟩,
  ⟨0xE02000, 1, 1, 918, 4, 0x0, 0x0, 0x3FF0000, 0x0, 0x0, 0x0⟩,
  ⟨0xE03000, 1, 1, 918, 4, 0x0, 0x0, 0xFF0000, 0x0, 0x0, 0x0⟩]

/-- The rows of the 1 MiB block (R538) an offset lies in. -/
def regBlock (off : Nat) : List RegRow :=
  match off / 0x100000 with
  | 0 => regGlobal
  | 1 => regPlot
  | 2 => regSeq
  | 3 => regTally
  | 4 => regStream
  | 5 => regHbm
  | 6 => regLink
  | 7 => regCsc
  | 8 => regAnneal
  | 9 => regOptics
  | 10 => regSundial
  | 11 => regHallmark
  | 12 => regFirmware
  | 13 => regMetering
  | 14 => regTrim
  | _ => []

end Sys2Proof.Machine
end

