-- ==== Sys2Proof/Machine/State.lean ====
section
/-! DEFINITION. The state of the part: every register, store, queue, mode and pin the spec gives it, the commands that
wait (`pending`), and the model's own fields (`now`, `fresh`, `out`, `due`). INVENTORY.md lists each with its rule and
reset value. -/
namespace Sys2Proof.Machine

/-- Why the machine stops. No rule of the spec stops the part: faults are recorded and reported (R429, R430), so no
meaning raises one; the constructor stands for the interface only (safe: never raised). -/
inductive Fault where
  /-- Raised by nobody. Safe. -/
  | none
deriving DecidableEq, Repr

/-- Why a command has no outcome. -/
inductive Refusal where
  /-- The arm of a command that has no meaning yet. Safe: nothing can be proved of its next state. -/
  | notModelled (mnemonic : String)
deriving DecidableEq, Repr

/-! ### Cores (03_cores.md) -/

/-- The storage of one core (R67), each register kept only where it differs from its value after a scrub (R92). -/
structure Core where
  /-- v0–v63, 64 lanes of 32 bits. -/
  v : Map (BitVec 2048) := []
  /-- a1–a15. -/
  a : Map Word := []
  /-- p1–p7. -/
  p : Map (BitVec 64) := []
  /-- Row r of accumulator k at 64·k + r: 64 FP32 columns. -/
  acc : Map (BitVec 2048) := []
deriving DecidableEq, Repr

/-- Where a core-pipeline result lands. -/
inductive Dest where
  | v (n : Nat)
  | a (n : Nat)
  | p (n : Nat)
deriving DecidableEq, Repr

/-- A result on its way (R77, R85): the issue cycle it lands in, its place in the order of R71 and R117 (0 first), the
issue cycle and vector slot it came from, and for each core the bytes written (of a predicate: the bits) and the value. -/
structure Pend where
  due : Nat
  rank : Nat
  issued : Nat
  slot : Nat
  dest : Dest
  vals : List (Nat × BitVec 256 × BitVec 2048)
deriving DecidableEq, Repr

/-- An operation of the matrix unit (R109, R141): its fields, the masks it issued under, the operand addresses of each
selected core, and the operand lines fetched so far (R147), line j of operand o of core c at (2·c + o)·2^16 + j. -/
structure MOp where
  mma : Bool
  acc : Nat
  clr : Bool
  kb : Nat
  fa : Nat
  fb : Nat
  cores : List (Nat × Nat × Nat)
  good : Bool
  start : Nat
  lines : Map (BitVec 2048) := []
  /-- The extent of the operation fails in some selected core and not in every one (R145). -/
  part : Bool := false
deriving DecidableEq, Repr

/-- A write on its way into SRAM (R76, R77): the key of its first byte, its bytes, and the stored error an injection
leaves with it (R445): key of the 64-bit word, bits. -/
structure SramWr where
  key : Nat
  bytes : List Byte
  inj : Option (Nat × Nat) := none
deriving DecidableEq, Repr

/-- The compute array. -/
structure Cores where
  core : Map Core := []
  /-- Stochastic-rounding generators, 64 × 16 bits per core; unlisted: 0x0001 in every lane (R52). -/
  gen : Map (BitVec 1024) := []
  /-- SRAM byte at core × 2^19 + address; unlisted: 0 (R92). -/
  sram : List Host.Cell := []
  /-- Stored errors of 64-bit words at core × 2^16 + address / 8: 1 one bit, 2 two bits (R78). -/
  sramErr : Map Nat := []
  /-- Writes of the present SEQ cycle through the program ports and through the service ports, in order; they land at its
  end, the service ports' last (R76, R77). -/
  stores : List SramWr := []
  svcWrites : List SramWr := []
  pend : List Pend := []
  mxRun : Option MOp := none
  mxQueue : Option MOp := none
  /-- Next issue cycle the matrix unit has still to act in. -/
  mxDone : Nat := 0
  /-- Issue cycle of the last operation the row buses and the column buses accepted (R162). -/
  rowBus : Option Nat := none
  colBus : Option Nat := none
  /-- Errors of the die bridge in the present issue cycle: column, 64-bit word of the crossing vector, bits (R84). -/
  bridge : List (Nat × Nat × Nat) := []
  /-- Failed physical columns of each flat row, as the fuses give them (R89): an input of the part. -/
  failFuse : Map (List Nat) := []
deriving DecidableEq, Repr

/-! ### Sequencer (04_bundle_format.md) -/

/-- A wait slot (R123). -/
inductive WSlot where
  | empty
  | armed
  | woken
  | expired
deriving DecidableEq, Repr

/-- A run in progress (R119, R131). -/
structure Run where
  plot : Nat
  pc : Nat
  depth : Nat := 0
  lc : Map Nat := []
  cnt : Map Nat := []
  first : Map Nat := []
  last : Map Nat := []
  flags : BitVec 16 := 0
  /-- Repetitions of the bundle at pc already issued (R118). -/
  rep : Nat := 0
  bubble : Bool := false
  /-- HALT has issued (R125). -/
  halted : Bool := false
  /-- A bundle of the run has issued, and the issue cycles since then (R468). -/
  begun : Bool := false
  idx : Nat := 0
  /-- The bundle at pc has been fetched; its WAIT is satisfied or was tested before an earlier repetition (R118). -/
  reached : Bool := false
  waited : Bool := false
  /-- SEQ cycle in which the present hold began; the wait slot it holds on; the cycle the wake allows (R124). -/
  hold : Option Nat := none
  waitSlot : Option Nat := none
  waitEnd : Option Nat := none
  /-- Held for positions of a stream engine (R183), and the cycle in which a freed position ends that hold (R124). -/
  stream : Bool := false
  streamEnd : Option Nat := none
  /-- First SEQ cycle in which the sequencer may issue next (R100, R124, R409). -/
  next : Nat := 0
deriving DecidableEq, Repr

/-- A program or descriptor load in progress (R129, R186): plot, address in the plot's window, and the queue entry
(plot, SQ, SEQ) of the command that started it; `none` for a register command. `early`: the reason found before the
first read, 0 none (R130, R186). -/
structure Load where
  plot : Nat
  addr : Nat
  cmd : Option (Nat × Nat × Nat)
  early : Nat := 0
deriving DecidableEq, Repr

/-- A loaded image (R130). -/
structure Image where
  entry : Nat
  count : Nat
  /-- CMASK_TABLE: entries 1–15, row mask and column mask. -/
  cmask : List (Word × Word)
  toolVer : Word
  bodyCrc : Word
deriving DecidableEq, Repr

/-- The sequencer. -/
structure Seq where
  /-- Runs begun so far. -/
  runNo : Nat := 0
  /-- Issue cycles so far: the index of the next one (R101). -/
  ic : Nat := 0
  run : Option Run := none
  wslot : Map WSlot := []
  /-- Instruction store: bundle i of the store; unlisted: all zero. -/
  store : Map (BitVec 1024) := []
  /-- Stored errors of the store's 64-bit words (16·i + word): 1 one bit, 2 two bits (R127). -/
  storeErr : Map Nat := []
  image : Map (Option Image) := []
  load : Option Load := none
  /-- Plots made runnable (R131, R407), with the queue entry of the START command. -/
  runnable : List (Nat × Option (Nat × Nat × Nat)) := []
  /-- The START command of the run in progress. -/
  startCmd : Option (Nat × Nat × Nat) := none
  /-- A run has issued in the present slice (R407). -/
  issuedInSlice : Bool := false
  /-- Instant the running scrub ends (R93). -/
  scrubEnd : Option Nat := none
  /-- CORE_CYCLES counted up to this SEQ cycle (R417). -/
  meteredTo : Nat := 0
deriving DecidableEq, Repr

/-! ### Host interface (13_host_queues.md) -/

/-- An entry of an MSI-X table, as PCI Express Base 6.0 defines it (R379): masked at reset. -/
structure Msix where
  addr : Nat := 0
  data : Word := 0
  masked : Bool := true
deriving DecidableEq, Repr

/-- A non-posted request outstanding on a tag (R392): who asked, when, and whether the tag is fenced (R394). -/
structure Tag where
  id : Nat
  /-- A read of a COPY_IN, not an SQ fetch. -/
  copy : Bool
  /-- The SQ, the sequence number of the copy's command, and the copy's piece or the fetch's ring index. -/
  sq : Nat
  seq : Nat
  piece : Nat
  addr : Nat
  len : Nat
  at_ : Nat
  fenced : Bool := false
deriving DecidableEq, Repr

/-- A function of the device: 0 the PF, n + 1 the VF of plot n (R377). -/
structure Func where
  bme : Bool := false
  msixEn : Bool := false
  pba : Nat := 0
  table : Map Msix := []
  tags : List Tag := []
  flr : Bool := false
  /-- The configuration fields of R376. -/
  cfg : PciConfig := {}
deriving DecidableEq, Repr

/-! ### Hallmark (16_hallmark_replay.md) -/

/-- What a snapshot has read (R452, R453): the run's plot, its PC, MST and TOD at the first read, the next entry of its list
and the values so far. -/
structure SnapRead where
  plot : Nat
  pc : Nat
  mst : Nat
  tod : Nat
  next : Nat := 0
  vals : List Word := []
deriving DecidableEq, Repr

/-- A trigger of a recorder class, waiting or being recorded (R455): since `at_`. -/
structure Snap where
  src : Nat
  entry : Word
  merged : Nat
  /-- A flush this snapshot's completion starts (R460): 0 fault, 1 PWRFAIL, 2 TRIP. -/
  flush : Option Nat
  at_ : Nat := 0
  read : Option SnapRead := none
deriving DecidableEq, Repr

/-- A class of the recorder. -/
structure RecClass where
  busy : Option Snap := none
  pending : Option Snap := none
  rnum : Nat := 0
deriving DecidableEq, Repr

/-! ### HBM and stream engines (06_stream_memory.md) -/

/-- Training state of a stack (R172). -/
inductive StackPhase where
  | idle
  | init
  | train
  | verify
  | done
  | failed
deriving DecidableEq, Repr

/-- A stack: its phase, the rate tried or in use, the rates its identity declares (bit r: rate code r), when the phase
began, and whether it retrains at the equalising rate (R172). -/
structure Stack where
  phase : StackPhase := .idle
  rate : Nat := 0
  rates : Nat := 0
  since : Nat := 0
  equal : Bool := false
  /-- A refresh has read 85 °C or above, and none 82 °C or below since (R175). -/
  hot : Bool := false
deriving DecidableEq, Repr

/-- The HBM (R171, R177, R549). -/
structure Hbm where
  /-- Byte at stack × 48 GiB + offset; unlisted: undefined, a free value of this power-on or reset. -/
  byte : Map Byte := []
  /-- State of the 32-byte word at address / 32: 1 correct, 2 one bit in error, 3 two bits; unlisted (0) undefined. -/
  word : Map Nat := []
  /-- Power-ons and resets so far, which number the undefined data (the model's own field). -/
  epoch : Nat := 0
  stack : Map Stack := []
  /-- Aperture accesses that wait for a stack's recalibration pause to end (R176, R380), oldest first: linear address, the
  bytes of a write, and the length of a read. -/
  wait : List (Nat × Option (List Byte) × Nat) := []
deriving DecidableEq, Repr

/-- Where the page-table entry of a request stands (R193). -/
inductive Page where
  | unused
  | wanted
  | tile (n : Nat)
  | bad
deriving DecidableEq, Repr

/-- An accepted stream request (R191–R197). -/
structure StmReq where
  plot : Nat
  pc : Nat
  /-- 1 READ, 2 WRITE, 3 READ_PAGED. -/
  op : Nat
  plane : Nat
  u0 : Nat
  len : Nat
  tly : Nat
  nosig : Bool
  /-- The descriptor of R188, word w at bits [32w+31:32w]. -/
  desc : BitVec 1024
  /-- Positions held (R182). -/
  held : Nat
  /-- Failed a check of R196. -/
  faulted : Bool := false
  page : Page := .unused
  /-- Pieces retired, and the pieces of the KC4 segments decoded so far (R194). -/
  next : Nat := 0
  decoded : Nat := 0
  /-- Accesses of decoded segments still to retire. -/
  waiting : Nat := 0
  /-- First block after the last covered block of the previous segment; none where that segment was LOST (R195). -/
  expect : Option Nat := none
  /-- The block the sequence check asks of the next segment (R59); none where there is no check. -/
  seqNext : Option Nat := none
  /-- WINDOW or PAGE has been counted for the request (R196). -/
  reported : Bool := false
deriving DecidableEq, Repr

/-! ### Tally (07_tally.md) -/

/-- Source of an increment (R223), as TLY_TMO_SRC encodes it, with SRC and SRC_ID of TLY_FAULT_LOC. -/
structure TSrc where
  word : Word
  src : Nat
  id : Nat
deriving DecidableEq, Repr

/-- Who a watch wakes (R218): a wait slot, with its generation (R220), or the WATCH command of a submission queue. -/
inductive Waiter where
  | slot (w : Nat) (gen : Bool)
  | host (sq seq : Nat)
deriving DecidableEq, Repr

/-- A watch or group (R218, R224): plot, relative and physical tally, comparison, value or target, members minus 1 of
a group, timeout in ns, instant of registration, waiter, and the source of the last increment since registration. -/
structure Watch where
  plot : Nat
  rel : Nat
  tally : Nat
  cmp : Nat
  value : Nat
  grp : Option Nat
  tmo : Nat
  at_ : Nat
  waiter : Waiter
  src : Word := 0
deriving DecidableEq, Repr

/-- Something that reaches the Tally unit in a given SEQ cycle (R212). -/
inductive TOp where
  | inc (plot rel n : Nat) (src : TSrc) (cmd : Option (Nat × Nat × Nat))
  | register (entry : Nat) (w : Watch)
  | unwatch (entry : Nat) (gen : Bool)
  | rebase (entry : Nat) (w : Watch)
  | hostWake (plot sq seq value : Nat)
  /-- A WATCH or RECON of the tally slot refused for its tallies (R210, R225): plot, kind, relative tally. -/
  | fault (plot kind rel : Nat)
  /-- Watches are evaluated once more at the end of the cycle: a registration by the host, or tallies set to 0 (R218). -/
  | touch
deriving DecidableEq, Repr

/-- A wake or an expiry on its way to a wait slot (R219, R223). -/
structure Wake where
  due : Nat
  slot : Nat
  gen : Bool
  expiry : Bool
  rel : Nat
  value : Nat
deriving DecidableEq, Repr

/-- The Tally unit. -/
structure Tally where
  value : Map Word := []
  watch : Map Watch := []
  /-- Operations on their way, with the cycle they take effect in, in order of arrival. -/
  ops : List (Nat × TOp) := []
  /-- The last cycle in which operations took effect; of the tallies they changed in it, the values before (R227) and the
  last source (R223). -/
  at_ : Nat := 0
  before : Map (Option Word) := []
  srcs : Map Word := []
  wakes : List Wake := []
  /-- Generation of each wait slot (R220). -/
  gen : Map Bool := []
deriving DecidableEq, Repr

/-! ### Sundial (12_sundial.md) -/

/-- What a link has told of an origin domain (R358): relay count and instant of its last Sync, MST state of its last
Announce. -/
structure LinkTime where
  relays : Nat
  syncAt : Option Nat
  annState : Nat
deriving DecidableEq, Repr

/-- What the partner on a link has told (R368): instant of its last local Sync, peer skew in clock units, and whether its
last Announce shows LOCKED or MASTER. -/
structure PeerTime where
  at_ : Option Nat
  skew : Int
  locked : Bool
deriving DecidableEq, Repr

/-- When a pulse falls (R369): its base (true: TOD), the base's value then in clock units, and the instant should the base
stand still. -/
structure Fall where
  tod : Bool
  value : Int
  at_ : Nat
deriving DecidableEq, Repr

/-- A time pin (R369): the next point of the grid a periodic pulse fires at, and when the pulse falls. -/
structure TimePin where
  next : Nat := 0
  fall : Option Fall := none
deriving DecidableEq, Repr

/-- A master heard on the service port (R361): its portIdentity, its data, the instants of its last two Announces, and its
announce interval. -/
structure SvcMaster where
  src : Nat
  data : ClockData
  at_ : Nat
  before : Option Nat
  interval : Nat
deriving DecidableEq, Repr

/-- The Sundial unit. Clock values are in units of 2⁻³² / 176,000,000 ns, rates in units of 1 / (2³² · 16,000,000). -/
structure Sundial where
  /-- Instant at which the reference became valid (R353). -/
  refAt : Option Nat := none
  /-- MST as it would stand without any step: its value at `at_`, and the steps made. -/
  run : Nat := 0
  at_ : Nat := 0
  off : Int := 0
  fi : Int := 0
  rate : Int := 0
  tod : Nat := 0
  todAt : Nat := 0
  todRate : Int := 0
  /-- Virtual times as they stood when last stopped, and the plot that holds the slice with `run` at its start. -/
  vt : Map Nat := []
  vtPlot : Option (Nat × Nat) := none
  /-- Links by domain × 2^10 + port × 32 + link, and partners by port × 32 + link. -/
  link : Map LinkTime := []
  peer : Map PeerTime := []
  lastSync : Option Nat := none
  inRow : Nat := 0
  outRow : Nat := 0
  /-- A deferred step (R358). -/
  step : Option Int := none
  /-- Offsets of the Syncs not yet evaluated by R368, the oldest first, and runs of evaluations above FENCE and within
  WARN. -/
  skewOs : List Int := []
  above : Nat := 0
  within : Nat := 0
  evalAt : Nat := 0
  /-- Ports whose missed-staging fence was set before the slot-skew fence in force (R371). -/
  missFirst : Nat := 0
  /-- Next schedule slot and slice by number. -/
  nextSlot : Nat := 0
  nextSlice : Nat := 0
  pin : Map TimePin := []
  /-- SYNC_SENDs made, every 16th with an Announce (R356). -/
  sends : Nat := 0
  /-- Service port (R361): consecutive Syncs within 100 ns; a two-step Sync that waits for its Follow_Up, by sequence
  number, with its receive time; t2 − t1 of the last Sync; Delay_Reqs sent; sequence number and send time of the one out;
  the measured path delay. -/
  svcRow : Nat := 0
  svcWait : Option (Nat × Nat) := none
  svcT21 : Int := 0
  svcSeq : Nat := 0
  svcReq : Option (Nat × Nat) := none
  svcDelay : Int := 0
  /-- Masters heard, and the portIdentity of the one chosen. -/
  svcSeen : List SvcMaster := []
  svcMaster : Option Nat := none
deriving DecidableEq, Repr

/-! ### Command queues (13_host_queues.md) -/

/-- A fetched command of a plot (R386): its number in fetch order, SQ, sequence number and entry. -/
structure Cmd where
  no : Nat
  sq : Nat
  seq : Nat
  entry : BitVec 512
deriving DecidableEq, Repr

/-- A completion before it is posted (R386). -/
structure Cpl where
  sq : Nat
  seq : Nat
  tag : Nat
  dup : Bool
  orig : Bool
  status : Nat
  detail : Nat
  value : Nat
deriving DecidableEq, Repr

/-- A copy in progress (R390): host address, plot address, linear HBM address, length, the pieces of a COPY_IN written
into HBM and those that wait for the plot's slice (R415). Piece j holds the bytes of the copy in the host's 512-byte
block j. -/
structure Copy where
  sq : Nat
  seq : Nat
  toHbm : Bool
  host : Nat
  plotAddr : Nat
  addr : Nat
  len : Nat
  /-- Bytes of one of its requests to host memory at most (R376). -/
  cut : Nat
  got : Map (List Byte) := []
  wait : Map (List Byte) := []
deriving DecidableEq, Repr

/-- The queues of a plot: running counts by SQ (R383), commands staged and started, completions. -/
structure Queue where
  grant : Map Nat := []
  submitted : Map Nat := []
  /-- Commands that have left staging or never entered it (R383). -/
  fetched : Map Nat := []
  completed : Map Nat := []
  /-- Tail last written by the host (R384), and the SQ the next grant step begins with (R383). -/
  tail : Map Nat := []
  turn : Nat := 0
  /-- Entries read from host memory and not yet checked, at 4096·q + ring index; commands fetched so far. -/
  arrived : Map (Option (BitVec 512)) := []
  fetchNo : Nat := 0
  staged : List Cmd := []
  started : List Cmd := []
  copies : List Copy := []
  /-- The last 256 sequence numbers executed on each SQ, the latest first, and their outcomes (R387): sequence number,
  STATUS, DETAIL, VALUE. -/
  executed : Map (List Nat) := []
  history : Map (List (Nat × Nat × Nat × Nat)) := []
  /-- Completions held (R394). -/
  hold : List Cpl := []
  /-- Completions not yet signalled, and the instant of the first (R386). -/
  unsig : Nat := 0
  unsigAt : Nat := 0
  /-- Credit record: number of writes, whether one is due, and the instant of the last (R385). -/
  credits : Nat := 0
  creditDue : Bool := false
  creditAt : Option Nat := none
  /-- SQs whose fetching an error has stopped (R393). -/
  stopped : Nat := 0
  /-- Instants of the starts within the last µs (R388). -/
  starts : List Nat := []
deriving DecidableEq, Repr

/-! ### Plots and metering (14_plots_isolation.md) -/

/-- Metering of a plot (R417–R421): END of the previous record, records written, the last TOD step of the interval, and
a pending record with its MERGED flag. -/
structure Meter where
  prevEnd : Nat := 0
  rseq : Nat := 0
  step : Option (Nat × Nat) := none
  pend : Option (BitVec 1024) := none
deriving DecidableEq, Repr

/-- The slice in progress (R407): entry, owner, number; and whether its drain has begun. -/
structure Slice where
  owner : Option Nat := none
  number : Nat := 0
  start : Nat := 0
  drained : Bool := true
  /-- Send stop and receive close have passed (R409). -/
  sendStop : Bool := true
  recvClose : Bool := true
deriving DecidableEq, Repr

/-- An abort in progress (R433): its CODE, its start, the commands that wait for it, and the completions it owes. -/
structure Abort where
  plot : Nat
  code : Nat
  at_ : Nat
  cmds : List (Nat × Nat) := []
deriving DecidableEq, Repr

/-- The flush engine (R460–R464): cause, MRAM slot, number, the header while it is still to be written, and the records
still to be copied. -/
structure Flush where
  cause : Nat
  slot : Nat
  num : Nat
  head : List Byte
  /-- Fault slots, trace slots and later fault slots still to be copied, oldest first; later ones copied (R461). -/
  part1 : List Nat
  part2 : List Nat
  part3 : List Nat := []
  later : Nat := 0
  /-- Records committed. -/
  done : Nat := 0
  paused : Bool := false
deriving DecidableEq, Repr

/-! ### Links (08_mesh_links.md) -/

/-- State of a link (R241): training, in service, or out of it. -/
inductive LinkPhase where
  | down
  | signal
  | acquire
  | negotiate
  | verify
  | hello
  | up
  | quarantine
  | refused
  | failed
  /-- A failover or an acquisition without a cached phase is in progress. -/
  | recovering
deriving DecidableEq, Repr

/-- The part of a SEND on one link (R250–R254): the SEND's number, its plot, bundle, mask, flits per link, flits sent,
start instant in ns of MST, and the base address of each of the group's 32 cores. -/
structure SendPart where
  id : Nat
  plot : Nat
  pc : Nat
  lmask : Nat
  flits : Nat
  sent : Nat := 0
  start : Nat
  bases : List Nat
deriving DecidableEq, Repr

/-- The part of a POST on one link (R255): its number, flits written, and the bases. -/
structure PostPart where
  id : Nat
  got : Nat := 0
  bases : List Nat
deriving DecidableEq, Repr

/-- A POST (R255, R256): its plot, port, mask, flits per link, tally, the SEQ cycle it opens in, the links whose part is
complete, and whether a part closed without a signal. `data`: the flits written on each link, kept for a capture. -/
structure Post where
  plot : Nat
  port : Nat
  lmask : Nat
  flits : Nat
  tly : Nat
  openAt : Nat
  done : Nat := 0
  dead : Bool := false
  data : Map (List Byte) := []
deriving DecidableEq, Repr

/-- A flit in a retry buffer (R239): its frame and how often it has been replayed. -/
structure RetryFlit where
  frame : List Byte
  replays : Nat := 0
deriving DecidableEq, Repr

/-- A link of a port (R232–R249). -/
structure Link where
  phase : LinkPhase := .down
  since : Nat := 0
  /-- Mode of R241 and FEC choice: 3 G2-8, 2 G2-4, 1 G1-8, 0 G1-4; DETECT. -/
  mode : Nat := 0
  detect : Bool := false
  credits : Nat := 512
  retry : List RetryFlit := []
  /-- Position in the retry buffer of the next flit to replay. -/
  replay : Option Nat := none
  txSeq : Nat := 0
  rxSeq : Nat := 0
  /-- Discarding flits until rxSeq arrives again (R239), and a NAK to send. -/
  discard : Bool := false
  nakDue : Bool := false
  /-- A flit has been received, so that ACK is valid. -/
  acked : Bool := false
  /-- Instant of the last advance of ACK at this sender. -/
  ackAt : Nat := 0
  /-- Credits to return with the next FLOW. -/
  owed : Nat := 0
  /-- Flits that wait for a POST, oldest first, and since when (R257). -/
  rxBuf : List (List Byte) := []
  waitAt : Nat := 0
  /-- The rest of the transfer is discarded, up to its LAST flit (R256). -/
  skip : Bool := false
  sends : List SendPart := []
  posts : List PostPart := []
  /-- LANE_FAIL and LANE_MAP waiting to be sent (R246): the lane; the lane and its codeword count, and whether it only states
  the map in force on a new circuit (R306). -/
  failDue : Option Nat := none
  mapDue : Option (Nat × Nat) := none
  mapFirst : Bool := false
  /-- Lane maps named and not yet applied: transmit and receive. -/
  txMap : Option (Nat × Nat) := none
  rxMap : Option (Nat × Nat) := none
  /-- A lane this end's receiver has given up, the partner's map for it not yet applied; and a transmit lane given up by a
  ring or a receiver since the last slow re-plan (R246, R306). -/
  rxGiven : Option Nat := none
  gaveUp : Option Nat := none
  /-- No LANE_MAP has come on this circuit yet: the first states the map in force (R306). -/
  newRx : Bool := false
  /-- New flits stopped by a remap (R246). -/
  txHold : Bool := false
  /-- A lane failover of the transmit, or the receive, direction is in progress (R246, R262). -/
  txOver : Bool := false
  rxOver : Bool := false
  /-- Onset of an interruption being measured on the transmit and on the receive side, and whether LNK_FAILOVER_LOC holds its
  failover (R247); the first flit lost of those now discarded. -/
  txOnset : Option (Nat × Bool) := none
  rxOnset : Option (Nat × Bool) := none
  lostAt : Option Nat := none
  /-- Its home circuit has disagreed and not agreed since (R242); training in the present re-plan phase is over (R241). -/
  quar : Bool := false
  tried : Bool := false
  /-- The sampling phase in use, as a number of its own (R273). -/
  sample : Nat := 0
  /-- Instant before which an uncached circuit sends nothing (R283). -/
  sendFrom : Nat := 0
deriving DecidableEq, Repr

/-! ### Circuit switch (09_circuit_switch.md) -/

/-- A kept result of link training (R273): its key, mode, FEC choice, lane map of both directions, whether the allée budget
or a hello refused the circuit, the cached sampling phase as a number of its own, and the path delay in 2⁻⁴ ns. -/
structure Kept where
  llink : Nat
  x : Nat
  y : Nat
  z : Nat
  inter : Nat
  mode : Nat
  detect : Bool
  txSpare : Nat
  rxSpare : Nat
  budget : Bool := true
  hello : Bool := true
  sample : Nat := 0
  delay : Nat
deriving DecidableEq, Repr

/-- An armed trigger (R278): its bank, fire time, source (0 register, 1 circuit slot, 2 slice boundary), plot and bundle. -/
structure Trig where
  bank : Nat
  at_ : Nat
  src : Nat
  plot : Nat
  pc : Nat
deriving DecidableEq, Repr

/-- A guard in progress (R281): fire time, old and new bank, and whether the elements have switched. -/
structure Guard where
  at_ : Nat
  old : Option Nat
  bank : Nat
  switched : Bool := false
deriving DecidableEq, Repr

/-- A circuit-slot operation on its way to the CSC (R278): arrival instant, opcode, bank, offset, run, plot, bundle. -/
structure CscOp where
  at_ : Nat
  op : Nat
  bank : Nat
  tofs : Nat
  run : Nat
  plot : Nat
  pc : Nat
deriving DecidableEq, Repr

/-- A change inside the switch that comes at an instant of its own: shutters open (R281, R285), or receivers load what was
kept for their circuits (R281: bank, links not locked to load), with the bank that is entered. -/
inductive FabAct where
  | open_ (outs : List Nat)
  | load (bank : Nat) (links : List (Nat × Nat))
deriving DecidableEq, Repr

/-- A slow re-plan in progress (R285): the phases still to come (`none` the spare phase), the target, the start of the
present phase and what it serves. -/
structure Replan where
  todo : List (Option Nat)
  target : Nat
  phaseAt : Nat
  phase : Option (Option Nat) := none
  /-- Banks brought to TRAINING, with the state they return to. -/
  back : Nat := 0
deriving DecidableEq, Repr

/-- The circuit switch. -/
structure Csc where
  trig : Option Trig := none
  guard : Option Guard := none
  ops : List CscOp := []
  replan : Option Replan := none
  replanAt : Option Nat := none
  /-- A slow re-plan has ended since power-on or pin reset (R509). -/
  replanned : Bool := false
  /-- Results kept for transceiver t of port p at 17p + t, most recently used first (R273). -/
  kept : Map (List Kept) := []
  /-- Start of the CHECKING of each bank. -/
  checking : Map Nat := []
  /-- Banks whose re-route for a substitution is not finished (R290). -/
  reroute : Nat := 0
  /-- The fabric (R267, R268): the sub-networks the path of entry e of bank b takes, as a number below 128, at 256b + e;
  the state each element's phase shifter is driven to, 0 none, 1 bar, 2 cross; the outputs whose shutter the plan in force
  opens (R269); what is to come, with its instant. -/
  route : Map Nat := []
  elem : Map Nat := []
  shut : List Nat := []
  fabDue : List (Nat × FabAct) := []
  /-- Stuck elements: state 1 cross, plus 1 (R291); and the entries of bank b at 256b + e that cross one. -/
  stuck : Map Nat := []
  crossing : Map Bool := []
  /-- Transceiver and fibre failures found during a guard (R292): true a fibre, port, transceiver or fibre, direction. -/
  late : List (Bool × Nat × Nat × Nat) := []
  /-- Fibre pairs whose egress is blocked, at 17p + f (R248). -/
  blocked : Map Bool := []
deriving DecidableEq, Repr

/-! ### Lasers (10_optical_engines.md) -/

/-- A laser (R301, R302, R310): when its start or tuning began, its strikes, whether ENABLE was cleared while the
spare served, and the instant a ramp of its bias ends. Its state, range and bias stand in OPT_LASER_STATUS_p_j. -/
structure Laser where
  at_ : Nat := 0
  strikes : Nat := 0
  held : Bool := false
  ramp : Option Nat := none
deriving DecidableEq, Repr

/-- The optical engines. -/
structure Optics where
  /-- Laser j of bank p at 11p + j. -/
  laser : Map Laser := []
  /-- Transmit equaliser taps in effect, and waiting for a boundary, of ring 153p + 9t + w (R303). -/
  ffe : Map Word := []
  ffeDue : Map Word := []
  /-- Offsets of the trim registers whose requests wait for a boundary (R342), oldest first. -/
  trims : List Nat := []
  /-- Consecutive low scans of a receive channel (R309). -/
  low : Map Nat := []
  /-- Channel of the measurement asked for (R308). -/
  meas : Nat := 0
  /-- What the calibration store gives each loop and laser, item k of loop, laser or element i at 4096·k + i: 0 POL
  (negative: −1), 1 locked level (R335), 2 d0 (R327), 3 state offset (R337), 4 target power (R300), 5 first bias,
  6 set-point of laser l for wavelength w at i = 9l + w, 7 equaliser taps of transmit ring i as OPT_LANE_FFE holds them,
  8 word k of coefficient bank b of class c at i = 32c + 16b + k. -/
  cal : Map Int := []
deriving DecidableEq, Repr

/-! ### Anneal engine (11_anneal_engine.md) -/

/-- An exact fraction in lowest terms: `n / d`, `d` positive. -/
structure Frac where
  n : Int := 0
  d : Nat := 1
deriving DecidableEq, Repr

/-- State of a loop (R332). -/
inductive LoopSt where
  | off
  | homing
  | ramp
  | locked
  | hold
  | failed
deriving DecidableEq, Repr

/-- A homing sweep (R339): coarse or fine, the code set, the least and greatest reading of the coarse sweep and their
codes, the end of the fine sweep, and its inside flag, run, chatter count and first edge. -/
structure Homing where
  coarse : Bool
  code : Nat
  lo : Nat := 0
  hi : Nat := 0
  xlo : Nat := 0
  xhi : Nat := 0
  stop : Nat := 0
  inside : Bool := false
  run : Nat := 0
  chatter : Nat := 0
  h1 : Option Nat := none
deriving DecidableEq, Repr

/-- A heater loop (R322–R340). -/
structure Loop where
  st : LoopSt := .off
  /-- SETPT, in units of 2⁻¹⁷; and a new set-point waits for the next update. -/
  setpt : Nat := 0
  fresh : Bool := false
  /-- Heater code in force, the code last written with its pilot, and SAT of the last update. -/
  code : Nat := 0
  dac : Nat := 0
  sat : Bool := false
  /-- Samples of the present period: their sum and number (R324). -/
  sum : Nat := 0
  count : Nat := 0
  /-- Demodulators (R326): the continuous low-pass, and the sums over the present window against the tone and against its
  second harmonic; fixed point, 2⁻⁹⁶ of full scale. -/
  lowPass : Int := 0
  win1 : Int := 0
  win2 : Int := 0
  /-- The next update is skipped for the loop-back check of a self-test (R344). -/
  skip : Bool := false
  /-- Control law (R327): notch history, integrator, last drive. -/
  e1 : Frac := {}
  e2 : Frac := {}
  f1 : Frac := {}
  f2 : Frac := {}
  i : Frac := {}
  u : Frac := {}
  /-- Thermal model (R338). -/
  th : Frac := {}
  uPrev : Frac := {}
  mPrev : Frac := {}
  run : Nat := 0
  /-- Ramp (R334): it starts at the next update; measured start, updates since. -/
  start : Bool := false
  m0 : Frac := {}
  n : Nat := 0
  /-- Heater move to a new bias code before the ramp: from, to, updates made. -/
  move : Option (Nat × Nat × Nat) := none
  /-- Updates in a row within LOCK_TOL, and beyond it. -/
  good : Nat := 0
  bad : Nat := 0
  /-- Plant gain s: mantissa and exponent (R326, R331); the present window is discarded. -/
  s : Option (Int × Int) := none
  spoiled : Bool := true
  /-- The owner holds the loop (R336). -/
  held : Bool := false
  /-- The heater falls to 0 after a disable: from, updates made. -/
  down : Option (Nat × Nat) := none
  /-- Last home code, its threshold in units of 2⁻¹⁷ of full scale, the element state homed in (cross). -/
  home : Option Nat := none
  thr : Frac := {}
  cross : Bool := false
  sweep : Option Homing := none
  /-- GAINCAL (R344): 1 waits for a window boundary, 2 runs its window. -/
  gaincal : Nat := 0
deriving DecidableEq, Repr

/-- A calibration request (R344, R345). -/
structure CalReq where
  kind : Nat
  port : Nat
deriving DecidableEq, Repr

/-- The Anneal engine. -/
structure Anneal where
  loop : Map Loop := []
  cal : Option CalReq := none
  /-- Receive rings and elements have begun to home at start-up (R341, R508). -/
  rxBegun : Bool := false
deriving DecidableEq, Repr

/-! ### The non-volatile store and firmware (17_firmware.md) -/

/-- The fuses (R480, R541, R545): inputs of the part. Key hashes in FIPS byte order, most significant first. -/
structure Fuses where
  key0 : BitVec 384 := 0
  key1 : BitVec 384 := 0
  present : Nat := 0
  revoked : Nat := 0
  floor : Nat := 0
  serial : Nat := 0
deriving DecidableEq, Repr

/-- What the ROM is checking a slot for (R482). -/
inductive Try where
  /-- No valid boot record: slots 0 and 1 in turn. -/
  | blank
  /-- The active slot. -/
  | active
  /-- The other slot, the active one having failed. -/
  | other
  /-- The other slot, in a fall-back with a cause of FWU_STATUS. -/
  | fall (cause : Nat)
deriving DecidableEq, Repr

/-- Where the management core stands (R481, R482, R490): no boot yet, the ROM checking a slot, Chous loading components,
Chous in service, Crucible. -/
inductive BootPhase where
  | off
  | rom
  | check (slot : Nat) (why : Try)
  | load
  | run
  | crucible
deriving DecidableEq, Repr

/-- An update in progress (R487, R488); its state and REASON stand in FWU_UPD_STATUS. -/
structure Update where
  slot : Nat := 0
  delta : Bool := false
  header : List Byte := []
  /-- Next stream offset, bytes of body written, stream bytes not yet used. -/
  next : Nat := 0
  written : Nat := 0
  buf : List Byte := []
  /-- Total length FW_END named. -/
  total : Nat := 0
  /-- A delta's header has been read; operations left; bytes left of a DATA operation; an operation was malformed. -/
  begun : Bool := false
  ops : Nat := 0
  dataLeft : Nat := 0
  bad : Bool := false
  /-- Instant of the last FW_DATA, or of FW_BEGIN; the requester that waits for FW_END's answer. -/
  at_ : Nat := 0
  waits : Option (Peer × Nat) := none
deriving DecidableEq, Repr

/-- The firmware. -/
structure Fw where
  phase : BootPhase := .off
  /-- Instant the ROM started this boot, slot started, trial, components ready (bit id), instant of the last load. -/
  bootAt : Nat := 0
  slot : Nat := 0
  trial : Bool := false
  ready : Nat := 0
  loadAt : Nat := 0
  /-- CONFIRM has been written; a watchdog expiry since the boot (R483). -/
  pfConfirm : Bool := false
  wdog : Bool := false
  /-- Cause of a fall-back the next boot makes: 2 TIMEOUT, 4 REJECT, 5 LOAD (R483); and a firmware reset due, once a
  HALT_ALL is over. -/
  fall : Nat := 0
  resetDue : Bool := false
  upd : Update := {}
  /-- Answered requests, newest first, at most 64 of one requester (R486). -/
  answered : List (Peer × Nat × List Byte) := []
  /-- On a rack master, packages that have reported a bank READY with the expected digest, and at the mesh master the
  racks confirmed (R26): coordinate or rack number, bank. -/
  reports : List (Nat × Nat) := []
  racks : List (Nat × Nat) := []
  /-- Banks that PLAN_STAGE staged and whose check is not yet reported (R286). -/
  planned : List Nat := []
deriving DecidableEq, Repr


/-! ### The whole part -/

/-- A pin the device drives. -/
inductive Pin where
  | flowHoldN
  | thermtripN
  | tpOut (n : Nat)
deriving DecidableEq, Repr

/-- What the device sends to the world outside it. -/
inductive Out where
  /-- An MSI-X message: function, vector, and the table entry's address and data. -/
  | msix (func vec addr : Nat) (data : Word)
  /-- A frame of 264 bytes on a link: port, link. -/
  | frame (port link : Nat) (bytes : List Byte)
  /-- A write to host memory. -/
  | hostWrite (func addr : Nat) (bytes : List Byte)
  /-- A read request to host memory on a tag. -/
  | hostRead (func tag addr len : Nat)
  /-- Unsupported Request, to an access before the end of the BOOT stage (R510). -/
  | unsupported
  /-- The answer to a register read. -/
  | regData (w : Word)
  /-- The answer to an aperture read; poisoned where it met an uncorrectable error (R380). -/
  | aperture (bytes : List Byte) (poisoned : Bool)
  /-- An MCTP answer's body (R399, R400). -/
  | mctp (bytes : List Byte)
  /-- A level of a pin. -/
  | pin (p : Pin) (high : Bool)
  /-- An I3C in-band interrupt (R399). -/
  | ibi
  /-- A time cell in a link's idle pattern (R355), or none: fill cells, until the next. -/
  | cell (port link : Nat) (bytes : Option (List Byte))
  /-- A UDP datagram on the service port (R361): destination address and port, and its payload. -/
  | udp (addr port : Nat) (bytes : List Byte)
  /-- A message of the service protocol a rack master sends on (R26), to addresses the spec does not give: its TYPE and
  payload. -/
  | forward (type : Nat) (bytes : List Byte)
  /-- The answer to a service message, an ARP or an ICMP request (R485, R486): its bytes. -/
  | service (bytes : List Byte)
deriving DecidableEq, Repr

/-- A consequence a command leaves to the end of its own instant (Machine/Settle.lean). -/
inductive Due where
  /-- An ABORT of a plot with a CODE of CLASS 8 (R432, R433). -/
  | abort (plot code : Nat)
  /-- The end of a replayed run at its first difference (R469). -/
  | replayEnd (plot : Nat)
  /-- A flush of the recorder for a cause (R460). -/
  | flush (cause : Nat)
deriving DecidableEq, Repr

/-- What hardware has updated in one SEQ cycle, which R12 asks of a software access of the same cycle: the cycle, each
counter field with its value before and its increments, the W1C bits set by register offset, and the sources of R546 that
rose again while their bit was set. -/
structure Updates where
  at_ : Nat := 0
  counts : List (Fld × Nat × Nat) := []
  sets : Map Nat := []
  again : Nat := 0
  wrote : Map Nat := []
  sideband : Map Word := []
deriving DecidableEq, Repr

/-- The state of the part. -/
structure State where
  /-- The model's clock, in units of 1/11 ns since power-on: one SEQ cycle at 1,100 MHz is 10 units. -/
  now : Nat := 0
  /-- Free values drawn so far (the model's own field). -/
  fresh : Nat := 0
  /-- Registers of PF BAR0 by byte offset; unlisted: the reset value (Machine/Registers.lean). -/
  regs : Map Word := []
  /-- High words latched by R9 and R539, at accessor × 2^28 + offset of the high word, plus 1; 0 none. -/
  latch : Map Nat := []
  /-- Hardware updates of the current SEQ cycle (R12). -/
  upds : Updates := {}
  /-- What the device has sent, newest first (the model's own field). -/
  out : List Out := []
  due : List Due := []
  /-- Status FIFO, oldest first (R396, R397), and whether the next entry stored carries LOST. -/
  sfifo : List Word := []
  sfLost : Bool := false
  /-- SEQ cycle and rank of the event held in GLB_ERR_LOC (R543). -/
  errAt : Option (Nat × Nat) := none
  /-- (CLASS, CODE) pairs already entered for a plot in its run or in the slice (R431). -/
  reported : List (Nat × Nat × Nat) := []
  func : Map Func := []
  /-- VFs enabled, of 16, and ARI Capable Hierarchy (R377). -/
  vfs : Nat := 0
  ari : Bool := false
  /-- MCTP endpoint ID and I3C dynamic address (R399). -/
  eid : Nat := 0
  i3cAddr : Option Nat := none
  recFault : RecClass := {}
  recTrace : RecClass := {}
  cores : Cores := {}
  seq : Seq := {}
  /-- Trace writes are stopped by a flush (R461). -/
  traceStop : Bool := false
  /-- SB_SEL of the straps: 1 selects I3C (R525). -/
  strapI3c : Bool := false
  hbm : Hbm := {}
  /-- Accepted requests of each stream engine, oldest first (R182). -/
  eng : Map (List StmReq) := []
  /-- A SEQ cycle, and the positions each engine has freed in it (R183). -/
  engFreed : Nat × Map Nat := (0, [])
  /-- Descriptor store (R185); unlisted: not VALID. -/
  desc : Map (BitVec 1024) := []
  /-- The descriptor load in progress (R186). -/
  dload : Option Load := none
  tally : Tally := {}
  sdl : Sundial := {}
  queue : Map Queue := []
  /-- The plot whose function is the next to take a tag (R392). -/
  tagTurn : Nat := 0
  /-- Counter k of plot n at 8n + k (R417). -/
  meter : Map Nat := []
  mrec : Map Meter := []
  mtrNext : Nat := 0
  slice : Slice := {}
  aborts : List Abort := []
  /-- Start of the HALT_ALL in progress (R435). -/
  haltAt : Option Nat := none
  /-- Thermal state of each sensor group of R429's coding: 0 NORMAL, 1 WARN, 2 ACT, 3 TRIP (R442). -/
  therm : Map Nat := []
  tripAt : Option Nat := none
  /-- THERMTRIP_N is low (R444, R523). -/
  thermtrip : Bool := false
  /-- The armed injection: KIND, TARGET and ADDR as they stood at its arming (R445). -/
  inj : Option (Nat × Nat × Nat) := none
  /-- The LANE_DARK and FIBRE_DARK injections in force until DONE is cleared: KIND and TARGET (R445). -/
  dark : List (Nat × Nat) := []
  /-- The management core is held in reset since (R439). -/
  wdogAt : Option Nat := none
  /-- Capture writes that wait for a paused stack (R467): address and bytes. -/
  capWait : List (Nat × List Byte) := []
  /-- Recorder slots (R451); unlisted: not written since power-on. -/
  recs : Map (BitVec 8192) := []
  /-- Power-ons so far, which number the undefined words of the slots (the model's own field). -/
  recEpoch : Nat := 0
  flush : Option Flush := none
  /-- A fault flush waits (R460); when the last one ended. -/
  flushWait : Bool := false
  flushEnd : Option Nat := none
  /-- MST of the last PERIODIC trigger in ns, plus 1; 0 none since MST was last stepped (R454). -/
  hmkAt : Nat := 0
  /-- Where in the capture buffer the record the replay compares next stands, in units of 32 bytes, and its number. -/
  replay : Nat := 0
  replayNo : Nat := 0
  /-- PWRFAIL_N is high, since when; BKP_FAIL_N reports failing rails (R464). -/
  pwrHigh : Bool := true
  pwrHighAt : Option Nat := none
  bkpFail : Bool := false
  /-- Logical link l of port p at 32p + l. -/
  link : Map Link := []
  /-- Open POSTs by number, and the number of SENDs and POSTs so far. -/
  post : Map Post := []
  /-- Flits sent of each SEND of a captured run, at 32 × number + link (R468). -/
  sendData : Map (List Byte) := []
  /-- The plot whose transfers are received (R255): that of the slice's run, up to its end or, after SLICE_END, to the
  receive close. -/
  linkPlot : Option Nat := none
  xferNo : Nat := 0
  /-- LNK_CFG_0 has been written since reset: the extents are named (R241, R508). -/
  extents : Bool := false
  csc : Csc := {}
  opt : Optics := {}
  anl : Anneal := {}
  fuses : Fuses := {}
  /-- NOR device (chip-select 0) and MRAM device (chip-select 1) by offset (R475); unlisted: 0xFF erased, and 0. -/
  nor : Map Byte := []
  mram : Map Byte := []
  fw : Fw := {}
  /-- Power and reset (18_power_reset_clocks.md): VAON holds; RESET_N is low; TEST_EN was high at the last release; the
  SB_ADDR strap; instant of reset release. -/
  powered : Bool := true
  inReset : Bool := true
  testEn : Bool := false
  strapAddr : Nat := 0
  releaseAt : Nat := 0
  /-- PWRFAIL_N's last fall; the power-down's instant zero and the steps made (R511); the reference was lost (R502). -/
  pwrLowAt : Nat := 0
  down : Option (Nat × Nat) := none
  refLost : Bool := false
  /-- The commands that wait, first in, first out (the model's own field). -/
  pending : List Instr := []
deriving DecidableEq, Repr

/-- The machine right after power-on: every field at the value the spec gives for reset, or the one its log entry
names. -/
def State.reset : State := {}

end Sys2Proof.Machine
end

