-- ==== Sys2Proof/Machine/Ops.lean ====
section
/-! DEFINITION. The named operations every unit uses: registers and their fields (R9, R12), the global error status
(R543), interrupts (R381, R546), the status FIFO (R396–R398), recorder triggers (R454, R455) and fault reports
(R429–R432). -/
namespace Sys2Proof.Machine

/-! ### Registers -/

/-- Inner and outer index of an offset in a row of the register map, if the row has a register there. -/
def rowIndex (r : RegRow) (off : Nat) : Option (Nat × Nat) :=
  if off < r.base then none
  else
    let i := (off - r.base) / r.s1
    let j := ((off - r.base) % r.s1) / r.s2
    let i' := if r.n1 = 1 then 0 else i
    let j' := if r.n1 = 1 then (off - r.base) / r.s2 else j
    if i' < r.n1 ∧ j' < r.n2 ∧ r.base + (if r.n1 = 1 then 0 else i' * r.s1) + j' * r.s2 = off then some (i', j')
    else none

/-- The first row of a list that has a register at an offset. -/
def findRow (off : Nat) : List RegRow → Option RegRow
  | [] => none
  | r :: rs => match rowIndex r off with
    | some _ => some r
    | none => findRow off rs

/-- The row of the register map for an offset of PF BAR0 (R547); none at a reserved offset. -/
def regRow (off : Nat) : Option RegRow := findRow off (regBlock off)

/-- The reset value of a register (R547); 0 at a reserved offset (R13). -/
def regReset (off : Nat) : Word :=
  match regRow off with
  | none => 0
  | some r => match rowIndex r off with
    | some (_, j) => BitVec.ofNat 32 (r.reset + j * r.inc)
    | none => 0

/-- The word a register holds. -/
def reg (off : Nat) (s : State) : Word := get (regReset off) off s.regs

/-- Set the word a register holds. -/
def setReg (off : Nat) (w : Word) (s : State) : State := { s with regs := put (regReset off) off w s.regs }

/-- A field of a register. -/
def fld (f : Fld) (s : State) : Nat := bits (reg f.off s).toNat f.hi f.lo

/-- Is the field nonzero? -/
def flag (f : Fld) (s : State) : Bool := fld f s != 0

/-- Set a field of a register, modulo its width. -/
def setFld (f : Fld) (v : Nat) (s : State) : State :=
  setReg f.off (BitVec.ofNat 32 (putBits (reg f.off s).toNat f.hi f.lo v)) s

/-- Set several fields. -/
def setFlds : List (Fld × Nat) → State → State
  | [], s => s
  | (f, v) :: fs, s => setFlds fs (setFld f v s)

/-- The field of a word written to its register. -/
def wfld (f : Fld) (w : Word) : Nat := bits w.toNat f.hi f.lo

/-- The largest value of a field. -/
def fldMax (f : Fld) : Nat := 2 ^ (f.hi + 1 - f.lo) - 1

/-- The SEQ cycle the present instant lies in (1,100 MHz). -/
def cycle (s : State) : Nat := s.now / 10

/-- The hardware updates of the present cycle. -/
def updates (s : State) : Updates := if s.upds.at_ = cycle s then s.upds else { at_ := cycle s }

/-- Keep the hardware updates of the present cycle. -/
def setUpds (u : Updates) (s : State) : State := { s with upds := u }

/-- Count `n` more increments of a field that held `v` before them. -/
def noteCount (f : Fld) (v n : Nat) : List (Fld × Nat × Nat) → List (Fld × Nat × Nat)
  | [] => [(f, v, n)]
  | (g, w, k) :: l => if g = f then (g, w, k + n) :: l else (g, w, k) :: noteCount f v n l

/-- Add to a saturating counter field. -/
def addSat (f : Fld) (n : Nat) (s : State) : State := setFld f (min (fld f s + n) (fldMax f)) s

/-- Count `n` events of the present cycle in a saturating counter field. -/
def bump (f : Fld) (n : Nat) (s : State) : State :=
  let u := updates s
  addSat f n (setUpds { u with counts := noteCount f (fld f s) n u.counts } s)

/-- Software has written the bits of `mask` of a register in the present cycle (R12). -/
def noteWrite (off mask : Nat) (s : State) : State :=
  let u := updates s
  setUpds { u with wrote := upd 0 off (mask ||| ·) u.wrote } s

/-- Hardware updates an RW field: a software write of the same cycle wins (R12). -/
def hwFld (f : Fld) (v : Nat) (s : State) : State :=
  if bits (get 0 f.off (updates s).wrote) f.hi f.lo = 0 then setFld f v s else s

/-- Hardware sets the bits of `v` in a W1C field (R12). -/
def raise (f : Fld) (v : Nat) (s : State) : State :=
  let u := updates s
  setFld f (fld f s ||| v) (setUpds { u with sets := upd 0 f.off (v <<< f.lo ||| ·) u.sets } s)

/-- A write of `w` clears the W1C bits it holds 1 for, but those hardware sets in the same cycle (R12). -/
def clearW1c (off : Nat) (w : Word) (s : State) : State :=
  match regRow off with
  | none => s
  | some r =>
    let kept := BitVec.ofNat 32 (get 0 off (updates s).sets)
    setReg off (reg off s &&& ~~~(w &&& BitVec.ofNat 32 r.w1c &&& ~~~kept)) s

/-- Hold the first event since VALID was cleared: set VALID and the fields only where VALID is clear. -/
def holdFirst (valid : Fld) (fs : List (Fld × Nat)) (s : State) : State :=
  if flag valid s then s else raise valid 1 (setFlds fs s)

/-- A 64-bit quantity of two registers (R9). -/
def reg64 (lo hi : Nat) (s : State) : Nat := (reg lo s).toNat + 2 ^ 32 * (reg hi s).toNat

/-- Set both words of a 64-bit quantity. -/
def setReg64 (lo hi : Nat) (v : Nat) (s : State) : State :=
  setReg hi (BitVec.ofNat 32 (v / 2 ^ 32)) (setReg lo (BitVec.ofNat 32 v) s)

/-! ### The clock, outputs and free values -/

/-- Units of the model's clock in one nanosecond, one microsecond and one millisecond. -/
abbrev nsT : Nat := 11
abbrev usT : Nat := 11000
abbrev msT : Nat := 11000000

/-- Send something out of the device. -/
def emit (o : Out) (s : State) : State := { s with out := o :: s.out }

/-- Draw a free word. -/
def freshWord (s : State) : Word := Config.freeWord s.fresh

/-- Count one drawn free value. -/
def drawn (s : State) : State := { s with fresh := s.fresh + 1 }

/-- Leave a consequence to the end of the command. -/
def leave (d : Due) (s : State) : State := { s with due := s.due ++ [d] }

/-- Start-up stage (R508). -/
def stage (s : State) : Nat := fld GLB_STARTUP_STATUS_STAGE s

/-! ### Interrupts -/

/-- Function `f` of the device. -/
def func (f : Nat) (s : State) : Func := get {} f s.func

/-- Change function `f`. -/
def onFunc (f : Nat) (g : Func → Func) (s : State) : State := { s with func := upd {} f g s.func }

/-- Signal MSI-X vector `v` of function `f` (R381): sent with Bus Master Enable and MSI-X Enable set and the entry not
masked, else left pending in the PBA. -/
def msix (f v : Nat) (s : State) : State :=
  let fn := func f s
  let e := get {} v fn.table
  if fn.bme && fn.msixEn && !e.masked then emit (.msix f v e.addr e.data) s
  else onFunc f (fun g => { g with pba := g.pba ||| 2 ^ v }) s

/-- Send the vectors of `f` that are pending and may now be sent (R381), of the first `n`. -/
def msixFlush (f : Nat) : Nat → State → State
  | 0, s => s
  | n + 1, s =>
    let s := msixFlush f n s
    let fn := func f s
    if fn.pba.testBit n && fn.bme && fn.msixEn && !(get {} n fn.table).masked then
      emit (.msix f n (get {} n fn.table).addr (get {} n fn.table).data)
        (onFunc f (fun g => { g with pba := g.pba ^^^ 2 ^ n }) s)
    else s

/-- Send the vector of a source of R546 whose EN is set. -/
def irqSend (src : Nat) (s : State) : State :=
  if flag (GLB_IRQ_ROUTE_EN src) s then msix 0 (fld (GLB_IRQ_ROUTE_VEC src) s) s else s

/-- A source event of R546: sets the pending bit; a rise with EN set sends the vector. -/
def irq (src : Nat) (s : State) : State :=
  let f : Fld := ⟨rGLB_IRQ_PEND, src, src⟩
  if flag f s then
    let u := updates s
    setUpds { u with again := u.again ||| 2 ^ src } s
  else irqSend src (raise f 1 s)

/-! ### Global error status -/

/-- Order of the events of one cycle (R543): the host, the sideband, the VFs by number, the device by offset. -/
def errRank (src fn off : Nat) : Nat := if src = 2 then 2 + fn else if src = 3 then 32 + off else src

/-- Keep which event GLB_ERR_LOC holds. -/
def setErrAt (c r : Nat) (s : State) : State := { s with errAt := some (c, r) }

/-- Record an event of R543. SRC: 0 host, 1 sideband, 2 VF, 3 device. The event held is the first since VALID was cleared,
or of several in its cycle the first in their order. -/
def globalErr (kind src fn off : Nat) (s : State) : State :=
  let r := errRank src fn off
  let first := !flag GLB_ERR_LOC_VALID s || match s.errAt with
    | some (c, r') => c == cycle s && decide (r < r')
    | none => false
  let s := bump GLB_ERR_COUNT_COUNT 1 s
  irq 22 (if first then raise GLB_ERR_LOC_VALID 1 (setFlds [(GLB_ERR_LOC_KIND, kind), (GLB_ERR_LOC_SRC, src),
    (GLB_ERR_LOC_FUNC, fn), (GLB_ERR_OFFSET_OFFSET, off)] (setErrAt (cycle s) r s)) else s)

/-- SRC of R543 for an accessor. -/
def accSrc : Accessor → Nat
  | .host => 0
  | .sideband => 1
  | .vf _ => 2
  | .device => 3

/-- FUNC of R543 for an accessor. -/
def accFunc : Accessor → Nat
  | .vf n => n + 1
  | _ => 0

/-- First offset of plot n's block in PF BAR0 (R538). -/
def plotBase (n : Nat) : Nat := 0x100000 + 0x10000 * n

/-- The offset in the accessor's own BAR0 of a register of PF BAR0 (R540, R543). -/
def accOff (a : Accessor) (off : Nat) : Nat :=
  match a with
  | .vf n => if plotBase n ≤ off then off - plotBase n else off
  | _ => off

/-- "Discarded and recorded in the global error status" (R543), for an access of BAR0 offset `off`. -/
def discard (a : Accessor) (off : Nat) (s : State) : State := globalErr 2 (accSrc a) (accFunc a) (accOff a off) s

/-! ### Recorder triggers (R454, R455) -/

/-- Route of a trigger source: bit 0 the trace class, bit 1 the fault class. -/
def hmkRoute (src : Nat) (s : State) : Nat :=
  if 6 ≤ src then 2 else bits (fld HMK_TRIG_CFG_ROUTE s) (2 * src + 1) (2 * src)

/-- A trigger reaches a class: it starts a snapshot, becomes pending, or merges (R455). -/
def recTrigger (t : Snap) (c : RecClass) : RecClass :=
  match c.busy, c.pending with
  | none, _ => { c with busy := some t }
  | some _, none => { c with pending := some t }
  | some _, some p =>
    { c with pending := some { p with
        src := p.src ||| t.src
        merged := p.merged + 1
        entry := if p.entry = 0 then t.entry else p.entry
        flush := match t.flush with
          | none => p.flush
          | some f => match p.flush with
            | none => some f
            | some g => some (if g < f then f else g) } }

/-- Change the trace class, or the fault class, of the recorder. -/
def onTrace (f : RecClass → RecClass) (s : State) : State := { s with recTrace := f s.recTrace }
def onFault (f : RecClass → RecClass) (s : State) : State := { s with recFault := f s.recFault }

/-- Leave a flush to the end of the command, if one is to come. -/
def leaveFlush (fl : Option Nat) (s : State) : State := match fl with
  | some c => leave (.flush c) s
  | none => s

/-- A trigger of the trace class: a snapshot, or a drop. -/
def traceTrigger (en : Bool) (t : Snap) (s : State) : State :=
  if en && !flag HMK_CTRL_FREEZE s && !s.traceStop then
    setFld HMK_STATUS_TRACE_BUSY 1 (onTrace (recTrigger { t with flush := none }) s)
  else bump HMK_DROP_COUNT_COUNT 1 s

/-- A trigger of the fault class: a snapshot, or a drop, where a flush that was to follow starts by itself. -/
def faultSnap (en : Bool) (t : Snap) (s : State) : State :=
  if en then setFld HMK_STATUS_FAULT_BUSY 1 (onFault (recTrigger t) s)
  else leaveFlush t.flush (bump HMK_DROP_COUNT_COUNT 1 s)

/-- Trigger source `src` with a status FIFO entry and a flush to follow (R454, R460). PWRFAIL or TRIP starts a waiting
fault flush at once. -/
def trigger (src : Nat) (entry : Word) (flush : Option Nat) (s : State) : State :=
  let r := hmkRoute src s
  let en := (flag HMK_CTRL_ENABLE s || decide (6 ≤ src)) && !flag HMK_STATUS_CLEARING s
  let t : Snap := { src := 2 ^ src, entry, merged := 0, flush, at_ := s.now }
  let s := if 6 ≤ src ∧ s.flushWait ∧ s.flush.isNone then leave (.flush 1) s else s
  let s := if bit r 0 then traceTrigger en t s else s
  if bit r 1 then faultSnap en t s else leaveFlush flush s

/-! ### Status FIFO -/

/-- A status FIFO entry (R396). -/
def sfEntry (cls dev plot code detail : Nat) : Word :=
  BitVec.ofNat 32 (cls % 16 * 2 ^ 27 + dev % 2 * 2 ^ 26 + plot % 16 * 2 ^ 22 + code % 256 * 2 ^ 14 + detail % 2 ^ 14)

/-- Assert or release FLOW_HOLD_N for the present fill (R398). -/
def sfHold (s : State) : State :=
  let fill := s.sfifo.length
  let s := setFld GLB_SFIFO_STATUS_FILL fill s
  if flag GLB_SFIFO_STATUS_HOLD s then
    if fill ≤ fld GLB_SFIFO_CTRL_LOW s then emit (.pin .flowHoldN true) (setFld GLB_SFIFO_STATUS_HOLD 0 s) else s
  else if fld GLB_SFIFO_CTRL_HIGH s ≤ fill then
    let s := irq 16 (emit (.pin .flowHoldN false) (setFld GLB_SFIFO_STATUS_HOLD 1 s))
    if s.strapI3c && flag GLB_SB_CFG_I3C_IBI_EN s then emit .ibi s else s
  else s

/-- The FIFO's contents, and whether the next entry stored carries LOST. -/
def setFifo (es : List Word) (lost : Bool) (s : State) : State := { s with sfifo := es, sfLost := lost }

/-- Place an entry in the status FIFO, or drop it where 256 stand (R397). -/
def sfPush (e : Word) (s : State) : State :=
  if 256 ≤ s.sfifo.length then
    bump GLB_SFIFO_STATUS_DROPPED 1 (raise GLB_SFIFO_STATUS_LOST 1 (setFifo s.sfifo true s))
  else
    let e := if s.sfLost then e ||| BitVec.ofNat 32 (2 ^ 31) else e
    sfHold (setFifo (s.sfifo ++ [e]) false s)

/-! ### Fault reports (R429–R432) -/

/-- The recorder's part of every fault of R429: a snapshot by SNAP, a flush by FLUSH (R454, R460). -/
def faultTrigger (cls : Nat) (e : Word) (s : State) : State :=
  let fl := if bit (fld HMK_FAULT_MASK_FLUSH s) cls then some 0 else none
  if bit (fld HMK_FAULT_MASK_SNAP s) cls then trigger 1 e fl s else leaveFlush fl s

/-- A device-scope fault: a FIFO entry with DEV 1 and the PF source of its class (R431, R546). -/
def devFault (cls code detail : Nat) (s : State) : State :=
  let e := sfEntry cls 1 0 code detail
  faultTrigger cls e (irq cls (sfPush e s))

/-- Enter a plot-scope fault in the FIFO, the first of its class and code in the run or slice (R431). -/
def reportOnce (n cls code : Nat) (e : Word) (s : State) : State :=
  if s.reported.contains (n, cls, code) then s
  else sfPush e { s with reported := (n, cls, code) :: s.reported }

/-- Record a plot-scope fault in the plot's registers, and signal its vector for the first of its class (R430, R446). -/
def recordFault (n cls code pc : Nat) (s : State) : State :=
  let cbit : Fld := ⟨rPLOT_FAULT_STATUS n, cls, cls⟩
  let first := !flag cbit s
  let s := bump (PLOT_FAULT_COUNT_COUNT n) 1 (holdFirst (PLOT_FAULT_FIRST_VALID n)
    [(PLOT_FAULT_FIRST_CLASS n, cls), (PLOT_FAULT_FIRST_CODE n, code), (PLOT_FAULT_FIRST_PC n, pc)] (raise cbit 1 s))
  if first && flag (PLOT_FAULT_CFG_IRQ_EN n) s then msix (n + 1) (fld (PLOT_FAULT_CFG_VEC n) s) s else s

/-- A stop fault of plot n leaves its abort (R432). -/
def stopFault (n cls : Nat) (s : State) : State :=
  if 1 ≤ cls && cls ≤ 7 && bit (fld (PLOT_FAULT_CFG_STOP n) s) (cls - 1)
      && !flag (PLOT_FAULT_STATUS_ABORTING n) s && !s.due.contains (.abort n 3) then leave (.abort n 3) s
  else s

/-- A plot-scope fault (R430–R432). -/
def plotFault (n cls code detail pc : Nat) (s : State) : State :=
  let e := sfEntry cls 0 n code detail
  stopFault n cls (faultTrigger cls e (reportOnce n cls code e (recordFault n cls code pc s)))

end Sys2Proof.Machine
end

