-- ==== Sys2Proof/Machine/Operands.lean ====
section
/-! DEFINITION. The storage of a core as operands (03_cores.md): registers (R67–R71), SRAM lines and their error
protection (R72, R78), core masks (R86), landing of pipeline results (R71, R77, R117) and the scrub (R92). -/
namespace Sys2Proof.Machine

/-- Die, flat row and column of core c = flat row × 32 + column (R14). -/
def coreDie (c : Nat) : Nat := c / 512
def coreRow (c : Nat) : Nat := c / 32
def coreCol (c : Nat) : Nat := c % 32

/-- The value of address register i of core c after a scrub (R68, R92). -/
def aScrub (c i : Nat) : Word :=
  BitVec.ofNat 32 (match i with
    | 13 => coreDie c
    | 14 => coreRow c
    | 15 => coreCol c
    | _ => 0)

/-- Core c. -/
def coreAt (c : Nat) (s : State) : Core := get {} c s.cores.core

/-- Change core c. -/
def onCore (c : Nat) (f : Core → Core) (s : State) : State :=
  { s with cores := { s.cores with core := upd {} c f s.cores.core } }

/-- Address register i of core c (R68). -/
def readA (c i : Nat) (s : State) : Nat := if i = 0 then 0 else (get (aScrub c i) i (coreAt c s).a).toNat

/-- Predicate register i of core c (R69). -/
def readP (c i : Nat) (s : State) : Nat := if i = 0 then 2 ^ 64 - 1 else (get 0 i (coreAt c s).p).toNat

/-- Vector register i of core c. -/
def readV (c i : Nat) (s : State) : Nat := (get 0 i (coreAt c s).v).toNat

/-- Row r of accumulator k of core c. -/
def readAcc (c k r : Nat) (s : State) : Nat := (get 0 (64 * k + r) (coreAt c s).acc).toNat

/-- The 64 lanes of a register value. -/
def lanes (x : Nat) : List Nat := (List.range 64).map fun l => x >>> (32 * l) % 2 ^ 32

/-- A register value of 64 lanes. -/
def ofLanes (xs : List Nat) : Nat := xs.foldr (fun x acc => acc * 2 ^ 32 + x % 2 ^ 32) 0

/-- Spread each bit of `m` over `w` bits, of `n` bits. -/
def spread (w : Nat) : Nat → Nat → Nat
  | 0, _ => 0
  | n + 1, m => spread w n (m / 2) * 2 ^ w + (if m % 2 = 1 then 2 ^ w - 1 else 0)

/-- The bytes of the lanes a predicate selects, as a byte mask. -/
def laneBytes (p : Nat) : Nat := spread 4 64 p

/-- `new` in the bits of `m`, `old` elsewhere. -/
def blend (m new old : Nat) : Nat := Nat.lor (Nat.land new m) (old - Nat.land old m)

/-- Write one result into a core (R68, R69). -/
def landOne (d : Dest) (c m x : Nat) (s : State) : State :=
  onCore c (fun k => match d with
    | .v n => { k with v := put 0 n (BitVec.ofNat 2048 (blend (spread 8 256 m) x (get 0 n k.v).toNat)) k.v }
    | .p n => if n = 0 then k else { k with p := put 0 n (BitVec.ofNat 64 (blend m x (get 0 n k.p).toNat)) k.p }
    | .a n => if n = 0 then k else { k with a := put (aScrub c n) n (BitVec.ofNat 32 x) k.a }) s

/-- Land one result in every core it is for. -/
def landPend (p : Pend) (s : State) : State :=
  forAll (fun (c, m, x) => landOne p.dest c m.toNat x.toNat) p.vals s

/-- Order in which two results land: by the cycle they are due, then the lower place of R71 and R117 first, then the
one issued earlier, then vector slot 0 first; so that the write that takes effect lands last. -/
def pendBefore (x y : Pend) : Bool :=
  decide (x.due < y.due) || (x.due == y.due && (decide (y.rank < x.rank) || (x.rank == y.rank &&
    (decide (x.issued < y.issued) || (x.issued == y.issued && decide (x.slot < y.slot))))))

/-- Insert a result at its place in the landing order. -/
def insertPend (p : Pend) : List Pend → List Pend
  | [] => [p]
  | q :: qs => if pendBefore p q then p :: q :: qs else q :: insertPend p qs

/-- Send a result on its way. -/
def sendPend (p : Pend) (s : State) : State :=
  { s with cores := { s.cores with pend := insertPend p s.cores.pend } }

/-- Land every result due in issue cycle `n` or before, in order (R71, R77, R117). -/
def landDue (n : Nat) (s : State) : State :=
  let due := s.cores.pend.filter fun p => decide (p.due ≤ n)
  forAll landPend due { s with cores := { s.cores with pend := s.cores.pend.filter fun p => decide (n < p.due) } }

/-- Generator g of lane l of core c (R50, R52); unlisted: 0x0001 in every lane. -/
def genReset : BitVec 1024 := BitVec.ofNat 1024 (spread 16 64 (2 ^ 64 - 1) / 0xFFFF)

/-- The 64 generator states of core c. -/
def gens (c : Nat) (s : State) : List Nat :=
  let x := (get genReset c s.cores.gen).toNat
  (List.range 64).map fun l => x >>> (16 * l) % 2 ^ 16

/-- Set the generator states of core c. -/
def setGens (c : Nat) (gs : List Nat) (s : State) : State :=
  let x := BitVec.ofNat 1024 (gs.foldr (fun g acc => acc * 2 ^ 16 + g % 2 ^ 16) 0)
  { s with cores := { s.cores with gen := put genReset c x s.cores.gen } }

/-- Cores a mask pair selects (R86), in increasing order. -/
def selCores (rows cols : Nat) : List Nat :=
  (List.range 32).flatMap fun r =>
    if rows.testBit r then (List.range 32).filterMap fun c => if cols.testBit c then some (32 * r + c) else none
    else []

/-- The core mask table's entry n (R86). -/
def maskRows (n : Nat) (s : State) : Nat := (reg (rSEQ_CMASK_ROW n) s).toNat
def maskCols (n : Nat) (s : State) : Nat := (reg (rSEQ_CMASK_COL n) s).toNat

/-! ### SRAM -/

/-- Key of byte `addr` of core c. -/
def sramKey (c addr : Nat) : Nat := c * 2 ^ 19 + addr

/-- The bytes of core c at [addr, addr + n) as stored. -/
def sramBytes (c addr n : Nat) (s : State) : List Byte := getRange 0 s.cores.sram (sramKey c addr) n

/-- Stored error of the 64-bit word of core c at `addr` (R78). -/
def sramErrAt (c addr : Nat) (s : State) : Nat := get 0 (sramKey c addr / 8) s.cores.sramErr

/-- Eight bytes as delivered: a word with a double-bit error arrives as two lanes of 0x7FC0_0000 (R78). -/
def deliverWord (err : Nat) (bs : List Byte) : List Byte :=
  if err = 2 then bytesLE 4 nan32 ++ bytesLE 4 nan32 else bs

/-- The bytes of core c at [addr, addr + 8·n) as a port delivers them (R78); addr is a multiple of 8. -/
def sramRead (c addr : Nat) : Nat → State → List Byte
  | 0, _ => []
  | n + 1, s => deliverWord (sramErrAt c addr s) (sramBytes c addr 8 s) ++ sramRead c (addr + 8) n s

/-- Count, record and report the stored errors an access of n words at `addr` of core c meets (R78), for plot `n?`. -/
def sramCheck (plot : Option Nat) (c addr : Nat) : Nat → State → State
  | 0, s => s
  | n + 1, s =>
    let e := sramErrAt c addr s
    let loc (u : Nat) (s : State) := holdFirst SEQ_SRAM_ERR_LOC_VALID
      [(SEQ_SRAM_ERR_LOC_UNCORR, u), (SEQ_SRAM_ERR_LOC_CORE, c), (SEQ_SRAM_ERR_LOC_ADDR, addr / 8)] s
    let s :=
      if e = 1 then loc 0 (bump SEQ_SRAM_CE_COUNT_COUNT 1 s)
      else if e = 2 then
        let s := loc 1 (bump SEQ_SRAM_UE_COUNT_COUNT 1 s)
        match plot with
        | some p => plotFault p 2 1 c 0 s
        | none => s
      else s
    sramCheck plot c (addr + 8) n s

/-- One write lands: the words it lies in are rewritten with valid check bits (R78), a word it covers in part with the
data its other bytes hold (DESIGN CHOICE, log entry 15); an injected error adds to the one stored (R98, R445). -/
def landWrite (w : SramWr) (k : Cores) : Cores :=
  let err := clearRange (w.key / 8) ((w.key + w.bytes.length + 7) / 8 - w.key / 8) k.sramErr
  { k with
    sram := putRange 0 w.key w.bytes k.sram
    sramErr := match w.inj with
      | none => err
      | some (i, n) => upd 0 i (fun x => min 2 (x + n)) err }

/-- Writes land in order. -/
def landWrites (ws : List SramWr) (k : Cores) : Cores := ws.foldl (fun k w => landWrite w k) k

/-- The SEQ cycle ends: its program-port writes land, then its service-port writes (R76). -/
def landPorts (k : Cores) : Cores :=
  { landWrites (k.stores ++ k.svcWrites) k with stores := [], svcWrites := [] }

/-- A program-port write of core c at `addr` in the present cycle (R77). -/
def sramStore (c addr : Nat) (bs : List Byte) (s : State) : State :=
  { s with cores := { s.cores with stores := s.cores.stores ++ [{ key := sramKey c addr, bytes := bs }] } }

/-- A service-port write of core c at `addr` in the present cycle (R77). -/
def sramWrite (c addr : Nat) (bs : List Byte) (s : State) : State :=
  { s with cores := { s.cores with svcWrites := s.cores.svcWrites ++ [{ key := sramKey c addr, bytes := bs }] } }

/-- The SRAM as a service-port read of the present cycle meets it: before that cycle's program-port writes (R76), after
the service-port writes made before it. -/
def svcView (s : State) : State := { s with cores := landWrites s.cores.svcWrites s.cores }

/-- Read the n bytes of core c at `addr` through a service port (R76, R78). -/
def portRead (c addr n : Nat) (s : State) : List Byte :=
  let lo := addr / 8 * 8
  ((sramRead c lo ((addr + n + 7) / 8 - addr / 8) (svcView s)).drop (addr - lo)).take n

/-- Errors that such a read meets, for plot `plot`. -/
def portCheck (plot c addr n : Nat) (s : State) : State :=
  { sramCheck (some plot) c (addr / 8 * 8) ((addr + n + 7) / 8 - addr / 8) (svcView s) with cores := s.cores }

/-- Line `n` of core c as a program-port read delivers it. -/
def sramLine (c n : Nat) (s : State) : Nat := natLE (sramRead c (256 * n) 32 s)

/-! ### Injection (R445) -/

/-- The armed injection is of this kind. -/
def injArmed (kind : Nat) (s : State) : Bool := s.inj.any fun i => i.1 == kind

/-- TARGET and ADDR of the armed injection. -/
def injTarget (s : State) : Nat := (s.inj.getD (0, 0, 0)).2.1
def injAddr (s : State) : Nat := (s.inj.getD (0, 0, 0)).2.2

/-- The armed injection has been consumed: DONE is set and CLASS 14 INJECT_DONE enters the FIFO (R445). -/
def injConsume (s : State) : State :=
  devFault 14 2 (s.inj.getD (0, 0, 0)).1 (raise GLB_INJ_CTRL_DONE 1 (setFld GLB_INJ_CTRL_BUSY 0 { s with inj := none }))

/-- SRAM_1 and SRAM_2: a program-port write to the line of ADDR of the target core leaves bits inverted in the line's
first word (R445). -/
def injSram (c line : Nat) (s : State) : State :=
  let k := if injArmed 1 s then 1 else if injArmed 2 s then 2 else 0
  if k != 0 && injTarget s % 1024 == c && bits (injAddr s) 18 8 == line then
    injConsume { s with cores := { s.cores with stores := s.cores.stores ++
      [{ key := sramKey c (256 * line), bytes := [], inj := some (sramKey c (256 * line) / 8, k) }] } }
  else s

/-! ### Scrub -/

/-- Core storage after a scrub (R92, R93): every register, accumulator, generator and SRAM word at its reset value, the
pipelines empty. The mask table is loaded apart. -/
def scrubStorage (s : State) : State :=
  { s with cores := { s.cores with
      core := [], gen := [], sram := [], sramErr := [], stores := [], svcWrites := [], pend := [], mxRun := none,
      mxQueue := none, rowBus := none, colBus := none } }

/-- Start of a scrub (R93): 320 core cycles. -/
def scrubBegin (s : State) : State :=
  let s := setFld SEQ_CORE_STATUS_SCRUB_BUSY 1 s
  { scrubStorage s with seq := { s.seq with scrubEnd := some (s.now + 3200) } }

/-- End of a scrub (R93): the service ports reopen and SCRUB_COUNT counts, wrapping. -/
def scrubEnd (s : State) : State :=
  let s := setFld SEQ_CORE_STATUS_SCRUB_BUSY 0 s
  let s := setFld SEQ_CORE_STATUS_SCRUB_COUNT (fld SEQ_CORE_STATUS_SCRUB_COUNT s + 1) s
  { s with seq := { s.seq with scrubEnd := none } }

end Sys2Proof.Machine
end

