-- ==== Sys2Proof/Machine/Bundle.lean ====
section
/-! DEFINITION. The Kelat bundle (04_bundle_format.md R104–R116): its slots, and the checks of the loader on a bundle
and on the structure of an image (R104, R118, R120, R126, R148, R548). -/
namespace Sys2Proof.Machine

/-- Matrix slot (R108). -/
structure MxSlot where
  op : Nat
  acc : Nat
  clr : Bool
  fmtA : Nat
  fmtB : Nat
  aregA : Nat
  aregB : Nat
  ofsA : Nat
  ofsB : Nat
  kb : Nat
  rsv : Nat

/-- Vector slot (R110). -/
structure VxSlot where
  op : Nat
  vd : Nat
  va : Nat
  vb : Nat
  vc : Nat
  pred : Nat
  pd : Nat
  mod : Nat
  imm : Nat
  rsv : Nat

/-- Scalar/control slot (R111). -/
structure CtlSlot where
  op : Nat
  ad : Nat
  as : Nat
  at_ : Nat
  lvl : Nat
  tgt : Nat
  imm : Nat
  cond : Nat

/-- SRAM load/store slot (R112). -/
structure LsSlot where
  op : Nat
  vr : Nat
  areg : Nat
  ofs : Nat
  postinc : Nat
  pred : Nat
  rsv : Nat

/-- Stream slot (R113). -/
structure SmSlot where
  op : Nat
  eng : Nat
  desc : Nat
  offset : Nat
  tly : Nat
  len : Nat
  rsv : Nat

/-- Link slot (R114). -/
structure LnkSlot where
  op : Nat
  port : Nat
  lmask : Nat
  areg : Nat
  ofs : Nat
  flits : Nat
  tly : Nat
  sofs : Nat
  rsv : Nat

/-- Tally slot (R115). -/
structure TlySlot where
  op : Nat
  tly : Nat
  val : Nat
  cmp : Nat
  wslot : Nat
  tmo : Nat
  grp : Nat
  rsv : Nat

/-- Circuit slot (R116). -/
structure CswSlot where
  op : Nat
  bank : Nat
  tofs : Nat
  rsv : Nat

/-- Matrix slot k of a bundle. -/
def mxSlot (b k : Nat) : MxSlot :=
  let x := bits b (80 * k + 111) (80 * k + 32)
  ⟨bits x 5 0, bits x 6 6, bit x 7, bits x 11 8, bits x 15 12, bits x 19 16, bits x 23 20, bits x 42 24, bits x 61 43,
    bits x 69 62, bits x 79 70⟩

/-- Vector slot k of a bundle. -/
def vxSlot (b k : Nat) : VxSlot :=
  let x := bits b (96 * k + 287) (96 * k + 192)
  ⟨bits x 6 0, bits x 12 7, bits x 18 13, bits x 24 19, bits x 30 25, bits x 33 31, bits x 36 34, bits x 42 37,
    bits x 74 43, bits x 95 75⟩

/-- Scalar/control slot of a bundle. -/
def ctlSlot (b : Nat) : CtlSlot :=
  let x := bits b 447 384
  ⟨bits x 5 0, bits x 9 6, bits x 13 10, bits x 17 14, bits x 19 18, bits x 34 20, bits x 58 35, bits x 63 59⟩

/-- SRAM load/store slot k of a bundle. -/
def lsSlot (b k : Nat) : LsSlot :=
  let x := bits b (64 * k + 511) (64 * k + 448)
  ⟨bits x 5 0, bits x 11 6, bits x 15 12, bits x 34 16, bits x 50 35, bits x 53 51, bits x 63 54⟩

/-- Stream slot k of a bundle. -/
def smSlot (b k : Nat) : SmSlot :=
  let x := bits b (96 * k + 671) (96 * k + 576)
  ⟨bits x 5 0, bits x 9 6, bits x 81 80 * 1024 + bits x 19 10, bits x 51 20, bits x 63 52, bits x 79 64, bits x 95 82⟩

/-- Link slot of a bundle. -/
def lnkSlot (b : Nat) : LnkSlot :=
  let x := bits b 863 768
  ⟨bits x 5 0, bits x 8 6, bits x 25 9, bits x 29 26, bits x 48 30, bits x 64 49, bits x 76 65, bits x 88 77,
    bits x 95 89⟩

/-- Tally slot of a bundle. -/
def tlySlot (b : Nat) : TlySlot :=
  let x := bits b 959 864
  ⟨bits x 5 0, bits x 17 6, bits x 49 18, bits x 52 50, bits x 58 53, bits x 63 59, bits x 71 64, bits x 95 72⟩

/-- Circuit slot of a bundle. -/
def cswSlot (b : Nat) : CswSlot :=
  let x := bits b 1023 960
  ⟨bits x 5 0, bits x 8 6, bits x 40 9, bits x 63 41⟩

/-- TRIG, REPEAT and CMASK of the header (R105). -/
def hdrTrig (b : Nat) : Bool := bit b 16
def hdrRepeat (b : Nat) : Nat := bits b 15 4
def hdrCmask (b : Nat) : Nat := bits b 3 0

/-- A NOP slot must have every bit 0 (R104). -/
def nopOk (op whole : Nat) : Bool := op != 0 || whole == 0

/-- Matrix slot field rules (R108, R548). -/
def mxOk (b k : Nat) : Bool :=
  let m := mxSlot b k
  nopOk m.op (bits b (80 * k + 111) (80 * k + 32)) && m.op ≤ 2 && m.rsv == 0 && m.fmtA ≤ 7 && m.fmtB ≤ 7
    && (m.op != 1 || m.kb != 0)

/-- The MOD values an opcode accepts (R148). -/
def modOk (op m : Nat) : Bool :=
  let lo := m % 8
  let np0 := m / 8 % 2      -- NP
  let bimm := m / 16 % 2
  let int := m / 32
  match op with
  | 0x01 | 0x02 | 0x03 | 0x05 | 0x06 => lo == 0
  | 0x04 => int == 0 && lo == 0
  | 0x07 | 0x08 => bimm == 0 && lo == 0
  | 0x09 | 0x0A | 0x0B | 0x0C => int == 0 && bimm == 0 && lo == 0
  | 0x0D => lo ≤ 5
  | 0x0E => int == 0
  | 0x0F | 0x10 | 0x11 | 0x12 => int == 0 && lo == 0
  | 0x13 => int == 0 && bimm == 0 && lo ≤ 2
  | 0x21 | 0x1E => int == 0 && bimm == 0 && lo == 0
  | 0x20 => int == 0 && bimm == 0
  | 0x1F => bimm == 0 && lo ≤ 2
  | 0x14 => m < 8 && !(m / 2 % 2 == 1 && m % 2 == 1)
  | 0x15 => m < 16 && m / 2 ≤ 5
  | 0x16 => m ≤ 1
  | 0x17 => 1 ≤ m && m ≤ 7
  | 0x18 => m ≤ 1
  | 0x19 => m ≤ 3
  | 0x1A => m == 0
  | 0x1C => m == 0 || m == 4
  | 0x1B => (m % 4 ≤ 2) && m / 4 % 2 == 0 && m / 16 == 0 && np0 ≤ 1
  | 0x1D => (m % 4 ≤ 2) && m / 16 == 0
  | 0x22 => m == 0
  | _ => m == 0

/-- Vector slot field rules (R110, R148). -/
def vxOk (b k : Nat) : Bool :=
  let v := vxSlot b k
  nopOk v.op (bits b (96 * k + 287) (96 * k + 192)) && v.op ≤ 0x22 && v.rsv == 0 && modOk v.op v.mod

/-- Scalar/control slot field rules (R111, R122, R548). -/
def ctlOk (b : Nat) : Bool :=
  let c := ctlSlot b
  nopOk c.op (bits b 447 384) && (c.op ≤ 9 || (0x20 ≤ c.op && c.op ≤ 0x25)) && c.cond ≤ 4

/-- SRAM load/store slot field rules (R112). -/
def lsOk (b k : Nat) : Bool :=
  let l := lsSlot b k
  nopOk l.op (bits b (64 * k + 511) (64 * k + 448)) && l.op ≤ 5 && l.rsv == 0 && (l.op < 4 || l.vr < 8)

/-- Stream slot field rules (R113, R189: LEN is 1 to 2,048). -/
def smOk (b k : Nat) : Bool :=
  let m := smSlot b k
  nopOk m.op (bits b (96 * k + 671) (96 * k + 576)) && m.op ≤ 3 && m.rsv == 0
    && (m.op == 0 || (1 ≤ m.len && m.len ≤ 2048))

/-- Link slot field rules (R114, R250). -/
def lnkOk (b : Nat) : Bool :=
  let l := lnkSlot b
  nopOk l.op (bits b 863 768) && l.op ≤ 2 && l.rsv == 0 && l.port ≤ 5
    && (l.op == 0 || (1 ≤ l.lmask && l.lmask < 2 ^ 16 && l.flits != 0))
    && (l.op != 1 || l.tly == 0) && (l.op != 2 || l.sofs == 0)

/-- Tally slot field rules (R115, R215). -/
def tlyOk (b : Nat) : Bool :=
  let t := tlySlot b
  nopOk t.op (bits b 959 864) && t.op ≤ 4 && t.rsv == 0 && t.cmp ≤ 5 && t.tmo ≤ 18
    && (t.op != 1 || (t.cmp == 0 && t.tmo == 0 && t.wslot == 0 && t.grp == 0))
    && (t.op != 2 || t.grp == 0)
    && (t.op != 3 || (t.tly == 0 && t.val == 0 && t.cmp == 0 && t.tmo == 0 && t.grp == 0))
    && (t.op != 4 || t.cmp == 0)

/-- Circuit slot field rules (R116). -/
def cswOk (b : Nat) : Bool :=
  let c := cswSlot b
  nopOk c.op (bits b 1023 960) && c.op ≤ 3 && c.rsv == 0

/-- Every field rule of a bundle; false is BAD_BUNDLE (R126). -/
def bundleOk (b : Nat) : Bool :=
  bits b 31 28 == 1 && bits b 27 17 == 0 && mxOk b 0 && mxOk b 1 && vxOk b 0 && vxOk b 1 && ctlOk b && lsOk b 0
    && lsOk b 1 && smOk b 0 && smOk b 1 && lnkOk b && tlyOk b && cswOk b

/-- A loop of an image: the LOOP bundle, its level and its last bundle (R119). -/
structure LoopSpan where
  at_ : Nat
  lvl : Nat
  last : Nat
deriving DecidableEq

/-- The loops of an image. -/
def loopsOf (prog : List Nat) : List LoopSpan :=
  (enum 0 prog).filterMap fun (i, b) =>
    let c := ctlSlot b
    if c.op = 0x20 then some ⟨i, c.lvl, c.tgt⟩ else none

/-- Loops whose bodies contain bundle `i`. -/
def containing (ls : List LoopSpan) (i : Nat) : List LoopSpan := ls.filter fun l => l.at_ < i && i ≤ l.last

/-- The innermost loop around bundle `i`: the one that opens last. -/
def innermost (ls : List LoopSpan) (i : Nat) : Option LoopSpan := (containing ls i).getLast?

/-- Structure rules at bundle `i` (R118, R120); false is BAD_STRUCTURE. -/
def structOk (n : Nat) (ls : List LoopSpan) (i b : Nat) : Bool :=
  let c := ctlSlot b
  let around := containing ls i
  (hdrRepeat b == 0 || !(c.op == 0x20 || c.op == 0x21 || c.op == 0x25))
    && (c.op != 0x20 || (c.lvl == around.length && i < c.tgt && c.tgt < n && around.all fun l => c.tgt ≤ l.last))
    && (!(c.op == 0x20 || c.op == 0x21) || around.all fun l => l.last != i)
    && (c.op != 0x21 || (c.tgt < n && innermost ls i == innermost ls c.tgt))
    && (i + 1 != n || ((c.op == 0x25 || (c.op == 0x21 && c.cond == 0)) && around.all fun l => l.last != i))

end Sys2Proof.Machine
end

