-- ==== Sys2Proof/Machine/Crc.lean ====
section
/-! DEFINITION. The checks the spec computes over byte strings: CRC16 (02_number_formats.md R58, 08_mesh_links.md R236)
and CRC-32 (04_bundle_format.md R130). -/
namespace Sys2Proof.Machine

/-- One bit of CRC16: polynomial 0x1021, most significant bit first. -/
def crc16Bit (c : BitVec 16) : BitVec 16 := if c.msb then (c <<< 1) ^^^ 0x1021 else c <<< 1

/-- One byte of CRC16. -/
def crc16Byte (c : BitVec 16) (b : Byte) : BitVec 16 :=
  let x := c ^^^ (b.setWidth 16 <<< 8)
  crc16Bit (crc16Bit (crc16Bit (crc16Bit (crc16Bit (crc16Bit (crc16Bit (crc16Bit x)))))))

/-- CRC16 of a byte string: initial 0xFFFF, no reflection, no final inversion (R58). -/
def crc16 (bs : List Byte) : Nat := (bs.foldl crc16Byte 0xFFFF).toNat

/-- One bit of CRC-32: polynomial 0x04C1_1DB7 reflected, least significant bit first. -/
def crc32Bit (c : BitVec 32) : BitVec 32 := if c.getLsbD 0 then (c >>> 1) ^^^ 0xEDB88320 else c >>> 1

/-- One byte of CRC-32. -/
def crc32Byte (c : BitVec 32) (b : Byte) : BitVec 32 :=
  let x := c ^^^ b.setWidth 32
  crc32Bit (crc32Bit (crc32Bit (crc32Bit (crc32Bit (crc32Bit (crc32Bit (crc32Bit x)))))))

/-- CRC-32 of IEEE 802.3 over a byte string (R130): initial 0xFFFF_FFFF, final inversion. -/
def crc32 (bs : List Byte) : Nat := (~~~ bs.foldl crc32Byte 0xFFFFFFFF).toNat

end Sys2Proof.Machine
end

