-- ==== Sys2Proof/Machine/Time.lean ====
section
/-! DEFINITION. Reading the time bases of Sundial (12_sundial.md R352–R354, R363, R364) and the slice of the instant
(14_plots_isolation.md R407). -/
namespace Sys2Proof.Machine

/-- Clock units in one ns. -/
abbrev nsM : Nat := 2 ^ 32 * 176000000

/-- Clock units that an undisciplined clock gains in one unit of the model's time. -/
abbrev stepM : Nat := 2 ^ 32 * 16000000

/-- Free-running time in ns (R352, R353): 0 until the reference is valid. -/
def freeNs (s : State) : Nat :=
  match s.sdl.refAt with
  | none => 0
  | some r => (s.now - r) / 11

/-- A clock that stood at `v` at instant `at_` and runs at a rate, as it stands now. -/
def clockNow (v at_ : Nat) (rate : Int) (s : State) : Nat :=
  v + ((s.now - at_ : Nat) * ((stepM : Int) + rate)).toNat

/-- MST without its steps. -/
def mstRun (s : State) : Nat :=
  match s.sdl.refAt with
  | none => 0
  | some _ => clockNow s.sdl.run s.sdl.at_ s.sdl.rate s

/-- MST in clock units. -/
def mstM (s : State) : Nat := ((mstRun s : Int) + s.sdl.off).toNat

/-- MST in ns, modulo 2^64, and its fraction in units of 2⁻³² ns. -/
def mstNs (s : State) : Nat := mstM s / nsM % 2 ^ 64
def mstFrac (s : State) : Nat := mstM s / 176000000 % 2 ^ 32

/-- MST_STATE and TOD_STATE (R354, R361). -/
def mstState (s : State) : Nat := fld SDL_STATUS_MST_STATE s
def todState (s : State) : Nat := fld SDL_STATUS_TOD_STATE s

/-- MST is valid: LOCKED, HOLDOVER or MASTER (R354). -/
def mstValid (s : State) : Bool := mstState s == 2 || mstState s == 3 || mstState s == 4

/-- TOD stands still: INVALID or TOD_SRC NONE (R362). -/
def todStill (s : State) : Bool := todState s == 0 || fld SDL_CTRL_TOD_SRC s == 0

/-- TOD in clock units: with TOD_SRC HOST at the rate of MST, else at its own (R361, R362). -/
def todM (s : State) : Nat :=
  if todStill s then s.sdl.tod
  else clockNow s.sdl.tod s.sdl.todAt (if fld SDL_CTRL_TOD_SRC s = 2 then s.sdl.rate else s.sdl.todRate) s

/-- TOD in ns, modulo 2^64, and its fraction. -/
def todNs (s : State) : Nat := todM s / nsM % 2 ^ 64
def todFrac (s : State) : Nat := todM s / 176000000 % 2 ^ 32

/-- Bring the stored clock values to the present instant, so that a rate may change. -/
def rebaseClocks (s : State) : State :=
  { s with sdl := { s.sdl with run := mstRun s, at_ := s.now, tod := todM s, todAt := s.now } }

/-- VT of plot n in ns (R363). -/
def vtNs (n : Nat) (s : State) : Nat :=
  let v := get 0 n s.sdl.vt
  (match s.sdl.vtPlot with
    | some (p, r) => if p = n then v + (mstRun s - r) else v
    | none => v) / nsM % 2 ^ 64

/-- Lengths of a schedule slot and of a slice in ns (R364). -/
def slotNs (s : State) : Nat := fld SDL_SLOT_LEN_LEN s * 16
def sliceNs (s : State) : Nat := fld SDL_SLICE_SLOTS_SLOTS s * slotNs s

/-- Is any plot's run in progress? -/
def runOn (s : State) : Bool := s.seq.run.isSome

/-- Is plot n's run in progress? -/
def runOf (n : Nat) (s : State) : Bool := s.seq.run.any fun r => r.plot == n

/-- PLOT_STATUS.STATE of plot n (R404): 0 FREE, 1 OPEN, 2 CLOSING. -/
def plotState (n : Nat) (s : State) : Nat := fld (PLOT_STATUS_STATE n) s

/-- Is plot n OPEN? -/
def plotOpen (n : Nat) (s : State) : Bool := plotState n s == 1

/-- Add to counter k of plot n (R417), modulo 2^64. -/
def meterAdd (k plot n : Nat) (s : State) : State :=
  { s with meter := upd 0 (8 * plot + k) (fun x => (x + n) % 2 ^ 64) s.meter }

/-- Isolation mode is on (R414). -/
def isoOn (s : State) : Bool := flag SEQ_ISO_CTRL_ISO_ON s

/-- The device is halted or halting (R435). -/
def halted (s : State) : Bool := flag GLB_HALT_STATUS_HALTED s || flag GLB_HALT_STATUS_HALTING s

/-- In isolation mode, may plot n's copies and loads proceed now (R415): in its slice, from t0 + 0.400 µs to the drain
start? -/
def isoWindow (n : Nat) (s : State) : Bool :=
  !isoOn s || (s.slice.owner == some n && !s.slice.drained && decide (s.slice.start + 4400 ≤ s.now))

end Sys2Proof.Machine
end

