-- ==== Sys2Proof/Machine/Hbm.lean ====
section
/-! DEFINITION. HBM as storage (06_stream_memory.md R171–R180, R549): error protection, undefined words, windows, and
the injections of R445. Addresses are linear: stack × 48 GiB + offset (R380). -/
namespace Sys2Proof.Machine

/-- Bytes of a stack, and of the whole HBM. -/
abbrev stackBytes : Nat := 48 * 2 ^ 30
abbrev hbmBytes : Nat := 8 * stackBytes

/-- On whose behalf an access is made: the plot charged with its faults, the engine, and whether it is a loader's. -/
structure HAcc where
  plot : Option Nat
  eng : Nat := 0
  loader : Bool := false

/-- Is a stack FAILED (R174)? -/
def stackFailed (k : Nat) (s : State) : Bool := flag (HBM_STACK_STATUS_FAILED k) s

/-- Is any stack FAILED? -/
def anyFailed (s : State) : Bool := (List.range 8).any fun k => stackFailed k s

/-- The byte stored at an address; where nothing defined stands, a free value (R549). -/
def hbmByte (a : Nat) (s : State) : Byte := get (Config.freeByte (s.hbm.epoch * 2 ^ 39 + a)) a s.hbm.byte

/-- Bits in error of the 32-byte word w: 0 none, 1 one, 2 two. An undefined word may hold any (R549). -/
def wordErr (w : Nat) (s : State) : Nat :=
  if stackFailed (w * 32 / stackBytes) s then 2
  else match get 0 w s.hbm.word with
    | 0 => (Config.freeWord (2 ^ 64 + s.hbm.epoch * 2 ^ 39 + w)).toNat % 3
    | 1 => 0
    | 2 => 1
    | _ => 2

/-- The n bytes at an address as delivered: 0xFF in a word with a double-bit error (R177). -/
def hbmData (a : Nat) : Nat → State → List Byte
  | 0, _ => []
  | n + 1, s => (if wordErr (a / 32) s = 2 then 0xFF else hbmByte a s) :: hbmData (a + 1) n s

/-- Numbers of the 32-byte words that [a, a + n) touches. -/
def wordsOf (a n : Nat) : List Nat :=
  if n = 0 then [] else (List.range ((a + n - 1) / 32 + 1 - a / 32)).map (· + a / 32)

/-- Does an access of n bytes meet an uncorrectable word? -/
def hbmBad (a n : Nat) (s : State) : Bool := (wordsOf a n).any fun w => wordErr w s == 2

/-- Record an error in HBM_ERR_LOC and HBM_ERR_ADDR if none is held, count it, and report an uncorrectable one (R177). -/
def hbmErr (x : HAcc) (w unc : Nat) (s : State) : State :=
  let k := w * 32 / stackBytes
  let s := bump (if unc = 1 then HBM_UE_COUNT_COUNT k else HBM_CE_COUNT_COUNT k) 1 s
  let s := if flag HBM_ERR_LOC_VALID s then s else
    setFld HBM_ERR_ADDR_ADDR (w - k * (stackBytes / 32)) (holdFirst HBM_ERR_LOC_VALID
      [(HBM_ERR_LOC_UNCORR, unc), (HBM_ERR_LOC_STACK, k), (HBM_ERR_LOC_LOADER, b2n x.loader),
       (HBM_ERR_LOC_PLOT, x.plot.getD 0), (HBM_ERR_LOC_ENG, x.eng)] s)
  match unc, x.plot with
  | 1, some p => plotFault p 2 4 (8 * x.eng + k) 0 s
  | _, _ => s

/-- Count, record and report the errors an access of n bytes meets (R177); an access to a FAILED stack counts once
(R174). -/
def hbmCheck (x : HAcc) (a n : Nat) (s : State) : State :=
  if stackFailed (a / stackBytes) s then hbmErr x (a / 32) 1 s
  else forAll (fun w s => match wordErr w s with
    | 0 => s
    | 1 => hbmErr x w 0 s
    | _ => hbmErr x w 1 s) (wordsOf a n) s

/-- Change the HBM. -/
def onHbm (f : Hbm → Hbm) (s : State) : State := { s with hbm := f s.hbm }

/-- HBM_1 and HBM_2 (R445): the write of the word at ADDR of the target stack leaves one or two bits inverted. -/
def injHbm (w : Nat) (s : State) : State :=
  let k := if injArmed 3 s then 2 else if injArmed 4 s then 3 else 0
  let target := injTarget s % 8 * stackBytes + injAddr s % stackBytes
  if k != 0 && target / 32 == w then injConsume (onHbm (fun h => { h with word := ins w k h.word }) s) else s

/-- Store bytes. -/
def hbmStore (a : Nat) : List Byte → Map Byte → Map Byte
  | [], m => m
  | b :: bs, m => hbmStore (a + 1) bs (ins a b m)

/-- Store bytes of word w, whose `e` bits in error it keeps. -/
def hbmPut (w e a : Nat) (bs : List Byte) (s : State) : State :=
  injHbm w (onHbm (fun h => { h with byte := hbmStore a bs h.byte, word := ins w (1 + e) h.word }) s)

/-- A read-modify-write of a part of a word whose read met no double-bit error: every byte of the word is written. -/
def hbmPart (x : HAcc) (w e a : Nat) (bs : List Byte) (s : State) : State :=
  let s := if e = 1 then hbmErr x w 0 s else s
  let old := (List.range 32).map fun i => hbmByte (32 * w + i) s
  hbmPut w e a bs (onHbm (fun h => { h with byte := hbmStore (32 * w) old h.byte }) s)

/-- Write bytes within one 32-byte word: a whole word with fresh check bits, a part by a read-modify-write, which is not
made where the read meets a double-bit error (R178). -/
def hbmWriteWord (x : HAcc) (a : Nat) (bs : List Byte) (s : State) : State :=
  let w := a / 32
  if bs.isEmpty then s
  else if stackFailed (a / stackBytes) s then s
  else if bs.length = 32 then hbmPut w 0 a bs s
  else if wordErr w s = 2 then hbmErr x w 1 s
  else hbmPart x w (wordErr w s) a bs s

/-- Write bytes within one 64-byte access; an access to a FAILED stack is not made, counted once (R174). -/
def hbmWrite (x : HAcc) (a : Nat) (bs : List Byte) (s : State) : State :=
  if bs.isEmpty then s
  else if stackFailed (a / stackBytes) s then hbmErr x (a / 32) 1 s
  else
    let n0 := 32 - a % 32
    let b0 := bs.take n0
    let r1 := bs.drop n0
    let s := hbmWriteWord x a b0 s
    let s := hbmWriteWord x (a + n0) (r1.take 32) s
    hbmWriteWord x (a + n0 + 32) (r1.drop 32) s

/-- Does a write of n bytes at a cover only part of a word (R178)? -/
def partWrite (a n : Nat) : Bool := a % 32 != 0 || n % 32 != 0

/-- Split into accesses of at most 64 bytes, aligned to 64: address and length, `fuel` many. -/
def accesses : Nat → Nat → Nat → List (Nat × Nat)
  | 0, _, _ => []
  | k + 1, a, n =>
    if n = 0 then [] else
      let m := min n (64 - a % 64)
      (a, m) :: accesses k (a + m) (n - m)

/-- The accesses of n bytes at a. -/
def accessesOf (a n : Nat) : List (Nat × Nat) := accesses (n / 64 + 2) a n

/-- Write any number of bytes, access by access. -/
def hbmWriteAll (x : HAcc) (a : Nat) (bs : List Byte) (s : State) : State :=
  forAll (fun (p : Nat × Nat) s => hbmWrite x p.1 ((bs.drop (p.1 - a)).take p.2) s) (accessesOf a bs.length) s

/-- Check any number of bytes, access by access. -/
def hbmCheckAll (x : HAcc) (a n : Nat) (s : State) : State :=
  forAll (fun (p : Nat × Nat) s => hbmCheck x p.1 p.2 s) (accessesOf a n) s

/-- The linear address of an access of n bytes at a plot address (R179, R180); none where the check fails. -/
def window (plot addr n : Nat) (s : State) : Option Nat :=
  let k := addr / 2 ^ 36
  let off := addr % 2 ^ 36
  if addr < 2 ^ 39 ∧ flag (HBM_WIN_VALID plot k) s ∧ off + n ≤ fld (HBM_WIN_SIZE plot k) s * 2 ^ 24 then
    some (k * stackBytes + fld (HBM_WIN_BASE plot k) s * 2 ^ 24 + off)
  else none

/-! ### The aperture (R380) -/

/-- Does an access of n bytes at linear address l meet a stack in its recalibration pause (R176)? -/
def hbmPaused (l n : Nat) (s : State) : Bool :=
  (List.range 8).any fun k => flag (HBM_STACK_STATUS_RECAL k) s
    && decide (l < (k + 1) * stackBytes) && decide (k * stackBytes < l + n)

/-- An access through the aperture is made: a read is answered, poisoned where it met an uncorrectable error. -/
def apertureMade (l : Nat) (write : Option (List Byte)) (n : Nat) (s : State) : State :=
  let acc : HAcc := ⟨none, 0, false⟩
  match write with
  | some bs => hbmWriteAll acc l bs s
  | none => emit (.aperture (hbmData l n s) (hbmBad l n s)) (hbmCheckAll acc l n s)

/-- An access through the aperture is made, or waits for its stack (R176). -/
def apertureServe (l : Nat) (write : Option (List Byte)) (n : Nat) (s : State) : State :=
  if hbmPaused l ((write.map (·.length)).getD n) s then
    onHbm (fun h => { h with wait := h.wait ++ [(l, write, n)] }) s
  else apertureMade l write n s

/-- The accesses that waited are made, but those whose stack still pauses. -/
def apertureResume (s : State) : State :=
  forAll (fun (x : Nat × Option (List Byte) × Nat) => apertureServe x.1 x.2.1 x.2.2) s.hbm.wait
    (onHbm (fun h => { h with wait := [] }) s)

/-- HBM words that become undefined at a reset (R549). -/
def hbmForget (ws : List Nat) (s : State) : State :=
  forAll (fun w s => { s with hbm := { s.hbm with
    byte := clearRange (32 * w) 32 s.hbm.byte, word := del w s.hbm.word } }) ws
    { s with hbm := { s.hbm with epoch := s.hbm.epoch + 1 } }

end Sys2Proof.Machine
end

