-- ==== Sys2Proof/Machine/Capture.lean ====
section
/-! DEFINITION. Capture for replay (16_hallmark_replay.md R467–R469): the records of a run's events, and their comparison
on a bench package. -/
namespace Sys2Proof.Machine

/-- Issue-cycle index of the run's events (R468): 0 at its first issue. -/
def runIdx (s : State) : Nat :=
  match s.seq.run with
  | some r => r.idx
  | none => 0

/-- Does the recorder capture plot n (R467)? -/
def capturing (n : Nat) (s : State) : Bool :=
  flag HMK_CAP_CFG_CAP_EN s && fld HMK_CAP_STATUS_STOP s == 0 && fld HMK_CAP_CFG_CAP_PLOT s == n

/-- Does the bench replay plot n (R469)? -/
def replaying (n : Nat) (s : State) : Bool := flag HMK_CAP_CFG_REPLAY s && fld HMK_CAP_CFG_CAP_PLOT s == n

/-- Linear address of the capture buffer. -/
def capBase (s : State) : Nat := fld HMK_CAP_BASE_BASE s * 2 ^ 20

/-- The 32 bytes of a capture record (R468): bytes 4–11, 12–15, 16–19 and 20–27. -/
def capRecord (kind plot extra a b c d : Nat) : List Byte :=
  [BitVec.ofNat 8 kind, BitVec.ofNat 8 plot] ++ bytesLE 2 extra ++ bytesLE 8 a ++ bytesLE 4 b ++ bytesLE 4 c
    ++ bytesLE 8 d ++ bytesLE 4 0

/-- Does a stack that bytes [a, a + n) of linear HBM lie in pause (R176)? -/
def capPaused (a n : Nat) (s : State) : Bool :=
  flag (HBM_STACK_STATUS_RECAL (a / stackBytes)) s || flag (HBM_STACK_STATUS_RECAL ((a + n - 1) / stackBytes)) s

/-- Write bytes of a capture, behind those that wait for a stack; 64 KiB behind ends the capture with STOP OVERFLOW (R467). -/
def capBytes (a : Nat) (bs : List Byte) (s : State) : State :=
  if s.capWait.isEmpty ∧ !capPaused a bs.length s then hbmWriteAll ⟨none, 0, false⟩ a bs s
  else if 65536 ≤ (s.capWait.map fun x => x.2.length).sum + bs.length then setFld HMK_CAP_STATUS_STOP 2 s
  else { s with capWait := s.capWait ++ [(a, bs)] }

/-- The capture writes that waited are made. -/
def capResume (s : State) : State :=
  forAll (fun (x : Nat × List Byte) s => capBytes x.1 x.2 s) s.capWait { s with capWait := [] }

/-- Write a capture record and the data that follows it; a buffer without room ends the capture with STOP FULL. The buffer ends
with HBM itself. -/
def capWrite (rec_ data : List Byte) (s : State) : State :=
  let used := fld HMK_CAP_STATUS_USED s * 32
  if min (fld HMK_CAP_CFG_CAP_SIZE s * 2 ^ 20) (hbmBytes - capBase s) < used + 32 + data.length then setFld HMK_CAP_STATUS_STOP 1 s
  else
    let s := capBytes (capBase s + used) (rec_ ++ data) s
    if fld HMK_CAP_STATUS_STOP s = 0 then setFld HMK_CAP_STATUS_USED ((used + 32 + data.length) / 32) s else s

/-- The record the replay stands at, from the capture: its 32 bytes, if the address lies in HBM. -/
def replayRecord (s : State) : List Byte :=
  let a := capBase s + 32 * s.replay
  if 32 * s.replay + 32 ≤ fld HMK_CAP_CFG_CAP_SIZE s * 2 ^ 20 ∧ a + 32 ≤ hbmBytes then hbmData a 32 s else []

/-- Units of 32 bytes a record takes with its data. -/
def replayLen (r : List Byte) : Nat := 1 + (leAt r 2 2 + 31) / 32

/-- The first difference of a replay (R469): recorded, and the run ends as by ABORT, its END_CAUSE 5. -/
def diverge (plot kind : Nat) (s : State) : State :=
  if flag HMK_RPL_STATUS_VALID s then s
  else leave (.replayEnd plot) (raise HMK_RPL_STATUS_VALID 1 (setFlds
    [(HMK_RPL_STATUS_KIND, kind), (HMK_RPL_STATUS_REC, s.replayNo)] s))

/-- KIND of R469 for a difference at an event of R468. -/
def divergeKind (ev : Nat) : Nat := match ev with
  | 1 => 1
  | 2 => 2
  | 3 => 3
  | 6 => 4
  | 5 => 5
  | 8 => 6
  | _ => 7

/-- The replay goes on to the next record. -/
def replayNext (r : List Byte) (s : State) : State :=
  { s with replay := s.replay + replayLen r, replayNo := s.replayNo + 1 }

/-- Compare an event with the next capture record. -/
def replayCompare (plot kind a b c d : Nat) (s : State) : State :=
  let r := replayRecord s
  if leAt r 0 1 = 0 then diverge plot 7 s
  else
    let same := leAt r 0 1 == kind && leAt r 4 8 == a && leAt r 12 4 == b && leAt r 16 4 == c
      && (kind == 1 || leAt r 20 8 == d)
    let s := if same then s else diverge plot (divergeKind kind) s
    replayNext r s

/-- An event of a run (R468): captured, or compared in replay. The record's first word pair is the event's IDX. -/
def capEvent (kind plot b c d : Nat) (data : List Byte) (s : State) : State :=
  if capturing plot s then capWrite (capRecord kind plot data.length (runIdx s) b c d) data s
  else if replaying plot s then replayCompare plot kind (runIdx s) b c d s
  else s

end Sys2Proof.Machine
end

