-- ==== Sys2Proof/Machine/Queue.lean ====
section
/-! DEFINITION. Completions of the command queues (13_host_queues.md R385–R387, R394): how a command is answered, and
when the completion queue signals. The rest of the queues is in Machine/Host.lean. -/
namespace Sys2Proof.Machine

/-- The queues of plot n. -/
def queueOf (n : Nat) (s : State) : Queue := get {} n s.queue

/-- Change the queues of plot n. -/
def onQueue (n : Nat) (f : Queue → Queue) (s : State) : State := { s with queue := upd {} n f s.queue }

/-- Statuses of R391. -/
abbrev stOK : Nat := 0x00
abbrev stSeqGap : Nat := 0x01
abbrev stBadOpcode : Nat := 0x02
abbrev stBadField : Nat := 0x03
abbrev stWindow : Nat := 0x04
abbrev stRefused : Nat := 0x05
abbrev stRange : Nat := 0x06
abbrev stWatchFull : Nat := 0x07
abbrev stTimeout : Nat := 0x08
abbrev stCancelled : Nat := 0x09
abbrev stAborted : Nat := 0x0A
abbrev stHostErr : Nat := 0x0B
abbrev stHbmUe : Nat := 0x0C
abbrev stBusy : Nat := 0x0D
abbrev stNotFound : Nat := 0x0E
abbrev stHistoryLost : Nat := 0x0F

/-- Size of the CQ of plot n. -/
def cqSize (n : Nat) (s : State) : Nat := fld (PLOT_CQ_CFG_SIZE_M1 n) s + 1

/-- Grant G of SQ q of plot n (R383), held modulo 2^32. -/
def grantOf (n q : Nat) (s : State) : Nat := get 0 q (queueOf n s).grant

/-- The queues of plot n are PAUSED (R394): Bus Master Enable is clear or an FLR is in progress; so too in D3hot (R376). -/
def paused (n : Nat) (s : State) : Bool := !(func (n + 1) s).bme || (func (n + 1) s).flr || (func (n + 1) s).cfg.d3

/-- The 64 bytes of a completion entry as posted now (R386). -/
def cplBytes (n : Nat) (c : Cpl) (phase : Nat) (s : State) : List Byte :=
  bytesLE 8 c.tag ++ bytesLE 4 c.seq
    ++ [BitVec.ofNat 8 (128 * phase + 64 * b2n c.dup + 32 * b2n c.orig + c.sq), BitVec.ofNat 8 c.status]
    ++ bytesLE 2 c.detail ++ bytesLE 8 c.value ++ bytesLE 8 (mstNs s)
    ++ (List.range 4).flatMap (fun q => bytesLE 4 (grantOf n q s)) ++ bytesLE 16 0

/-- Signal the CQ's vector (R381, R386). -/
def cqSignal (n : Nat) (s : State) : State :=
  onQueue n (fun q => { q with unsig := 0 }) (msix (n + 1) (fld (PLOT_CQ_CFG_VEC n) s) s)

/-- Signal where COUNT completions are unsignalled, or COUNT is 0 (R386). -/
def cqCoalesce (n : Nat) (s : State) : State :=
  if flag (PLOT_CQ_CFG_IRQ_EN n) s ∧ 0 < (queueOf n s).unsig ∧ fld (PLOT_CQ_COAL_COUNT n) s ≤ (queueOf n s).unsig then
    cqSignal n s
  else s

/-- Write a completion into the CQ (R386). -/
def postNow (n : Nat) (c : Cpl) (s : State) : State :=
  let tail := fld (PLOT_CQ_STATE_TAIL n) s
  let phase := fld (PLOT_CQ_STATE_PHASE n) s
  let base := reg64 (rPLOT_CQ_BASE_LO n) (rPLOT_CQ_BASE_HI n) s
  let s := emit (.hostWrite (n + 1) (base + 64 * tail) (cplBytes n c phase s)) s
  let wrap := tail + 1 = cqSize n s
  let s := setFld (PLOT_CQ_STATE_TAIL n) (if wrap then 0 else tail + 1) s
  let s := if wrap then setFld (PLOT_CQ_STATE_PHASE n) (1 - phase) s else s
  cqCoalesce n (onQueue n (fun q => { q with
    unsig := q.unsig + 1, unsigAt := if q.unsig = 0 then s.now else q.unsigAt }) s)

/-- Queue a completion for writing: written now, or held while the queues are PAUSED (R394); dropped where the CQ is
disabled, and in a power-down (R511). -/
def post (n : Nat) (c : Cpl) (s : State) : State :=
  let s := onQueue n (fun q => { q with completed := upd 0 c.sq (fun v => (v + 1) % 2 ^ 32) q.completed }) s
  if !flag (PLOT_Q_CTRL_CQ_EN n) s ∨ fld GLB_STARTUP_STATUS_STAGE s = 9 then s
  else if paused n s then
    let s := onQueue n (fun q => { q with hold := q.hold ++ [c] }) s
    setFld (PLOT_Q_STATUS_HELD n) (queueOf n s).hold.length s
  else postNow n c s

/-- Is a sequence number among the last 256 executed on SQ q (R387)? -/
def recentSeq (n q seq : Nat) (s : State) : Bool := (get [] q (queueOf n s).executed).contains seq

/-- SQ q executes a sequence number (R387). -/
def execSeq (n q seq : Nat) (s : State) : State :=
  onQueue n (fun x => { x with executed := upd [] q (fun l => (seq :: l).take 256) x.executed }) s

/-- Keep an outcome among the last 256 sequence numbers executed on its SQ (R387). -/
def remember (n sq seq status detail value : Nat) (s : State) : State :=
  onQueue n (fun q => { q with history := upd [] sq (fun h =>
    (((seq, status, detail, value) :: h).filter fun x => recentSeq n sq x.1 s)) q.history }) s

/-- The TAG of an entry. -/
def entryTag (e : BitVec 512) : Nat := bits e.toNat 127 64

/-- A started command completes: it leaves the started commands, its outcome is kept and its completion queued. -/
def complete (n sq seq status detail value : Nat) (s : State) : State :=
  match (queueOf n s).started.find? fun c => c.sq == sq && c.seq == seq with
  | none => s
  | some c =>
    let s := onQueue n (fun q => { q with
      started := q.started.filter fun d => !(d.sq == sq && d.seq == seq)
      copies := q.copies.filter fun d => !(d.sq == sq && d.seq == seq) }) s
    post n ⟨sq, seq, entryTag c.entry, false, false, status, detail, value⟩ (remember n sq seq status detail value s)

/-- Complete the command that something was started by, if a command started it. -/
def completeCmd (c : Option (Nat × Nat × Nat)) (status detail value : Nat) (s : State) : State :=
  match c with
  | none => s
  | some (n, sq, seq) => complete n sq seq status detail value s

/-- A queue error (R382, R384, R393): recorded in PLOT_Q_ERR if none is held, and entered in the status FIFO (R396). -/
def queueErr (n kind sq : Nat) (s : State) : State :=
  let s := holdFirst (PLOT_Q_ERR_VALID n) [(PLOT_Q_ERR_KIND n, kind), (PLOT_Q_ERR_SQ n, sq)] s
  sfPush (sfEntry 0 0 n 6 kind) s

end Sys2Proof.Machine
end

