-- ==== Sys2Proof/Machine/Tally.lean ====
section
/-! DEFINITION. The Tally unit (07_tally.md R209–R226). -/
namespace Sys2Proof.Machine

/-- Change the Tally unit. -/
def onTally (f : Tally → Tally) (s : State) : State := { s with tally := f s.tally }

/-- Physical tally of relative tally `rel` of plot n (R210). -/
def tallyOf (n rel : Nat) (s : State) : Option Nat :=
  let lo := fld (TLY_TR_BASE n) s
  let hi := fld (TLY_TR_LIMIT n) s
  if flag (TLY_TR_VALID n) s ∧ lo ≤ hi ∧ rel < 64 * (hi + 1 - lo) then some (64 * lo + rel) else none

/-- The value of a physical tally. -/
def tallyVal (i : Nat) (s : State) : Nat := (get 0 i s.tally.value).toNat

/-- Set a physical tally, modulo 2^32. -/
def setTally (i v : Nat) (s : State) : State :=
  onTally (fun t => { t with value := put 0 i (BitVec.ofNat 32 v) t.value }) s

/-- A Tally fault (R210, R217, R225): counted, recorded, reported, with no bundle named. -/
def tallyFault (n kind src id rel : Nat) (s : State) : State :=
  let s := bump TLY_FAULT_COUNT_COUNT 1 s
  let s := holdFirst TLY_FAULT_LOC_VALID [(TLY_FAULT_LOC_KIND, kind), (TLY_FAULT_LOC_PLOT, n), (TLY_FAULT_LOC_SRC, src),
    (TLY_FAULT_LOC_SRC_ID, id), (TLY_FAULT_LOC_TLY, rel)] s
  plotFault n 4 kind rel 0 s

/-- Timeout of a TMO code in ns (R222). -/
def tmoNs (c : Nat) : Nat := if c = 18 then 4000000000 else 16000 * 2 ^ c

/-- Does a comparison hold (R218)? -/
def cmpHolds (cmp t v : Nat) : Bool :=
  match cmp with
  | 0 => t == v
  | 1 => t != v
  | 2 => decide (v ≤ t)
  | 3 => decide (t < v)
  | 4 => decide ((t + 2 ^ 32 - v) % 2 ^ 32 < 2 ^ 31)
  | _ => decide (2 ^ 31 ≤ (t + 2 ^ 32 - v) % 2 ^ 32)

/-- Does the condition of a watch or group hold (R218, R224)? -/
def watchHolds (w : Watch) (s : State) : Bool :=
  match w.grp with
  | none => cmpHolds w.cmp (tallyVal w.tally s) w.value
  | some g => (List.range (g + 1)).all fun i => cmpHolds 4 (tallyVal (w.tally + i) s) w.value

/-- Source words of TLY_TMO_SRC (R223, R227) with SRC and SRC_ID of TLY_FAULT_LOC. -/
def srcSlot : TSrc := ⟨BitVec.ofNat 32 (1 * 2 ^ 29), 0, 0⟩
def srcEngine (e : Nat) : TSrc := ⟨BitVec.ofNat 32 (2 * 2 ^ 29 + e * 2 ^ 6), 1, e⟩
def srcHost (q : Nat) : TSrc := ⟨BitVec.ofNat 32 (4 * 2 ^ 29 + q * 2 ^ 6), 3, q⟩
def srcLink (x y z port link : Nat) : TSrc :=
  ⟨BitVec.ofNat 32 (3 * 2 ^ 29 + x * 2 ^ 25 + y * 2 ^ 21 + z * 2 ^ 18 + port * 2 ^ 15 + link * 2 ^ 10), 2,
    port * 17 + link⟩
def srcRebase : Word := BitVec.ofNat 32 (5 * 2 ^ 29)

/-- Send an operation to the Tally unit, to take effect `delay` SEQ cycles from now (R212). -/
def sendTally (delay : Nat) (op : TOp) (s : State) : State :=
  onTally (fun t => { t with ops := t.ops ++ [(cycle s + delay, op)] }) s

/-- Operations take effect in cycle u: what the unit keeps of an earlier cycle is dropped. -/
def openCycle (u : Nat) (s : State) : State :=
  if s.tally.at_ = u then s else onTally (fun t => { t with at_ := u, before := [], srcs := [] }) s

/-- Name a source as the last increment of tallies [i, i + n), and of the watches on them. -/
def noteSrc (i n : Nat) (src : Word) (s : State) : State :=
  onTally (fun t => { t with
    srcs := (List.range n).foldl (fun m j => ins (i + j) src m) t.srcs
    watch := t.watch.map fun x =>
      if i ≤ x.2.tally ∧ x.2.tally < i + n then (x.1, { x.2 with src := src }) else x }) s

/-- An increment or a rebase changes a tally: a read in its cycle still answers the value before (R227). -/
def moveTally (i v : Nat) (s : State) : State :=
  setTally i v (onTally (fun t => if (look i t.before).isSome then t
    else { t with before := ins i (some (get 0 i t.value)) t.before }) s)

/-- The value of a physical tally as a register read of the present cycle answers it (R227). -/
def tallyRead (i : Nat) (s : State) : Nat :=
  if s.tally.at_ = cycle s then ((get none i s.tally.before).getD (get 0 i s.tally.value)).toNat else tallyVal i s

/-- State of wait slot w. -/
def wslot (w : Nat) (s : State) : WSlot := get .empty w s.seq.wslot

/-- Set the state of a wait slot. -/
def setWslot (w : Nat) (x : WSlot) (s : State) : State :=
  { s with seq := { s.seq with wslot := put .empty w x s.seq.wslot } }

/-- A RECON refused in cycle u empties the slot it had armed (R123, R225); a bundle that holds on it may issue in the next
cycle, and finds it Empty (DEDUCED, log entry 24). -/
def refuseSlot (u : Nat) (w : Waiter) (s : State) : State :=
  match w with
  | .host .. => s
  | .slot k g =>
    if get false k s.tally.gen ≠ g ∨ wslot k s ≠ .armed then s
    else
      let free (r : Run) : Run :=
        if r.waitSlot == some k && r.waitEnd.isNone then { r with waitEnd := some (u + 1), next := max r.next (u + 1) } else r
      let s := setWslot k .empty s
      { s with seq := { s.seq with run := s.seq.run.map free } }

/-- Do tallies [i, i + n) meet a registered group that is not rebased in this very cycle (R224, R225)? -/
def groupMeets (due : List TOp) (i n : Nat) (s : State) : Bool :=
  s.tally.watch.any fun (e, w) => match w.grp with
    | none => false
    | some g => decide (w.tally < i + n) && decide (i < w.tally + g + 1)
        && !due.any fun o => match o with
          | .rebase e' w' => e' == e && w'.waiter == w.waiter
          | _ => false

/-- One operation takes effect in the Tally unit, in SEQ cycle u, with the others `due` in it. -/
def tallyOp (u : Nat) (due : List TOp) (op : TOp) (s : State) : State :=
  match op with
  | .register e w =>
    match w.grp with
    | some g =>
      if groupMeets due w.tally (g + 1) s then refuseSlot u w.waiter (tallyFault w.plot 3 0 0 w.rel s)
      else onTally (fun t => { t with watch := ins e { w with at_ := 10 * u } t.watch }) s
    | none => onTally (fun t => { t with watch := ins e { w with at_ := 10 * u } t.watch }) s
  | .fault n kind rel => tallyFault n kind 0 0 rel s
  | .touch => s
  | .unwatch e gen => onTally (fun t => { t with watch := match look e t.watch with
      | some w => match w.waiter with
        | .slot _ g => if g = gen then del e t.watch else t.watch
        | .host _ _ => t.watch
      | none => t.watch }) s
  | .inc n rel v src cmd =>
    match tallyOf n rel s with
    | none => completeCmd cmd stRange 0 0 (tallyFault n 1 src.src src.id rel s)
    | some i =>
      let s := noteSrc i 1 src.word (moveTally i (tallyVal i s + v) s)
      let s := if cmd.isSome ∧ (runOf n s = true) then capEvent 4 n rel v 0 [] s else s
      completeCmd cmd stOK 0 0 s
  | .rebase e w =>
    let g := w.grp.getD 0
    let s := forAll (fun i s => moveTally (w.tally + i) (tallyVal (w.tally + i) s + 2 ^ 32 - w.value) s)
      (List.range (g + 1)) s
    let s := noteSrc w.tally (g + 1) srcRebase s
    onTally (fun t => { t with watch := match look e t.watch with
      | some w' => if w'.waiter = w.waiter ∧ w'.grp.isSome then del e t.watch else t.watch
      | none => t.watch }) s
  | .hostWake n sq seq v => complete n sq seq stOK 0 v s

/-- Order of the operations of one cycle: registrations and cancellations in the order they arrive, then rebases, then
increments, so that a registration counts every change of its cycle (R221, R223). -/
def opRank : TOp → Nat
  | .inc .. => 2
  | .rebase .. => 1
  | _ => 0

/-- The wake of a group rebased in cycle u (R224): sent in u + 1, with the first member's value at the end of u. -/
def groupWake (u : Nat) (op : TOp) (s : State) : State :=
  match op with
  | .rebase _ w => match w.waiter with
    | .slot k g => onTally (fun t => { t with wakes :=
        t.wakes ++ [⟨u + 4, k, g, false, w.rel, tallyVal w.tally s⟩] }) s
    | .host _ _ => s
  | _ => s

/-- Is a rebase owed to the group of entry e? -/
def rebasing (e : Nat) (s : State) : Bool :=
  s.tally.ops.any fun p => match p.2 with
    | .rebase e' _ => e' == e
    | _ => false

/-- A watch or group is satisfied at the end of cycle u (R219, R224). -/
def satisfy (u e : Nat) (w : Watch) (s : State) : State :=
  match w.grp with
  | some _ =>
    if rebasing e s then s
    else onTally (fun t => { t with ops := t.ops ++ [(u + 1, .rebase e w)] }) s
  | none =>
    let s := onTally (fun t => { t with watch := del e t.watch }) s
    match w.waiter with
    | .slot k g => onTally (fun t => { t with wakes :=
        t.wakes ++ [⟨u + 4, k, g, false, w.rel, tallyVal w.tally s⟩] }) s
    | .host sq seq => onTally (fun t => { t with ops := t.ops ++ [(u + 1, .hostWake w.plot sq seq (tallyVal w.tally s))] }) s

/-- Evaluate every watch on the values at the end of cycle u (R218). -/
def evalWatches (u : Nat) (s : State) : State :=
  forAll (fun (p : Nat × Watch) t => if watchHolds p.2 s then satisfy u p.1 p.2 t else t) s.tally.watch s

/-- One cycle of the Tally unit (R214, R221). -/
def tallyCycle (u : Nat) (s : State) : State :=
  let due := (s.tally.ops.filter fun p => p.1 = u).map (·.2)
  let s := openCycle u (onTally (fun t => { t with ops := t.ops.filter fun p => p.1 ≠ u }) s)
  let s := forAll (tallyOp u due) ((List.range 3).flatMap fun k => due.filter fun o => opRank o == k) s
  let s := forAll (groupWake u) due s
  evalWatches u s

/-- The earliest cycle in which something takes effect. -/
def tallyNext (ops : List (Nat × TOp)) : Option Nat := (ops.map (·.1)).min?

/-- Run the Tally unit up to the present cycle. -/
def tallyAdvance : Nat → State → State
  | 0, s => s
  | n + 1, s => match tallyNext s.tally.ops with
    | none => s
    | some u => if cycle s < u then s else tallyAdvance n (tallyCycle u s)

/-- Everything the Tally unit owes up to now. -/
def tallyRun (s : State) : State := tallyAdvance (3 * s.tally.ops.length + s.tally.watch.length + 1) s

/-- A watch's timer stands at or past its timeout, at the last 1 µs tick of free-running time (R222). -/
def tmoReached (w : Watch) (s : State) : Bool :=
  decide (w.tmo * 11 + w.at_ ≤ s.now - (s.now - s.sdl.refAt.getD 0) % usT)

/-- WKIND and WID of TLY_TMO_LOC for a watch or group. -/
def tmoWho (w : Watch) : Nat × Nat :=
  match w.waiter, w.grp with
  | .slot k _, none => (0, k)
  | .slot k _, some _ => (1, k)
  | .host q _, _ => (2, q)

/-- An expiry is counted, held if the first, and reported (R223). -/
def recordTmo (w : Watch) (v : Nat) (s : State) : State :=
  let s := bump TLY_TMO_COUNT_COUNT 1 s
  let s := if flag TLY_TMO_LOC_VALID s then s else
    setReg rTLY_TMO_SRC w.src (holdFirst TLY_TMO_LOC_VALID [(TLY_TMO_LOC_WKIND, (tmoWho w).1), (TLY_TMO_LOC_PLOT, w.plot),
      (TLY_TMO_LOC_WID, (tmoWho w).2), (TLY_TMO_LOC_CMP, if w.grp.isSome then 0 else w.cmp), (TLY_TMO_LOC_TLY, w.rel),
      (TLY_TMO_VALUE_VALUE, v), (TLY_TMO_TARGET_TARGET, w.value)] s)
  plotFault w.plot 5 ((tmoWho w).1 + 1) (tmoWho w).2 0 s

/-- Free a watch entry. -/
def freeWatch (e : Nat) (s : State) : State := onTally (fun t => { t with watch := del e t.watch }) s

/-- The waiter of an expired watch is told: a wait slot four cycles later, a host by its completion (R223). -/
def tellExpired (w : Watch) (v : Nat) (s : State) : State :=
  match w.waiter with
  | .slot k g => onTally (fun t => { t with wakes := t.wakes ++ [⟨cycle s + 4, k, g, true, w.rel, v⟩] }) s
  | .host sq seq => complete w.plot sq seq stTimeout 0 v s

/-- The watch or group of an entry expires (R223). -/
def expire (e : Nat) (s : State) : State :=
  match look e s.tally.watch with
  | none => s
  | some w =>
    if rebasing e s || !tmoReached w s then s
    else if watchHolds w s then satisfy (cycle s) e w s
    else tellExpired w (tallyVal w.tally s) (recordTmo w (tallyVal w.tally s) (freeWatch e s))

/-- First watch entry of plot n, and the number of its entries (R217). -/
def watchBase (n : Nat) (s : State) : Nat := 64 * fld (TLY_WR_BASE n) s
def watchCount (n : Nat) (s : State) : Nat :=
  if flag (TLY_WR_VALID n) s then 64 * (fld (TLY_WR_LIMIT n) s + 1 - fld (TLY_WR_BASE n) s) else 0

/-- Cancel the sequencer watches and groups of plot n, without a wake (R226); a satisfied group is still rebased. -/
def cancelSeq (n : Nat) (s : State) : State :=
  onTally (fun t => { t with
    watch := t.watch.filter fun (_, w) => !(w.plot == n && match w.waiter with
      | .slot .. => true
      | .host .. => false)
    ops := t.ops.filter fun p => match p.2 with
      | .register _ w => w.plot != n
      | _ => true }) s

/-- The host watches of plot n. -/
def hostWatches (n : Nat) (s : State) : List (Nat × Nat × Nat) :=
  s.tally.watch.filterMap fun (e, w) => match w.waiter with
    | .host sq seq => if w.plot = n then some (e, sq, seq) else none
    | .slot .. => none

/-- Free the host watches of plot n, completing their commands with a status or not at all. -/
def cancelHost (n : Nat) (status : Option Nat) (s : State) : State :=
  forAll (fun (p : Nat × Nat × Nat) s =>
    let s := onTally (fun t => { t with watch := del p.1 t.watch }) s
    match status with
    | some st => complete n p.2.1 p.2.2 st 0 0 s
    | none => s) (hostWatches n s) s

/-- Set every tally of plot n's region to 0 (R211, R226, R405). -/
def zeroTallies (n : Nat) (s : State) : State :=
  if flag (TLY_TR_VALID n) s then
    let lo := 64 * fld (TLY_TR_BASE n) s
    onTally (fun t => { t with value := clearRange lo (64 * (fld (TLY_TR_LIMIT n) s + 1) - lo) t.value }) s
  else s

/-- Have every watch evaluated at the end of the present cycle (R218). -/
def touchWatches (s : State) : State := sendTally 0 .touch s

/-- The effect of ZERO_GO on a plot (R226). -/
def zeroPlot (n : Nat) (s : State) : State := cancelHost n (some stCancelled) (zeroTallies n s)

/-! ### The tally slot (R215–R217, R220) -/

/-- Register a watch or group on a wait slot: it becomes Armed at issue, with the next generation (R123, R220). -/
def registerSlot (k : Nat) (w : Bool → Watch) (s : State) : State :=
  let g := !get false k s.tally.gen
  let x := w g
  let s := onTally (fun t => { t with gen := put false k g t.gen }) s
  sendTally 6 (.register (watchBase x.plot s + k) x) (setWslot k .armed s)

/-- The tally slot issues for plot n (R215); `busy` is the hazard WSLOT_BUSY. What it sends takes effect six cycles later, a
refusal too (R212). -/
def tlyIssue (n op rel val cmp k tmo grp : Nat) (busy : State → State) (s : State) : State :=
  match op with
  | 1 => sendTally 6 (.inc n rel val srcSlot none) s
  | 2 =>
    if wslot k s ≠ .empty then busy s
    else match tallyOf n rel s with
      | none => sendTally 6 (.fault n 1 rel) s
      | some i => registerSlot k (fun g => ⟨n, rel, i, cmp, val, none, tmoNs tmo, s.now, .slot k g, 0⟩) s
  | 3 => sendTally 6 (.unwatch (watchBase n s + k) (get false k s.tally.gen)) (setWslot k .empty s)
  | 4 =>
    if wslot k s ≠ .empty then busy s
    else match tallyOf n rel s, tallyOf n (rel + grp) s with
      | some i, some _ => registerSlot k (fun g => ⟨n, rel, i, 0, val, some grp, tmoNs tmo, s.now, .slot k g, 0⟩) s
      | _, _ => sendTally 6 (.fault n 2 rel) s
  | _ => s

/-! ### Host commands (R390) -/

/-- SIGNAL: the increment is applied four cycles after execution (R212). -/
def hostSignal (n sq seq rel v : Nat) (s : State) : State :=
  sendTally 4 (.inc n rel v (srcHost sq) (some (n, sq, seq))) s

/-- WATCH of a submission queue (R217, R390). -/
def hostWatch (n sq seq rel cmp tmo v : Nat) (s : State) : State :=
  if 6 ≤ cmp ∨ 18 < tmo then complete n sq seq stBadField 0 0 s
  else match tallyOf n rel s with
    | none => complete n sq seq stRange 0 0 (tallyFault n 1 3 sq rel s)
    | some i =>
      let base := watchBase n s
      let free := (List.range (watchCount n s)).find? fun j => 64 ≤ j && (look (base + j) s.tally.watch).isNone
      match free with
      | none => complete n sq seq stWatchFull 0 0 (tallyFault n 4 3 sq rel s)
      | some j =>
        -- an increment of the registration's own cycle counts as since it (R223)
        let src := if s.tally.at_ = cycle s then get 0 i s.tally.srcs else 0
        let w : Watch := ⟨n, rel, i, cmp, v, none, tmoNs tmo, s.now, .host sq seq, src⟩
        touchWatches (onTally (fun t => { t with watch := ins (base + j) w t.watch }) s)

/-- UNWATCH of a submission queue (R390). -/
def hostUnwatch (n sq seq wseq wsq : Nat) (s : State) : State :=
  match (hostWatches n s).find? fun p => p.2.1 == wsq && p.2.2 == wseq with
  | none => complete n sq seq stNotFound 0 0 s
  | some p =>
    let s := onTally (fun t => { t with watch := del p.1 t.watch }) s
    complete n sq seq stOK 0 0 (complete n wsq wseq stCancelled 0 0 s)

/-- Registered watches and groups, and groups (TLY_STATUS). -/
def tlyStatus (s : State) : Nat :=
  s.tally.watch.length * 2 ^ 16 + (s.tally.watch.filter fun p => p.2.grp.isSome).length

/-! ### Effects of the rows of this unit -/

/-- INCREMENT_APPLY (R214). -/
def incrementApply (s : State) : State := tallyRun s

/-- GROUP_REBASE (R224): the rebase owed to the group of an entry, with everything else of its cycle. -/
def groupRebase (e : Nat) (s : State) : State :=
  if s.tally.ops.any fun p => (match p.2 with
      | .rebase e' _ => e' == e
      | _ => false) && decide (p.1 ≤ cycle s) then tallyRun s
  else s

/-- WATCH_EXPIRY (R223): a condition that holds in the cycle of the expiry wins (R221). -/
def watchExpiry (e : Nat) (s : State) : State := expire e (tallyRun s)

/-- ZERO_GO of TLY_CTRL for the plot it names (R226). -/
def zeroGo (a : Accessor) (plot : Nat) (s : State) : State :=
  let s := setFld TLY_CTRL_PLOT plot s
  if runOf plot s then discard a rTLY_CTRL s else touchWatches (zeroPlot plot (tallyRun s))

end Sys2Proof.Machine
end

