-- ==== Sys2Proof/Machine/Plan.lean ====
section
/-! DEFINITION. Circuit plans (09_circuit_switch.md R271–R277, R282) and the package's place in the mesh
(00_scope.md R15; 08_mesh_links.md R242, R243). -/
namespace Sys2Proof.Machine

/-! ### Place in the mesh -/

/-- A coordinate (x, y, z). -/
abbrev Coord := Nat × Nat × Nat

/-- This package's coordinate. -/
def node (s : State) : Coord := (fld GLB_NODE_X s, fld GLB_NODE_Y s, fld GLB_NODE_Z s)

/-- The coordinate n hops away in the direction port p faces (R15), if it lies within the extents of LNK_CFG_0. -/
def hops (c : Coord) (p n : Nat) (s : State) : Option Coord :=
  let (x, y, z) := c
  let xm := bits (reg (rLNK_CFG 0) s).toNat 3 0
  let ym := bits (reg (rLNK_CFG 0) s).toNat 7 4
  let zm := bits (reg (rLNK_CFG 0) s).toNat 10 8
  let one (v m : Nat) : Option Nat :=
    if p % 2 = 0 then (if v + n ≤ m then some (v + n) else none) else if n ≤ v then some (v - n) else none
  match p / 2 with
  | 0 => (one x xm).map fun v => (v, y, z)
  | 1 => (one y ym).map fun v => (x, v, z)
  | _ => (one z zm).map fun v => (x, y, v)

/-- Does a coordinate lie within the extents? -/
def inMesh (c : Coord) (s : State) : Bool :=
  c.1 ≤ bits (reg (rLNK_CFG 0) s).toNat 3 0 && c.2.1 ≤ bits (reg (rLNK_CFG 0) s).toNat 7 4
    && c.2.2 ≤ bits (reg (rLNK_CFG 0) s).toNat 10 8

/-- A coordinate laid out as R237 and R243 give it: x [3:0], y [7:4], z [10:8]. -/
def coordWord (c : Coord) : Nat := c.1 % 16 + 16 * (c.2.1 % 16) + 256 * (c.2.2 % 8)

/-- The configuration digest (R243): the first 128 bits of SHA-384 over the configuration words and the role block. -/
def configDigest (s : State) : List Byte :=
  let cfg := (List.range 12).flatMap fun n => bytesLE 4 (reg (rLNK_CFG n) s).toNat
  let rm := coordWord (fld GLB_RACK_MASTER_X s, fld GLB_RACK_MASTER_Y s, fld GLB_RACK_MASTER_Z s)
  let mm := coordWord (fld GLB_MESH_MASTER_X s, fld GLB_MESH_MASTER_Y s, fld GLB_MESH_MASTER_Z s)
  (sha384 (cfg ++ bytesLE 1 (fld GLB_ROLE_RACK s) ++ bytesLE 2 rm ++ bytesLE 2 mm ++ bytesLE 11 0)).take 16

/-! ### Entries -/

/-- A circuit entry (R271). KIND: 0 ADD, 1 PASS, 2 DROP, 3 LOOP. -/
structure Entry where
  kind : Nat
  inPort : Nat
  inIdx : Nat
  outPort : Nat
  outIdx : Nat
  llink : Nat
  inter : Nat
  plesio : Bool
  partner : Coord
  rsv : Bool
deriving DecidableEq, Repr

/-- Entry e of bank b as its words stand, if VALID. -/
def entryAt (b e : Nat) (s : State) : Option Entry :=
  let lo := (reg (rCSC_ENTRY_LO b e) s).toNat
  let hi := (reg (rCSC_ENTRY_HI b e) s).toNat
  if lo < 2 ^ 31 then none
  else some ⟨bits lo 30 29, bits lo 26 24, bits lo 23 19, bits lo 18 16, bits lo 15 11, bits lo 10 7, bits lo 6 4,
    bit lo 3, (bits hi 31 28, bits hi 27 24, bits hi 23 21), bits lo 28 27 != 0 || bits lo 2 0 != 0 || bits hi 17 0 != 0⟩

/-- The valid entries of bank b with their indices. -/
def entriesOf (b : Nat) (s : State) : List (Nat × Entry) :=
  (List.range 256).filterMap fun e => (entryAt b e s).map fun x => (e, x)

/-- State of bank b (R275): 0 EMPTY, 1 WRITTEN, 2 CHECKING, 3 STAGED, 4 REJECTED, 5 MISMATCH, 6 ACTIVE, 7 TRAINING. -/
def bankState (b : Nat) (s : State) : Nat := fld (CSC_BANK_STATUS_STATE b) s

/-- The active bank, if any. -/
def activeBank (s : State) : Option Nat :=
  if flag CSC_STATUS_ACTIVE_VALID s then some (fld CSC_STATUS_ACTIVE s) else none

/-- MODE of the CSC: 0 OFF, 1 SLOW, 2 RUN, 3 GUARD. -/
def cscMode (s : State) : Nat := fld CSC_STATUS_MODE s

/-- Is the entry an endpoint's (ADD, DROP or LOOP)? -/
def isEnd (x : Entry) : Bool := x.kind != 1

/-- Port of an endpoint entry. -/
def endPort (x : Entry) : Nat := if x.kind = 2 then x.inPort else x.outPort

/-- The endpoint entries of logical link l of port p in bank b. -/
def endEntries (b p l : Nat) (s : State) : List (Nat × Entry) :=
  (entriesOf b s).filter fun (_, x) => isEnd x && endPort x == p && x.llink == l

/-- The entry by which link l of port p receives in bank b: a DROP or a LOOP. -/
def dropEntry (b p l : Nat) (s : State) : Option Entry :=
  ((endEntries b p l s).find? fun (_, x) => x.kind != 0).map (·.2)

/-- The partner the active plan names for a link (R255). -/
def partnerOf (p l : Nat) (s : State) : Option Coord :=
  (activeBank s).bind fun b => (dropEntry b p l s).map (·.partner)

/-- Is the circuit of link l of port p in bank b a home circuit (R242)? -/
def isHome (b p l : Nat) (s : State) : Bool :=
  let es := endEntries b p l s
  !es.isEmpty && es.all fun (_, x) =>
    x.kind != 3 && x.inter == 0 && hops (node s) p 1 s == some x.partner
      && (if x.kind = 0 then x.outIdx == l else x.inIdx == l)

/-! ### Checks of CHECKING (R272, R276) -/

/-- Index of an entry's input (R267). -/
def inputOf (x : Entry) : Nat := (if x.kind = 0 ∨ x.kind = 3 then 102 else 0) + 17 * x.inPort + x.inIdx

/-- Index of an entry's output. -/
def outputOf (x : Entry) : Nat := (if x.kind = 2 ∨ x.kind = 3 then 102 else 0) + 17 * x.outPort + x.outIdx

/-- BAD_ENTRY of R276. -/
def entryBad (x : Entry) : Bool :=
  x.rsv || 5 < x.inPort || 5 < x.outPort || 15 < x.inIdx || 15 < x.outIdx || 4 < x.inter
    || (if x.kind = 1 then x.outPort / 2 != x.inPort / 2 || x.outPort == x.inPort else x.outPort != x.inPort)
    || (x.kind == 3 && x.inter != 0)

/-- LLINK of R276. -/
def llinkBad (x : Entry) : Bool :=
  ((x.kind == 0 || x.kind == 3) && x.inIdx != x.llink) || ((x.kind == 2 || x.kind == 3) && x.outIdx != x.llink)

/-- Is the partner where R272 places it? -/
def partnerOk (x : Entry) (s : State) : Bool :=
  inMesh x.partner s && match x.kind with
    | 0 => hops (node s) x.outPort (x.inter + 1) s == some x.partner
    | 1 => (List.range x.inter).any fun i => hops (node s) x.inPort (i + 1) s == some x.partner
    | 2 => hops (node s) x.inPort (x.inter + 1) s == some x.partner
    | _ => x.partner == node s

/-- First entry, of those listed, that meets a condition. -/
def firstBad (es : List (Nat × Entry)) (f : Entry → Bool) : Option Nat := (es.find? fun p => f p.2).map (·.1)

/-- First entry whose key an earlier one has. -/
def firstDup (key : Entry → Nat) : List (Nat × Entry) → List Nat → Option Nat
  | [], _ => none
  | (e, x) :: es, seen => if seen.contains (key x) then some e else firstDup key es (key x :: seen)

/-- Does the ADD and the DROP of the entry's link name different partners? -/
def pairDiffers (es : List (Nat × Entry)) (x : Entry) : Bool :=
  isEnd x && x.kind != 3 && es.any fun (_, y) =>
    isEnd y && y.kind != 3 && endPort y == endPort x && y.llink == x.llink && y.partner != x.partner

/-- Does the entry's link lack its other direction, or have endpoints beside a LOOP? -/
def halfBad (es : List (Nat × Entry)) (x : Entry) : Bool :=
  let kinds := (es.filter fun (_, y) => isEnd y && endPort y == endPort x && y.llink == x.llink).map fun p => p.2.kind
  isEnd x && !(kinds == [3] || (kinds.length == 2 && kinds.contains 0 && kinds.contains 2))

/-- The package has a valid rack master or mesh master (R28, R289): the designation is set and MST is valid. -/
def hasMaster (s : State) : Bool :=
  flag GLB_ROLE_STATUS_SET s && (!s.csc.replanned || (mstValid s && mstState s != 3))

/-- First reason of R276 that refuses bank b, with its entry; STUCK apart, which routing finds. -/
def planRefused (b : Nat) (s : State) : Option (Nat × Nat) :=
  let es := entriesOf b s
  let r (k : Nat) (e : Option Nat) : Option (Nat × Nat) := e.map fun i => (k, i)
  if !hasMaster s then some (1, 0)
  else (r 2 (firstBad es entryBad)).or <| (r 3 (firstDup inputOf es [])).or <| (r 4 (firstDup outputOf es [])).or <|
    (r 5 (firstBad es llinkBad)).or <| (r 6 (firstBad es fun x => !partnerOk x s || pairDiffers es x)).or <|
    r 7 (firstBad es (halfBad es))

/-- The digest of bank b (R277). -/
def planDigest (b : Nat) (s : State) : List Byte :=
  (sha384 ((List.range 256).flatMap fun e =>
    bytesLE 4 (reg (rCSC_ENTRY_LO b e) s).toNat ++
      bytesLE 4 (putBits (reg (rCSC_ENTRY_HI b e) s).toNat 20 18 0))).take 16

/-! ### Circuit state (R273, R274) -/

/-- Link l of port p. -/
def linkOf (p l : Nat) (s : State) : Link := get {} (32 * p + l) s.link

/-- Change link l of port p. -/
def onLink (p l : Nat) (f : Link → Link) (s : State) : State := { s with link := upd {} (32 * p + l) f s.link }

/-- Phase of link l of port p. -/
def phaseOf (p l : Nat) (s : State) : LinkPhase := (linkOf p l s).phase

/-- Is port p in QUARANTINE (R242): has a home circuit of it disagreed and not agreed since? -/
def quarantined (p : Nat) (s : State) : Bool := (List.range 16).any fun l => (linkOf p l s).quar

/-- The kept result for a circuit's key (R273), of the transceiver of its link. -/
def keptOf (p : Nat) (x : Entry) (s : State) : Option Kept :=
  (get [] (17 * p + x.llink) s.csc.kept).find? fun k =>
    k.llink == x.llink && (k.x, k.y, k.z) == x.partner && k.inter == x.inter

/-- Keep a result (R273): newest first, at most 16, the least recently used replaced. -/
def keepResult (p : Nat) (k : Kept) (s : State) : State :=
  let same (j : Kept) : Bool := j.llink == k.llink && (j.x, j.y, j.z) == (k.x, k.y, k.z) && j.inter == k.inter
  { s with csc := { s.csc with kept := upd [] (17 * p + k.llink) (fun ks =>
    (k :: ks.filter fun j => !same j).take 16) s.csc.kept } }

/-- Drop the result kept for a circuit's key: a training that replaces it has begun, or has failed. -/
def dropResult (p : Nat) (x : Entry) (s : State) : State :=
  { s with csc := { s.csc with kept := upd [] (17 * p + x.llink) (fun ks =>
    ks.filter fun k => !(k.llink == x.llink && (k.x, k.y, k.z) == x.partner && k.inter == x.inter)) s.csc.kept } }

/-- Does the circuit run on a substituted transceiver or fibre pair of this package (R290)? -/
def substituted (x : Entry) (s : State) : Bool :=
  let xcvr (p : Nat) : Bool := flag (CSC_SUBST_XCVR_VALID p) s && fld (CSC_SUBST_XCVR_FOR p) s == x.llink
  let fib (p i : Nat) : Bool := flag (CSC_SUBST_FIBRE_VALID p) s && fld (CSC_SUBST_FIBRE_FOR p) s == i
  match x.kind with
  | 0 => xcvr x.outPort || fib x.outPort x.outIdx
  | 1 => fib x.inPort x.inIdx || fib x.outPort x.outIdx
  | 2 => xcvr x.inPort || fib x.inPort x.inIdx
  | _ => xcvr x.inPort

/-- The circuit state of entry e of bank b, as it is while the bank is STAGED, ACTIVE or in TRAINING (R269, R274). -/
def circuitState (b e : Nat) (x : Entry) (s : State) : Nat :=
  let p := endPort x
  if (x.kind != 0 && x.kind != 3 && quarantined x.inPort s)
      || (x.kind != 2 && x.kind != 3 && quarantined x.outPort s) then 6
  else if get false (256 * b + e) s.csc.crossing || (isEnd x && phaseOf p x.llink s == .failed) then 7
  else if !isEnd x then 0
  else match keptOf p x s with
    | none => 1
    | some k => if !k.hello then 5 else if !k.budget then 4 else if x.plesio || substituted x s then 3 else 2

/-- CSTATE of entry e of bank b (R274). -/
def cstate (b e : Nat) (x : Entry) (s : State) : Nat :=
  if bankState b s ≠ 3 ∧ bankState b s ≠ 6 then 0 else circuitState b e x s

/-- CSTATE as CSC_ENTRY_HI_b_e reads. -/
def cstateAt (b e : Nat) (s : State) : Nat :=
  match entryAt b e s with
  | some x => cstate b e x s
  | none => 0

/-- Endpoint entries of bank b in CSTATE UNTRAINED, and entries in CSTATE 4–7. -/
def bankUntrained (b : Nat) (s : State) : Nat :=
  ((entriesOf b s).filter fun (e, x) => isEnd x && cstate b e x s == 1).length
def bankRefused (b : Nat) (s : State) : Nat := ((entriesOf b s).filter fun (e, x) => 4 ≤ cstate b e x s).length

/-- READY of bank b (R275, R293): STAGED or ACTIVE with no endpoint entry UNTRAINED. -/
def bankReady (b : Nat) (s : State) : Bool := (bankState b s == 3 || bankState b s == 6) && bankUntrained b s == 0

/-! ### Links a change alters (R282) -/

/-- The endpoint entries of a link in a bank, CSTATE and index aside. -/
def endsOf (b : Option Nat) (p l : Nat) (s : State) : List Entry :=
  match b with
  | none => []
  | some b => (endEntries b p l s).map (·.2)

/-- Does a change from one bank to another alter link l of port p? -/
def altered (old : Option Nat) (new p l : Nat) (s : State) : Bool :=
  let a := endsOf old p l s
  let b := endsOf (some new) p l s
  !(a.length == b.length && a.all b.contains)

/-- The links a change alters. -/
def alteredLinks (old : Option Nat) (new : Nat) (s : State) : List (Nat × Nat) :=
  (List.range 6).flatMap fun p => (List.range 16).filterMap fun l => if altered old new p l s then some (p, l) else none

end Sys2Proof.Machine
end

