-- ==== Sys2Proof/Machine/Fabric.lean ====
section
/-! DEFINITION. The switch fabric: paths, routing around stuck elements, phase shifters and shutters
(09_circuit_switch.md R267–R270, R276, R281, R282, R290, R291). -/
namespace Sys2Proof.Machine

/-- Change the switch's own state. -/
def onCsc (f : Csc → Csc) (s : State) : State := { s with csc := f s.csc }

/-! ### Paths (R267, R268) -/

/-- Element that a path from input i to output o crosses in stage t, and whether in cross. The fabric is Beneš's: two inputs
that differ in their lowest bit meet in an element of stage 0 and leave it to either half of the fabric, each half built the
same; `c` below 128 is the way the path takes, its half at level d in bit 6 − d. The spec gives the
wiring no more words than that name (log entry 25). -/
def pathElem (i o c t : Nat) : Nat × Bool :=
  let d := if t ≤ 7 then t else 14 - t
  let part := c >>> (7 - d)
  let half := c.testBit (6 - d)
  if t < 7 then (128 * t + part * 2 ^ (7 - d) + i >>> (d + 1), i.testBit d != half)
  else if t = 7 then (128 * 7 + c, i.testBit 7 != o.testBit 7)
  else (128 * t + part * 2 ^ (7 - d) + o >>> (d + 1), o.testBit d != half)

/-- The fifteen elements of a path with their states. -/
def path (i o c : Nat) : List (Nat × Bool) := (List.range 15).map (pathElem i o c)

/-- An element's state as State holds it: 1 bar, 2 cross. -/
def elemCode (cross : Bool) : Nat := b2n cross + 1

/-- Does a path agree with the states some elements must have? -/
def pathFits (m : Map Nat) (xs : List (Nat × Bool)) : Bool :=
  xs.all fun x => get 0 x.1 m == 0 || get 0 x.1 m == elemCode x.2

/-- The states a path asks of its elements, added to others. -/
def addPath (xs : List (Nat × Bool)) (m : Map Nat) : Map Nat := forAll (fun x m => ins x.1 (elemCode x.2) m) xs m

/-! ### Routing (R275, R276, R290, R291) -/

/-- A circuit to route: its entry, input and output, and the number of the path it has so far, as bits from level 0 on. -/
structure Wire where
  e : Nat
  i : Nat
  o : Nat
  c : Nat := 0
deriving DecidableEq, Repr

/-- Are two circuits of one part of the fabric at the two inputs, or outputs, of one element of level d? -/
def mates (d : Nat) (out : Bool) (x y : Wire) : Bool :=
  x.c == y.c && (if out then (x.o >>> d) ^^^ 1 == y.o >>> d else (x.i >>> d) ^^^ 1 == y.i >>> d)

/-- Follow a loop of level d from a circuit that took half `h`: its mate takes the other half, and so on in turn over
outputs and inputs. Answers the circuits decided and those left. -/
def followLoop (d : Nat) : Nat → Wire → Bool → Bool → List Wire → List Wire × List Wire
  | 0, _, _, _, left => ([], left)
  | n + 1, x, h, out, left => match left.find? (mates d out x) with
    | none => ([], left)
    | some y =>
      let (done, left) := followLoop d n y (!h) (!out) (left.filter fun z => z.e != y.e)
      ({ y with c := 2 * y.c + b2n (!h) } :: done, left)

/-- The looping algorithm on level d: a circuit takes the upper half, its loop is followed both ways, and the next circuit
not decided begins the next loop. -/
def loopLevel (d : Nat) : Nat → List Wire → List Wire
  | 0, _ => []
  | _, [] => []
  | n + 1, x :: left =>
    let (a, left) := followLoop d left.length x false true left
    let (b, left) := followLoop d left.length x false false left
    { x with c := 2 * x.c } :: a ++ b ++ loopLevel d n left

/-- The paths the looping algorithm gives circuits. -/
def loopPaths (ws : List Wire) : List Wire := (List.range 7).foldl (fun ws d => loopLevel d ws.length ws) ws

/-- Paths for circuits that agree with the states some elements must have, or none where there are none: each path is tried
in turn. -/
def searchPaths (m : Map Nat) : List Wire → Option (List Wire)
  | [] => some []
  | w :: ws => (List.range 128).findSome? fun c =>
    let p := path w.i w.o c
    if pathFits m p then (searchPaths (addPath p m) ws).map ({ w with c := c } :: ·) else none

/-- Do paths agree with each other and with the states some elements must have? -/
def pathsFit (m : Map Nat) : List Wire → Bool
  | [] => true
  | w :: ws => let p := path w.i w.o w.c; pathFits m p && pathsFit (addPath p m) ws

/-- Route circuits past elements of fixed state: by the looping algorithm where that fits, else by any paths that do. -/
def routeWires (m : Map Nat) (ws : List Wire) : Option (List Wire) :=
  let ps := loopPaths ws
  if pathsFit m ps then some ps else searchPaths m ws

/-- Re-route: circuits of `moved` find new paths past those that keep theirs where they can, else all are routed anew
(R290). -/
def rerouteWires (m : Map Nat) (moved kept : List Wire) : Option (List Wire) :=
  match searchPaths (forAll (fun w => addPath (path w.i w.o w.c)) kept m) moved with
  | some ps => some (kept ++ ps)
  | none => routeWires m (kept ++ moved)

/-! ### The circuits of a bank -/

/-- The fibre pair or transceiver in use for index n of port p (R290). -/
def fibreInUse (p n : Nat) (s : State) : Nat :=
  if flag (CSC_SUBST_FIBRE_VALID p) s && fld (CSC_SUBST_FIBRE_FOR p) s == n then 16 else n
def xcvrInUse (p n : Nat) (s : State) : Nat :=
  if flag (CSC_SUBST_XCVR_VALID p) s && fld (CSC_SUBST_XCVR_FOR p) s == n then 16 else n

/-- Input and output of the fabric that an entry joins, with the substitutions in force (R267, R290). -/
def fabricIn (x : Entry) (s : State) : Nat :=
  if x.kind = 0 ∨ x.kind = 3 then inputOf { x with inIdx := xcvrInUse x.inPort x.inIdx s }
  else inputOf { x with inIdx := fibreInUse x.inPort x.inIdx s }
def fabricOut (x : Entry) (s : State) : Nat :=
  if x.kind = 2 ∨ x.kind = 3 then outputOf { x with outIdx := xcvrInUse x.outPort x.outIdx s }
  else outputOf { x with outIdx := fibreInUse x.outPort x.outIdx s }

/-- The circuits of a bank as they are to be routed. -/
def wiresOf (b : Nat) (s : State) : List Wire :=
  (entriesOf b s).map fun (e, x) => { e := e, i := fabricIn x s, o := fabricOut x s }

/-- The path entry e of bank b takes, where the bank has been routed. -/
def routeOf (b e : Nat) (x : Entry) (s : State) : List (Nat × Bool) :=
  match look (256 * b + e) s.csc.route with
  | some c => path (fabricIn x s) (fabricOut x s) c
  | none => []

/-- Keep the paths of a bank. -/
def keepRoutes (b : Nat) (ws : List Wire) (s : State) : State :=
  onCsc (fun c => { c with
    route := forAll (fun (w : Wire) => ins (256 * b + w.e) w.c) ws (clearRange (256 * b) 256 c.route)
    crossing := clearRange (256 * b) 256 c.crossing }) s

/-- Route bank b past the stuck elements (R275, R285). Where there is no way its paths stay. -/
def routeBank (b : Nat) (s : State) : State :=
  match routeWires s.csc.stuck (wiresOf b s) with
  | some ws => keepRoutes b ws s
  | none => s

/-- The first entry of a bank that cannot be routed with those before it past the stuck elements (R276, R291). -/
def stuckEntry (b : Nat) (s : State) : Option Nat :=
  let ws := wiresOf b s
  if s.csc.stuck.isEmpty ∨ (routeWires s.csc.stuck ws).isSome then none
  else ((List.range ws.length).find? fun n => (routeWires s.csc.stuck (ws.take (n + 1))).isNone).bind fun n =>
    (ws[n]?).map (·.e)

/-- Re-route bank b after a substitution: the entries it touches move, the others where they must (R290). -/
def rerouteBank (b : Nat) (s : State) : State :=
  let (moved, kept) := (entriesOf b s).partition fun x => substituted x.2 s || (look (256 * b + x.1) s.csc.route).isNone
  let wire (x : Nat × Entry) : Wire := { e := x.1, i := fabricIn x.2 s, o := fabricOut x.2 s, c := get 0 (256 * b + x.1) s.csc.route }
  match rerouteWires s.csc.stuck (moved.map wire) (kept.map wire) with
  | some ws => keepRoutes b ws s
  | none => s

/-- The entries of bank b whose path crosses element k. -/
def crossers (b k : Nat) (s : State) : List Nat :=
  ((entriesOf b s).filter fun (e, x) => (routeOf b e x s).any fun y => y.1 == k).map (·.1)

/-- Has element k a sense output: does a path of the active plan cross it (R322)? -/
def senseOutput (k : Nat) (s : State) : Bool := (activeBank s).any fun b => !(crossers b k s).isEmpty

/-! ### Phase shifters and shutters (R268, R269, R281, R285) -/

/-- The circuits of bank b that are made: those a re-route still to finish holds dark are not (R290). -/
def madeOf (b : Nat) (s : State) : List (Nat × Entry) :=
  (entriesOf b s).filter fun x => !(s.csc.reroute.testBit b && substituted x.2 s)

/-- The states the paths of bank b ask of their elements. -/
def bankElems (b : Nat) (s : State) : Map Nat :=
  forAll (fun (x : Nat × Entry) m => addPath (routeOf b x.1 x.2 s) m) (madeOf b s) []

/-- The phase shifters of the elements that bank b's paths cross switch; a stuck element keeps its state, and the others
keep theirs. -/
def driveBank (b : Nat) (s : State) : State :=
  let m := bankElems b s
  onCsc (fun c => { c with elem := forAll (fun (x : Nat × Nat) =>
    if (look x.1 c.stuck).isSome then id else ins x.1 x.2) m c.elem }) s

/-- Does the state of a circuit allow light (R274)? -/
def litEntry (b e : Nat) (x : Entry) (s : State) : Bool := decide (circuitState b e x s < 4)

/-- The outputs that carry a circuit of bank b. -/
def bankOuts (b : Nat) (s : State) : List Nat := (madeOf b s).map fun x => fabricOut x.2 s

/-- The bank whose circuits the fabric now carries: that of the re-plan's phase, that of a guard past its switch, or the
active one. -/
def fabricBank (s : State) : Option Nat :=
  match s.csc.replan with
  | some r => r.phase.join
  | none => match s.csc.guard with
    | some g => if g.switched then some g.bank else g.old
    | none => activeBank s

/-- Is the shutter of output o open (R269): opened for the plan in force, on a circuit whose state allows light, and on no
egress fibre that is blocked (R248, R445)? It is closed without power. -/
def shutterOpen (o : Nat) (s : State) : Bool :=
  s.csc.shut.contains o && !(o < 102 && get false o s.csc.blocked)
    && !(s.dark.any fun d => d.1 == 8 && 17 * bits d.2 23 21 + bits d.2 20 16 == o) && match fabricBank s with
    | some b => (entriesOf b s).all fun (e, x) => fabricOut x s != o || litEntry b e x s
    | none => s.csc.replan.isSome

/-- Close the shutters of outputs, or open them. -/
def closeShutters (os : List Nat) (s : State) : State := onCsc (fun c => { c with shut := c.shut.filter fun o => !os.contains o }) s
def openShutters (os : List Nat) (s : State) : State :=
  onCsc (fun c => { c with shut := c.shut ++ (os.filter fun o => !c.shut.contains o) }) s

/-- The paths of bank b are set and its shutters alone are open. -/
def makeFabric (b : Nat) (s : State) : State := onCsc (fun c => { c with shut := bankOuts b s }) (driveBank b s)

/-- A change inside the switch is to come at an instant. -/
def fabricLater (t : Nat) (a : FabAct) (s : State) : State := onCsc (fun c => { c with fabDue := c.fabDue ++ [(t, a)] }) s

/-- The elements that change state as bank b's paths are set: element and whether to cross (R285, R334). -/
def elemMoves (b : Nat) (s : State) : List (Nat × Bool) :=
  ((bankElems b s).filter fun x => get 0 x.1 s.csc.elem != x.2 && (look x.1 s.csc.stuck).isNone).map fun x => (x.1, x.2 == 2)

/-- The entry by which link l of port p receives in bank b, with its index: a DROP or a LOOP. -/
def dropAt (b p l : Nat) (s : State) : Option (Nat × Entry) := (endEntries b p l s).find? fun x => x.2.kind != 0

/-- Is the light of the circuit that link l of port p receives dark in a guard (R281, R282): from t0 + 0.200 µs to
t0 + 0.440 µs, where its path inside the fabric moves? -/
def darkGap (p l : Nat) (s : State) : Bool :=
  match s.csc.guard with
  | none => false
  | some g =>
    decide ((g.at_ + 200) * nsM ≤ mstM s) && decide (mstM s < (g.at_ + 440) * nsM) && match g.old.bind (dropAt · p l s), dropAt g.bank p l s with
      | some (e, x), some (f, y) => routeOf (g.old.getD 0) e x s != routeOf g.bank f y s
      | _, _ => true

end Sys2Proof.Machine
end

