-- ==== Sys2Proof/Machine/Link.lean ====
section
/-! DEFINITION. Links, transfers, training and failover (08_mesh_links.md R232–R262). -/
namespace Sys2Proof.Machine

/-! ### Faults and fences (R260, R261) -/

/-- A link fault of the plot concerned (R261). KIND: 1 SEND_FULL, 2 POST_FULL, 3 SOFS_RANGE, 4 ADDR, 5 NO_POST, 6 LENGTH,
7 MASK, 8 PLOT, 9 SOURCE, 10 CUT, 11 FENCED, 12 DOWN. -/
def linkFault (kind plot p l pc : Nat) (s : State) : State :=
  let s := bump LNK_FAULT_COUNT_COUNT 1 s
  let s := holdFirst LNK_FAULT_LOC_VALID [(LNK_FAULT_LOC_KIND, kind), (LNK_FAULT_LOC_PLOT, plot), (LNK_FAULT_LOC_PORT, p),
    (LNK_FAULT_LOC_LINK, l), (LNK_FAULT_LOC_PC, pc)] s
  plotFault plot 6 kind (17 * p + l) pc s

/-- A mesh fault of CLASS 9 (R429). -/
def meshFault (code p l lane : Nat) (s : State) : State := devFault 9 code (2 ^ 11 * p + 2 ^ 6 * l + lane) s

/-- Slot skew fences every port (R368). -/
def skewFenced (s : State) : Bool := fld SDL_STATUS_SKEW_STATE s == 2

/-- Is the port fenced, failure apart (R260)? -/
def portFenced (p : Nat) (s : State) : Bool :=
  flag (LNK_PORT_CTRL_FENCE p) s || quarantined p s || skewFenced s || bit (fld CSC_STATUS_MISS_FENCE s) p

/-- Is the link fenced? -/
def linkFenced (p l : Nat) (s : State) : Bool := portFenced p s || phaseOf p l s == .failed

/-- Discard the SENDs of a fenced link (R249, R260). -/
def sweepLink (p l : Nat) (s : State) : State :=
  let k := linkOf p l s
  if k.sends.isEmpty ∨ !linkFenced p l s then s
  else
    let kind := if k.phase = .failed then 12 else 11
    forAll (fun (x : SendPart) s => linkFault kind x.plot p l 0 s) k.sends (onLink p l (fun k => { k with sends := [] }) s)

/-- Discard the SENDs of every fenced link. -/
def sweepLinks (s : State) : State :=
  forAll (fun (x : Nat × Link) s => sweepLink (x.1 / 32) (x.1 % 32) s) s.link s

/-! ### Cores of a link (R235, R251) -/

/-- Member i of the core group of logical link l of port p. -/
def groupCore (p l i : Nat) : Nat := 32 * (16 * (p % 2) + i / 2) + 2 * l + i % 2

/-- Line address of flit f from the base of its member. -/
def flitLine (bases : List Nat) (f : Nat) : Nat := bases.getD (f % 32) 0 / 256 * 256 + f / 32 * 256

/-- Bases of the group of a link as a bundle issues (R250). -/
def linkBases (p l areg ofs : Nat) (s : State) : List Nat :=
  (List.range 32).map fun i => (readA (groupCore p l i) areg s + ofs) % 2 ^ 32

/-- The links of a mask. -/
def maskLinks (m : Nat) : List Nat := (List.range 16).filter fun l => m.testBit l

/-- The lowest link of a mask. -/
def lowLink (m : Nat) : Nat := (maskLinks m).headD 0

/-! ### Starting transfers (R250–R253, R411) -/

/-- Insert a SEND in a link's queue: after those already sending, in order of start instant, then of issue (R252). -/
def insertSend (x : SendPart) : List SendPart → List SendPart
  | [] => [x]
  | y :: ys => if y.sent = 0 ∧ x.start < y.start then x :: y :: ys else y :: insertSend x ys

/-- Unfinished SENDs of port p. -/
def sendCount (p : Nat) (s : State) : Nat :=
  (((List.range 16).flatMap fun l => (linkOf p l s).sends.map (·.id)).eraseDups).length

/-- Start instant in ns of MST of a SEND issued now (R252). -/
def sendStart (sofs : Nat) (s : State) : Nat :=
  let ready := (mstM s + 60 * nsM + nsM - 1) / nsM
  let off := 16 * sofs
  let len := slotNs s
  if ready ≤ off then off else off + (ready - off + len - 1) / len * len

/-- Send stop of the slice in progress, in ns of MST (R409). -/
def sendStopNs (s : State) : Nat := (s.slice.number + 1) * sliceNs s - 2000

/-- SEND issues (R250–R253, R411). -/
def sendIssue (n pc : Nat) (k : LnkSlot) (s : State) : State :=
  let l0 := lowLink k.lmask
  let start := sendStart k.sofs s
  if slotNs s ≤ 16 * k.sofs then linkFault 3 n k.port l0 pc s
  else if sendStopNs s * 100 < start * 100 + k.flits * 256 then linkFault 10 n k.port l0 0 s
  else if 32 ≤ sendCount k.port s then linkFault 1 n k.port l0 pc s
  else
    let id := s.xferNo
    let one (l : Nat) (s : State) : State :=
      let part : SendPart := ⟨id, n, pc, k.lmask, k.flits, 0, start, linkBases k.port l k.areg k.ofs s⟩
      sweepLink k.port l (onLink k.port l (fun x => { x with sends := insertSend part x.sends }) s)
    forAll one (maskLinks k.lmask) { s with xferNo := id + 1 }

/-- POST issues (R253, R255): it opens four cycles later. -/
def postIssue (n pc : Nat) (k : LnkSlot) (s : State) : State :=
  match (maskLinks k.lmask).find? fun l => 8 ≤ (linkOf k.port l s).posts.length with
  | some l => linkFault 2 n k.port l pc s
  | none =>
    let id := s.xferNo
    let s := { s with xferNo := id + 1, post := ins id ⟨n, k.port, k.lmask, k.flits, k.tly, cycle s + 4, 0, false, []⟩ s.post }
    forAll (fun l s => onLink k.port l (fun x => { x with posts :=
      x.posts ++ [⟨id, 0, linkBases k.port l k.areg k.ofs s⟩] }) s) (maskLinks k.lmask) s

/-- The link slot issues (R250). -/
def lnkIssue (n pc : Nat) (k : LnkSlot) (s : State) : State :=
  match k.op with
  | 1 => sendIssue n pc k s
  | 2 => postIssue n pc k s
  | _ => s

/-! ### Frames (R236, R237) -/

/-- Fields of an FCW. -/
structure Fcw where
  crc : Nat
  lmask : Nat
  x : Nat
  y : Nat
  z : Nat
  kind : Nat
  plot : Nat
  seq : Nat

/-- The FCW of a flit frame. -/
def fcwOf (frame : List Byte) : Fcw :=
  let w := leAt frame 256 8
  ⟨bits w 63 48, bits w 47 31, bits w 30 27, bits w 26 23, bits w 22 20, bits w 19 18, bits w 15 12, bits w 11 0⟩

/-- A flit frame of data and FCW fields, CRC16 included. -/
def flitFrame (data : List Byte) (lmask x y z kind plot seq : Nat) : List Byte :=
  let w := lmask * 2 ^ 31 + x * 2 ^ 27 + y * 2 ^ 23 + z * 2 ^ 20 + kind * 2 ^ 18 + plot * 2 ^ 12 + seq
  let body := data ++ bytesLE 6 w
  body ++ bytesLE 2 (crc16 body)

/-- An idle frame (R236): zero data, and no sequence number. -/
def idleFrame (s : State) : List Byte :=
  let c := node s
  flitFrame (List.replicate 256 0) 0 c.1 c.2.1 c.2.2 0 0 0

/-- Does a flit frame's CRC16 hold? -/
def flitOk (frame : List Byte) : Bool := frame.length == 264 && crc16 (frame.take 262) == (fcwOf frame).crc

/-- A control frame: its kind and content bytes from byte 1 on, filled with zeros (R237). -/
def ctlFrame (kind : Nat) (rest : List Byte) : List Byte :=
  let body := ((BitVec.ofNat 8 kind :: rest) ++ List.replicate 260 0).take 260
  body ++ bytesLE 4 (crc32 body)

/-- Is it a control frame of a kind, with its CRC-32 in order? -/
def ctlFrameOk (kind : Nat) (frame : List Byte) : Bool :=
  frame.length == 264 && leAt frame 0 1 == kind && crc32 (frame.take 260) == leAt frame 260 4

/-! ### Failover (R246–R249) -/

/-- Count a failover and record the first (R247); its duration is filled in when the link resumes. -/
def recordFailover (kind p l lane dir : Nat) (s : State) : State :=
  holdFirst LNK_FAILOVER_LOC_VALID [(LNK_FAILOVER_LOC_KIND, kind), (LNK_FAILOVER_LOC_PORT, p), (LNK_FAILOVER_LOC_LINK, l),
    (LNK_FAILOVER_LOC_LANE, lane), (LNK_FAILOVER_LOC_DIR, dir), (LNK_FAILOVER_LOC_DUR, 0)]
    (bump LNK_FAILOVER_COUNT_COUNT 1 s)

/-- A failover of a link begins: it is counted, recorded and reported, and its interruption measured (R247) from the first
flit this end has lost, or from now, of a direction (0 receive, 1 transmit). What the other end sees of the interruption it
measures itself (log entry 26). -/
def beginFailover (kind p l lane dir : Nat) (s : State) : State :=
  let held := !flag LNK_FAILOVER_LOC_VALID s
  let from_ := (linkOf p l s).lostAt.getD s.now
  let s := meshFault kind p l lane (recordFailover kind p l lane dir s)
  if dir = 1 then onLink p l (fun k => { k with txOnset := some (k.txOnset.getD (s.now, held)) }) s
  else onLink p l (fun k => { k with rxOnset := some (k.rxOnset.getD (from_, held)) }) s

/-- The interruption of a direction ends: its duration enters LNK_FAILOVER_LOC where that holds its failover. -/
def endFailover (p l dir : Nat) (s : State) : State :=
  match if dir = 1 then (linkOf p l s).txOnset else (linkOf p l s).rxOnset with
  | none => s
  | some (t, held) =>
    let d := (s.now - t) / (10 * nsT)
    let s := onLink p l (fun k => if dir = 1 then { k with txOnset := none } else { k with rxOnset := none }) s
    if held ∧ flag LNK_FAILOVER_LOC_VALID s ∧ fld LNK_FAILOVER_LOC_PORT s = p ∧ fld LNK_FAILOVER_LOC_LINK s = l
        ∧ fld LNK_FAILOVER_LOC_DIR s = dir then setFld LNK_FAILOVER_LOC_DUR (if d < 0xFFF then d else 0xFFF) s
    else s

/-- Set the phase of a link; a lane failover in progress is over. A port stays in QUARANTINE until a hello agrees. -/
def setPhase (p l : Nat) (ph : LinkPhase) (s : State) : State :=
  onLink p l (fun k => { k with
    phase := ph, since := s.now, txOver := false, rxOver := false, failDue := none, mapDue := none, mapFirst := false
    txMap := none, rxMap := none, rxGiven := none, txHold := false, quar := k.quar || ph == .quarantine }) s

/-- Lane on wavelength 8 of a direction (0 receive, 1 transmit); 15 none. -/
def spareLane (p l dir : Nat) (s : State) : Nat :=
  if dir = 0 then fld (LNK_LINK_STATUS_RX_SPARE_FOR p l) s else fld (LNK_LINK_STATUS_TX_SPARE_FOR p l) s

/-- The lane a transmit direction has, or is to have, on wavelength 8: that of the last map named; 15 none. -/
def txLane (p l : Nat) (s : State) : Nat :=
  let k := linkOf p l s
  ((k.mapDue.or k.txMap).map (·.1)).getD (spareLane p l 1 s)

/-- The lane a receive direction has, is to have or has given up; 15 none. -/
def rxLane (p l : Nat) (s : State) : Nat :=
  let k := linkOf p l s
  if spareLane p l 0 s ≠ 15 then spareLane p l 0 s else ((k.rxMap.map (·.1)).or k.rxGiven).getD 15

/-- Does a lane on wavelength w of port p need wavelength 8 for the light's sake: is w LOST, or lit by a spare to which lanes
have not yet returned (R305)? -/
def wlMoved (p w : Nat) (s : State) : Bool :=
  bit (fld (OPT_BANK_STATUS_LOST p) s) w
    || (fld (OPT_SPARE_STATUS_S0_STATE p) s == 2 && fld (OPT_SPARE_STATUS_S0_FOR p) s == w && !flag (OPT_SPARE_STATUS_S0_RETURNED p) s)
    || (fld (OPT_SPARE_STATUS_S1_STATE p) s == 2 && fld (OPT_SPARE_STATUS_S1_FOR p) s == w && !flag (OPT_SPARE_STATUS_S1_RETURNED p) s)

/-- The transceiver that carries a link. -/
def xcvrOf (p l : Nat) (s : State) : Nat := xcvrInUse p l s

/-- Has the loop of the transmit ring of lane w of a link FAILED (R245, R333)? -/
def txRingFailed (p l w : Nat) (s : State) : Bool :=
  (get {} (153 * p + 9 * xcvrOf p l s + w) s.anl.loop).st == .failed

/-- The lanes of a transmit direction that R305 puts on wavelength 8, what training has found apart. -/
def lanesNeeded (p l : Nat) (s : State) : List Nat :=
  (List.range 8).filter fun w => wlMoved p w s || (linkOf p l s).gaveUp == some w || txRingFailed p l w s

/-- A new circuit begins for the sender of a link (R306): the first control frame is LANE_MAP, stating the map in force. The
spec gives that frame's codeword count no meaning: a free value. -/
def newSender (p l : Nat) (s : State) : State :=
  let n := (freshWord s).toNat
  onLink p l (fun k => { k with mapDue := some (spareLane p l 1 s, n), mapFirst := true }) (drawn s)

/-- A new circuit begins for the receiver of a link: the partner's first LANE_MAP states the map in force (R306). -/
def newReceiver (p l : Nat) (s : State) : State := onLink p l (fun k => { k with newRx := true }) s

/-- Both circuits of a link are new. -/
def newCircuit (p l : Nat) (s : State) : State := newReceiver p l (newSender p l s)

/-- A link fails (R249): no spare is left. -/
def failLink (p l : Nat) (s : State) : State :=
  if phaseOf p l s = .failed then s
  else sweepLink p l (meshFault 4 p l 0 (recordFailover 4 p l 0 0 (setPhase p l .failed s)))

/-- After a substitution (R290) the active bank is re-routed, and every STAGED bank waits for its re-route. -/
def rerouteAll (s : State) : State :=
  let s := match activeBank s with
    | some b => makeFabric b (rerouteBank b s)
    | none => s
  let m := (List.range 8).foldl (fun a b => if bankState b s = 3 then a ||| 2 ^ b else a) 0
  onCsc (fun c => { c with reroute := c.reroute ||| m }) s

/-- Is the link held dark by a re-route not finished (R290)? -/
def rerouteDark (p l : Nat) (s : State) : Bool :=
  match activeBank s with
  | some b => s.csc.reroute.testBit b && (dropEntry b p l s).any fun y => substituted y s
  | none => false

/-- Keep a transceiver or fibre failure found during a guard to the guard's end (R292). -/
def keepLate (fibre : Bool) (p x dir : Nat) (s : State) : State :=
  if s.csc.late.any fun y => (y.1, y.2.1, y.2.2.1) == (fibre, p, x) then s
  else onCsc (fun c => { c with late := c.late ++ [(fibre, p, x, dir)] }) s

/-- The spare transceiver takes a link (R248, R305): it carries the port's dark lane on its own wavelength 8, and replays
begin anew. -/
def toSpare (p l : Nat) (s : State) : State :=
  let s := onLink p l (fun k => { k with
    gaveUp := none, replay := none, retry := k.retry.map fun f => { f with replays := 0 } }) (setPhase p l .recovering s)
  newCircuit p l (setFld (LNK_LINK_STATUS_TX_SPARE_FOR p l) ((lanesNeeded p l s).headD 15) s)

/-- A transceiver fails (R248): the spare takes its link, or the link fails. During a guard it waits for the end (R292). -/
def xcvrFail (p l dir : Nat) (s : State) : State :=
  if phaseOf p l s = .failed then s
  else if cscMode s = 3 then keepLate false p l dir s
  else if flag (CSC_SUBST_XCVR_VALID p) s ∨ flag (CSC_SUBST_XCVR_SPARE_BAD p) s then failLink p l s
  else
    let s := setFlds [(CSC_SUBST_XCVR_VALID p, 1), (CSC_SUBST_XCVR_FOR p, l)] (beginFailover 2 p l 0 dir s)
    rerouteAll (toSpare p l s)

/-- A link is in service: its receive side works and it may send. -/
def inService (p l : Nat) (s : State) : Bool := phaseOf p l s == .up || phaseOf p l s == .recovering

/-- Frames run on a link: it is in service, or fenced by its failure or its port's quarantine, so that it sends idle frames
and FLOW and its receive side works (R260). -/
def framesRun (p l : Nat) (s : State) : Bool :=
  inService p l s || phaseOf p l s == .failed || phaseOf p l s == .quarantine

/-- A replay starts from position i of the retry buffer (R239): counted; past eight replays the transceiver fails, but in a
guard and while the link acquires (R281, R283). -/
def startReplay (p l i : Nat) (s : State) : State :=
  let k := linkOf p l s
  match k.retry[i]? with
  | none => s
  | some f =>
    let s := bump (LNK_LINK_CNT_RETRY p l) 1 s
    if 8 ≤ f.replays ∧ phaseOf p l s = .up ∧ cscMode s ≠ 3 then xcvrFail p l 1 s
    else onLink p l (fun k => { k with replay := some i }) s

/-! ### Sending flits (R238, R239, R252, R254) -/

/-- May the link send flits now? -/
def mayTransmit (p l : Nat) (s : State) : Bool :=
  phaseOf p l s == .up && !linkFenced p l s && !rerouteDark p l s && decide ((linkOf p l s).sendFrom ≤ s.now)
    && (cscMode s == 2 || (cscMode s == 3 && match s.csc.guard with
        | some g => !altered g.old g.bank p l s
        | none => true))

/-- The data of the next flit of a part, NaN lanes where its line fails R72, with the faults of reading it. -/
def flitData (p l : Nat) (x : SendPart) (s : State) : List Byte × State :=
  let c := groupCore p l (x.sent % 32)
  let a := flitLine x.bases x.sent
  if a < 2 ^ 19 then (portRead c a 256 s, portCheck x.plot c a 256 s)
  else ((List.replicate 64 nan32).flatMap (bytesLE 4), linkFault 4 x.plot p l x.pc s)

/-- PORT and LMASK of a transfer in a capture record. -/
def capMask (p lmask : Nat) : Nat := p + 8 * lmask

/-- The flits of a SEND are all sent on a link: with the last link of it, its capture event (R468). -/
def sendOver (p : Nat) (x : SendPart) (s : State) : State :=
  if (List.range 16).any fun l => (linkOf p l s).sends.any fun y => y.id == x.id then s
  else
    let data := (maskLinks x.lmask).flatMap fun l => get [] (32 * x.id + l) s.sendData
    let s := { s with sendData := clearRange (32 * x.id) 32 s.sendData }
    capEvent 6 x.plot (capMask p x.lmask) x.flits (crc32 data) [] s

/-- The flit that repeats position i of the retry buffer goes out, and the replay moves on (R239). -/
def replayFlit (p l i : Nat) (f : RetryFlit) (s : State) : State :=
  onLink p l (fun k => { k with
    retry := (k.retry.take i) ++ { f with replays := f.replays + 1 } :: k.retry.drop (i + 1)
    replay := if i + 1 < k.retry.length then some (i + 1) else none }) (emit (.frame p l f.frame) s)

/-- Is the next flit of a part its last? -/
def lastFlit (x : SendPart) : Bool := x.sent + 1 == x.flits

/-- The frame of the next flit of a part (R236, R256). -/
def nextFrame (p l : Nat) (x : SendPart) (data : List Byte) (s : State) : List Byte :=
  let c := node s
  flitFrame data (if lastFlit x then x.lmask else 0) c.1 c.2.1 c.2.2 (if lastFlit x then 2 else 1) x.plot
    (linkOf p l s).txSeq

/-- Is CRC armed for the link (R445)? -/
def injCrc (p l : Nat) (s : State) : Bool :=
  injArmed 6 s && bits (injTarget s) 23 21 == p && bits (injTarget s) 20 16 == l

/-- A flit of the first SEND has gone: one credit and one SEQ are taken, and the frame is kept for retry (R238, R239). -/
def flitGone (x : SendPart) (frame : List Byte) (now : Nat) (k : Link) : Link :=
  { k with
    credits := k.credits - 1
    retry := k.retry ++ [⟨frame, 0⟩]
    ackAt := if k.retry.isEmpty then now else k.ackAt
    txSeq := (k.txSeq + 1) % 4096
    sends := if lastFlit x then k.sends.tail else { x with sent := x.sent + 1 } :: k.sends.tail }

/-- A flit is metered, and kept where its run is captured (R417, R468). -/
def flitCounted (l : Nat) (x : SendPart) (data : List Byte) (s : State) : State :=
  let s := meterAdd 4 x.plot 1 s
  if capturing x.plot s then { s with sendData := upd [] (32 * x.id + l) (fun d => d ++ data) s.sendData } else s

/-- The next flit of the first SEND of a link goes out. -/
def sendNext (p l : Nat) (x : SendPart) (s : State) : State :=
  let data := (flitData p l x s).1
  let s := (flitData p l x s).2
  let frame := nextFrame p l x data s
  let inj := injCrc p l s
  let sent := if inj then frame.take 262 ++ bytesLE 2 (0xFFFF - (fcwOf frame).crc) else frame
  let s := endFailover p l 1 (flitCounted l x data (onLink p l (flitGone x frame s.now) (emit (.frame p l sent) s)))
  let s := if inj then injConsume s else s
  if lastFlit x then sendOver p x s else s

/-- Does the first SEND of a link wait: for its map, a credit, room for retry, its start, or the end of a scrub (R93, R238,
R239, R246, R252)? -/
def sendWaits (p l : Nat) (x : SendPart) (s : State) : Bool :=
  let k := linkOf p l s
  k.txHold || k.credits == 0 || decide (256 ≤ k.retry.length) || decide (mstNs s < x.start) || replaying x.plot s
    || s.seq.scrubEnd.isSome

/-- A slot without a flit carries an idle frame (R238, R260). -/
def sendIdle (p l : Nat) (s : State) : State := emit (.frame p l (idleFrame s)) s

/-- FLIT_SEND (R238, R239): a replay goes first; else the next flit of the first SEND whose start has come; else an idle
frame. -/
def flitSend (p l : Nat) (s : State) : State :=
  let k := linkOf p l s
  if !framesRun p l s then s
  else if !mayTransmit p l s then sendIdle p l s
  else match k.replay with
    | some i => match k.retry[i]? with
      | none => sendIdle p l (onLink p l (fun k => { k with replay := none }) s)
      | some f => replayFlit p l i f s
    | none => match k.sends with
      | [] => sendIdle p l s
      | x :: _ => if sendWaits p l x s then sendIdle p l s else sendNext p l x s

/-- Does SEND `id` stand at the head of link l, with none of its flits sent and no replay in progress? -/
def headOf (p id l : Nat) (s : State) : Bool :=
  match (linkOf p l s).sends with
  | x :: _ => x.id == id && x.sent == 0 && (linkOf p l s).replay.isNone
  | [] => false

/-- TRANSFER_START (R252): at its start instant SEND `id` begins on each link of port p where it is the next transfer. -/
def transferStart (p id : Nat) (s : State) : State :=
  forAll (fun l s => if headOf p id l s then flitSend p l s else s) (List.range 32) s

/-- RETRY_TIMEOUT (R239): no ACK has advanced for 4 µs while the retry buffer holds flits. Suspended in a guard. -/
def retryTimeout (p l : Nat) (s : State) : State :=
  let k := linkOf p l s
  if !k.retry.isEmpty ∧ inService p l s ∧ cscMode s ≠ 3 ∧ k.ackAt + 4 * usT ≤ s.now then
    startReplay p l 0 (onLink p l (fun k => { k with ackAt := s.now }) s)
  else s

/-! ### Control frames (R237, R246) -/

/-- The HELLO a link sends on its circuit in bank b (R237). -/
def helloFrame (b p l : Nat) (s : State) : List Byte :=
  let partner := ((dropEntry b p l s).map (·.partner)).getD (0, 0, 0)
  let caps := 0x0F + 16 * fld LNK_CTRL_GEN1_DETECT s
  ctlFrame 2 ([0] ++ bytesLE 2 (coordWord (node s)) ++ bytesLE 1 p ++ bytesLE 1 l ++ bytesLE 2 (coordWord partner)
    ++ bytesLE 1 (p ^^^ 1) ++ bytesLE 1 caps ++ [0, 0] ++ bytesLE 4 (fld FWU_RUN_VER_VERSION s) ++ configDigest s)

/-- The LANE_MAP of a link is sent: a map other than the one in force waits for its count. -/
def mapSent (p l lane count : Nat) (s : State) : State :=
  emit (.frame p l (ctlFrame 4 ([0] ++ bytesLE 1 lane ++ [0] ++ bytesLE 4 count)))
    (onLink p l (fun k => { k with
      mapDue := none, mapFirst := false, txMap := if k.mapFirst then k.txMap else some (lane, count) }) s)

/-- FLOW goes out: credits, ACK and NAK (R237–R239). -/
def sendFlow (p l : Nat) (s : State) : State :=
  let k := linkOf p l s
  let credit := if k.owed ≤ 512 then k.owed else 512
  let ack := if k.acked then 2 ^ 15 + (k.rxSeq + 4095) % 4096 else 0
  let nak := if k.nakDue then 2 ^ 15 + k.rxSeq else 0
  emit (.frame p l (ctlFrame 1 ([0] ++ bytesLE 2 credit ++ bytesLE 2 ack ++ bytesLE 2 nak)))
    (onLink p l (fun k => { k with owed := k.owed - credit, nakDue := false }) s)

/-- CONTROL_FRAME_SEND (R237, R260, R306): on a new circuit LANE_MAP first; then LANE_FAIL and LANE_MAP ahead of FLOW; on a
fenced link FLOW only. -/
def controlSend (p l : Nat) (s : State) : State :=
  let k := linkOf p l s
  if !framesRun p l s then s
  else if linkFenced p l s then sendFlow p l s
  else match k.failDue, k.mapDue with
    | some lane, due =>
      if k.mapFirst then due.elim s fun m => mapSent p l m.1 m.2 s
      else emit (.frame p l (ctlFrame 3 ([0] ++ bytesLE 1 lane))) (onLink p l (fun k => { k with failDue := none }) s)
    | none, some (lane, count) => mapSent p l lane count s
    | none, none => sendFlow p l s

/-- Position in a retry buffer of the flit with a SEQ. -/
def retryPos (seq : Nat) (k : Link) : Option Nat := k.retry.findIdx? fun f => (fcwOf f.frame).seq == seq

/-- The partner has locked on a new map (R246): once it is in force here, its NAK, or an ACK that advances, ends the
failover, and new flits follow. -/
def mapOver (p l : Nat) (s : State) : State :=
  onLink p l (fun k => if k.mapDue.isNone ∧ k.txMap.isNone then { k with txHold := false, txOver := false } else k) s

/-- FLOW (R237–R239): credits, ACK and NAK. -/
def flowReceive (p l : Nat) (frame : List Byte) (s : State) : State :=
  if !ctlFrameOk 1 frame ∨ !framesRun p l s then s
  else
    let credit := leAt frame 2 2
    let ack := leAt frame 4 2
    let nak := leAt frame 6 2
    let s := onLink p l (fun k => { k with credits := if k.credits + credit ≤ 512 then k.credits + credit else 512 }) s
    let s := if 2 ^ 15 ≤ ack then
        match retryPos (ack % 4096) (linkOf p l s) with
        | some i => onLink p l (fun k => { k with
            retry := k.retry.drop (i + 1)
            replay := k.replay.bind fun r =>
              if r ≤ i + 1 then (if i + 1 < k.retry.length then some 0 else none) else some (r - (i + 1))
            ackAt := s.now }) (mapOver p l s)
        | none => s
      else s
    if 2 ^ 15 ≤ nak then
      let s := mapOver p l s
      match retryPos (nak % 4096) (linkOf p l s) with
      | some i => startReplay p l i s
      | none => s
    else s

/-- Has the transmit direction no spare lane: wavelength 8 has or is to have a lane, or is LOST in the bank (R311)? -/
def txSpareGone (p l : Nat) (s : State) : Bool := txLane p l s != 15 || bit (fld (OPT_BANK_STATUS_LOST p) s) 8

/-- The sender names a new map by LANE_MAP at a codeword count, and stops new flits (R246). On a circuit that has not yet
stated its map, the new one is in force at once and is the one stated (R306). -/
def nameMap (p l lane count : Nat) (s : State) : State :=
  if (linkOf p l s).mapFirst then
    newSender p l (setFld (LNK_LINK_STATUS_TX_SPARE_FOR p l) lane s)
  else onLink p l (fun k => { k with mapDue := some (lane, count), txHold := true, txOver := true }) s

/-- The sender moves a lane to wavelength 8 by LANE_MAP at a codeword count (R246), or, wavelength 8 being taken, the
direction fails over to the spare transceiver. `give`: for a ring or receiver that has given the lane up (R306). A lane that
is there or on its way there is ignored (R306, R311). -/
def moveLane (give : Bool) (p l lane count : Nat) (s : State) : State :=
  if txLane p l s = lane ∨ !inService p l s then s
  else if txSpareGone p l s then xcvrFail p l 1 s
  else
    onLink p l (fun k => { k with gaveUp := if give then some lane else k.gaveUp })
      (nameMap p l lane count (beginFailover 1 p l lane 1 s))

/-- LANE_FAIL (R246): the partner's receiver has given a lane up. A lane already on wavelength 8 is ignored (R306). -/
def laneFail (p l count : Nat) (frame : List Byte) (s : State) : State :=
  if ctlFrameOk 3 frame ∧ leAt frame 2 1 < 8 then moveLane true p l (leAt frame 2 1) count s else s

/-- LANE_MAP (R246, R306): the partner's new map and the count it applies from; the first on a new circuit states the map in
force. -/
def laneMap (p l : Nat) (frame : List Byte) (s : State) : State :=
  let lane := leAt frame 2 1 % 16
  if !(ctlFrameOk 4 frame && inService p l s) then s
  else if (linkOf p l s).newRx then
    setFld (LNK_LINK_STATUS_RX_SPARE_FOR p l) lane (onLink p l (fun k => { k with newRx := false }) s)
  else onLink p l (fun k => { k with rxMap := some (lane, leAt frame 4 4) }) s

/-- LANE_MAP_APPLY (R246): both directions whose named count this is switch. -/
def laneMapApply (p l count : Nat) (s : State) : State :=
  let k := linkOf p l s
  let s := match k.txMap with
    | some (lane, c) => if c = count then
        setFld (LNK_LINK_STATUS_TX_SPARE_FOR p l) lane (onLink p l (fun k => { k with txMap := none }) s) else s
    | none => s
  match k.rxMap with
  | some (lane, c) => if c = count then
      setFld (LNK_LINK_STATUS_RX_SPARE_FOR p l) lane (onLink p l (fun k => { k with rxMap := none, rxGiven := none }) s) else s
  | none => s

/-- Does a lane controller give its lane up for what it has seen (R245)? A transmit lane's does for its ring's failed loop.
A ring of a LOST wavelength is held, and R245 does not act on it (R311). -/
def givesUp (p l dir lane : Nat) (why : LaneFault) (s : State) : Bool :=
  !bit (fld (OPT_BANK_STATUS_LOST p) s) lane && match why with
    | .unlock ns => dir == 0 && decide (200 ≤ ns)
    | .symbols a b => dir == 0 && decide (fld LNK_LANE_THR_SYM_THR s < a) && decide (fld LNK_LANE_THR_SYM_THR s < b)
    | .power ns x => dir == 0 && decide (1000 ≤ ns) && decide (x < -1600)
    | .ring => dir == 1 && txRingFailed p l lane s

/-- A transmit lane on a wavelength is given up (R245, R246); on wavelength 8 it is the second lane of its direction where
that carries one. -/
def txGiveUp (p l lane count : Nat) (s : State) : State :=
  if lane < 8 then moveLane true p l lane count s
  else if txLane p l s ≠ 15 ∧ inService p l s then xcvrFail p l 1 s else s

/-- A receive lane is given up (R245, R246): LANE_FAIL asks the sender for a map; a second lane is a transceiver failure. -/
def rxGiveUp (p l lane : Nat) (s : State) : State :=
  if rxLane p l s = lane then s
  else if rxLane p l s ≠ 15 then xcvrFail p l 0 s
  else if lane < 8 then
    onLink p l (fun k => { k with failDue := some lane, rxGiven := some lane, rxOver := true }) (beginFailover 1 p l lane 0 s)
  else s

/-- LANE_GIVE_UP (R245, R246): a lane controller of a direction (0 receive, 1 transmit) hands its lane over. Suspended
during a guard (R281): a lane that then still is faulty is given up after it. -/
def laneGiveUp (p l dir lane : Nat) (why : LaneFault) (count : Nat) (s : State) : State :=
  if !inService p l s ∨ cscMode s = 3 ∨ !givesUp p l dir lane why s then s
  else if dir = 1 then txGiveUp p l lane count s
  else rxGiveUp p l lane s

/-- A sender's map in force or named is that which R305 asks for, or it is changed; two lanes that need wavelength 8 make the
direction fail over. -/
def checkMap (p l count : Nat) (s : State) : State :=
  let s := forAll (fun w => moveLane (!wlMoved p w s) p l w count) (lanesNeeded p l s) s
  if txRingFailed p l 8 s then txGiveUp p l 8 count s else s

/-! ### Receiving flits (R239, R255–R257) -/

/-- Return the credit of a flit. -/
def giveCredit (p l : Nat) (s : State) : State := onLink p l (fun k => { k with owed := k.owed + 1 }) s

/-- Close a POST's part on a link; `dead`: without a signal. A POST with no part left is gone. -/
def closePart (p l id : Nat) (dead : Bool) (s : State) : State :=
  let s := onLink p l (fun k => { k with posts := k.posts.filter fun x => x.id != id }) s
  match look id s.post with
  | none => s
  | some q =>
    let q := { q with dead := q.dead || dead, done := if dead then q.done else q.done ||| 2 ^ l }
    let open_ := (maskLinks q.lmask).any fun i => (linkOf p i s).posts.any fun x => x.id == id
    { s with post := if open_ then ins id q s.post else del id s.post }

/-- A receive is signalled (R256). `x y z`: the partner of the link whose flit completed it. -/
def signalPost (q : Post) (l : Nat) (c : Coord) (s : State) : State :=
  let data := (maskLinks q.lmask).flatMap fun i => get [] i q.data
  let s := capEvent 5 q.plot (capMask q.port q.lmask) q.tly (crc32 data)
    (if flag HMK_CAP_CFG_FLITDATA s then data else []) s
  sendTally 8 (.inc q.plot q.tly 1 (srcLink c.1 c.2.1 c.2.2 q.port l) none) s

/-- Does the PLOT check of R255 pass? -/
def plotPasses (plot : Nat) (s : State) : Bool := s.linkPlot == some plot && !s.slice.recvClose && !replaying plot s

/-- One flit at the head of a link: checked, then written or discarded (R255, R256). Answers false where it must wait for
a POST (R257). -/
def takeFlit (p l : Nat) (frame : List Byte) (s : State) : Bool × State :=
  let w := fcwOf frame
  let last := w.kind == 2
  let k := linkOf p l s
  if k.skip then (true, giveCredit p l (onLink p l (fun k => { k with skip := !last }) s))
  else if !plotPasses w.plot s then (true, linkFault 8 w.plot p l 0 (giveCredit p l s))
  else match k.posts with
    | [] => (false, s)
    | x :: _ => match look x.id s.post with
      | none => (false, s)
      | some q =>
        if cycle s < q.openAt then (false, s)
        else if partnerOf p l s ≠ some (w.x, w.y, w.z) then (true, linkFault 9 w.plot p l 0 (giveCredit p l s))
        -- the service ports are closed during a scrub (R93)
        else if s.seq.scrubEnd.isSome then (false, s)
        else
          let a := flitLine x.bases x.got
          let out := decide (2 ^ 19 ≤ a)
          let s := giveCredit p l s
          let s := if out then
              let s := { s with post := ins x.id { q with dead := true } s.post }
              linkFault 4 w.plot p l 0 s
            else
              let s := sramWrite (groupCore p l (x.got % 32)) a (frame.take 256) s
              let s := if capturing q.plot s then { s with post := ins x.id { q with
                  data := upd [] l (fun d => d ++ frame.take 256) q.data } s.post } else s
              meterAdd 5 w.plot 1 s
          let got := x.got + 1
          if got = q.flits ∧ last ∧ w.lmask = q.lmask then
            let q' := (look x.id s.post).getD q
            let s := closePart p l x.id false s
            if (look x.id s.post).isNone ∧ !q'.dead ∧ q'.done ||| 2 ^ l = q'.lmask then
              (true, signalPost q' l (w.x, w.y, w.z) s)
            else (true, s)
          else if got = q.flits ∨ last then
            let s := linkFault (if got = q.flits ∧ last then 7 else 6) w.plot p l 0 s
            (true, onLink p l (fun k => { k with skip := !last }) (closePart p l x.id true s))
          else (true, onLink p l (fun k => { k with posts := { x with got := got } :: k.posts.tail }) s)

/-- Take the flits that wait at the head of a link, as far as they can be taken. -/
def drainLink (p l : Nat) : Nat → State → State
  | 0, s => s
  | n + 1, s => match (linkOf p l s).rxBuf with
    | [] => s
    | f :: rest =>
      let (took, t) := takeFlit p l f s
      if took then drainLink p l n (onLink p l (fun k => { k with rxBuf := rest, waitAt := s.now }) t) else s

/-- Take what waits on every link. -/
def drainLinks (s : State) : State :=
  forAll (fun (x : Nat × Link) s =>
    if x.2.rxBuf.isEmpty then s else drainLink (x.1 / 32) (x.1 % 32) x.2.rxBuf.length s) s.link s

/-- A flit that must be discarded for retry: NAK once, then discard until its SEQ arrives again (R239). -/
def rejectFlit (p l : Nat) (s : State) : State :=
  onLink p l (fun k => if k.discard then k else { k with discard := true, nakDue := true, lostAt := some s.now }) s

/-- Is a codeword uncorrectable (R234): in FEC mode FULL with more than 15 symbols in error, in DETECT with any? -/
def uncorrectable (detect : Bool) (w : Codeword) : Bool := if detect then w.symbols != 0 else decide (15 < w.symbols)

/-- FLIT_RECEIVE (R234, R236, R239, R255): a frame arrives in its codewords, as the decoder leaves it. In the dark gap of a
guard every codeword is lost (R282). -/
def flitReceive (p l : Nat) (words : List Codeword) (frame : List Byte) (s : State) : State :=
  let k := linkOf p l s
  let bad := words.filter fun w => darkGap p l s || uncorrectable k.detect w
  if !(inService p l s || phaseOf p l s == .failed) ∨ quarantined p s then s
  else if !bad.isEmpty then rejectFlit p l (bump (LNK_LINK_CNT_UNCORR p l) (bad.filter (·.first)).length s)
  else if !flitOk frame then rejectFlit p l s
  else
    let w := fcwOf frame
    if w.kind = 0 ∨ w.kind = 3 then s
    else if w.seq ≠ k.rxSeq then (if k.discard then s else rejectFlit p l s)
    else
      let s := if k.rxOver then s else endFailover p l 0 s
      let s := onLink p l (fun k => { k with
        rxSeq := (k.rxSeq + 1) % 4096, discard := false, lostAt := none, acked := true
        rxBuf := k.rxBuf ++ [frame], waitAt := if k.rxBuf.isEmpty then s.now else k.waitAt }) s
      drainLink p l (linkOf p l s).rxBuf.length s

/-- Drop the flits at a link's head up to and including a LAST; answers the rest. -/
def dropTransfer : List (List Byte) → Nat × Bool × List (List Byte)
  | [] => (0, false, [])
  | f :: fs =>
    if (fcwOf f).kind = 2 then (1, true, fs)
    else
      let (n, b, r) := dropTransfer fs
      (n + 1, b, r)

/-- NOPOST_TIMEOUT (R257). -/
def nopostTimeout (p l : Nat) (s : State) : State :=
  let k := linkOf p l s
  match k.rxBuf with
  | [] => s
  | f :: _ =>
    let s' := drainLink p l k.rxBuf.length s
    if (linkOf p l s').rxBuf ≠ k.rxBuf then s'
    else if s.now < k.waitAt + 2 ^ fld LNK_CTRL_NOPOST_TMO s * usT then s
    else
      let (n, ended, rest) := dropTransfer k.rxBuf
      let s := onLink p l (fun k => { k with rxBuf := rest, skip := !ended, owed := k.owed + n, waitAt := s.now }) s
      linkFault 5 (fcwOf f).plot p l 0 s

/-! ### Cuts (R258, R409, R433) -/

/-- Cut SENDs of a link that a test selects, with a CUT fault each or none; the retry buffer goes with them. -/
def cutSends (p l : Nat) (record : Bool) (f : SendPart → Bool) (s : State) : State :=
  let hit := (linkOf p l s).sends.filter f
  let s := onLink p l (fun k => { k with
    sends := k.sends.filter fun x => !f x
    retry := if hit.isEmpty then k.retry else [], replay := if hit.isEmpty then k.replay else none }) s
  if record then forAll (fun (x : SendPart) s => linkFault 10 x.plot p l 0 s) hit s else s

/-- Close the parts of POSTs on a link that a test selects, with a CUT fault each or none. -/
def cutPosts (p l : Nat) (record : Bool) (f : PostPart → Post → Bool) (s : State) : State :=
  forAll (fun (x : PostPart) s => match look x.id s.post with
    | none => s
    | some q => if f x q then
        let s := closePart p l x.id true s
        if record then linkFault 10 q.plot p l 0 s else s
      else s) (linkOf p l s).posts s

/-- A plan change treats an altered link (R258): what runs on it is cut, credits and SEQ restart. -/
def cutAltered (p l : Nat) (s : State) : State :=
  let t := mstNs s
  let s := cutSends p l true (fun x => decide (x.sent ≠ 0) || decide (x.start < t)) s
  let s := cutPosts p l true (fun x _ => x.got != 0) s
  onLink p l (fun k => { k with
    credits := 512, retry := [], replay := none, txSeq := 0, rxSeq := 0, discard := false,
    nakDue := false, acked := false, owed := 0, rxBuf := [], skip := false, failDue := none, mapDue := none
    mapFirst := false, txMap := none, rxMap := none, rxGiven := none, txHold := false, txOver := false, rxOver := false
    txOnset := none, rxOnset := none, lostAt := none }) s

/-- All ports and links. -/
def allLinks : List (Nat × Nat) := (List.range 6).flatMap fun p => (List.range 16).map fun l => (p, l)

/-- Cut the SENDs, or close the POSTs, of a plot on every link. -/
def cutPlotSends (n : Nat) (record : Bool) (s : State) : State :=
  forAll (fun (x : Nat × Nat) => cutSends x.1 x.2 record fun y => y.plot == n) allLinks s
def cutPlotPosts (n : Nat) (record : Bool) (s : State) : State :=
  forAll (fun (x : Nat × Nat) => cutPosts x.1 x.2 record fun _ q => q.plot == n) allLinks s

/-- Has plot n a SEND or an open POST? -/
def plotTransfers (n : Nat) (s : State) : Bool :=
  (s.link.any fun x => x.2.sends.any fun y => y.plot == n) || s.post.any fun x => x.2.plot == n

/-! ### Training and the hello (R241–R243) -/

/-- Does port p train (R241)? -/
def portTrains (p : Nat) (s : State) : Bool :=
  flag (LNK_PORT_CTRL_ENABLE p) s && flag GLB_NODE_VALID s && flag GLB_ROLE_STATUS_SET s
    && s.extents && (hops (node s) p 1 s).isSome

/-- The bank whose circuits links now train or carry: that of the re-plan's phase, or the active one. -/
def circuitBank (s : State) : Option Nat :=
  match s.csc.replan with
  | some r => match r.phase with
    | some (some b) => some b
    | _ => none
  | none => activeBank s

/-- Is a mode (3 G2-8, 2 G2-4, 1 G1-8, 0 G1-4) offered by capabilities? -/
def modeOffered (caps m : Nat) (lanes8 : Bool) : Bool :=
  bit caps (if 2 ≤ m then 1 else 0) && (if m % 2 = 1 then bit caps 3 && lanes8 else bit caps 2)

/-- Highest common mode not above `m` (R241). -/
def commonMode (caps : Nat) (lanes8 : Bool) (m : Nat) : Option Nat :=
  (List.range (m + 1)).reverse.find? fun i => modeOffered caps i lanes8

/-- Record the mode of a link. -/
def setMode (p l m : Nat) (detect : Bool) (s : State) : State :=
  setFlds [(LNK_LINK_STATUS_GEN p l, m / 2), (LNK_LINK_STATUS_LANES4 p l, 1 - m % 2),
    (LNK_LINK_STATUS_DETECT p l, b2n detect)] (onLink p l (fun k => { k with mode := m, detect := detect }) s)

/-- Training of a link ends without success in this phase of the re-plan (R241): it is DOWN until the next. -/
def trainOver (p l : Nat) (s : State) : State := onLink p l (fun k => { k with tried := true }) (setPhase p l .down s)

/-- The next lower mode after a failed VERIFY, or DOWN after G1-4 (R241). -/
def lowerMode (p l : Nat) (s : State) : State :=
  let k := linkOf p l s
  if k.mode = 0 then trainOver p l s else setPhase p l .verify (setMode p l (k.mode - 1) (k.detect && k.mode - 1 < 2) s)

/-- Does VERIFY pass: a bit error ratio of 2.4 × 10⁻⁴ or less on every active lane, and no uncorrectable codeword (R241)? -/
def verifyPass (i : TrainInfo) : Bool := i.uncorr == 0 && i.errors.all fun e => decide (e.1 * 100000 ≤ 24 * e.2)

/-- LINK_TRAINING_ADVANCE (R241). -/
def trainingAdvance (p l : Nat) (i : TrainInfo) (s : State) : State :=
  match circuitBank s with
  | none => s
  | some b => match dropEntry b p l s with
    | none => s
    | some x =>
      if !portTrains p s then s
      else
        let k := linkOf p l s
        match k.phase with
        | .down => match s.csc.replan with
          | some r => if r.phaseAt + 8 * msT ≤ s.now ∧ !k.tried then setPhase p l .signal (dropResult p x s) else s
          | none => s
        | .signal => if 8 ≤ (i.powers.filter fun x => decide (-1800 < x)).length then setPhase p l .acquire s else s
        | .acquire => if i.locked then setPhase p l .negotiate s else s
        | .negotiate => match commonMode i.caps i.lanes8 (fld (LNK_PORT_CTRL_MODE_CEIL p) s) with
          | none => trainOver p l s
          | some m =>
            let det := m < 2 && bit i.caps 4 && flag LNK_CTRL_GEN1_DETECT s
            setPhase p l .verify (setMode p l m det s)
        | .verify =>
          if verifyPass i then
            let budget := x.inter < 4 || i.powers.all fun y => decide (-1200 ≤ y)
            let r : Kept := ⟨x.llink, x.partner.1, x.partner.2.1, x.partner.2.2, x.inter, k.mode, k.detect, i.txSpare,
              i.rxSpare, budget, true, i.sample, i.delay⟩
            let s := onLink p l (fun k => { k with sample := i.sample, gaveUp := none }) s
            let s := keepResult p r (setFlds [(LNK_LINK_STATUS_TX_SPARE_FOR p l, i.txSpare),
              (LNK_LINK_STATUS_RX_SPARE_FOR p l, i.rxSpare)] s)
            if budget then emit (.frame p l (helloFrame b p l s)) (setPhase p l .hello s) else setPhase p l .refused s
          else lowerMode p l s
        | _ => s

/-- Limit of a training state in the model's time (R241). -/
def trainLimit : LinkPhase → Option Nat
  | .signal => some (4 * msT)
  | .acquire => some msT
  | .negotiate => some (200 * usT)
  | .verify => some msT
  | .hello => some (200 * usT)
  | .recovering => some msT
  | _ => none

/-- TRAINING_TIMEOUT (R241, R283). -/
def trainingTimeout (p l : Nat) (s : State) : State :=
  let k := linkOf p l s
  match trainLimit k.phase with
  | none => s
  | some t =>
    if s.now < k.since + t then s
    else match k.phase with
      | .hello =>
        let s := match (circuitBank s).bind fun b => dropEntry b p l s with
          | some x => dropResult p x s
          | none => s
        setFld (LNK_PORT_STATUS_ITEM p) 6 (trainOver p l s)
      | .recovering => failLink p l s
      | .verify => lowerMode p l s
      | _ => trainOver p l s

/-- The first item of a received hello that disagrees, on the circuit of link l in bank b (R242): 1 COORD, 2 PORT,
3 FIBRE, 4 MANIFEST, 5 DIGEST; 0 none. -/
def helloItem (b p l : Nat) (f : List Byte) (s : State) : Nat :=
  let expect := if isHome b p l s then hops (node s) p 1 s else (dropEntry b p l s).map (·.partner)
  if leAt f 6 2 ≠ coordWord (node s) ∨ some (leAt f 2 2) ≠ expect.map coordWord then 1
  else if leAt f 4 1 ≠ p ^^^ 1 then 2
  else if leAt f 5 1 ≠ l then 3
  else if leAt f 12 4 ≠ fld FWU_RUN_VER_VERSION s then 4
  else if (f.drop 16).take 16 ≠ configDigest s then 5
  else 0

/-- A link comes up on a new circuit: credits and retry state initialised (R241, R306). -/
def linkUp (p l : Nat) (s : State) : State :=
  newCircuit p l (onLink p l (fun k => { k with
    credits := 512, retry := [], replay := none, txSeq := 0, rxSeq := 0, discard := false, lostAt := none
    nakDue := false, acked := false, owed := 0, rxBuf := [], skip := false, txOnset := none, rxOnset := none, quar := false })
    (setPhase p l .up s))

/-- A hello on link l agrees (R241, R242): the link comes up; of a link quarantined in an earlier phase of the re-plan, that
alone ends. -/
def helloAgrees (p l : Nat) (s : State) : State :=
  let k := linkOf p l s
  if k.phase = .hello ∨ k.phase = .quarantine then linkUp p l s else onLink p l (fun k => { k with quar := false }) s

/-- HELLO (R242). -/
def helloReceive (p l : Nat) (f : List Byte) (s : State) : State :=
  match circuitBank s with
  | none => s
  | some b =>
    let ph := phaseOf p l s
    if !ctlFrameOk 2 f ∨ !(ph = .hello ∨ (linkOf p l s).quar ∨ ph = .up) then s
    else
      let home := isHome b p l s
      let item := helloItem b p l f s
      let c := leAt f 2 2
      if home then
        let others := (List.range 16).any fun i => i != l && (linkOf p i s).quar
        let s := setFlds [(LNK_HELLO_PEER_VALID p, 1), (LNK_HELLO_PEER_X p, c % 16), (LNK_HELLO_PEER_Y p, c / 16 % 16),
          (LNK_HELLO_PEER_Z p, c / 256 % 8), (LNK_HELLO_PEER_PORT p, leAt f 4 1), (LNK_HELLO_MFST_VERSION p, leAt f 12 4)] s
        -- LINK and ITEM stay those of the hello that put the port into quarantine
        let s := if others then s else setFlds [(LNK_HELLO_PEER_LINK p, leAt f 5 1), (LNK_PORT_STATUS_ITEM p, item)] s
        if item = 0 then helloAgrees p l s
        else
          let first := !quarantined p s
          let s := setPhase p l .quarantine s
          if first then meshFault 0x0A p l 0 s else s
      else if item = 0 then helloAgrees p l s
      else
        -- no KIND of LNK_FAULT_LOC names a refused hello (R440): a free value
        let s := match dropEntry b p l s with
          | some x => match keptOf p x s with
            | some r => keepResult p { r with hello := false } s
            | none => s
          | none => s
        let kind := (freshWord s).toNat % 16
        let s := holdFirst LNK_FAULT_LOC_VALID [(LNK_FAULT_LOC_KIND, kind), (LNK_FAULT_LOC_PORT, p), (LNK_FAULT_LOC_LINK, l)]
          (bump LNK_FAULT_COUNT_COUNT 1 (drawn s))
        setPhase p l .refused s

/-- Send the hello again on the home circuits of a port (R262, R241). -/
def resendHello (p : Nat) (s : State) : State :=
  match activeBank s with
  | none => s
  | some b => forAll (fun l s =>
      if isHome b p l s ∧ (phaseOf p l s = .up ∨ (linkOf p l s).quar) then emit (.frame p l (helloFrame b p l s)) s
      else s) (List.range 16) s

/-- QUARANTINE_REHELLO (R241): a quarantined port repeats its hello. -/
def quarantineRehello (p : Nat) (s : State) : State := if quarantined p s then resendHello p s else s

/-- RE_ACQUISITION (R246, R283): the receiver has locked on the changed or remapped path; it sends its NAK and the link
resumes. -/
def reAcquire (p l : Nat) (s : State) : State :=
  let k := linkOf p l s
  if !rerouteDark p l s ∧ (k.phase = .recovering ∨ (k.phase = .up ∧ (k.rxOver ∨ k.rxOnset.isSome))) then
    onLink p l (fun k => { k with phase := .up, nakDue := true, discard := true, rxOver := false }) s
  else s

/-! ### Status (R262) -/

/-- STATE of LNK_LINK_STATUS_p_l: a lane failover in progress shows as RECOVERING, a link of a quarantined port as
TRAINING, and for l = 16 the spare transceiver. -/
def linkState (p l : Nat) (s : State) : Nat :=
  let ph := phaseOf p l s
  if l = 16 then (if ph = .failed then 4 else if flag (CSC_SUBST_XCVR_VALID p) s then 2 else 0)
  else if (linkOf p l s).txOver || (linkOf p l s).rxOver then 5
  else if ph = .up ∧ quarantined p s then 1
  else match ph with
  | .down => 0
  | .up => 2
  | .refused => 3
  | .failed => 4
  | .recovering => 5
  | _ => 1

/-- Logical links 0–15 of port p in state UP. -/
def linksUp (p : Nat) (s : State) : Nat := ((List.range 16).filter fun l => linkState p l s = 2).length

/-- STATE of LNK_PORT_STATUS_p. -/
def portState (p : Nat) (s : State) : Nat :=
  if !flag (LNK_PORT_CTRL_ENABLE p) s ∨ !flag GLB_NODE_VALID s ∨ !flag GLB_ROLE_STATUS_SET s ∨ !s.extents then 0
  else if (hops (node s) p 1 s).isNone then 1
  else if quarantined p s then 4
  else if portFenced p s then 5
  else if linksUp p s ≠ 0 then 3
  else 2

/-- FENCE_CAUSE of LNK_PORT_STATUS_p: the FENCE bit before all, else of the two others the first set (R371). -/
def fenceCause (p : Nat) (s : State) : Nat :=
  if portState p s ≠ 5 then 0
  else if flag (LNK_PORT_CTRL_FENCE p) s then 1
  else if skewFenced s && !(bit (fld CSC_STATUS_MISS_FENCE s) p && bit s.sdl.missFirst p) then 2 else 3

end Sys2Proof.Machine
end

