-- ==== Sys2Proof/Machine/Csc.lean ====
section
/-! DEFINITION. The circuit switch: bank states, triggers, the guard, slow re-plans and substitutions
(09_circuit_switch.md R275–R292). -/
namespace Sys2Proof.Machine

/-! ### Refusals and misses (R279, R287) -/

/-- Count and record a refusal or a miss. SRC: 0 register, 1 circuit slot, 2 slice boundary. -/
def cscRecord (kind src plot bank pc : Nat) (s : State) : State :=
  holdFirst CSC_FAULT_LOC_VALID [(CSC_FAULT_LOC_KIND, kind), (CSC_FAULT_LOC_SRC, src),
    (CSC_FAULT_LOC_PLOT, if src = 0 then 0 else plot), (CSC_FAULT_LOC_BANK, bank),
    (CSC_FAULT_LOC_PC, if src = 1 then pc else 0)] (bump CSC_FAULT_COUNT_COUNT 1 s)

/-- The CLASS 7 report: to the plot of a circuit-slot arm, else to the device (R429). -/
def cscReport (kind src plot bank pc : Nat) (s : State) : State :=
  if src = 1 then plotFault plot 7 kind bank pc s else devFault 7 kind bank s

/-- Ports a miss of a bank affects (R287). -/
def affectedPorts (bank : Nat) (s : State) : List Nat :=
  (List.range 6).filter fun p =>
    if bankState bank s = 0 then (List.range 16).any fun l => !(endsOf (activeBank s) p l s).isEmpty
    else (List.range 16).any fun l => altered (activeBank s) bank p l s

/-- Fence a port for missed staging. -/
def missFence (p : Nat) (s : State) : State :=
  let m := fld CSC_STATUS_MISS_FENCE s
  if m.testBit p then s
  else
    -- set while slot skew fences, it is not the first (R371)
    let s := { s with sdl := { s.sdl with missFirst := if s.sdl.missFirst.testBit p then s.sdl.missFirst - 2 ^ p else s.sdl.missFirst } }
    devFault 9 0x0B (2 ^ 11 * p) (setFld CSC_STATUS_MISS_FENCE (m ||| 2 ^ p) s)

/-- A missed fire (R287). -/
def missFire (kind src plot bank pc : Nat) (s : State) : State :=
  sweepLinks (forAll missFence (affectedPorts bank s) (cscReport kind src plot bank pc (cscRecord kind src plot bank pc s)))

/-! ### Triggers (R278–R280, R292) -/

/-- Set or clear the armed trigger with its fields of CSC_STATUS. -/
def setTrig (t : Option Trig) (s : State) : State :=
  let s := onCsc (fun c => { c with trig := t }) s
  match t with
  | none => setFlds [(CSC_STATUS_ARMED, 0), (CSC_STATUS_ARMED_BANK, 0), (CSC_STATUS_ARM_SRC, 0), (CSC_STATUS_ARM_PLOT, 0)] s
  | some t => setFlds [(CSC_STATUS_ARMED, 1), (CSC_STATUS_ARMED_BANK, t.bank), (CSC_STATUS_ARM_SRC, t.src),
      (CSC_STATUS_ARM_PLOT, t.plot)] s

/-- Does the interval [T, T + 2.0 µs] overlap that of a slice start (R279)? -/
def guardOverlap (t : Nat) (s : State) : Bool :=
  let len := sliceNs s
  len != 0 && (decide (t % len < 2000) || decide (len < t % len + 2000))

/-- The first check of R279 that an arm of a bank at T fails. -/
def armRefused (src plot bank t : Nat) (s : State) : Option Nat :=
  if src = 1 ∧ !bit (fld (CSC_PLOT_BANKS plot) s) bank then some 1
  else if s.csc.trig.isSome then some 2
  else if !flag SDL_STATUS_MST_SEEN_VALID s then some 3
  else if t * nsM < mstM s + 1000 * nsM then some 4
  else if src = 1 ∧ (s.slice.number + 1) * sliceNs s < t + 2000 then some 5
  else if guardOverlap t s then some 6
  else none

/-- Arm a trigger, or refuse it (R279). -/
def cscArm (src plot bank pc t : Nat) (s : State) : State :=
  match armRefused src plot bank t s with
  | none => setTrig (some ⟨bank, t, src, plot, pc⟩) s
  | some k => if k = 4 then missFire 4 src plot bank pc s
      else cscReport k src plot bank pc (cscRecord k src plot bank pc s)

/-- ARM of CSC_TRIG_CTRL by an accessor (R278, R279). -/
def registerArm (a : Accessor) (bank : Nat) (s : State) : State :=
  let t := reg64 rCSC_TRIG_TIME_LO rCSC_TRIG_TIME_HI s
  let s' := cscArm 0 0 bank 0 t s
  if (armRefused 0 0 bank t s).isSome then discard a rCSC_TRIG_CTRL s' else s'

/-- Has the fire time of a trigger come? A DISARM in its nanosecond or later has no effect: the fire happens (R292). -/
def fireDue (t : Trig) (s : State) : Bool := decide (t.at_ * nsM ≤ mstM s)

/-- DISARM of CSC_TRIG_CTRL: a register trigger only. -/
def registerDisarm (s : State) : State :=
  match s.csc.trig with
  | some t => if t.src = 0 ∧ !fireDue t s then setTrig none s else s
  | none => s

/-- DISARM of the circuit slot: a trigger the plot's own run armed (R278). -/
def slotDisarm (plot : Nat) (s : State) : State :=
  match s.csc.trig with
  | some t => if t.src = 1 ∧ t.plot = plot ∧ !fireDue t s then setTrig none s else s
  | none => s

/-- The run of a plot ends: what its circuit slot armed is disarmed (R278). -/
def runDisarm (plot : Nat) (s : State) : State :=
  match s.csc.trig with
  | some t => if t.src = 1 ∧ t.plot = plot then setTrig none s else s
  | none => s

/-- A step of MST disarms an armed trigger as a missed fire with KIND LATE (R354, R358). -/
def stepDisarm (s : State) : State :=
  match s.csc.trig with
  | some t => missFire 4 t.src t.plot t.bank t.pc (setTrig none s)
  | none => s

/-- A circuit slot issues (R116, R278): it arrives 60 ns later. -/
def cswIssue (n pc : Nat) (k : CswSlot) (s : State) : State :=
  if k.op = 0 ∨ 3 < k.op then s
  else onCsc (fun c => { c with ops := c.ops ++ [⟨s.now + 60 * nsT, k.op, k.bank, k.tofs, s.seq.runNo, n, pc⟩] }) s

/-- CIRCUIT_OP_ARRIVAL (R278, R279): the oldest operation on its way arrives; it is dropped when its run has ended. -/
def circuitOpArrival (s : State) : State :=
  match s.csc.ops with
  | [] => s
  | o :: os =>
    if s.now < o.at_ then s
    else
      let s := onCsc (fun c => { c with ops := os }) s
      if !(runOf o.plot s && s.seq.runNo == o.run) then s
      else match o.op with
        | 1 => cscArm 1 o.plot o.bank o.pc (s.slice.number * sliceNs s + o.tofs) s
        | 2 => cscArm 1 o.plot o.bank o.pc ((mstM s + 1016 * nsM - 1) / (16 * nsM) * 16) s
        | _ => slotDisarm o.plot s

/-! ### The guard (R281–R284) -/

/-- A swap begins (R280, R281): old plan lit, altered links treated by R258, missed-staging fences released (R288). -/
def beginGuard (bank t : Nat) (s : State) : State :=
  let old := activeBank s
  let s := setFlds [(CSC_STATUS_MODE, 3), (CSC_STATUS_MISS_FENCE, 0)] (bump CSC_SWAP_COUNT_COUNT 1 s)
  let s := onCsc (fun c => { c with guard := some ⟨t, old, bank, false⟩ }) s
  forAll (fun (x : Nat × Nat) => cutAltered x.1 x.2) (alteredLinks old bank s) s

/-- A fire of a bank at T (R280). -/
def fireBank (src plot bank pc t : Nat) (s : State) : State :=
  if !bankReady bank s ∨ cscMode s ≠ 2 then missFire 7 src plot bank pc s
  else if activeBank s = some bank then setFld CSC_STATUS_MISS_FENCE 0 s
  else beginGuard bank t s

/-- FIRE (R280): the armed trigger's time has come. -/
def fire (s : State) : State :=
  match s.csc.trig with
  | none => s
  | some t => if !fireDue t s then s else fireBank t.src t.plot t.bank t.pc t.at_ (setTrig none s)

/-- The swap to the home bank at the slice start of a plot (R280, R284). -/
def homeSwap (plot t : Nat) (s : State) : State :=
  let b := fld (CSC_PLOT_HOME plot) s
  if !flag (CSC_PLOT_HOME_VALID plot) s ∨ activeBank s = some b ∨ cscMode s ≠ 2 then s else fireBank 2 plot b 0 t s

/-- GUARD_SWITCH (R281): shutters of outputs leaving use close and the elements switch; 60 ns later the shutters of new
outputs open, and 240 ns later the receivers of trained circuits load what was kept for them. The trims it lets apply are in
Machine/Anneal.lean. -/
def guardSwitched (s : State) : State × Bool :=
  match s.csc.guard with
  | some g =>
    if g.switched ∨ mstM s < (g.at_ + 200) * nsM then (s, false)
    else
      let outs := bankOuts g.bank s
      let old := ((g.old.map (bankOuts · s)).getD []).filter fun o => !outs.contains o
      let s := closeShutters old (driveBank g.bank (onCsc (fun c => { c with guard := some { g with switched := true } }) s))
      (fabricLater (s.now + 240 * nsT) (.load g.bank (alteredLinks g.old g.bank s))
        (fabricLater (s.now + 60 * nsT) (.open_ outs) s), true)
  | none => (s, false)

/-- The lane map of a link on a circuit with a kept result: the lane R305 puts on wavelength 8, else that of the result
(R273, R306). -/
def mapLane (p l : Nat) (k : Kept) (s : State) : Nat := (lanesNeeded p l s).headD k.txSpare

/-- A link takes over what was kept for its circuit (R273, R281): mode, lane maps, and with `phase` the sampling phase. -/
def loadKept (p l : Nat) (phase : Bool) (k : Kept) (s : State) : State :=
  let s := onLink p l (fun x => if phase then { x with sample := k.sample } else x) (setMode p l k.mode k.detect (keepResult p k s))
  setFlds [(LNK_LINK_STATUS_TX_SPARE_FOR p l, mapLane p l k s), (LNK_LINK_STATUS_RX_SPARE_FOR p l, k.rxSpare)] s

/-- At t0 + 0.440 µs the receiver of a TRAINED circuit loads what was kept (R281). -/
def loadCircuit (b p l : Nat) (s : State) : State :=
  match dropAt b p l s with
  | some (e, x) => match cstate b e x s, keptOf p x s with
    | 2, some k => loadKept p l true k s
    | _, _ => s
  | none => s

/-- What was to come inside the switch happens at its instant (R281, R285). -/
def fabricAct (a : FabAct) (s : State) : State := match a with
  | .open_ outs => openShutters outs s
  | .load b links => forAll (fun (x : Nat × Nat) => loadCircuit b x.1 x.2) links s

/-- What was to come inside the switch up to now. -/
def fabricTime (s : State) : State :=
  let due := s.csc.fabDue.filter fun x => decide (x.1 ≤ s.now)
  if due.isEmpty then s
  else forAll (fun (x : Nat × FabAct) => fabricAct x.2) due
    (onCsc (fun c => { c with fabDue := c.fabDue.filter fun x => !decide (x.1 ≤ s.now) }) s)

/-- A link's receiver acquires its circuit without a cached phase (R283): its first flit goes no earlier than `t`. -/
def acquireFrom (p l t : Nat) (s : State) : State :=
  newCircuit p l (onLink p l (fun k => { k with sendFrom := t }) (setPhase p l .recovering s))

/-- Bring a link onto its circuit of the bank that has become active (R274, R281, R283). `locked`: its receiver has locked. -/
def enterCircuit (b p l t : Nat) (locked : Bool) (s : State) : State :=
  if quarantined p s ∨ phaseOf p l s = .failed then s
  else match dropAt b p l s with
    | none => setPhase p l .down s
    | some (e, x) =>
      match cstate b e x s, keptOf p x s with
      | 2, some k => if locked then linkUp p l (loadKept p l true k s) else acquireFrom p l (t + 8500 * nsT) (loadKept p l true k s)
      | 3, some k => acquireFrom p l (t + 8500 * nsT) (loadKept p l false k s)
      | 4, _ => setPhase p l .refused s
      | 5, _ => setPhase p l .refused s
      | 7, _ => failLink p l s
      | _, _ => setPhase p l .down s

/-- Make a bank the active one (R275). -/
def makeActive (b : Nat) (s : State) : State :=
  let s := match activeBank s with
    | some o => if o ≠ b ∧ bankState o s = 6 then setFld (CSC_BANK_STATUS_STATE o) 3 s else s
    | none => s
  setFlds [(CSC_BANK_STATUS_STATE b, 6), (CSC_STATUS_ACTIVE, b), (CSC_STATUS_ACTIVE_VALID, 1)] s

/-! ### Substitutions (R248, R290, R292) -/

/-- REROUTE_DONE (R290): the re-route of a staged bank finishes, in bank order; a link it held dark, the bank being active,
acquires now (R283). -/
def rerouteDone (b : Nat) (s : State) : State :=
  if !s.csc.reroute.testBit b ∨ s.csc.reroute % 2 ^ b ≠ 0 then s
  else
    let s := onCsc (fun c => { c with reroute := c.reroute - 2 ^ b }) (rerouteBank b s)
    if activeBank s ≠ some b then s
    else forAll (fun (x : Nat × Nat) s =>
      if phaseOf x.1 x.2 s = .recovering ∧ (dropEntry b x.1 x.2 s).any fun y => substituted y s then
        acquireFrom x.1 x.2 (s.now + 8060 * nsT) s
      else s) allLinks (makeFabric b s)

/-- The endpoints of this package whose circuits move to the spare fibre pair (R248): receivers re-acquire, and senders state
their maps (R306). -/
def fibreMoves (b p idx : Nat) (s : State) : State :=
  forAll (fun (x : Nat × Entry) s =>
    if x.2.kind = 2 ∧ x.2.inPort = p ∧ x.2.inIdx = idx ∧ inService p x.2.llink s then
      newReceiver p x.2.llink (onLink p x.2.llink (fun k => { k with phase := .recovering, since := s.now }) s)
    else if x.2.kind = 0 ∧ x.2.outPort = p ∧ x.2.outIdx = idx ∧ inService p x.2.llink s then newSender p x.2.llink s
    else s) (entriesOf b s) s

/-- LOSS_OF_LIGHT (R248, R249) on ingress fibre f of port p. -/
def lossOfLight (p f : Nat) (s : State) : State :=
  match activeBank s with
  | none => s
  | some b =>
    let valid := flag (CSC_SUBST_FIBRE_VALID p) s
    let for_ := fld (CSC_SUBST_FIBRE_FOR p) s
    let idx := if f = 16 ∧ valid then for_ else f
    if valid ∧ f = for_ then s
    else if cscMode s = 3 then keepLate true p f 0 s
    else match (entriesOf b s).find? fun (_, x) => (x.kind == 1 || x.kind == 2) && x.inPort == p && x.inIdx == idx with
      | none => s
      | some (_, x) =>
        let l := x.llink
        let s := onCsc (fun c => { c with blocked := ins (17 * p + f) true c.blocked }) s
        if valid ∨ flag (CSC_SUBST_FIBRE_SPARE_BAD p) s then
          if x.kind = 2 then failLink p l s else meshFault 4 p l 0 (recordFailover 4 p l 0 0 s)
        else
          let s := if x.kind = 2 ∧ inService p l s then beginFailover 3 p l 0 0 s else meshFault 3 p l 0 (recordFailover 3 p l 0 0 s)
          rerouteAll (fibreMoves b p idx (setFlds [(CSC_SUBST_FIBRE_VALID p, 1), (CSC_SUBST_FIBRE_FOR p, idx)] s))

/-- The failures kept to the end of a guard take effect on the new plan (R292). -/
def lateFailures (s : State) : State :=
  forAll (fun (x : Bool × Nat × Nat × Nat) s =>
    if x.1 then lossOfLight x.2.1 x.2.2.1 s
    else if inService x.2.1 x.2.2.1 s then xcvrFail x.2.1 x.2.2.1 x.2.2.2 s else s) s.csc.late
    (onCsc (fun c => { c with late := [] }) s)

/-- GUARD_END (R281–R283, R292, R313). `unlocked`: links whose receivers with a cached phase have not locked; `counts`: the
codeword count each link names for a map. -/
def guardEnd (unlocked : List (Nat × Nat)) (counts : Map Nat) (s : State) : State :=
  match s.csc.guard with
  | none => s
  | some g =>
    if mstM s < (g.at_ + 2000) * nsM then s
    else
      let alt := alteredLinks g.old g.bank s
      let t := s.now - 2000 * nsT
      let s := setFld CSC_STATUS_MODE 2 (makeActive g.bank (onCsc (fun c => { c with guard := none }) s))
      let s := lateFailures (forAll (fun (x : Nat × Nat) => enterCircuit g.bank x.1 x.2 t (!unlocked.contains x)) alt s)
      forAll (fun (x : Nat × Nat) => checkMap x.1 x.2 (get 0 (32 * x.1 + x.2) counts)) allLinks s

/-- UNCACHED_ACQUIRE_TIMEOUT (R283): the receiver has not locked by T + 8.44 µs; it falls back to ACQUIRE, whose limit
of 1 ms TRAINING_TIMEOUT keeps. -/
def uncachedTimeout (p l : Nat) (s : State) : State :=
  let k := linkOf p l s
  if k.phase = .recovering ∧ k.sendFrom ≠ 0 ∧ k.sendFrom ≤ s.now + 60 * nsT ∧ k.since < k.sendFrom then setPhase p l .recovering s else s

/-! ### Banks (R275, R276, R289) -/

/-- May entries of the bank be written (R275)? -/
def bankProtected (b : Nat) (s : State) : Bool :=
  bankState b s == 6 || bankState b s == 2 || bankState b s == 7 || s.csc.trig.any fun t => t.bank == b

/-- A write to an entry's word is accepted: the bank is WRITTEN, so not READY, and its digest cleared (R275). -/
def entryWritten (b : Nat) (s : State) : State :=
  loop (fun i => setReg (rCSC_BANK_DIG b i) 0) 4
    (setFld (CSC_BANK_STATUS_STATE b) 1 s)

/-- STAGE_GO for a bank (R275). -/
def stageGo (b : Nat) (s : State) : State :=
  if bankProtected b s then setFld (CSC_BANK_STATUS_REASON b) 9 s
  else onCsc (fun c => { c with checking := ins b s.now c.checking })
    (setFlds [(CSC_BANK_STATUS_STATE b, 2), (CSC_BANK_STATUS_REASON b, 0),
      (CSC_BANK_STATUS_ENTRY b, 0)] s)

/-- The digest of a bank's words enters CSC_BANK_DIG (R277). -/
def writeDigest (b : Nat) (s : State) : State :=
  loop (fun i => setReg (rCSC_BANK_DIG b i) (BitVec.ofNat 32 (leAt (planDigest b s) (4 * i) 4))) 4 s

/-- Does the digest differ from the one expected (R277)? -/
def digestDiffers (b : Nat) (s : State) : Bool :=
  (List.range 4).any fun i => reg (rCSC_BANK_DIG b i) s != reg (rCSC_BANK_EXP b i) s

/-- The check of a bank is over: its digest stands, it is routed afresh where there is a way, and source 20 rises. -/
def checkingOver (b : Nat) (s : State) : State :=
  irq 20 (onCsc (fun c => { c with checking := del b c.checking }) (writeDigest b (routeBank b s)))

/-- The state a bank takes from its check (R275): REJECTED for a reason and entry, MISMATCH, or STAGED. -/
def verdict (b : Nat) (bad : Option (Nat × Nat)) (s : State) : State :=
  match bad with
  | some (r, e) => setFlds [(CSC_BANK_STATUS_STATE b, 4), (CSC_BANK_STATUS_REASON b, r), (CSC_BANK_STATUS_ENTRY b, e)] s
  | none =>
    if digestDiffers b s then setFld (CSC_BANK_STATUS_STATE b) 5 s
    else setFld (CSC_BANK_STATUS_STATE b) 3 s

/-- Why bank b is refused: by its words, or for the first entry that no route takes past the stuck elements (R276, R291). -/
def refusal (b : Nat) (s : State) : Option (Nat × Nat) := (planRefused b s).or ((stuckEntry b s).map fun e => (8, e))

/-- CHECKING_END (R276, R277). -/
def checkingEnd (b : Nat) (s : State) : State :=
  if bankState b s ≠ 2 then s
  else verdict b (refusal b (checkingOver b s)) (checkingOver b s)

/-! ### Transceiver faults and stuck elements (R248, R291) -/

/-- TRANSCEIVER_FAULT (R248): transceiver t of port p, direction 0 receive or 1 transmit. -/
def xcvrFault (p t dir : Nat) (s : State) : State :=
  let valid := flag (CSC_SUBST_XCVR_VALID p) s
  let for_ := fld (CSC_SUBST_XCVR_FOR p) s
  if t = 16 then (if valid then xcvrFail p for_ dir s else s)
  else if valid ∧ t = for_ then s
  else if inService p t s then xcvrFail p t dir s
  else s

/-- The state an element is in: what its phase shifter was last driven to, else what it homed in. -/
def elemState (k : Nat) (s : State) : Nat :=
  let e := get 0 k s.csc.elem
  if e = 0 then elemCode (get {} (1836 + k) s.anl.loop).cross else e

/-- An element's bias loop has failed (R291): it is stuck in its last state, and every circuit whose path crosses it becomes
FAILED. -/
def elementStuck (k : Nat) (s : State) : State :=
  if (look k s.csc.stuck).isSome then s
  else
    let state := elemState k s - 1
    let hits := (List.range 8).flatMap fun b => (crossers b k s).map fun e => (b, e)
    let s := onCsc (fun c => { c with stuck := ins k (state + 1) c.stuck }) s
    let s := holdFirst CSC_ELEM_FAULT_VALID [(CSC_ELEM_FAULT_STATE, state), (CSC_ELEM_FAULT_ELEMENT, k)]
      (bump CSC_ELEM_FAULT_COUNT 1 s)
    let s := devFault 12 4 k s
    let s := onCsc (fun c => { c with crossing := forAll (fun (x : Nat × Nat) => ins (256 * x.1 + x.2) true) hits c.crossing }) s
    forAll (fun (x : Nat × Nat) s => match entryAt x.1 x.2 s with
      | some y => if activeBank s = some x.1 ∧ isEnd y then failLink (endPort y) y.llink s else s
      | none => s) hits s

/-! ### Slow re-plan (R285) -/

/-- Length of a phase. -/
abbrev phaseT : Nat := 17400 * usT

/-- Is a bank STAGED or ACTIVE? -/
def trainable (b : Nat) (s : State) : Bool := bankState b s == 3 || bankState b s == 6

/-- No re-plan is pending. -/
def notPending (s : State) : State := setFld CSC_STATUS_REPLAN_PENDING 0 (onCsc (fun c => { c with replanAt := none }) s)

/-- The phases of a re-plan (R285): the other trainable banks of REPLAN_MASK, the spare test, the target. -/
def replanTodo (s : State) : List (Option Nat) :=
  ((List.range 8).filter fun b => bit (fld CSC_CTRL_REPLAN_MASK s) b && b != fld CSC_CTRL_REPLAN_TARGET s
    && trainable b s).map some ++ [none, some (fld CSC_CTRL_REPLAN_TARGET s)]

/-- No transceiver or fibre pair is substituted. -/
def clearSubsts (s : State) : State :=
  loop (fun p => setFlds [(CSC_SUBST_XCVR_VALID p, 0), (CSC_SUBST_XCVR_FOR p, 0), (CSC_SUBST_FIBRE_VALID p, 0),
    (CSC_SUBST_FIBRE_FOR p, 0)]) 6 s

/-- A link at the start of a re-plan (R285): altered by R258, and DOWN, what it knew of its lanes and port forgotten. -/
def replanLink (p l : Nat) (s : State) : State :=
  onLink p l (fun k => { k with quar := false, gaveUp := none, tried := false }) (setPhase p l .down (cutAltered p l s))

/-- A re-plan begins: the trigger disarmed, every shutter closed, every link down, substitutions and missed-staging fences
cleared. -/
def replanBegin (s : State) : State :=
  let r : Replan := { todo := replanTodo s, target := fld CSC_CTRL_REPLAN_TARGET s, phaseAt := s.now }
  let s := clearSubsts (forAll (fun (x : Nat × Nat) => replanLink x.1 x.2) allLinks (setTrig none s))
  onCsc (fun c => { c with
    replan := some r, guard := none, blocked := [], reroute := 0, shut := [], fabDue := [], late := [] })
    (setFlds [(CSC_STATUS_MODE, 1), (CSC_STATUS_MISS_FENCE, 0)] s)

/-- A re-plan starts (R285, R288): `now_`: by REPLAN_NOW. A start that R285 refuses is discarded and recorded. -/
def replanStart (a : Option Accessor) (now_ : Bool) (s : State) : State :=
  if !trainable (fld CSC_CTRL_REPLAN_TARGET s) s ∨ !(now_ || mstValid s) then
    match a with
    | some a => discard a rCSC_CTRL s
    | none => globalErr 2 3 0 rCSC_CTRL (notPending s)
  else replanBegin (notPending s)

/-- REPLAN_GO and REPLAN_NOW of a write to CSC_CTRL (R285). -/
def replanWrite (a : Accessor) (go now_ : Bool) (s : State) : State :=
  if !go && !now_ then s
  else if s.csc.replan.isSome ∨ (now_ ∧ fld GLB_STARTUP_STATUS_STAGE s < 6) then discard a rCSC_CTRL s
  else if now_ then replanStart (some a) true s
  else
    let t := reg64 rCSC_REPLAN_TIME_LO rCSC_REPLAN_TIME_HI s
    if t * nsM ≤ mstM s then replanStart (some a) false s
    else setFld CSC_STATUS_REPLAN_PENDING 1 (onCsc (fun c => { c with replanAt := some t }) s)

/-- REPLAN_START (R285): the scheduled start has come. -/
def replanDue (s : State) : State :=
  match s.csc.replanAt with
  | none => s
  | some t => if mstM s < t * nsM then s else replanStart none false s

/-- Close the phase of a re-plan that runs: the bank's state, or the results of the spare test (port, transceiver 16 bad,
fibre pair 16 bad). -/
def phaseClose (r : Replan) (spares : List (Nat × Bool × Bool)) (s : State) : State :=
  match r.phase with
  | none => s
  | some (some b) => setFld (CSC_BANK_STATUS_STATE b) r.back s
  | some none => forAll (fun (x : Nat × Bool × Bool) s =>
      if portTrains x.1 s then
        setPhase x.1 16 (if x.2.1 || x.2.2 then .failed else .down)
          (setFlds [(CSC_SUBST_XCVR_SPARE_BAD x.1, b2n x.2.1), (CSC_SUBST_FIBRE_SPARE_BAD x.1, b2n x.2.2)] s)
      else s) spares (setFld CSC_STATUS_SPARE_PHASE 0 s)

/-- The phases still to come: a bank that is no longer STAGED or ACTIVE, its entries having been written, is skipped. -/
def phasesLeft (s : State) : List (Option Nat) → List (Option Nat) :=
  List.dropWhile fun ph => ph.any fun b => !trainable b s

/-- The re-plan ends (R285): the target is ACTIVE and MODE is RUN. A target that was written meanwhile is not; the bank that
was active stays so (log entry 27). -/
def replanEnd (r : Replan) (s : State) : State :=
  let s := onCsc (fun c => { c with replan := none, replanned := true, fabDue := [] }) s
  let s := forAll (fun (x : Nat × Nat) s =>
    if (trainLimit (phaseOf x.1 x.2 s)).isSome then setPhase x.1 x.2 .down s else s) allLinks s
  let s := if trainable r.target s then makeActive r.target s else s
  let s := match activeBank s with
    | some b => makeFabric b s
    | none => s
  irq 20 (setFlds [(CSC_STATUS_MODE, 2), (CSC_STATUS_REPLAN_BANK, 0)] s)

/-- A link at the start of a phase: DOWN, and not yet tried. -/
def phaseLink (p l : Nat) (s : State) : State := onLink p l (fun k => { k with tried := false }) (setPhase p l .down s)

/-- The outputs of the spare test (R285): transceiver 16 and fibre pair 16 of each port that trains. -/
def spareOuts (s : State) : List Nat :=
  ((List.range 6).filter fun p => portTrains p s).flatMap fun p => [17 * p + 16, 102 + 17 * p + 16]

/-- A phase begins (R285): a bank is routed and its phase shifters set, or the spares are tested; shutters open at 6 ms. -/
def phaseBegin (r : Replan) (ph : Option Nat) (rest : List (Option Nat)) (s : State) : State :=
  let s := forAll (fun (x : Nat × Nat) => phaseLink x.1 x.2) allLinks (onCsc (fun c => { c with shut := [] }) s)
  let next (back : Nat) (s : State) : State := onCsc (fun c => { c with replan := some { r with
    todo := rest, phaseAt := s.now, phase := some ph, back := back } }) s
  match ph with
  | some b =>
    let back := bankState b s
    let s := driveBank b (routeBank b s)
    fabricLater (s.now + 6 * msT) (.open_ (bankOuts b s))
      (next back (setFlds [(CSC_BANK_STATUS_STATE b, 7), (CSC_STATUS_REPLAN_BANK, b)] s))
  | none => fabricLater (s.now + 6 * msT) (.open_ (spareOuts s))
      (next 0 (setFlds [(CSC_STATUS_SPARE_PHASE, 1), (CSC_STATUS_REPLAN_BANK, 0)] s))

/-- The phase of a re-plan that ends now, if one does: `none` where none runs or it has not lasted 17.4 ms (R285). -/
def phaseOver (s : State) : Option Replan :=
  s.csc.replan.filter fun r => !(r.phase.isSome && decide (s.now < r.phaseAt + phaseT))

/-- Begin the next phase, or end the re-plan (R285). Answers the elements the new phase moves to other states, or `none`
where no phase begins. -/
def replanNext (spares : List (Nat × Bool × Bool)) (s : State) : State × Option (List (Nat × Bool)) :=
  match phaseOver s with
  | none => (s, none)
  | some r =>
    let s := phaseClose r spares s
    match phasesLeft s r.todo with
    | [] => (replanEnd r s, none)
    | ph :: rest =>
      let moves := (ph.map fun b => elemMoves b (routeBank b s)).getD []
      (phaseBegin r ph rest s, some moves)

/-! ### Control and off (R270, R288) -/

/-- UNFENCE (R288). -/
def unfence (s : State) : State := setFld CSC_STATUS_MISS_FENCE 0 s

/-- The actions of a write to CSC_CTRL, its RW fields being stored. -/
def cscCtrl (a : Accessor) (w : Word) (s : State) : State :=
  let s := if wfld CSC_CTRL_STAGE_GO w = 1 then stageGo (wfld CSC_CTRL_STAGE_BANK w) s else s
  let s := if wfld CSC_CTRL_UNFENCE w = 1 then unfence s else s
  replanWrite a (wfld CSC_CTRL_REPLAN_GO w == 1) (wfld CSC_CTRL_REPLAN_NOW w == 1) s

/-- The actions of a write to CSC_TRIG_CTRL. -/
def cscTrigCtrl (a : Accessor) (w : Word) (s : State) : State :=
  let s := if wfld CSC_TRIG_CTRL_DISARM w = 1 then registerDisarm s else s
  if wfld CSC_TRIG_CTRL_ARM w = 1 then registerArm a (wfld CSC_TRIG_CTRL_BANK w) s else s

/-- The heaters of all elements go to zero (R270): their loops are OFF, but for those FAILED (R333). -/
def elementsOff (s : State) : State :=
  { s with anl := { s.anl with loop := s.anl.loop.map fun (k, l) =>
    if 1836 ≤ k ∧ k < 3756 then (k, { l with
      st := if l.st = .failed then .failed else .off, code := 0, dac := 0, sweep := none, move := none, down := none
      held := false, s := none, spoiled := true }) else (k, l) } }

/-- The words of the entries of every bank are cleared: an EMPTY bank holds no valid entry (R275). -/
def clearEntries (s : State) : State := { s with regs := clearRange 0x710000 0x4000 s.regs }

/-- The CSC goes to OFF (R270, R444, R511): every bank EMPTY, shutters closed, no phase shifter driven, element heaters at
zero, links down. -/
def cscOff (s : State) : State :=
  let s := setTrig none s
  let s := clearEntries (loop (fun b => setReg (rCSC_BANK_STATUS b) 0) 8 s)
  let s := forAll (fun (x : Nat × Link) s =>
    if phaseOf (x.1 / 32) (x.1 % 32) s = .failed then s else setPhase (x.1 / 32) (x.1 % 32) .down s) s.link s
  onCsc (fun c => { c with
    guard := none, replan := none, replanAt := none, checking := [], route := [], elem := [], shut := [], fabDue := []
    crossing := [], reroute := 0, late := [] }) (setReg rCSC_STATUS 0 (elementsOff s))

end Sys2Proof.Machine
end

