-- ==== Sys2Proof/Machine/Frac.lean ====
section
/-! DEFINITION. Exact fractions, the rounding helpers and the number forms of the Anneal engine's loops
(11_anneal_engine.md R325, R327, R331). -/
namespace Sys2Proof.Machine

/-- The fraction n / d in lowest terms; 0 where d is 0. -/
def frac (n : Int) (d : Nat) : Frac :=
  let g := Nat.gcd n.natAbs d
  if g = 0 then {} else ⟨n / (g : Int), d / g⟩

/-- An integer as a fraction. -/
def fInt (n : Int) : Frac := ⟨n, 1⟩

def Frac.add (a b : Frac) : Frac := frac (a.n * b.d + b.n * a.d) (a.d * b.d)
def Frac.neg (a : Frac) : Frac := ⟨-a.n, a.d⟩
def Frac.sub (a b : Frac) : Frac := a.add b.neg
def Frac.mul (a b : Frac) : Frac := frac (a.n * b.n) (a.d * b.d)
def Frac.abs (a : Frac) : Frac := ⟨a.n.natAbs, a.d⟩

/-- a < b. -/
def Frac.lt (a b : Frac) : Bool := decide (a.n * b.d < b.n * a.d)

/-- a ≤ b. -/
def Frac.le (a b : Frac) : Bool := !b.lt a

/-- a / b; 0 where b is 0. -/
def Frac.div (a b : Frac) : Frac := if b.n < 0 then frac (-a.n * b.d) (a.d * b.n.natAbs) else frac (a.n * b.d) (a.d * b.n.natAbs)

/-- clamp(x, lo, hi) of R303. -/
def Frac.clamp (lo hi x : Frac) : Frac := if x.lt lo then lo else if hi.lt x then hi else x

/-- round_half_even of R303. -/
def Frac.round (a : Frac) : Int :=
  let q := a.n / (a.d : Int)
  let r := a.n - q * a.d
  if 2 * r < a.d then q else if (a.d : Int) < 2 * r then q + 1 else if q % 2 = 0 then q else q + 1

/-- 2^k. -/
def fPow2 (k : Int) : Frac := if 0 ≤ k then ⟨2 ^ k.toNat, 1⟩ else ⟨1, 2 ^ (-k).toNat⟩

/-- The coefficient of a word (R331): M × 2^(E − 17). -/
def coefOf (w : Word) : Frac := (fInt (signed 18 (bits w.toNat 23 6))).mul (fPow2 (signed 6 (bits w.toNat 5 0) - 17))

/-- The least exponent of −32 … 31 that covers the values, 31 if none. -/
def stageExp (xs : List Frac) : Int :=
  (((List.range 64).map fun (k : Nat) => (k : Int) - 32).find? fun e => xs.all fun x => x.abs.lt (fPow2 e)).getD 31

/-- One value of a stage with exponent ee (R327). -/
def renorm1 (ee : Int) (x : Frac) : Frac :=
  (fInt (clamp (-131072) 131071 (x.mul (fPow2 (17 - ee))).round)).mul (fPow2 (ee - 17))

/-- renorm of a stage (R327). -/
def renorm (xs : List Frac) : List Frac := xs.map (renorm1 (stageExp xs))

/-! ### The pilot (R325) -/

/-- π in units of 2⁻⁹⁶. -/
def piFix : Int := 248902613312231085230521944622

/-- Terms of a sine (odd) or cosine (even) series of an angle in units of 2⁻⁹⁶, from a term and its index on. -/
def trigSum (x : Int) : Nat → Nat → Int → Int
  | 0, _, _ => 0
  | n + 1, k, t => t + trigSum x n (k + 2) (-(t * x / 2 ^ 96 * x / 2 ^ 96) / ((k + 1) * (k + 2) : Nat))

/-- sin(2π r / 8192) for r ≤ 1024, and the cosine, in units of 2⁻⁹⁶. -/
def sinSmall (r : Nat) : Int := let x := 2 * piFix * r / 8192; trigSum x 20 1 x
def cosSmall (r : Nat) : Int := let x := 2 * piFix * r / 8192; trigSum x 20 0 (2 ^ 96)

/-- sin(2π r / 8192) of the first quarter, r ≤ 2048. -/
def sinQuarter (r : Nat) : Int := if r ≤ 1024 then sinSmall r else cosSmall (2048 - r)

/-- sin(2π r / 8192) in units of 2⁻⁹⁶. -/
def sinFix (r : Nat) : Int :=
  let r := r % 8192
  if r ≤ 2048 then sinQuarter r
  else if r ≤ 4096 then sinQuarter (4096 - r)
  else if r ≤ 6144 then -sinQuarter (r - 4096)
  else -sinQuarter (8192 - r)

/-- cos(2π r / 8192) in units of 2⁻⁹⁶. -/
def cosFix (r : Nat) : Int := sinFix (r + 2048)

/-- The pilot sample of amplitude a and tone n at front-end tick q. -/
def pilot (a n q : Nat) : Int := (⟨(a : Int) * sinFix (q * (33 + 30 * n)), 2 ^ 96⟩ : Frac).round

end Sys2Proof.Machine
end

