-- ==== Sys2Proof/Machine/Optics.lean ====
section
/-! DEFINITION. Lasers, lanes, monitors and trims (10_optical_engines.md R299–R317; 11_anneal_engine.md R342, R343,
R348). -/
namespace Sys2Proof.Machine

def onOpt (f : Optics → Optics) (s : State) : State := { s with opt := f s.opt }
def onAnl (f : Anneal → Anneal) (s : State) : State := { s with anl := f s.anl }

/-- Loop k, and a change to it. -/
def loopOf (k : Nat) (s : State) : Loop := get {} k s.anl.loop
def onLoop (k : Nat) (f : Loop → Loop) (s : State) : State := onAnl (fun a => { a with loop := upd {} k f a.loop }) s

/-- Item `k` of the calibration store for `i` (State.lean, `Optics.cal`). -/
def calOf (k i : Nat) (s : State) : Int := get 0 (4096 * k + i) s.opt.cal

/-! ### Wavelengths (R299, R301, R302, R305) -/

/-- STATE of OPT_LASER_STATUS_p_j: 0 OFF, 1 STARTING, 2 LOCKED, 3 FAILED; 4 DORMANT, 5 TUNING, 6 LOCKED, 7 BAD. -/
def laserState (p j : Nat) (s : State) : Nat := fld (OPT_LASER_STATUS_STATE p j) s

/-- State of spare i (0 or 1) of bank p: 0 DORMANT, 1 TUNING, 2 LOCKED, 3 BAD; the wavelength it serves, 15 none. -/
def spareState (p i : Nat) (s : State) : Nat := laserState p (9 + i) s - 4
def spareFor (p i : Nat) (s : State) : Nat := fld (if i = 0 then OPT_SPARE_STATUS_S0_FOR p else OPT_SPARE_STATUS_S1_FOR p) s

/-- Have lanes returned to the spare's wavelength (R312)? -/
def spareBack (p i : Nat) (s : State) : Bool :=
  flag (if i = 0 then OPT_SPARE_STATUS_S0_RETURNED p else OPT_SPARE_STATUS_S1_RETURNED p) s

/-- Set the state of laser j, in OPT_LASER_STATUS and, of a spare, in OPT_SPARE_STATUS. -/
def setLaser (p j st : Nat) (s : State) : State :=
  let s := setFld (OPT_LASER_STATUS_STATE p j) st s
  if j = 9 then setFld (OPT_SPARE_STATUS_S0_STATE p) (st - 4) s
  else if j = 10 then setFld (OPT_SPARE_STATUS_S1_STATE p) (st - 4) s else s

def onLaser (p j : Nat) (f : Laser → Laser) (s : State) : State :=
  onOpt (fun o => { o with laser := upd {} (11 * p + j) f o.laser }) s

/-- Is wavelength w of bank p lit? -/
def wlLit (p w : Nat) (s : State) : Bool :=
  flag (OPT_BANK_CTRL_ENABLE p) s && (laserState p w s == 2
    || (List.range 2).any fun i => spareState p i s == 2 && spareFor p i s == w && !(get {} (11 * p + 9 + i) s.opt.laser).held)

/-- STATE of OPT_BANK_STATUS_p. -/
def optBankState (p : Nat) (s : State) : Nat :=
  if !flag (OPT_BANK_CTRL_ENABLE p) s then 0
  else if flag (OPT_BANK_STATUS_LOST p) s then 3
  else if (List.range 9).all fun w => wlLit p w s then 2 else 1

/-- The heater loop of laser j of bank p (R322). -/
def laserLoop (p j : Nat) : Nat := 3756 + 11 * p + j

/-- The ring loops of wavelength w of port p, transmit and receive. -/
def ringLoops (p w : Nat) : List Nat :=
  (List.range 17).flatMap fun t => [153 * p + 9 * t + w, 918 + 153 * p + 9 * t + w]

/-- Hold or release loops (R336): from their next update. -/
def holdLoops (h : Bool) (ks : List Nat) (s : State) : State := forAll (fun k => onLoop k fun l => { l with held := h }) ks s

/-- The owner enables the loop of a laser (R332): a ramp from the measurement at its next update, to its set-point for
wavelength w. -/
def startLaserLoop (p j w : Nat) (s : State) : State :=
  if !flag ANL_CTRL_ENABLE s then s
  else onLoop (laserLoop p j) (fun l => { l with
    st := .ramp, start := true, spoiled := true, s := none, down := none, held := false
    setpt := unsigned 18 (calOf 6 (9 * (11 * p + j) + w) s) }) s

/-- The owner disables a loop (R332): its code falls to 0 over the next updates, or at once with the engine off. -/
def stopLoop (k : Nat) (s : State) : State :=
  let on_ := flag ANL_CTRL_ENABLE s
  onLoop k (fun l => if l.st = .off then l else { l with
    st := .off, sweep := none, spoiled := true, s := none, held := false, gaincal := 0
    down := if on_ then some (l.code, 0) else none, code := if on_ then l.code else 0 }) s

/-- Begin a homing sweep (R339); `again`: a re-home around the last home code. -/
def homeStart (k : Nat) (again : Bool) (s : State) : State :=
  onLoop k (fun l =>
    let x := l.home.getD 0
    let sw : Homing := if again ∧ l.home.isSome then
        { coarse := false, code := x - 2048, stop := if x + 2047 < 65535 then x + 2047 else 65535 }
      else { coarse := true, code := 128 }
    { l with st := .homing, sweep := some sw, code := sw.code, spoiled := true, s := none, down := none, held := false }) s

/-- A loop that is OFF homes, with the engine enabled. -/
def homeOff (k : Nat) (s : State) : State :=
  if flag ANL_CTRL_ENABLE s ∧ (loopOf k s).st = .off then homeStart k false s else s

/-- Wavelength w of port p is lit: its transmit rings home, and its receive rings once start-up has come to them (R341). -/
def homeRings (p w : Nat) (s : State) : State :=
  let tx := (List.range 17).map fun t => 153 * p + 9 * t + w
  let rx := if s.anl.rxBegun then tx.map (918 + ·) else []
  forAll homeOff (tx ++ rx) s

/-- Is the transmit ring loop settled at start-up: LOCKED, FAILED, held in the dark, or OFF on a wavelength that is not lit? -/
def txSettled (k : Nat) (s : State) : Bool :=
  match (loopOf k s).st with
  | .locked => true
  | .failed => true
  | .hold => true
  | .off => !wlLit (k / 153) (k % 9) s
  | _ => false

/-- The OPTICS stage goes on (R508): once the transmit rings are settled, receive rings and elements home in parallel. -/
def homeRest (s : State) : State :=
  if stage s ≠ 5 ∨ s.anl.rxBegun ∨ !((List.range 918).all fun k => txSettled k s) then s
  else
    let s := onAnl (fun a => { a with rxBegun := true }) s
    let s := forAll (fun i s => if wlLit (i / 153) (i % 9) s then homeOff (918 + i) s else s) (List.range 918) s
    forAll (fun i s => homeOff (1836 + i) (onLoop (1836 + i) (fun l => { l with cross := Config.homeCross i }) s))
      (List.range 1920) s

/-- Is the receive calibration coupler of transceiver t of port p open (R341): while a receive ring of it homes? -/
def couplerOpen (p t : Nat) (s : State) : Bool :=
  (List.range 9).any fun w => (loopOf (918 + 153 * p + 9 * t + w) s).st == .homing

/-! ### Trims (R315, R342, R343, R348) -/

/-- Register offsets of the trims. -/
def isLaserTrim (off : Nat) : Bool := decide (0xE01000 ≤ off) && decide (off < 0xE02000)
def isRingTrim (off : Nat) : Bool := decide (0xE02000 ≤ off) && decide (off < 0xE03000)

/-- Port of a trim register. -/
def trimPort (off : Nat) : Nat := if isLaserTrim off then (off - 0xE01000) / 64 else off % 0x1000 / 4 / 153

/-- A laser's bias reaches a request in units of 20 µA (R315, R343). -/
def setBias (p j req : Nat) (s : State) : State :=
  let high := flag (TRM_LASER_RANGE p j) s
  let high := if high then decide (4000 ≤ req) else decide (4095 < req)
  let code := if high then (frac req 2).round.toNat else req
  setFlds [(TRM_LASER_RANGE p j, b2n high), (TRM_LASER_CODE p j, code), (OPT_LASER_STATUS_RANGE p j, b2n high),
    (OPT_LASER_STATUS_BIAS p j, code)] s

/-- Bias of a laser in µA. -/
def biasOf (p j : Nat) (s : State) : Nat :=
  fld (TRM_LASER_CODE p j) s * (if flag (TRM_LASER_RANGE p j) s then 40 else 20)

/-- Is a laser powered (R301, R302, R314): STARTING or LOCKED, a spare TUNING or LOCKED, with ENABLE set? -/
def laserPowered (p j : Nat) (s : State) : Bool :=
  flag (OPT_BANK_CTRL_ENABLE p) s && [1, 2, 5, 6].contains (laserState p j s)

/-- Apply the request of one trim register. No request powers a laser that is unpowered (R301, R302, R314). -/
def applyTrim (off : Nat) (s : State) : State :=
  if isLaserTrim off then
    let p := (off - 0xE01000) / 64
    let j := (off - 0xE01000) % 64 / 4
    let s := setFld (TRM_LASER_PEND p j) 0 s
    if laserPowered p j s then setBias p j (fld (TRM_LASER_REQ p j) s) s else s
  else if isRingTrim off then
    let i := (off - 0xE02000) / 4
    setFlds [(TRM_RING_PEND i, 0), (TRM_RING_CODE i, fld (TRM_RING_REQ i) s)] s
  else
    let i := (off - 0xE03000) / 4
    setFlds [(TRM_SWING_PEND i, 0), (TRM_SWING_CODE i, fld (TRM_SWING_REQ i) s)] s

/-- Requests that wait (TRM_STATUS.PENDING). -/
def trimsPending (s : State) : Nat := s.opt.trims.length + s.opt.ffeDue.length

/-- A boundary of R342: the pending requests of the ports selected take effect, and TRM_APPLY_TIME records it.
`kind`: 1 fast swap, 2 slice start, 3 slow re-plan, 4 idle slot, 5 no work. -/
def applyTrims (kind : Nat) (sel : Nat → Bool) (s : State) : State :=
  let go := s.opt.trims.filter fun o => sel (trimPort o)
  let ffe := s.opt.ffeDue.filter fun x => sel (x.1 / 153)
  if go.isEmpty ∧ ffe.isEmpty then s
  else
    let s := forAll applyTrim go s
    let s := onOpt (fun o => { o with
      trims := o.trims.filter fun x => !sel (trimPort x)
      ffeDue := o.ffeDue.filter fun x => !sel (x.1 / 153)
      ffe := forAll (fun (x : Nat × Word) => put 0x004000 x.1 x.2) ffe o.ffe }) s
    let s := onAnl (fun a => { a with loop := a.loop.map fun (k, l) => (k, { l with spoiled := true }) }) s
    setFld TRM_STATUS_LAST kind (setReg64 rTRM_APPLY_TIME_LO rTRM_APPLY_TIME_HI (mstNs s) s)

/-- A request becomes pending, replacing an earlier one. -/
def trimPend (off : Nat) (s : State) : State :=
  onOpt (fun o => { o with trims := o.trims.filter (fun x => x != off) ++ [off] }) s

/-- A laser bias request in units of 20 µA. -/
def requestBias (p j req : Nat) (s : State) : State :=
  trimPend (rTRM_LASER p j) (hwFld (TRM_LASER_REQ p j) req (setFld (TRM_LASER_PEND p j) 1 s))

/-- A write of a trim register (R342, R348). -/
def trimWrite (a : Accessor) (off : Nat) (w : Word) (s : State) : State :=
  if isLaserTrim off then
    let p := (off - 0xE01000) / 64
    let j := (off - 0xE01000) % 64 / 4
    let req := wfld (TRM_LASER_REQ p j) w
    if 8190 < req ∨ (flag OPT_CTRL_AGE_PERIOD s ∧ (laserState p j s = 2 ∨ laserState p j s = 6)) then discard a off s
    else noteWrite off 0x1FFF0000 (trimPend off (setFlds [(TRM_LASER_REQ p j, req), (TRM_LASER_PEND p j, 1)] s))
  else if isRingTrim off then
    let i := (off - 0xE02000) / 4
    trimPend off (setFlds [(TRM_RING_REQ i, wfld (TRM_RING_REQ i) w), (TRM_RING_PEND i, 1)] s)
  else
    let i := (off - 0xE03000) / 4
    trimPend off (setFlds [(TRM_SWING_REQ i, wfld (TRM_SWING_REQ i) w), (TRM_SWING_PEND i, 1)] s)

/-- A laser's bias goes to 0, and a request that waits for it is dropped: it is unpowered (R301, R302). -/
def powerOff (p j : Nat) (s : State) : State :=
  let off := rTRM_LASER p j
  let s := onLaser p j (fun x => { x with ramp := none }) (setBias p j 0 (setFld (TRM_LASER_PEND p j) 0 s))
  onOpt (fun o => { o with trims := o.trims.filter fun x => x != off }) s

/-- The bias code in effect as a read finds it: within the 2 ms ramp of a start it lies between 0 and its value (R301). -/
def biasCode (p j : Nat) (s : State) : Nat :=
  let v := fld (TRM_LASER_CODE p j) s
  match (get {} (11 * p + j) s.opt.laser).ramp with
  | some t => if s.now < t then min v (Config.rampCode (11 * p + j) s.now) else v
  | none => v

/-! ### The equaliser (R303) -/

/-- The DAC code for a symbol between its neighbours: taps signed, in units of 1/64. -/
def ffeCode (prev cur next pre main post : Int) : Int :=
  let y := frac (pre * next + main * cur + post * prev) 64
  clamp 0 63 (((frac 63 2).add ((frac 21 2).mul y)).round)

/-- The DAC code with the taps of a word of OPT_LANE_FFE. -/
def ffeWordCode (w : Word) (prev cur next : Int) : Int :=
  ffeCode prev cur next (signed 8 (bits w.toNat 23 16)) (signed 8 (bits w.toNat 15 8)) (signed 8 (bits w.toNat 7 0))

/-- The DAC codes of transmit ring r for a run of symbols, the first and last of them neighbours only. -/
def ffeCodes (r : Nat) (s : State) : List Int → List Int
  | a :: b :: c :: xs => ffeWordCode (get 0x004000 r s.opt.ffe) a b c :: ffeCodes r s (b :: c :: xs)
  | _ => []

/-- The transmit ring OPT_LANE_SEL names. -/
def ffeRing (s : State) : Option Nat :=
  let p := fld OPT_LANE_SEL_PORT s
  let t := fld OPT_LANE_SEL_XCVR s
  let w := fld OPT_LANE_SEL_WL s
  if p < 6 ∧ t < 17 ∧ w < 9 then some (153 * p + 9 * t + w) else none

/-- The taps in effect of the selected lane. -/
def ffeRead (s : State) : Word := match ffeRing s with
  | some r => get 0x004000 r s.opt.ffe
  | none => 0

/-- A write of OPT_LANE_FFE waits for a boundary (R342). -/
def ffeWrite (w : Word) (s : State) : State := match ffeRing s with
  | some r => onOpt (fun o => { o with ffeDue := ins r (w &&& 0xFFFFFF) o.ffeDue }) s
  | none => s

/-- Has plot work stopped, so that pending trims apply (R342 "No work")? -/
def noWork (s : State) : State := if runOn s then s else applyTrims 5 (fun _ => true) s

/-! ### Laser loss and spares (R302, R311, R313) -/

/-- Call a spare for wavelength w: spare 0 if DORMANT, else spare 1; answers which, 2 none. -/
def callSpare (p w : Nat) (s : State) : Nat × State :=
  let call (i : Nat) : State :=
    let s := setLaser p (9 + i) 5 (onLaser p (9 + i) (fun x => { x with at_ := s.now, held := false }) s)
    let s := if i = 0 then setFlds [(OPT_SPARE_STATUS_S0_FOR p, w), (OPT_SPARE_STATUS_S0_RETURNED p, 0)] s
      else setFlds [(OPT_SPARE_STATUS_S1_FOR p, w), (OPT_SPARE_STATUS_S1_RETURNED p, 0)] s
    startLaserLoop p (9 + i) w (setBias p (9 + i) (calOf 5 (11 * p + 9 + i) s).toNat s)
  if spareState p 0 s = 0 then (0, call 0)
  else if spareState p 1 s = 0 then (1, call 1)
  else (2, devFault 9 7 (2 ^ 11 * p + w) (raise OPT_WARN_STATUS_WL_LOST (2 ^ p) s))

/-- Another wavelength of the port is lost, or lit by a spare and not yet returned (R305, R313). -/
def otherLost (p w : Nat) (s : State) : Bool := (List.range 9).any fun v => v != w && wlMoved p v s

/-- What the loss of wavelength w does to a link of its port (R311, R313): with another wavelength lost before, it fails; the
loss of wavelength 8 takes the place of a lane that is there, and moves no other; else lane w moves to wavelength 8, on an
altered link of a guard at its end. -/
def darkLane (p w l count : Nat) (s : State) : State :=
  if !inService p l s then s
  else if otherLost p w s then failLink p l s
  else if w = 8 then (if txLane p l s = 15 then s else xcvrFail p l 1 s)
  else if cscMode s = 3 then s
  else moveLane false p l w count s

/-- The loss of wavelength w on every link of its port. `counts`: the codeword count each link names, at 32p + l. -/
def darkLanes (p w : Nat) (counts : Map Nat) (s : State) : State :=
  forAll (fun l s => darkLane p w l (get 0 (32 * p + l) counts) s) (List.range 16) s

/-- A laser is lost (R311). CAUSE: 1 POWER, 2 THERMAL, 3 DRIVER, 4 AGED, 5 START. -/
def loseLaser (p j cause : Nat) (counts : Map Nat) (s : State) : State :=
  let w := if j < 9 then j else spareFor p (j - 9) s
  -- a loop that has FAILED keeps its code (R333)
  let s := if cause = 2 then s else stopLoop (laserLoop p j) s
  let s := powerOff p j (setLaser p j (if j < 9 then 3 else 7) s)
  let s := if j < 9 then s
    else devFault 9 6 (2 ^ 11 * p + j) (raise OPT_WARN_STATUS_SPARE_BAD (2 ^ p) s)
  let s := setFld (OPT_BANK_STATUS_LOST p) (fld (OPT_BANK_STATUS_LOST p) s ||| 2 ^ w) s
  let s := darkLanes p w counts (holdLoops true (ringLoops p w) s)
  let s := devFault 9 5 (2 ^ 11 * p + j) s
  let (sp, s) := callSpare p w s
  holdFirst OPT_LASER_FAIL_LOC_VALID [(OPT_LASER_FAIL_LOC_PORT, p), (OPT_LASER_FAIL_LOC_LASER, j),
    (OPT_LASER_FAIL_LOC_CAUSE, cause), (OPT_LASER_FAIL_LOC_SPARE, sp)] (bump OPT_LASER_FAIL_COUNT_COUNT 1 s)

/-- A LOCKED laser fails for a cause (R301, R302). -/
def laserFails (p j cause : Nat) (counts : Map Nat) (s : State) : State :=
  if (if j < 9 then laserState p j s == 2 else laserState p j s == 6) then loseLaser p j cause counts s else s

/-- BANK_ENABLE and BANK_DISABLE: a write of ENABLE of OPT_BANK_CTRL_p, already stored (R301, R302). -/
def bankEnable (p : Nat) (was : Bool) (s : State) : State :=
  let on_ := flag (OPT_BANK_CTRL_ENABLE p) s
  if on_ && !was then
    let grid (w : Nat) (s : State) : State :=
      if laserState p w s = 3 then s
      else startLaserLoop p w w (setBias p w (calOf 5 (11 * p + w) s).toNat
        (setLaser p w 1 (onLaser p w (fun x => { x with at_ := s.now, strikes := 0, ramp := some (s.now + 2 * msT) }) s)))
    let spare (i : Nat) (s : State) : State :=
      if spareState p i s = 1 ∨ spareState p i s = 2 then
        startLaserLoop p (9 + i) (spareFor p i s) (setBias p (9 + i) (calOf 5 (11 * p + 9 + i) s).toNat
          (setLaser p (9 + i) 5 (onLaser p (9 + i) (fun x => { x with at_ := s.now, held := false }) s)))
      else s
    loop spare 2 (loop grid 9 s)
  else if !on_ && was then
    let off (j : Nat) (s : State) : State :=
      let s := if (loopOf (laserLoop p j) s).st = .failed then s else stopLoop (laserLoop p j) s
      let s := powerOff p j s
      if j < 9 then (if laserState p j s = 3 then s else setLaser p j 0 s)
      else onLaser p j (fun x => { x with held := true }) s
    loop off 11 s
  else s

/-- LASER_LOCK (R301): a starting grid laser is within R300 in time. -/
def laserLock (p w : Nat) (s : State) : State :=
  if laserState p w s = 1 ∧ w < 9 ∧ s.now ≤ (get {} (11 * p + w) s.opt.laser).at_ + 30 * msT then
    homeRings p w (setLaser p w 2 s)
  else s

/-- LASER_START_TIMEOUT (R301). -/
def laserStartTimeout (p w : Nat) (counts : Map Nat) (s : State) : State :=
  if laserState p w s = 1 ∧ w < 9 ∧ (get {} (11 * p + w) s.opt.laser).at_ + 30 * msT ≤ s.now then loseLaser p w 5 counts s else s

/-- SPARE_LOCK (R302, R311): the wavelength is lit again and its rings are released. -/
def spareLock (p i : Nat) (s : State) : State :=
  let x := get {} (11 * p + 9 + i) s.opt.laser
  if spareState p i s ≠ 1 ∨ x.held ∨ x.at_ + 30 * msT < s.now then s
  else
    let w := spareFor p i s
    let lost := fld (OPT_BANK_STATUS_LOST p) s
    homeRings p w (holdLoops false (ringLoops p w)
      (setFld (OPT_BANK_STATUS_LOST p) (if lost.testBit w then lost - 2 ^ w else lost) (setLaser p (9 + i) 6 s)))

/-- SPARE_TUNE_TIMEOUT (R302): no light at 3 ms, or 30 ms are over; the other spare is called. -/
def spareTimeout (p i : Nat) (dark : Bool) (s : State) : State :=
  let x := get {} (11 * p + 9 + i) s.opt.laser
  if spareState p i s = 1 ∧ !x.held ∧ (x.at_ + 30 * msT ≤ s.now ∨ (dark ∧ x.at_ + 3 * msT ≤ s.now)) then
    let w := spareFor p i s
    let s := stopLoop (laserLoop p (9 + i)) (powerOff p (9 + i) (setLaser p (9 + i) 7 s))
    let s := devFault 9 6 (2 ^ 11 * p + 9 + i) (raise OPT_WARN_STATUS_SPARE_BAD (2 ^ p) s)
    (callSpare p w s).2
  else s

/-- The lane of a link returns to wavelength w, which a spare now lights (R312): by LANE_MAP at the named count, on an altered
link of a guard by the first LANE_MAP of its new circuit. A lane that a ring or a receiver has given up stays (R306, R320). -/
def returnLane (p w l count : Nat) (s : State) : State :=
  let moved : Bool := match s.csc.guard with
    | some g => altered g.old g.bank p l s
    | none => false
  if moved ∨ !inService p l s ∨ txLane p l s ≠ w ∨ (lanesNeeded p l s).contains w then s else nameMap p l 15 count s

/-- The lane maps kept with training results forget a lane that was on wavelength 8 for the loss of w (R306, R312). -/
def forgetLoss (p w : Nat) (s : State) : State :=
  onCsc (fun c => { c with kept := c.kept.map fun (i, ks) =>
    (i, ks.map fun k => if i / 17 = p ∧ k.txSpare = w then { k with txSpare := 15 } else k) }) s

/-- The lanes of the wavelength that spare i of bank p lights return (R312). -/
def spareReturn (counts : Map Nat) (p i : Nat) (s : State) : State :=
  if spareState p i s ≠ 2 ∨ spareBack p i s then s
  else
    let w := spareFor p i s
    let s := setFld (if i = 0 then OPT_SPARE_STATUS_S0_RETURNED p else OPT_SPARE_STATUS_S1_RETURNED p) 1 (forgetLoss p w s)
    if w = 8 then s
    else forAll (fun l s => returnLane p w l (get 0 (32 * p + l) counts) s) (List.range 16) s

/-- Lanes return to the wavelengths that spares light (R312). -/
def laneReturn (counts : Map Nat) (s : State) : State := loop (fun p s => loop (spareReturn counts p) 2 s) 6 s

/-- A transmit ring's loop has failed (R245, R333): the lane on wavelength w of transceiver t gives up. -/
def ringGiveUp (p t w count : Nat) (s : State) : State :=
  let l := if t < 16 then t else fld (CSC_SUBST_XCVR_FOR p) s
  let stands := flag (CSC_SUBST_XCVR_VALID p) s && fld (CSC_SUBST_XCVR_FOR p) s == l
  if (t = 16 && !stands) || (t < 16 && stands) then s
  else laneGiveUp p l 1 w .ring count s

/-! ### Ageing and monitors (R308–R310) -/

/-- A reading as reported: 0x8000 below −40.00 dBm (R308). -/
def reading (x : Int) : Nat := if x < -4000 then 0x8000 else unsigned 16 x

/-- AGE_STEP (R310): the ageing step of laser j of bank p, its power measured in 0.01 dBm. -/
def ageStep (p j : Nat) (power : Int) (counts : Map Nat) (s : State) : State :=
  if !flag OPT_CTRL_AGE_PERIOD s ∨ !(laserState p j s = 2 ∨ laserState p j s = 6) then s
  else
    let s := setFld (OPT_LASER_STATUS_POWER p j) (reading power) s
    let target := calOf 4 (11 * p + j) s
    let b := biasOf p j s
    let top := 40 * fld (OPT_EOL_CEIL_CEIL p) s
    let s :=
      if power < target - 20 then
        if top < b + 160 then
          let new := !bit (fld OPT_WARN_STATUS_EOL s) p
          let s := requestBias p j (top / 20) s
          let s := raise OPT_WARN_STATUS_EOL (2 ^ p) (setFld (OPT_BANK_STATUS_EOL p) 1 s)
          if new then devFault 9 8 (2 ^ 11 * p + j) s else s
        else requestBias p j ((b + 160) / 20) s
      else if target + 50 < power then requestBias p j ((b - 160) / 20) s
      else s
    let strikes := if b = top ∧ power < target - 200 then (get {} (11 * p + j) s.opt.laser).strikes + 1 else 0
    let s := onLaser p j (fun x => { x with strikes := strikes }) s
    if strikes = 2 then loseLaser p j 4 counts s else s

/-- The last reading of a laser's own channel (R317). -/
def laserReading (i v : Nat) (s : State) : State :=
  if 1836 ≤ i ∧ i < 1902 then setFld (OPT_LASER_STATUS_POWER ((i - 1836) / 11) ((i - 1836) % 11)) v s else s

/-- MONITOR_SCAN (R308, R309): ADC i mod 48 reports the reading of channel i, in 0.01 dBm. -/
def monitorScan (i : Nat) (x : Int) (s : State) : State :=
  if 2105 < i then s
  else
    let v := reading x
    let s := setFlds [(OPT_MON_VALUE_VALID i, 1), (OPT_MON_VALUE_INT i, fld OPT_CTRL_MON_INT s), (OPT_MON_VALUE_POWER i, v)] s
    if 1836 ≤ i then laserReading i v s
    else if 918 ≤ i ∧ i < 1836 then
      let k := i - 918
      if signed 16 v < signed 16 (fld OPT_RX_WARN_THRESH s) then
        let n := get 0 i s.opt.low + 1
        let s := onOpt (fun o => { o with low := put 0 i (if n < 3 then n else 3) o.low }) s
        if n < 3 then s
        else
          let p := k / 153
          let new := !bit (fld OPT_WARN_STATUS_RX_LOW s) p
          let s := raise OPT_WARN_STATUS_RX_LOW (2 ^ p) s
          let s := holdFirst OPT_RX_LOW_LOC_VALID [(OPT_RX_LOW_LOC_PORT, p), (OPT_RX_LOW_LOC_XCVR, k % 153 / 9),
            (OPT_RX_LOW_LOC_WL, k % 9), (OPT_RX_LOW_LOC_POWER, v)] s
          if new then devFault 9 9 (2 ^ 11 * p + 2 ^ 6 * (k % 153 / 9) + k % 9) s else s
      else onOpt (fun o => { o with low := put 0 i 0 o.low }) s
    else s

/-- GO of OPT_MEAS_CTRL, its RW fields being stored (R308). -/
def measGo (a : Accessor) (w : Word) (s : State) : State :=
  if wfld OPT_MEAS_CTRL_GO w = 0 then s
  else if flag OPT_MEAS_CTRL_BUSY s ∨ 2105 < wfld OPT_MEAS_CTRL_CHANNEL w then discard a rOPT_MEAS_CTRL s
  else onOpt (fun o => { o with meas := wfld OPT_MEAS_CTRL_CHANNEL w })
    (setFlds [(OPT_MEAS_CTRL_BUSY, 1), (OPT_MEAS_RESULT_VALID, 0)] s)

/-- MEAS_DONE (R308). -/
def measDone (x : Int) (s : State) : State :=
  if !flag OPT_MEAS_CTRL_BUSY s then s
  else
    let s := laserReading s.opt.meas (reading x) s
    raise OPT_MEAS_RESULT_VALID 1 (setFlds [(OPT_MEAS_CTRL_BUSY, 0), (OPT_MEAS_RESULT_POWER, reading x)] s)

end Sys2Proof.Machine
end

