-- ==== Sys2Proof/Machine/Anneal.lean ====
section
/-! DEFINITION. The heater loops of the Anneal engine: front-ends, control law, states, homing, coefficient banks and
calibration requests (11_anneal_engine.md R322–R347). -/
namespace Sys2Proof.Machine

/-! ### Loops, tones and coefficients -/

/-- Class of a loop (R322). -/
def loopClass (k : Nat) : Nat := if k < 918 then 0 else if k < 1836 then 1 else if k < 3756 then 2 else 3

/-- Tone of a loop (R325). -/
def toneOf (k : Nat) : Nat :=
  if k < 1836 then (k % 918 % 9 + 2 * (k % 918 % 153 / 9)) % 16 else if k < 3756 then (k - 1836) / 128 else 15

/-- Bank in force for a class (R329). -/
def coefBank (c : Nat) (s : State) : Nat := b2n (bit (fld ANL_STATUS_ACTIVE_BANK s) c)

/-- Word k of the active bank of a class, and its value as a coefficient (R330, R331). -/
def coefWord (c k : Nat) (s : State) : Word := reg (rANL_COEF c (coefBank c s) k) s
def coef (c k : Nat) (s : State) : Frac := coefOf (coefWord c k s)

/-- Fields of HOME and LIMITS (R330). -/
def homeDeb (c : Nat) (s : State) : Nat := bits (coefWord c 14 s).toNat 31 24
def homeHyst (c : Nat) (s : State) : Nat := bits (coefWord c 14 s).toNat 23 8
def homeFrac (c : Nat) (s : State) : Nat := bits (coefWord c 14 s).toNat 7 0
def plausRun (c : Nat) (s : State) : Nat := bits (coefWord c 15 s).toNat 31 24
def lostN (c : Nat) (s : State) : Nat := bits (coefWord c 15 s).toNat 23 16
def pilotAmp (c : Nat) (s : State) : Nat := bits (coefWord c 15 s).toNat 15 8
def lockLen (c : Nat) (s : State) : Nat := 2 ^ bits (coefWord c 15 s).toNat 7 4
def rampLen (c : Nat) (s : State) : Nat := 2 ^ bits (coefWord c 15 s).toNat 3 0

/-- A measurement in units of 2⁻¹⁷. -/
def measFrac (m : Int) : Frac := frac m (2 ^ 17)

/-- Plant gain s as a value (R326). -/
def gainOf (l : Loop) : Option Frac := l.s.map fun (m, e) => (fInt m).mul (fPow2 (e - 17))

/-- Drive a heater code stands for. -/
def drive (code : Nat) : Frac := frac code 65535

/-! ### Failures (R333) -/

/-- A loop fails. KIND: 1 HOME_LIMIT, 2 HOME_NOISE, 3 NO_LOCK, 4 LOCK_LOST, 5 PLAUS, 6 FLANK. `counts`: the codeword
counts of the links. -/
def loopFails (k kind : Nat) (counts : Map Nat) (s : State) : State :=
  let code := (loopOf k s).code
  let s := onLoop k (fun l => { l with st := .failed, sweep := none, spoiled := true, s := none, gaincal := 0 }) s
  let s := holdFirst ANL_FAULT_LOC_VALID [(ANL_FAULT_LOC_KIND, kind), (ANL_FAULT_LOC_LOOP, k), (ANL_FAULT_LOC_CODE, code)]
    (bump ANL_FAULT_COUNT_COUNT 1 s)
  let s := devFault 10 kind k s
  match loopClass k with
  | 0 =>
    let p := k / 153
    let t := k % 153 / 9
    let l := if t < 16 then t else fld (CSC_SUBST_XCVR_FOR p) s
    homeRest (ringGiveUp p t (k % 9) (get 0 (32 * p + l) counts) s)
  | 1 => s
  | 2 => elementStuck (k - 1836) s
  | _ => laserFails ((k - 3756) / 11) ((k - 3756) % 11) 2 counts s

/-! ### Front-end (R324, R325) -/

/-- Pilot amplitude of a loop in heater codes: four times PILOT_AMP while GAINCAL runs (R325, R344). -/
def ampOf (k : Nat) (l : Loop) (s : State) : Nat := if l.gaincal = 0 then pilotAmp (loopClass k) s else 4 * pilotAmp (loopClass k) s

/-- Angle of a loop's tone at front-end tick q, in 8,192nds of a turn (R325). -/
def toneAngle (k q : Nat) : Nat := q * (33 + 30 * toneOf k) % 8192

/-- The demodulators take a sample at tick q (R326): the first-order low-pass of time constant 1.024 ms, 512 ticks, against
the tone, in units of amplitude; and the sums of the window, against the tone and against its second harmonic as a squared
pilot gives it, −cos 2θ (log entry 28). -/
def demodulate (k q sample : Nat) (l : Loop) : Loop :=
  let x : Int := sample
  let a := toneAngle k q
  let one := x * sinFix a / 2 ^ 16
  { l with
    lowPass := l.lowPass + (2 * one - l.lowPass) / 512
    win1 := l.win1 + one
    win2 := l.win2 - x * cosFix (2 * a) / 2 ^ 16 }

/-- FRONT_END_TICK (R324, R326): one sample of the monitor, 16 bits; the heater DAC with the pilot; the demodulators. -/
def frontEndTick (k sample : Nat) (s : State) : State :=
  if 3821 < k ∨ !flag ANL_CTRL_ENABLE s then s
  else
    let l := loopOf k s
    let q := freeNs s / 2000
    let p := if l.st = .ramp ∨ l.st = .locked ∨ l.st = .hold then pilot (ampOf k l s) (toneOf k) q else 0
    onLoop k (fun l => demodulate k q (sample % 65536) { l with
      sum := l.sum + sample % 65536, count := l.count + 1
      dac := (clamp 0 65535 ((l.code : Int) + p)).toNat }) s

/-- The in-phase pilot response of a loop in units of 2⁻¹⁷, within (−1, 1) (R322, R324). -/
def pilotResponse (l : Loop) : Int := clamp (1 - 2 ^ 17) (2 ^ 17 - 1) (frac l.lowPass (2 ^ 79)).round

/-- The estimate of s at a window's end, as a value of the coefficient format (R326, R331); none without a pilot. -/
def windowGain (k : Nat) (l : Loop) (s : State) : Option (Int × Int) :=
  let a := ampOf k l s
  if a = 0 then none
  else
    -- amplitudes are 2/8192 of the sums
    let x := if loopClass k = 0 ∨ loopClass k = 3 then frac (l.win1 * 65535) (4096 * 2 ^ 96 * a)
      else frac (4 * l.win2 * 65535 ^ 2) (4096 * 2 ^ 96 * a ^ 2)
    let e := stageExp [x]
    some (clamp (-131072) 131071 (x.mul (fPow2 (17 - e))).round, e)

/-- Mean monitor power of the present period in units of 2⁻¹⁷ (R324). -/
def meanPower (l : Loop) : Int := if l.count = 0 then (l.mPrev.mul (fInt (2 ^ 17))).round else (frac (2 * l.sum) l.count).round

/-! ### Control law (R327, R328, R334, R338) -/

/-- Start a ramp at this update (R334, R338). -/
def rampStart (m : Frac) (l : Loop) : Loop :=
  let d := drive l.code
  { l with
    start := false, fresh := false, m0 := m, n := 0, good := 0, bad := 0, st := .ramp
    e1 := {}, e2 := {}, f1 := {}, f2 := {}, i := renorm1 (stageExp [d]) d, u := d
    th := d, uPrev := d, mPrev := m, run := 0 }

/-- Target of a loop (R322). -/
def targetOf (c : Nat) (l : Loop) : Frac := if c = 1 ∨ c = 2 then {} else measFrac (signed 18 l.setpt)

/-- r of the ramp (R334). -/
def rampValue (c n : Nat) (l : Loop) : Frac :=
  let k := if l.n < n then l.n else n
  l.m0.add (((targetOf c l).sub l.m0).mul (frac k n))

/-- One update of the control law (R327), with the drive power d − d0 of the lane; answers the loop and e. -/
def controlLaw (k : Nat) (m dd : Frac) (l : Loop) (s : State) : Loop × Frac :=
  let c := loopClass k
  let cf (i : Nat) : Frac := coef c i s
  let pol : Int := if calOf 0 k s < 0 then -1 else 1
  let e := (fInt pol).mul ((rampValue c (rampLen c s) l).sub m)
  let f := ((((cf 4).mul e).add ((cf 5).mul l.e1)).add ((cf 6).mul l.e2)).sub (((cf 7).mul l.f1).add ((cf 8).mul l.f2))
  let ee := stageExp [e, l.e1, f, l.f1]
  let f1 := renorm1 ee f
  let g := match gainOf l with
    | some x => Frac.clamp (frac 1 4) (fInt 4) ((cf 13).div x)
    | none => fInt 1
  let v := (((g.mul (cf 0)).mul f1).add l.i).add ((cf 3).mul dd)
  let u := Frac.clamp {} (cf 9) v
  let i := (l.i.add ((g.mul (cf 1)).mul f1)).add ((cf 2).mul (u.sub v))
  ({ l with
    e1 := renorm1 ee e, e2 := renorm1 ee l.e1, f1 := f1, f2 := renorm1 ee l.f1
    i := renorm1 (stageExp [i]) i, u := u, sat := u != v, code := (u.mul (fInt 65535)).round.toNat, n := l.n + 1 }, e)

/-- The plausibility model (R338); answers whether it fails the loop. -/
def plausible (c : Nat) (m : Frac) (l : Loop) (s : State) : Loop × Bool :=
  match gainOf l with
  | none => ({ l with run := 0, uPrev := l.u, mPrev := m, th := l.u }, false)
  | some x =>
    let th := l.th.add ((coef c 11 s).mul (l.uPrev.sub l.th))
    let mhat := l.mPrev.add (x.mul (th.sub l.th))
    let run := if (coef c 12 s).lt (m.sub mhat).abs then l.run + 1 else 0
    ({ l with th := th, uPrev := l.u, mPrev := m, run := run }, run == plausRun c s)

/-- Put a loop back. -/
def setLoop (k : Nat) (l : Loop) (s : State) : State := onLoop k (fun _ => l) s

/-- Is a class 1 or 2 loop without light (R335)? `running`: it enters HOLD below 1/16 of its level, and returns from it at
1/8. An element is so, too, without a sense output: a path of the active plan that is lit (R322). -/
def noLight (k : Nat) (running : Bool) (lit : Bool) (power : Int) (s : State) : Bool :=
  (loopClass k == 1 || loopClass k == 2) && decide (power * (if running then 16 else 8) < calOf 1 k s)
    || loopClass k == 2 && !(lit && senseOutput (k - 1836) s)

/-- An update of a loop in RAMP or LOCKED (R327, R332). -/
def activeUpdate (k : Nat) (m dd : Frac) (counts : Map Nat) (s : State) : State :=
  let c := loopClass k
  let l := loopOf k s
  let l := if l.start || l.fresh then { rampStart m l with spoiled := true, s := none } else l
  match l.move with
  | some (a, b, n) =>
    -- an element's heater moves linearly to its new bias code before the ramp (R334)
    let len := rampLen c s
    let code := ((fInt a).add (frac (((b : Int) - a) * (n + 1 : Nat)) len)).round.toNat
    setLoop k { l with code := code, start := true, move := if n + 1 < len then some (a, b, n + 1) else none } s
  | none =>
    let (l, e) := controlLaw k m dd l s
    let (l, plaus) := plausible c m l s
    -- a PLAUS injection acts on the next update of its loop (R445)
    let inj := injArmed 10 s && injTarget s % 4096 == k
    let plaus := plaus || inj
    let s := if inj then injConsume s else s
    let ok := e.abs.le (coef c 10 s)
    match l.st with
    | .locked =>
      let bad := if ok then 0 else l.bad + 1
      let s := setLoop k { l with bad := bad } s
      if plaus then loopFails k 5 counts s else if lostN c s ≤ bad then loopFails k 4 counts s else s
    | _ =>
      let done := decide (rampLen c s < l.n)
      let good := if done && ok then l.good + 1 else 0
      if plaus then loopFails k 5 counts (setLoop k l s)
      else if lockLen c s ≤ good then homeRest (setLoop k { l with st := .locked, good := 0, bad := 0, spoiled := true } s)
      else if 2 * rampLen c s + lockLen c s < l.n then loopFails k 3 counts (setLoop k { l with good := good } s)
      else setLoop k { l with good := good } s

/-- LOOP_UPDATE (R327, R332, R335, R336, R338, R344) of loop k. `power`: the lane's average drive power d, units of 2⁻¹⁷;
`lit`: light stands on a path of the active plan through an element. -/
def loopUpdate (k : Nat) (power : Nat) (lit : Bool) (counts : Map Nat) (s : State) : State :=
  if 3821 < k ∨ !flag ANL_CTRL_ENABLE s then s
  else
    let c := loopClass k
    let l := loopOf k s
    let mean := meanPower l
    let m := measFrac (if c = 1 ∨ c = 2 then pilotResponse l else mean)
    let dd := if c = 0 then measFrac ((power : Int) - calOf 2 k s) else {}
    let s := onLoop k (fun l => { l with sum := 0, count := 0, skip := false }) s
    if l.skip then s else match l.st with
    | .off => match l.down with
      | none => s
      | some (a, n) =>
        let len := rampLen c s
        let code := (frac (a * (len - (n + 1))) len).round.toNat
        onLoop k (fun l => { l with code := code, down := if n + 1 < len then some (a, n + 1) else none }) s
    | .hold =>
      if l.held || noLight k false lit mean s then s
      else activeUpdate k m dd counts (onLoop k (fun l => { l with st := .ramp, start := true }) s)
    | .homing => s
    | .failed => s
    | _ =>
      if l.held || noLight k true lit mean s then onLoop k (fun l => { l with st := .hold, spoiled := true, s := none, gaincal := 0 }) s
      else activeUpdate k m dd counts s

/-- WINDOW_END (R326, R332, R344) of loop k: s is estimated, unless the window is discarded. -/
def windowEnd (k : Nat) (counts : Map Nat) (s : State) : State :=
  if 3821 < k ∨ !flag ANL_CTRL_ENABLE s then s
  else
    let c := loopClass k
    let l := loopOf k s
    let good := !l.spoiled && (l.st == .ramp || l.st == .locked)
    let est := if good then windowGain k l s else l.s
    let gc := if l.gaincal = 1 then 2 else if l.gaincal = 2 ∧ good then 0 else l.gaincal
    let s := onLoop k (fun l => { l with s := est, spoiled := false, gaincal := gc, win1 := 0, win2 := 0 }) s
    match gainOf (loopOf k s) with
    | none => s
    | some x =>
      let sref := coef c 13 s
      let wrong := (x.n < 0 ∧ 0 < sref.n) ∨ (0 < x.n ∧ sref.n < 0)
      if good ∧ l.st = .locked ∧ (wrong ∨ x.abs.lt (sref.abs.mul (frac 1 16))) then loopFails k 6 counts s else s

/-! ### Homing (R339–R341) -/

/-- LOOP_ENABLE (R332, R336, R341): the owner enables a loop that is OFF. A ring whose wavelength is unlit stays OFF, and an
element homes only with the CSC in OFF. `cross`: the state in which an element homes. -/
def loopEnable (k : Nat) (cross : Bool) (s : State) : State :=
  if 3821 < k ∨ !flag ANL_CTRL_ENABLE s ∨ (loopOf k s).st ≠ .off then s
  else match loopClass k with
    | 3 =>
      let p := (k - 3756) / 11
      let j := (k - 3756) % 11
      startLaserLoop p j (if j < 9 then j else spareFor p (j - 9) s) s
    | 2 => if cscMode s = 0 ∧ (look (k - 1836) s.csc.stuck).isNone then homeStart k false (onLoop k (fun l => { l with cross := cross }) s)
        else s
    | _ => if wlLit (k % 918 / 153) (k % 9) s then homeStart k false s else s

/-- LOOP_DISABLE (R332). An element's loop that has FAILED stays so (R333). -/
def loopDisable (k : Nat) (s : State) : State :=
  if 3821 < k ∨ (loopClass k = 2 ∧ (loopOf k s).st = .failed) then s else stopLoop k s

/-- LOOP_HOLD and LOOP_RELEASE (R336): in force from the loop's next update. -/
def loopHold (k : Nat) (h : Bool) (s : State) : State := if 3821 < k then s else onLoop k (fun l => { l with held := h }) s

/-- beyond() of R339 with everything in units of 2⁻¹⁷: the threshold, and HOME_HYST twice. -/
def beyondEdge (dip : Bool) (m : Nat) (thr : Frac) (inside : Bool) (hyst : Nat) : Bool :=
  let up := (thr.add (fInt hyst)).le (fInt m)
  let dn := (fInt m).le (thr.sub (fInt hyst))
  if dip != inside then dn else up

/-- HOMING_STEP (R339, R340): the monitor's mean power m at the code set, in units of 2⁻¹⁷. -/
def homingStep (k m : Nat) (counts : Map Nat) (s : State) : State :=
  let c := loopClass k
  let l := loopOf k s
  match l.sweep with
  | none => s
  | some h =>
    if l.st ≠ .homing then s
    else
      let hyst := 2 * homeHyst c s
      let dip := c == 0
      if h.coarse then
        let first := h.code == 128
        let h := if first || m < h.lo then { h with lo := m, xlo := h.code } else h
        let h := if first || h.hi < m then { h with hi := m, xhi := h.code } else h
        if h.code + 256 < 65536 then
          onLoop k (fun l => { l with sweep := some { h with code := h.code + 256 }, code := h.code + 256 }) s
        else if h.hi - h.lo < 4 * hyst then loopFails k 1 counts s
        else
          let x := if dip then h.xlo else h.xhi
          let thr := (fInt h.lo).add (frac (homeFrac c s * (h.hi - h.lo)) 256)
          onLoop k (fun l => { l with
            thr := thr, code := x - 2048
            sweep := some { h with coarse := false, code := x - 2048, stop := if x + 2047 < 65535 then x + 2047 else 65535 } }) s
      else
        let deb := homeDeb c s
        let far := beyondEdge dip m l.thr h.inside hyst
        let h := if far then { h with run := h.run + 1 }
          else { h with run := 0, chatter := if 0 < h.run then h.chatter + 1 else h.chatter }
        let edge := h.code - 16 * (deb - 1)
        if h.run = deb ∧ h.inside then
          let code := ((h.h1.getD 0) + edge) / 2
          onLoop k (fun l => { l with
            st := .ramp, start := true, sweep := none, home := some code, code := code, spoiled := true }) s
        else
          let h := if h.run = deb then { h with h1 := some edge, inside := true, run := 0 } else h
          if fld ANL_CTRL_CHATTER_MAX s < h.chatter then loopFails k 2 counts s
          else if h.stop < h.code + 16 then loopFails k 1 counts s
          else onLoop k (fun l => { l with sweep := some { h with code := h.code + 16 }, code := h.code + 16 }) s

/-- Re-home every FAILED ring loop (R333, R341): at the first phase of a slow re-plan. -/
def rehomeFailed (s : State) : State :=
  forAll (fun (x : Nat × Loop) s => if x.2.st = .failed ∧ x.1 < 1836 then homeStart x.1 true s else s) s.anl.loop s

/-- A slow re-plan moves elements to new states (R334, R337): the heater moves to the state's target bias code. A loop in HOLD
does so when it returns (R335). -/
def moveElements (es : List (Nat × Bool)) (s : State) : State :=
  forAll (fun (x : Nat × Bool) s =>
    let k := 1836 + x.1
    let l := loopOf k s
    let home := l.home.getD 0
    let code := if x.2 = l.cross then home else (clamp 0 65535 ((home : Int) + calOf 3 x.1 s)).toNat
    if l.st = .ramp ∨ l.st = .locked then
      onLoop k (fun l => { l with move := some (l.code, code, 0), spoiled := true, s := none, st := .ramp, start := true }) s
    else if l.st = .hold then onLoop k (fun l => { l with move := some (l.code, code, 0) }) s
    else s) es s

/-! ### Control registers (R329, R331, R347) -/

/-- ENABLE of ANL_CTRL changes (R332, R347): cleared, every loop is OFF with its heater at 0. -/
def anlEnable (s : State) : State :=
  if flag ANL_CTRL_ENABLE s then s
  else onAnl (fun a => { a with
    loop := forAll (fun (x : Nat × Loop) => put {} x.1
      { ({} : Loop) with setpt := x.2.setpt, home := x.2.home, thr := x.2.thr, cross := x.2.cross }) a.loop a.loop }) s

/-- SWAP bits of a write to ANL_CTRL (R329). -/
def anlSwap (a : Accessor) (m : Nat) (s : State) : State :=
  loop (fun c s =>
    if !m.testBit c then s
    else if bit (fld ANL_STATUS_SWAP_PENDING s) c then discard a rANL_CTRL s
    else setFld ANL_STATUS_SWAP_PENDING (fld ANL_STATUS_SWAP_PENDING s ||| 2 ^ c) s) 4 s

/-- Is a loop of the class HOMING? -/
def classHoming (c : Nat) (s : State) : Bool := s.anl.loop.any fun x => loopClass x.1 == c && x.2.st == .homing

/-- COEF_SWAP_APPLY (R329): at a period start of the class. -/
def coefSwapApply (c : Nat) (s : State) : State :=
  let p := fld ANL_STATUS_SWAP_PENDING s
  if c < 4 ∧ p.testBit c ∧ !classHoming c s then
    setFlds [(ANL_STATUS_SWAP_PENDING, p ^^^ 2 ^ c), (ANL_STATUS_ACTIVE_BANK, fld ANL_STATUS_ACTIVE_BANK s ^^^ 2 ^ c)] s
  else s

/-- A write of ANL_COEF_c_b_k (R329, R331). -/
def coefWrite (a : Accessor) (off : Nat) (w : Word) (s : State) : State :=
  let c := (off - 0x801000) / 256
  let b := (off - 0x801000) / 128 % 2
  let k := (off - 0x801000) % 128 / 4
  let zero := (k == 14 && bits w.toNat 31 24 == 0) || (k == 15 && (bits w.toNat 31 24 == 0 || bits w.toNat 23 16 == 0))
  if coefBank c s = b ∨ zero then discard a off s else setReg off (if k < 14 then w &&& 0x00FFFFFF else w) s

/-- A write of ANL_LOOP_SETPT (R332, R347). -/
def setptWrite (a : Accessor) (w : Word) (s : State) : State :=
  let k := fld ANL_LOOP_SEL_LOOP s
  if 3821 < k ∨ loopClass k = 1 ∨ loopClass k = 2 then discard a rANL_LOOP_SETPT s
  else onLoop k (fun l => { l with setpt := bits w.toNat 17 0, fresh := l.st == .ramp || l.st == .locked || l.fresh }) s

/-- ANL_LOOP_STATE, ANL_LOOP_SETPT and ANL_LOOP_GAIN as they read. -/
def loopSt (st : LoopSt) : Nat := match st with
  | .off => 0
  | .homing => 1
  | .ramp => 2
  | .locked => 3
  | .hold => 4
  | .failed => 5
def loopStateRead (s : State) : Nat :=
  let k := fld ANL_LOOP_SEL_LOOP s
  let l := loopOf k s
  if 3821 < k then 0 else loopSt l.st * 2 ^ 29 + toneOf k * 2 ^ 25 + b2n l.sat * 2 ^ 24 + l.code
def loopSetptRead (s : State) : Nat :=
  let k := fld ANL_LOOP_SEL_LOOP s
  if 3821 < k then 0 else (loopOf k s).setpt
def loopGainRead (s : State) : Nat :=
  let k := fld ANL_LOOP_SEL_LOOP s
  if 3821 < k then 0
  else match (loopOf k s).s with
    | none => 0
    | some (m, e) => 2 ^ 31 + unsigned 18 m * 2 ^ 6 + unsigned 6 e

/-- ANL_STATUS as it reads: RUNNING, LOAD, HOMING and FAILED from the loops. -/
def anlStatusRead (s : State) : Nat :=
  let rate (k : Nat) : Nat := match loopClass k with
    | 0 => 250000
    | 1 => 250000
    | 2 => 62500
    | _ => 15625
  -- updates per second times 4, against 183.33 million (R323)
  let load := (s.anl.loop.map fun x => if x.2.st = .off then 0 else rate x.1).sum * 24 * 100 / (4 * 8 * 550000000)
  let homing := (List.range 4).foldl (fun a c => if classHoming c s then a + 2 ^ c else a) 0
  let failed := (s.anl.loop.filter fun x => x.2.st == .failed).length
  b2n (flag ANL_CTRL_ENABLE s) * 2 ^ 31 + fld ANL_STATUS_ACTIVE_BANK s * 2 ^ 27 + fld ANL_STATUS_SWAP_PENDING s * 2 ^ 23
    + load * 2 ^ 16 + homing * 2 ^ 12 + failed

/-! ### Calibration requests (R344, R345) -/

/-- Start of the next slice, in ns of MST. -/
def nextSliceNs (s : State) : Nat := if sliceNs s = 0 then mstNs s else (mstNs s / sliceNs s + 1) * sliceNs s

/-- A calibration action begins. -/
def calBegin (s : State) : State :=
  match s.anl.cal with
  | none => s
  | some r =>
    let s := setFlds [(ANL_CAL_STATUS_PENDING, 0), (ANL_CAL_STATUS_RUNNING, 1)] s
    if r.kind = 0 then
      onAnl (fun a => { a with loop := a.loop.map fun (k, l) => (k, if l.st = .off then l else { l with skip := true }) }) s
    else if r.kind = 1 then
      let rings := (List.range 153).flatMap fun i => [153 * r.port + i, 918 + 153 * r.port + i]
      forAll (fun k s =>
        let st := (loopOf k s).st
        if st = .ramp ∨ st = .locked then onLoop k (fun l => { l with gaincal := 1 }) s else s) rings s
    else s

/-- The first boundary known now (R345): its kind and MST. -/
def calBoundary (s : State) : Nat × Nat :=
  let slice := (2, nextSliceNs s)
  let swap := match s.csc.trig with
    | some t => if activeBank s ≠ some t.bank then [(1, t.at_)] else []
    | none => []
  let plan := match s.csc.replanAt with
    | some t => [(3, t)]
    | none => []
  (swap ++ plan).foldl (fun a b => if b.2 < a.2 then b else a) slice

/-- GO of ANL_CAL_CTRL, its RW fields being stored (R344, R345). -/
def calGo (a : Accessor) (w : Word) (s : State) : State :=
  let kind := wfld ANL_CAL_CTRL_KIND w
  let port := wfld ANL_CAL_CTRL_PORT w
  if wfld ANL_CAL_CTRL_GO w = 0 then s
  else if 1 < kind ∨ 5 < port ∨ flag ANL_CAL_STATUS_PENDING s ∨ flag ANL_CAL_STATUS_RUNNING s then discard a rANL_CAL_CTRL s
  else
    let s := onAnl (fun x => { x with cal := some ⟨kind, port⟩ }) s
    if !runOn s then
      calBegin (setFlds [(ANL_CAL_STATUS_AT_ONCE, 1), (ANL_CAL_STATUS_MOVED, 0), (ANL_CAL_STATUS_ST_FAIL, 0),
        (ANL_CAL_STATUS_BOUNDARY, 0)] (setReg64 rANL_CAL_TIME_LO rANL_CAL_TIME_HI (mstNs s) s))
    else
      let (b, t) := calBoundary s
      setFlds [(ANL_CAL_STATUS_AT_ONCE, 0), (ANL_CAL_STATUS_MOVED, 0), (ANL_CAL_STATUS_ST_FAIL, 0), (ANL_CAL_STATUS_PENDING, 1),
        (ANL_CAL_STATUS_BOUNDARY, b)] (setReg64 rANL_CAL_TIME_LO rANL_CAL_TIME_HI t s)

/-- A deferred request whose boundary will not happen moves to the next slice start (R345). -/
def calMove (s : State) : State :=
  let t := reg64 rANL_CAL_TIME_LO rANL_CAL_TIME_HI s
  let b := fld ANL_CAL_STATUS_BOUNDARY s
  let gone : Bool := match b with
    | 1 => !((s.csc.trig.any fun x => x.at_ == t) || s.csc.guard.any fun g => g.at_ == t)
    | 3 => s.csc.replanAt != some t && s.csc.replan.isNone
    | _ => false
  if flag ANL_CAL_STATUS_PENDING s ∧ gone then
    setFlds [(ANL_CAL_STATUS_MOVED, 1), (ANL_CAL_STATUS_BOUNDARY, 2)]
      (setReg64 rANL_CAL_TIME_LO rANL_CAL_TIME_HI (nextSliceNs s) s)
  else s

/-- CAL_START (R345): the boundary's instant has come (R342). -/
def calStart (s : State) : State :=
  let t := reg64 rANL_CAL_TIME_LO rANL_CAL_TIME_HI s
  let here : Bool := match fld ANL_CAL_STATUS_BOUNDARY s with
    | 1 => s.csc.guard.any fun g => g.at_ == t && g.switched
    | 2 => decide (t ≤ mstNs s)
    | _ => s.csc.replan.isSome && decide (t ≤ mstNs s)
  if flag ANL_CAL_STATUS_PENDING s ∧ here then calBegin s else calMove s

/-- A self-test has found a failure (R344): of a lane, or of a loop's loop-back with the heater code it holds. -/
def selftestFail (k code : Nat) (s : State) : State :=
  let s := holdFirst ANL_FAULT_LOC_VALID [(ANL_FAULT_LOC_KIND, 7), (ANL_FAULT_LOC_LOOP, k), (ANL_FAULT_LOC_CODE, code)]
    (bump ANL_FAULT_COUNT_COUNT 1 s)
  setFld ANL_CAL_STATUS_ST_FAIL 1 (devFault 10 7 k s)

/-- Has an action still loops to come to: one that GAINCAL's window or SELFTEST's skipped update waits for (R344)? -/
def calWaits (r : CalReq) (s : State) : Bool :=
  s.anl.loop.any fun x => if r.kind = 1 then x.2.gaincal != 0 else x.2.skip

/-- CAL_DONE (R344, R345). `lanes`, `loops`: what a SELFTEST found failing; the vectors and their results, and what a
front-end loops back, lie outside the spec. -/
def calDone (lanes loops : List Nat) (s : State) : State :=
  match s.anl.cal with
  | none => s
  | some r =>
    if !flag ANL_CAL_STATUS_RUNNING s ∨ calWaits r s then s
    else
      let s := onAnl (fun x => { x with cal := none }) s
      let s := if r.kind ≠ 0 then s
        else forAll (fun k s => selftestFail k (loopOf k s).code s) loops (forAll (fun k => selftestFail k 0) lanes s)
      irq 24 (raise ANL_CAL_STATUS_DONE 1 (setFld ANL_CAL_STATUS_RUNNING 0 s))

end Sys2Proof.Machine
end

