-- ==== Sys2Proof/Machine/Ecdsa.lean ====
section
/-! DEFINITION. ECDSA verification with curve P-384 and SHA-384 (FIPS 186-5), which firmware signatures use
(17_firmware.md R478, R480). -/
namespace Sys2Proof.Machine

/-- The field prime, the group order, and the coefficient b of P-384; a is −3. -/
abbrev ecP : Nat := 2 ^ 384 - 2 ^ 128 - 2 ^ 96 + 2 ^ 32 - 1
abbrev ecN : Nat := 0xFFFFFFFFFFFFFFFFFFFFFFFFFFFFFFFFFFFFFFFFFFFFFFFFC7634D81F4372DDF581A0DB248B0A77AECEC196ACCC52973
abbrev ecB : Nat := 0xB3312FA7E23EE7E4988E056BE3F82D19181D9C6EFE8141120314088F5013875AC656398D8A2ED19D2A85C8EDD3EC2AEF

/-- A point of the curve in affine coordinates; none the point at infinity. -/
abbrev EcPoint := Option (Nat × Nat)

/-- The base point. -/
def ecG : EcPoint := some
  (0xAA87CA22BE8B05378EB1C71EF320AD746E1D3B628BA79B9859F741E082542A385502F25DBF55296C3A545E3872760AB7,
   0x3617DE4A96262C6F5D9E98BF9292DC29F8F41DBD289A147CE9DA3113B5F0B8C00A60B1CE1D7E819D7A431D7C90EA0E5F)

/-- x to the power e modulo m, over the `k` low bits of e, highest first. -/
def powMod (m x e : Nat) : Nat → Nat
  | 0 => 1
  | k + 1 =>
    let y := powMod m x (e / 2) k
    let y := y * y % m
    if e % 2 = 1 then y * x % m else y

/-- The inverse of x modulo a prime m of 384 bits. -/
def invMod (m x : Nat) : Nat := powMod m x (m - 2) 384

/-- Sum of two points. -/
def ecAdd (a b : EcPoint) : EcPoint :=
  match a, b with
  | none, q => q
  | q, none => q
  | some (x1, y1), some (x2, y2) =>
    if x1 = x2 ∧ (y1 + y2) % ecP = 0 then none
    else
      let l := if x1 = x2 then (3 * x1 * x1 + ecP - 3) * invMod ecP (2 * y1 % ecP) % ecP
        else (y2 + ecP - y1) * invMod ecP ((x2 + ecP - x1) % ecP) % ecP
      let x3 := (l * l + 2 * ecP - x1 - x2) % ecP
      some (x3, (l * (x1 + ecP - x3) + ecP - y1) % ecP)

/-- A point in Jacobian coordinates (X, Y, Z): the affine point (X / Z², Y / Z³), and the point at infinity where Z is 0. -/
abbrev EcJac := Nat × Nat × Nat

/-- Twice a point in Jacobian coordinates. -/
def ecDouble (a : EcJac) : EcJac :=
  let (x, y, z) := a
  let zz := z * z % ecP
  let yy := y * y % ecP
  let b := x * yy % ecP
  let m := 3 * (x + ecP - zz) * (x + zz) % ecP
  let x3 := (m * m + 8 * ecP - 8 * b) % ecP
  (x3, (m * (4 * b + ecP - x3) + 8 * ecP - 8 * (yy * yy % ecP)) % ecP, 2 * y * z % ecP)

/-- Sum of a point in Jacobian coordinates and an affine point. -/
def ecMixed (a : EcJac) (q : Nat × Nat) : EcJac :=
  let (x, y, z) := a
  if z = 0 then (q.1, q.2, 1)
  else
    let zz := z * z % ecP
    let h := (q.1 * zz + ecP - x) % ecP
    let r := (q.2 * (zz * z % ecP) + ecP - y) % ecP
    if h = 0 then (if r = 0 then ecDouble a else (1, 1, 0))
    else
      let hh := h * h % ecP
      let hhh := hh * h % ecP
      let v := x * hh % ecP
      let x3 := (r * r + 3 * ecP - hhh - 2 * v) % ecP
      (x3, (r * (v + ecP - x3) + ecP - y * hhh % ecP) % ecP, z * h % ecP)

/-- k times an affine point, over the `n` low bits of k, in Jacobian coordinates. -/
def ecTimes (q : Nat × Nat) (k : Nat) : Nat → EcJac
  | 0 => (1, 1, 0)
  | n + 1 =>
    let h := ecDouble (ecTimes q (k / 2) n)
    if k % 2 = 1 then ecMixed h q else h

/-- k times a point, over the `n` low bits of k. -/
def ecMul (q : EcPoint) (k n : Nat) : EcPoint :=
  match q with
  | none => none
  | some q =>
    let (x, y, z) := ecTimes q k n
    if z = 0 then none
    else
      let w := invMod ecP z
      let ww := w * w % ecP
      some (x * ww % ecP, y * (ww * w % ecP) % ecP)

/-- Do the coordinates name a point of the curve? -/
def ecOn (x y : Nat) : Bool := decide (x < ecP) && decide (y < ecP) && y * y % ecP == (x * x * x + (ecP - 3) * x + ecB) % ecP

/-- Does the signature (r, s) by the key (x, y) verify over a message? -/
def ecdsaVerify (x y r s : Nat) (msg : List Byte) : Bool :=
  if !ecOn x y || r == 0 || s == 0 || decide (ecN ≤ r) || decide (ecN ≤ s) then false
  else
    let e := natLE (sha384 msg).reverse
    let w := invMod ecN s
    match ecAdd (ecMul ecG (e * w % ecN) 384) (ecMul (some (x, y)) (r * w % ecN) 384) with
    | none => false
    | some (x1, _) => x1 % ecN == r

end Sys2Proof.Machine
end

