-- ==== Sys2Proof/Machine/Cells.lean ====
section
/-! DEFINITION. Time cells (12_sundial.md R355, R356): 256 bytes that hold an IEEE 1588-2019 message and its CRC-32. The
places of the message's fields are those of IEEE 1588-2019, numbers most significant byte first (PRESUMED, log entry 29). -/
namespace Sys2Proof.Machine

/-- What the device reads in the message of a time cell: Sync (0) or Announce (0xB), domain, originating package, relay
count, correctionField in 2⁻¹⁶ ns, originTimestamp in ns, and the MST state that an Announce carries. -/
structure TimeMsg where
  type : Nat
  domain : Nat
  origin : Nat × Nat × Nat
  relays : Nat
  corr : Int
  ns : Nat
  state : Nat
deriving DecidableEq, Repr

/-- The last bytes of a time cell: the CRC-32 of the bytes before them. -/
def sealCell (bs : List Byte) : List Byte := bs ++ bytesLE 4 (crc32 bs)

/-- The message of a time cell; none where the cell's CRC fails or its message is none of R356. -/
def readCell (cell : List Byte) : Option TimeMsg :=
  let type := beAt cell 0 1 % 16
  if cell.length ≠ 256 ∨ leAt cell 252 4 ≠ crc32 (cell.take 252) ∨ beAt cell 1 1 % 16 ≠ 2 ∨ !(type == 0 || type == 0xB)
      ∨ beAt cell 20 5 ≠ 0x49594C4E00 then none
  else some ⟨type, beAt cell 4 1, (beAt cell 25 1, beAt cell 26 1, beAt cell 27 1), beAt cell 19 1 % 64,
    signed 64 (beAt cell 8 8), beAt cell 34 6 * 10 ^ 9 + beAt cell 40 4, beAt cell 48 1⟩

/-- A byte of a message that neither R356 nor IEEE 1588-2019 fixes. -/
def openBytes (type i n : Nat) : List Byte := (List.range n).map fun k => Config.cellByte type (i + k)

/-- The time cell of a message (R356). -/
def timeCell (m : TimeMsg) (seq : Nat) : List Byte :=
  let (x, y, z) := m.origin
  let length := if m.type = 0 then 44 else 64
  let header := bytesBE 1 m.type ++ bytesBE 1 0x12 ++ bytesBE 2 length ++ bytesBE 1 m.domain ++ bytesBE 1 0 ++ bytesBE 2 0
    ++ bytesBE 8 (unsigned 64 m.corr) ++ bytesBE 4 m.relays ++ bytesBE 5 0x49594C4E00 ++ bytesBE 1 x ++ bytesBE 1 y
    ++ bytesBE 1 z ++ openBytes m.type 28 2 ++ bytesBE 2 seq ++ openBytes m.type 32 2
    ++ bytesBE 6 (m.ns / 10 ^ 9) ++ bytesBE 4 (m.ns % 10 ^ 9)
  let body := if m.type = 0 then [] else openBytes m.type 44 4 ++ bytesBE 1 m.state ++ openBytes m.type 49 15
  sealCell (header ++ body ++ openBytes m.type length (252 - length))

/-- A cell as it is relayed (R357): one relay more, and a longer correctionField. -/
def relayedCell (cell : List Byte) (m : TimeMsg) (more : Int) : List Byte :=
  sealCell (cell.take 8 ++ bytesBE 8 (unsigned 64 (m.corr + more)) ++ (cell.drop 16).take 3
    ++ bytesBE 1 (beAt cell 19 1 / 64 * 64 + m.relays + 1) ++ (cell.drop 20).take 232)

/-- A Delay_Req of the service port's clock (R361) on a domain. -/
def delayReqMessage (domain seq : Nat) : List Byte :=
  bytesBE 1 1 ++ bytesBE 1 0x12 ++ bytesBE 2 44 ++ bytesBE 1 domain ++ bytesBE 1 0 ++ bytesBE 2 0 ++ bytesBE 8 0 ++ bytesBE 4 0
    ++ bytesBE 10 Config.svcIdentity ++ bytesBE 2 seq ++ bytesBE 1 1 ++ bytesBE 1 0x7F ++ bytesBE 10 0

end Sys2Proof.Machine
end

