-- ==== Sys2Proof/Machine/Kc4.lean ====
section
/-! DEFINITION. KC4 code tables and segments (02_number_formats.md R56–R60; 06_stream_memory.md R195). -/
namespace Sys2Proof.Machine

/-- Code length of E2M1 code i in a table (R56). -/
def kcLen (tbl i : Nat) : Nat := bits tbl (4 * i + 3) (4 * i)

/-- Kraft sum of a table, in units of 2⁻¹⁵ (R57). -/
def kcKraft (tbl : Nat) : Nat :=
  ((List.range 16).map fun i => if kcLen tbl i = 0 then 0 else 2 ^ (15 - kcLen tbl i)).sum

/-- A valid table (R57). -/
def kcTableOk (tbl : Nat) : Bool := tbl != 0 && decide (kcKraft tbl ≤ 2 ^ 15)

/-- First code of each length, from length n down the list of lengths (R57). -/
def kcFirst (tbl : Nat) : Nat → Nat
  | 0 => 0
  | n + 1 =>
    let below := if n = 0 then 0 else ((List.range 16).filter fun i => kcLen tbl i = n).length
    (kcFirst tbl n + below) * 2

/-- The codewords of a table: symbol, length, codeword (R57). -/
def kcCodes (tbl : Nat) : List (Nat × Nat × Nat) :=
  (List.range 16).filterMap fun i =>
    let l := kcLen tbl i
    if l = 0 then none
    else some (i, l, kcFirst tbl l + ((List.range i).filter fun j => kcLen tbl j = l).length)

/-- Payload bits of a segment, from bit 0 (R58). -/
def payloadBits (bs : List Byte) : List Bool :=
  bs.flatMap fun b => (List.range 8).map fun i => b.toNat.testBit i

/-- One codeword from a bit string: the symbol, its length and the rest; none where no codeword matches. -/
def kcOne (codes : List (Nat × Nat × Nat)) : Nat → Nat → Nat → List Bool → Option (Nat × Nat × List Bool)
  | 0, _, _, _ => none
  | _, _, _, [] => none
  | fuel + 1, len, code, b :: bs =>
    let code := 2 * code + b2n b
    match codes.find? fun c => c.2.1 == len + 1 && c.2.2 == code with
    | some c => some (c.1, len + 1, bs)
    | none => kcOne codes fuel (len + 1) code bs

/-- How the decoding of a payload ends (R59): the elements and the bits consumed, no codeword, or the payload's end. -/
inductive KcEnd where
  | ok (elems : List Nat) (used : Nat)
  | noCode
  | past
deriving DecidableEq, Repr

/-- Do these bits, the first read first, begin a longer codeword? -/
def kcBegins (codes : List (Nat × Nat × Nat)) (bs : List Bool) : Bool :=
  let x := bs.foldl (fun x b => 2 * x + b2n b) 0
  codes.any fun c => decide (bs.length < c.2.1) && c.2.2 / 2 ^ (c.2.1 - bs.length) == x

/-- Decode n codewords. Where the payload ends within a codeword: bits that begin no codeword match none (check 7), bits
that begin one run past the end (check 8) (DEDUCED, log entry 11). -/
def kcDecode (codes : List (Nat × Nat × Nat)) : Nat → List Nat → Nat → List Bool → KcEnd
  | 0, acc, used, _ => .ok acc.reverse used
  | n + 1, acc, used, bs =>
    match kcOne codes 15 0 0 bs with
    | some (x, l, rest) => kcDecode codes n (x :: acc) (used + l) rest
    | none => if kcBegins codes bs then .past else .noCode

/-- Fields of a segment header (R58). -/
structure KcHeader where
  rsv : Bool
  raw : Bool
  ver : Nat
  tag : Nat
  crc : Nat
  bitCount : Nat
  elems : Nat
  first : Nat

/-- The header of a segment. -/
def kcHeader (seg : List Byte) : KcHeader :=
  let h := leAt seg 0 16
  ⟨bits h 127 93 != 0, bit h 92, bits h 91 88, bits h 87 80, bits h 79 64, bits h 63 48, bits h 47 32, bits h 31 0⟩

/-- Is ELEM_COUNT in order (R59)? -/
def kcElemsOk (h : KcHeader) : Bool :=
  h.elems != 0 && h.elems % 16 == 0 && h.elems ≤ (if h.raw then 8160 else 32640)

/-- Outcome of a segment: elements, or the check that failed as STM_KC4_ERR_LOC encodes it. -/
inductive KcSeg where
  | good (elems : List Nat)
  | bad (check : Nat)
deriving DecidableEq, Repr

/-- Decode the payload once the header stands: codeword and BIT_COUNT checks. -/
def kcPayload (h : KcHeader) (tbl : Nat) (seg : List Byte) : KcSeg :=
  if h.raw then
    if h.bitCount ≠ 4 * h.elems then .bad 8
    else .good ((List.range h.elems).map fun i =>
      let b := ((seg.getD (16 + i / 2) 0).toNat)
      if i % 2 = 0 then b % 16 else b / 16)
  else match kcDecode (kcCodes tbl) h.elems [] 0 (payloadBits (seg.drop 16)) with
    | .noCode => .bad 7
    | .past => .bad 8
    | .ok es used => if used = h.bitCount then .good es else .bad 8

/-- Decode a segment (R59): `ue` a double-bit error, `win` a window failure among its accesses, `next` the block that the
sequence check asks for. When several checks fail, the first in the encoding's order is answered (R195). -/
def kcSegment (tag tbl : Nat) (next : Option Nat) (ue win : Bool) (seg : List Byte) : KcSeg :=
  let h := kcHeader seg
  if h.ver ≠ 1 ∨ h.rsv then .bad 1
  else if h.tag ≠ tag then .bad 2
  else if !kcElemsOk h then .bad 3
  else if ue then .bad 4
  else if win then .bad 5
  else if crc16 (seg.drop 16) ≠ h.crc then .bad 6
  else match kcPayload h tbl seg with
    | .bad c => .bad c
    | .good es => if next.any fun e => e != h.first then .bad 9 else .good es

/-- The blocks a segment covers (R195): first block and number; none where they cannot be located. `next` is the block the
sequence check asks for, `follow` the block after the previous segment's last covered block, `hdrBad` an error within the
header's 16 bytes. -/
def kcCovered (tag : Nat) (next follow : Option Nat) (hdrBad : Bool) (seg : List Byte) : Option (Nat × Nat) :=
  let h := kcHeader seg
  if h.ver = 1 ∧ !h.rsv ∧ h.tag = tag ∧ kcElemsOk h ∧ !(next.any fun e => e != h.first) ∧ !hdrBad then
    some (h.first, h.elems / 16)
  else follow.bind fun e => if kcElemsOk h then some (e, h.elems / 16) else none

/-- The block the sequence check asks of the next segment (R59): the one after the last that this segment's header names;
where an error falls in the header, the one after its covered blocks, if they are known (DEDUCED, log entry 10). -/
def kcNext (hdrBad : Bool) (seg : List Byte) (cov : Option (Nat × Nat)) : Option Nat :=
  if hdrBad then cov.map fun c => c.1 + c.2
  else some (((kcHeader seg).first + (kcHeader seg).elems / 16) % 2 ^ 32)

end Sys2Proof.Machine
end

