-- ==== Sys2Proof/Machine/Matrix.lean ====
section
/-! DEFINITION. The matrix unit (05_compute_ops.md R139–R147; 04_bundle_format.md R109): operand layout, duration,
fetch, terms and commits. One unit state serves every core (R146). -/
namespace Sys2Proof.Machine

/-- Element type of a matrix format code (R107). -/
def fmtElem (f : Nat) : Elem :=
  match f with
  | 0 => .bf16
  | 1 | 7 => .e2m1
  | 2 => .e2m3
  | 3 => .e3m2
  | 4 => .e4m3
  | 5 => .e5m2
  | _ => .int8

/-- Does R40 accept the pair of format codes? -/
def pairOk (fa fb : Nat) : Bool := (fa = 0 && fb = 0) || (fa = 7 && fb = 7) || (1 ≤ fa && fa ≤ 6 && 1 ≤ fb && fb ≤ 6)

/-- Chunk bytes C, element lines per step and terms per step of a format (R139). -/
def chunkBytes (f : Nat) : Nat := match f with
  | 0 => 128
  | 1 | 7 => 32
  | _ => 64
def stepLines (f : Nat) : Nat := chunkBytes f / 4
def stepTerms (f : Nat) : Nat := match f with
  | 0 => 8
  | 7 => 4
  | _ => 2

/-- Elements of one term (R41): a block, or 8 elements of BF16. -/
def termElems (f : Nat) : Nat := match f with
  | 0 => 8
  | 7 => 16
  | _ => 32

/-- Steps N of an operation (R139). -/
def stepsOf (f kb : Nat) : Nat := (kb + stepTerms f - 1) / stepTerms f

/-- Lines of the scale region (R139), and of the row-scale region. -/
def scaleLines (f n : Nat) : Nat := match f with
  | 0 => 0
  | 7 => n
  | _ => (n + 1) / 2
def rowScaleLines (f : Nat) : Nat := if f = 7 then 1 else 0

/-- Lines of the whole operand (R139, R140). -/
def operandLines (f kb : Nat) : Nat :=
  let n := stepsOf f kb
  n * stepLines f + scaleLines f n + rowScaleLines f

/-- Does an operand at an address lie within the SRAM (R140)? -/
def extentOk (f kb addr : Nat) : Bool := decide (addr < 2 ^ 19) && decide (addr / 256 + operandLines f kb ≤ 2048)

/-- Cycles per term T (R142). -/
def termCycles (fa fb : Nat) : Nat :=
  if fa = 7 ∧ fb = 7 then 16 else if fa = 1 ∧ fb = 1 then 32 else if fa = 0 ∧ fb = 0 then 32 else 64

/-- Step length L (R142). -/
def stepLength (fa fb : Nat) : Nat :=
  if fa = 0 then 256 else if (fa = 7 ∧ fb = 7) ∨ (fa = 1 ∧ fb = 1) then 64 else 128

/-- Length S of the start phase (R142). -/
def startPhase (fa fb : Nat) : Nat :=
  stepLines fa + stepLines fb + (if fa = 0 then 0 else if fa = 7 then 4 else 2)

/-- S, T and D of an operation (R142, R145): an operation that is not performed takes those of MXFP8 × MXFP8. One that is
not performed in some of its cores commits in the others by its pair, and holds the unit of every core for the duration
R145 gives, the longer (DEDUCED, log entry 20). -/
def opS (o : MOp) : Nat := if o.good then startPhase o.fa o.fb else 34
def opT (o : MOp) : Nat := if o.good then termCycles o.fa o.fb else 64
def opD (o : MOp) : Nat := if !o.mma then 1 else if o.part then 34 + o.kb * 64 else opS o + o.kb * opT o

/-- The operand line fetched at cycle `rel` after the start (R143): operand (0 A, 1 B) and line within it. -/
def fetchAt (o : MOp) (rel : Nat) : Option (Nat × Nat) :=
  let ea := stepLines o.fa
  let eb := stepLines o.fb
  let n := stepsOf o.fa o.kb
  let sa := n * ea
  let sb := n * eb
  if !o.mma || !o.good then none
  else if rel < opS o then
    if rel < ea then some (0, rel)
    else if rel < ea + eb then some (1, rel - ea)
    else match rel - ea - eb with
      | 0 => some (0, sa)
      | 1 => some (1, sb)
      | 2 => some (0, sa + scaleLines o.fa n)
      | _ => some (1, sb + scaleLines o.fb n)
  else
    let st := (rel - opS o) / stepLength o.fa o.fb
    let q := (rel - opS o) % stepLength o.fa o.fb
    if n ≤ st + 1 then none
    else if q < ea then some (0, (st + 1) * ea + q)
    else if q < ea + eb then some (1, (st + 1) * eb + (q - ea))
    else if o.fa = 7 then
      (if q = ea + eb then some (0, sa + st + 1) else if q = ea + eb + 1 then some (1, sb + st + 1) else none)
    else if o.fa ≠ 0 ∧ (st + 1) % 2 = 0 then
      (if q = ea + eb then some (0, sa + (st + 1) / 2)
       else if q = ea + eb + 1 then some (1, sb + (st + 1) / 2) else none)
    else none

/-- The bank a core's matrix fetch uses in issue cycle `c` (R143, R75), if any. -/
def fetchBank (c core : Nat) (s : State) : Option Nat :=
  match s.cores.mxRun with
  | none => none
  | some o => match fetchAt o (c - o.start), o.cores.find? (fun x => x.1 = core) with
    | some (w, j), some (_, a, b) => some (((if w = 0 then a else b) / 256 + j) / 256)
    | _, _ => none

/-- Fetch the line of issue cycle `c` in every core that performs the operation (R143, R147). -/
def mxFetch (plot : Option Nat) (c : Nat) (s : State) : State :=
  match s.cores.mxRun with
  | none => s
  | some o => match fetchAt o (c - o.start) with
    | none => s
    | some (w, j) =>
      let one (x : Nat × Nat × Nat) (s : State) : State :=
        let ln := (if w = 0 then x.2.1 else x.2.2) / 256 + j
        let v := sramLine x.1 ln s
        let s := sramCheck plot x.1 (256 * ln) 32 s
        { s with cores := { s.cores with mxRun := s.cores.mxRun.map fun o =>
            { o with lines := put 0 ((2 * x.1 + w) * 2 ^ 16 + j) (BitVec.ofNat 2048 v) o.lines } } }
      forAll one o.cores s

/-- Byte string of a fetched operand of a core, of `n` lines from line `j`. -/
def opLine (o : MOp) (core w j : Nat) : Nat := (get 0 ((2 * core + w) * 2 ^ 16 + j) o.lines).toNat

/-- Element k of row i of term t of an operand (R139). -/
def opElem (o : MOp) (core w f t i k : Nat) : FVal :=
  let step := t / stepTerms f
  let c := chunkBytes f
  -- byte offset of the chunk of row i within the step, and the element's place in the chunk
  let e := (t % stepTerms f) * termElems f + k
  let base := step * stepLines f + i * c / 256
  let off := i * c % 256
  let wd := (elemP (fmtElem f)).width
  let ln := opLine o core w base
  let chunk := ln / 2 ^ (8 * off) % 2 ^ (8 * c)
  elemVal (fmtElem f) (chunk / 2 ^ (wd * e) % 2 ^ wd)

/-- Block scale of term t of row i (R139). -/
def opScale (o : MOp) (core w f t i : Nat) : FVal :=
  let n := stepsOf f o.kb
  let step := t / stepTerms f
  let q := t % stepTerms f
  match f with
  | 0 => .fin false 1 0
  | 7 => elemVal .e4m3 (opLine o core w (n * stepLines f + step) / 2 ^ (8 * (4 * i + q)) % 256)
  | _ =>
    let byte := step * 128 + 2 * i + q
    e8m0Val (opLine o core w (n * stepLines f + byte / 256) / 2 ^ (8 * (byte % 256)) % 256)

/-- Row scale of row i (R139). -/
def opRowScale (o : MOp) (core w f i : Nat) : FVal :=
  if f = 7 then
    let n := stepsOf f o.kb
    fromF32 (opLine o core w (n * stepLines f + scaleLines f n) / 2 ^ (32 * i) % 2 ^ 32)
  else .fin false 1 0

/-- Commit term t of a core: every element takes the term's value (R141). -/
def commitTerm (o : MOp) (t core : Nat) (s : State) : State :=
  let bs := (List.range 64).map fun j =>
    ((List.range (termElems o.fb)).map (opElem o core 1 o.fb t j), opScale o core 1 o.fb t j, opRowScale o core 1 o.fb j)
  forAll (fun i s =>
    let es := (List.range (termElems o.fa)).map (opElem o core 0 o.fa t i)
    let sa := opScale o core 0 o.fa t i
    let ra := opRowScale o core 0 o.fa i
    let old := lanes (readAcc core o.acc i s)
    let new := List.zipWith (fun acc (b : List FVal × FVal × FVal) =>
      addF32 acc (termValue es b.1 sa b.2.1 ra b.2.2)) old bs
    onCore core (fun k => { k with acc := put 0 (64 * o.acc + i) (BitVec.ofNat 2048 (ofLanes new)) k.acc }) s)
    (List.range 64) s

/-- Clear an accumulator of a core to +0 (R141, R144). -/
def clearAcc (k core : Nat) (s : State) : State :=
  onCore core (fun x => { x with acc := clearRange (64 * k) 64 x.acc }) s

/-- The matrix unit's part of the start of issue cycle `c`: the commits of that cycle (R144), the end of the running
operation and the start of the queued one (R109, R142). Done once for each issue cycle. -/
def mxBegin (c : Nat) (s : State) : State :=
  if c < s.cores.mxDone then s
  else
    let s := { s with cores := { s.cores with mxDone := c + 1 } }
    match s.cores.mxRun with
    | none => s
    | some o =>
      let rel := c - o.start
      let s := if rel = 1 ∧ o.good ∧ (o.clr ∨ !o.mma) then
          forAll (fun (x : Nat × Nat × Nat) => clearAcc o.acc x.1) o.cores s else s
      let s := if o.mma ∧ o.good ∧ opS o < rel ∧ (rel - opS o) % opT o = 0 ∧ (rel - opS o) / opT o ≤ o.kb then
          forAll (fun (x : Nat × Nat × Nat) => commitTerm o ((rel - opS o) / opT o - 1) x.1) o.cores s else s
      if opD o ≤ rel then
        { s with cores := { s.cores with
            mxRun := s.cores.mxQueue.map fun q => { q with start := c }, mxQueue := none } }
      else s

/-- A hazard of R126 or R162: counted, first one held, reported as a core fault of the running plot. -/
def hazard (kind : Nat) (s : State) : State :=
  match s.seq.run with
  | none => s
  | some r =>
    let s := bump SEQ_HAZARD_COUNT_COUNT 1 s
    let s := holdFirst SEQ_HAZARD_LOC_VALID
      [(SEQ_HAZARD_LOC_KIND, kind), (SEQ_HAZARD_LOC_PLOT, r.plot), (SEQ_HAZARD_LOC_PC, r.pc)] s
    plotFault r.plot 1 (kind + 3) 0x3FFF r.pc s

/-- The plot whose run is in progress. -/
def runPlot (s : State) : Option Nat := s.seq.run.map (·.plot)

/-- A core fault of the running plot that names its core (R73, R75, R40). -/
def coreFault (code core : Nat) (s : State) : State :=
  match runPlot s with
  | some p => plotFault p 1 code core 0 s
  | none => s

/-- An address fault (R73, R145). -/
def addrFault (core : Nat) (s : State) : State := coreFault 2 core (bump SEQ_ADDR_FAULT_COUNT_COUNT 1 s)

/-- The operation of a matrix slot, with its operand addresses in the selected cores (R138), and the cores left out
because their extent leaves the SRAM (R140, R145). -/
def mkOp (m : MxSlot) (sel : List Nat) (c : Nat) (s : State) : MOp × List Nat :=
  let addr (k a o : Nat) : Nat := (readA k a s + o) % 2 ^ 32
  let all := sel.map fun k => (k, addr k m.aregA m.ofsA, addr k m.aregB m.ofsB)
  if m.op = 2 then (⟨false, m.acc, true, 0, 0, 0, all, true, c, [], false⟩, [])
  else
    let fits (x : Nat × Nat × Nat) : Bool := extentOk m.fmtA m.kb x.2.1 && extentOk m.fmtB m.kb x.2.2
    let pair := pairOk m.fmtA m.fmtB
    let run := if pair then all.filter fits else []
    let out := (all.filter fun x => !fits x).map (·.1)
    (⟨true, m.acc, m.clr, m.kb, m.fmtA, m.fmtB, run, pair && (!run.isEmpty || out.isEmpty), c, [], !out.isEmpty⟩, out)

/-- Faults of an operation at its issue (R40, R145): the pair in every selected core, the extent where it fails. -/
def mxFaults (m : MxSlot) (sel out : List Nat) (s : State) : State :=
  forAll addrFault out (if m.op = 1 ∧ !pairOk m.fmtA m.fmtB then forAll (fun k => coreFault 1 k) sel s else s)

/-- Matrix slot k of a bundle issues in cycle `c` (R109). -/
def mxIssue (k : Nat) (m : MxSlot) (sel : List Nat) (c : Nat) (s : State) : State :=
  if m.op = 0 then s
  else
    let (o, out) := mkOp m sel c s
    match k, s.cores.mxRun, s.cores.mxQueue with
    | 0, none, none => mxFaults m sel out { s with cores := { s.cores with mxRun := some o } }
    | 0, _, _ => hazard 1 s
    | _, none, none => mxFaults m sel out { s with cores := { s.cores with mxRun := some o } }
    | _, some _, none => mxFaults m sel out { s with cores := { s.cores with mxQueue := some o } }
    | _, _, some _ => hazard 2 s

end Sys2Proof.Machine
end

