-- ==== Sys2Proof/Machine/Stream.lean ====
section
/-! DEFINITION. Descriptors, stream requests and engines (06_stream_memory.md R182–R200). -/
namespace Sys2Proof.Machine

/-! ### Descriptors (R187–R190) -/

/-- Bits [hi:lo] of word w of a descriptor (R188). -/
def dsc (d : BitVec 1024) (w hi lo : Nat) : Nat := bits d.toNat (32 * w + hi) (32 * w + lo)

def dValid (d : BitVec 1024) : Bool := dsc d 0 31 31 == 1
def dPaged (d : BitVec 1024) : Bool := dsc d 0 30 30 == 1
def dOrder (d : BitVec 1024) : Nat := dsc d 0 29 29
def dNosig (d : BitVec 1024) : Bool := dsc d 0 28 28 == 1
def dFmt (d : BitVec 1024) : Nat := dsc d 0 27 24
def dTag (d : BitVec 1024) : Nat := dsc d 0 23 16
def dTsteps (d : BitVec 1024) : Nat := dsc d 0 15 8
def dSlots (d : BitVec 1024) : Nat := dsc d 0 7 4 + 1
def dRow0 (d : BitVec 1024) : Nat := dsc d 1 31 28
def dNrows (d : BitVec 1024) : Nat := dsc d 1 27 24 + 1
def dCol0 (d : BitVec 1024) : Nat := dsc d 1 23 19
def dNcols (d : BitVec 1024) : Nat := dsc d 1 18 14 + 1
def dStride (d : BitVec 1024) : Nat := dsc d 2 31 21
def dRaw (d : BitVec 1024) : Nat := dsc d 2 20 10
/-- Base, piece bytes, PSTRIDE and DST line of plane p. -/
def dBase (d : BitVec 1024) (p : Nat) : Nat := dsc d (4 + 2 * p) 6 0 * 2 ^ 32 + dsc d (3 + 2 * p) 31 6 * 2 ^ 6
def dPsize (d : BitVec 1024) (p : Nat) : Nat := dsc d (3 + 2 * p) 5 3
def dPiece (d : BitVec 1024) (p : Nat) : Nat := 2 ^ (dPsize d p + 1)
def dPstride (d : BitVec 1024) (p : Nat) : Nat := dsc d (4 + 2 * p) 31 18
def dDst (d : BitVec 1024) (p : Nat) : Nat := dsc d (4 + 2 * p) 17 7
def dPtBase (d : BitVec 1024) : Nat := dsc d 10 6 0 * 2 ^ 32 + dsc d 9 31 6 * 2 ^ 6
def dPtCount (d : BitVec 1024) : Nat := dsc d 10 31 12
def dTable (d : BitVec 1024) : Nat := dsc d 13 31 0 * 2 ^ 32 + dsc d 12 31 0
def dRstride (d : BitVec 1024) : Int := signed 32 (dsc d 14 31 0)
def dLstride (d : BitVec 1024) (l : Nat) : Int := signed 32 (dsc d (15 + l) 31 0)

/-- Region of a plane of a tile in bytes (R189); 0 where the format does not use the plane. -/
def region (d : BitVec 1024) (p : Nat) : Nat :=
  let t := dTsteps d
  match dFmt d, p with
  | 7, 0 | 8, 0 => t * 64 * 32
  | 7, 1 | 8, 1 => t * 256
  | 7, 2 | 8, 2 => 256
  | 0, 0 => t * 8192
  | 9, 0 => dRaw d * 256
  | f, 0 => if f < 7 then t * 64 * chunkBytes f else 0
  | f, 1 => if 1 ≤ f ∧ f < 7 then (t * 128 + 255) / 256 * 256 else 0
  | _, _ => 0

/-- Does the format use the plane? -/
def planeUsed (d : BitVec 1024) (p : Nat) : Bool :=
  match dFmt d with
  | 7 | 8 => p ≤ 2
  | 0 | 9 => p == 0
  | _ => p ≤ 1

/-- Reserved fields of a descriptor are 0 (R187, R188). -/
def dscRsvOk (d : BitVec 1024) : Bool :=
  dsc d 0 3 0 == 0 && dsc d 1 13 0 == 0 && dsc d 2 9 0 == 0 && dsc d 3 2 0 == 0 && dsc d 5 2 0 == 0 && dsc d 7 2 0 == 0
    && dsc d 9 5 0 == 0 && dsc d 10 11 7 == 0 && dsc d 11 31 0 == 0 && bits d.toNat 1023 608 == 0

/-- Checks of a used plane (R187). -/
def planeOk (d : BitVec 1024) (p : Nat) : Bool :=
  let r := region d p
  dPsize d p ≤ 5 && r % dPiece d p == 0 && dPstride d p != 0
    && dDst d p * 256 + (dSlots d - 1) * dStride d * 256 + r ≤ 524288

/-- The load check of a descriptor with VALID 1 (R187). -/
def dscOk (d : BitVec 1024) : Bool :=
  dscRsvOk d && dFmt d ≤ 9 && dTsteps d != 0 && (dFmt d != 9 || dRaw d != 0)
    && ((List.range 3).all fun p => if planeUsed d p then planeOk d p
        else dsc d (3 + 2 * p) 31 0 == 0 && dsc d (4 + 2 * p) 31 0 == 0)
    && (dFmt d != 8 || (kcTableOk (dTable d) && dPsize d 0 == 5 && dPstride d 0 == 1 && !dPaged d))
    && dRow0 d + dNrows d ≤ 16 && dCol0 d + dNcols d ≤ 32 && (!dPaged d || dPtCount d != 0)

/-- Placement of byte x of plane q (R190) on the die of an engine: core and SRAM address. -/
def place (eng : Nat) (d : BitVec 1024) (q x : Nat) : Nat × Nat :=
  let reg := region d q
  let j := x / reg
  let w := x % reg
  let nr := dNrows d
  let nc := dNcols d
  let g := nr * nc
  let k := j % g
  let row := dRow0 d + (if dOrder d = 0 then k / nc else k % nr)
  let col := dCol0 d + (if dOrder d = 0 then k % nc else k / nr)
  let slot := (j / g) % dSlots d
  (32 * (16 * (eng / 8) + row) + col, dDst d q * 256 + slot * dStride d * 256 + w)

/-! ### Requests -/

/-- The accepted requests of engine e, oldest first. -/
def engReqs (e : Nat) (s : State) : List StmReq := get [] e s.eng

/-- Set the requests of engine e. -/
def setReqs (e : Nat) (rs : List StmReq) (s : State) : State := { s with eng := put [] e rs s.eng }

/-- Positions an engine holds (R182). -/
def occ (e : Nat) (s : State) : Nat := ((engReqs e s).map (·.held)).sum

/-- Positions each engine has freed in the present cycle. -/
def freedNow (s : State) : Map Nat := if s.engFreed.1 = cycle s then s.engFreed.2 else []

/-- Engine e frees positions in the present cycle. -/
def freePos (e n : Nat) (s : State) : State := { s with engFreed := (cycle s, upd 0 e (· + n) (freedNow s)) }

/-- Positions engine e holds for a bundle of the present cycle, which sees the frees of earlier cycles (R183). -/
def heldNow (e : Nat) (s : State) : Nat := occ e s + get 0 e (freedNow s)

/-- Positions a request reserves (R182). -/
def positions (op plane len : Nat) (d : BitVec 1024) : Nat :=
  if op = 3 ∨ (op = 2 ∧ dPaged d) then len + 1
  else if op = 1 ∧ dFmt d = 8 ∧ plane = 0 then len + 33 * len / 64
  else len

/-- First piece index of a request (R191). -/
def firstPiece (off : Nat) (d : BitVec 1024) (s : State) : Int :=
  match s.seq.run with
  | none => off
  | some r =>
    let lv (l : Nat) : Int := if l < r.depth then ((get 0 l r.lc : Nat) : Int) * dLstride d l else 0
    off + (r.rep : Int) * dRstride d + lv 0 + lv 1 + lv 2 + lv 3

/-- The descriptor a stream slot of plot n names (R185), if it is in the region and VALID. -/
def slotDesc (n idx : Nat) (s : State) : Option (BitVec 1024) :=
  let lo := fld (STM_DSR_BASE n) s
  let hi := fld (STM_DSR_LIMIT n) s
  if flag (STM_DSR_VALID n) s ∧ lo ≤ hi ∧ idx < 64 * (hi + 1 - lo) then
    let d := get 0 (64 * lo + idx) s.desc
    if dValid d then some d else none
  else none

/-- The first check of R196 that a stream slot of plot n fails, SIZE for a pair apart: 1 DESC, 2 OPKIND, 3 RANGE,
4 ALIGN, 5 SIZE, 6 STACK. -/
def stmCheck (n : Nat) (m : SmSlot) (s : State) : Option Nat :=
  let q := m.offset / 2 ^ 30
  match slotDesc n m.desc s with
  | none => some 1
  | some d =>
    let kc := dFmt d == 8 && q == 0
    let u0 := firstPiece (m.offset % 2 ^ 30) d s
    let last := u0 + (m.len - 1 : Nat) * dPstride d q
    if q = 3 ∨ !planeUsed d q ∨ (m.op = 1 ∧ dPaged d) ∨ (m.op = 3 ∧ !dPaged d) ∨ (m.op = 2 ∧ kc) then some 2
    else if u0 < 0 ∨ (2 ^ 30 : Int) ≤ last
        ∨ (dPaged d ∧ u0.toNat * dPiece d q / region d q ≠ last.toNat * dPiece d q / region d q) then some 3
    else if kc ∧ (u0.toNat % 64 ≠ 0 ∨ m.len % 64 ≠ 0 ∨ 1344 < m.len) then some 4
    else if 2048 < positions m.op q m.len d then some 5
    else if dBase d q / 2 ^ 36 ≠ m.eng / 2 ∨ (dPaged d ∧ dPtBase d / 2 ^ 36 ≠ m.eng / 2) then some 6
    else none

/-- Do the requests of a bundle's two slots together exceed their one engine (R183)? -/
def pairExceeds (n : Nat) (m0 m1 : SmSlot) (s : State) : Bool :=
  m0.op != 0 && m0.eng == m1.eng && (stmCheck n m0 s).isNone &&
  match slotDesc n m0.desc s, slotDesc n m1.desc s with
  | some d0, some d1 =>
    decide (2048 < positions m0.op (m0.offset / 2 ^ 30) m0.len d0 + positions m1.op (m1.offset / 2 ^ 30) m1.len d1)
  | _, _ => false

/-- The checks as a bundle's second slot meets them (R183, R196): SIZE where the pair exceeds an engine, before STACK. -/
def stmCheck2 (n : Nat) (m0 m1 : SmSlot) (s : State) : Option Nat :=
  let k := stmCheck n m1 s
  if (k = none ∨ k = some 6) ∧ pairExceeds n m0 m1 s then some 5 else k

/-- Positions a slot's request asks for: 0 for one that faults or is absent. -/
def stmNeed (n : Nat) (m : SmSlot) (chk : Option Nat) (s : State) : Nat :=
  if m.op = 0 ∨ chk.isSome then 0
  else match slotDesc n m.desc s with
    | some d => positions m.op (m.offset / 2 ^ 30) m.len d
    | none => 0

/-- Does stream back-pressure hold a bundle of plot n where engine e holds `held e` positions (R102, R183)? -/
def stmHolds (held : Nat → Nat) (n : Nat) (m0 m1 : SmSlot) (s : State) : Bool :=
  let r0 := stmNeed n m0 (stmCheck n m0 s) s
  let r1 := stmNeed n m1 (stmCheck2 n m0 m1 s) s
  if m0.op ≠ 0 ∧ m1.op ≠ 0 ∧ m0.eng = m1.eng then
    (r0 + r1 != 0) && decide (2048 < held m0.eng + r0 + r1)
  else (r0 != 0 && decide (2048 < held m0.eng + r0)) || (r1 != 0 && decide (2048 < held m1.eng + r1))

/-- A request fault (R196): counted, recorded, reported. -/
def stmFault (kind n eng pc : Nat) (s : State) : State :=
  let s := bump STM_FAULT_COUNT_COUNT 1 s
  let s := holdFirst STM_FAULT_LOC_VALID [(STM_FAULT_LOC_KIND, kind), (STM_FAULT_LOC_PLOT, n), (STM_FAULT_LOC_ENG, eng),
    (STM_FAULT_LOC_PC, pc)] s
  plotFault n 3 kind eng pc s

/-- Set the first request of engine e. -/
def setFront (e : Nat) (r : StmReq) (s : State) : State := setReqs e (r :: (engReqs e s).tail) s

/-- WINDOW (7) or PAGE (8) of a request, counted once (R196). -/
def reqFault (kind e : Nat) (r : StmReq) (s : State) : State :=
  if r.reported then s else stmFault kind r.plot e r.pc s

/-- Accept or fault the request of a stream slot (R183, R196). -/
def stmAccept (n pc : Nat) (m : SmSlot) (chk : Option Nat) (s : State) : State :=
  if m.op = 0 then s
  else
    let q := m.offset / 2 ^ 30
    let d := (slotDesc n m.desc s).getD 0
    let nosig := chk != some 1 && dNosig d
    match chk with
    | some k =>
      let r : StmReq := ⟨n, pc, m.op, q, 0, m.len, m.tly, nosig, d, 0, true, .unused, 0, 0, 0, none, none, false⟩
      stmFault k n m.eng pc (setReqs m.eng (engReqs m.eng s ++ [r]) s)
    | none =>
      let u0 := (firstPiece (m.offset % 2 ^ 30) d s).toNat
      let paged := dPaged d
      let j := u0 * dPiece d q / region d q
      let out := paged && decide (dPtCount d ≤ j)
      let r : StmReq := ⟨n, pc, m.op, q, u0, m.len, m.tly, nosig, d, positions m.op q m.len d, false,
        if !paged then .unused else if out then .bad else .wanted, 0, 0, 0, none, none, out⟩
      let s := setReqs m.eng (engReqs m.eng s ++ [r]) s
      if out then stmFault 8 n m.eng pc s else s

/-! ### Accesses -/

/-- Byte of the plane at which piece n of a request begins. -/
def pieceAt (r : StmReq) (i : Nat) : Nat := (r.u0 + i * dPstride r.desc r.plane) * dPiece r.desc r.plane

/-- Plot address of byte x of a plane, by the page where the request is paged (R190, R193). -/
def planeAddr (r : StmReq) (q x : Nat) : Nat :=
  match r.page with
  | .tile t => dBase r.desc q + t * region r.desc q + x % region r.desc q
  | _ => dBase r.desc q + x

/-- Count 64 bytes of an access for metering (R200): counter 2 a read, 3 a write. -/
def meterAccess (k plot : Nat) (s : State) : State := meterAdd k plot 64 s

/-- The window check of an access (R180) by a reader that reaches one stack only, where `stack` names it: an engine serves
its own (R182, R206). An access that would leave it fails as outside the window (DEDUCED, log entry 22). -/
def reach (stack : Option Nat) (plot addr n : Nat) (s : State) : Option Nat :=
  if stack.any fun k => k != addr / 2 ^ 36 then none else window plot addr n s

/-- The stack of engine e. -/
def engStack (e : Nat) : Option Nat := some (e / 2)

/-- Does the stack of engine e pause to recalibrate (R176)? -/
def engPaused (e : Nat) (s : State) : Bool := flag (HBM_STACK_STATUS_RECAL (e / 2)) s

/-- Metering of a write of n bytes at linear address a (R200): a part of a word is read first, and an access that is not
made, to a FAILED stack or over a double-bit error (R174, R178), counts nothing. -/
def meterWrites (plot a n : Nat) (s : State) : State :=
  if stackFailed (a / stackBytes) s then s
  else
    let s' := if partWrite a n then meterAccess 2 plot s else s
    if partWrite a n && wordErr (a / 32) s == 2 then s' else meterAccess 3 plot s'

/-- Piece i of an uncoded request of engine e moves (R192), its window check passed or not (R180). -/
def movePiece (e : Nat) (r : StmReq) (i : Nat) (s : State) : State :=
  let x := pieceAt r i
  let n := dPiece r.desc r.plane
  let (core, sr) := place e r.desc r.plane x
  let bad := r.page == .bad
  let w := if bad then none else reach (engStack e) r.plot (planeAddr r r.plane x) n s
  match w with
  | none => if r.op = 2 then s else sramWrite core sr (List.replicate n 0xFF) s
  | some a =>
    let acc : HAcc := ⟨some r.plot, e, false⟩
    if r.op = 2 then
      let bs := portRead core sr n s
      let s := portCheck r.plot core sr n s
      hbmWrite acc a bs (meterWrites r.plot a n s)
    else
      let bs := hbmData a n s
      let s := meterAccess 2 r.plot (hbmCheck acc a n s)
      sramWrite core sr bs s

/-- Does piece i of a request of engine e fail the window check? -/
def pieceOut (e : Nat) (r : StmReq) (i : Nat) (s : State) : Bool :=
  r.page != .bad && (reach (engStack e) r.plot (planeAddr r r.plane (pieceAt r i)) (dPiece r.desc r.plane) s).isNone

/-! ### KC4 segments (R194, R195) -/

/-- Deliver bytes of a plane at the places of R190. -/
def deliver (e : Nat) (d : BitVec 1024) (q x : Nat) : List Byte → State → State
  | [], s => s
  | b :: bs, s =>
    let p := place e d q x
    deliver e d q (x + 1) bs (sramWrite p.1 p.2 [b] s)

/-- Record a KC4 decode error (R60, R195). -/
def kcError (check : Nat) (lost : Bool) (e : Nat) (r : StmReq) (addr : Nat) (s : State) : State :=
  let s := bump STM_KC4_ERR_COUNT_COUNT 1 s
  let s := if flag STM_KC4_ERR_LOC_VALID s then s else
    setFld STM_KC4_ERR_ADDR_SEG (addr / 4096) (holdFirst STM_KC4_ERR_LOC_VALID [(STM_KC4_ERR_LOC_CHECK, check),
      (STM_KC4_ERR_LOC_LOST, b2n lost), (STM_KC4_ERR_LOC_ENG, e), (STM_KC4_ERR_LOC_PLOT, r.plot)] s)
  plotFault r.plot 3 0x0A e r.pc s

/-- Bytes of [addr, addr + n) of a plot as a read delivers them: 0xFF where the window check fails (R180). -/
def windowData (stack : Option Nat) (plot addr n : Nat) (s : State) : List Byte :=
  (accessesOf addr n).flatMap fun p => match reach stack plot p.1 p.2 s with
    | some a => hbmData a p.2 s
    | none => List.replicate p.2 0xFF

/-- The errors, metering and window failures of such a read. -/
def windowRead (stack : Option Nat) (x : HAcc) (plot addr n : Nat) (s : State) : State :=
  forAll (fun (p : Nat × Nat) s => match reach stack plot p.1 p.2 s with
    | some a => meterAccess 2 plot (hbmCheck x a p.2 s)
    | none => s) (accessesOf addr n) s

/-- Does any access of such a read fail its window check? -/
def windowOut (stack : Option Nat) (plot addr n : Nat) (s : State) : Bool :=
  (accessesOf addr n).any fun p => (reach stack plot p.1 p.2 s).isNone

/-- Does any word of such a read hold a double-bit error? -/
def windowBad (stack : Option Nat) (plot addr n : Nat) (s : State) : Bool :=
  (accessesOf addr n).any fun p => match reach stack plot p.1 p.2 s with
    | some a => hbmBad a p.2 s
    | none => false

/-- The next segment of a KC4 read arrives and is decoded or fails (R195). -/
def decodeSegment (e : Nat) (r : StmReq) (s : State) : State :=
  let acc : HAcc := ⟨some r.plot, e, false⟩
  let addr := dBase r.desc 0 + (r.u0 + r.decoded) * 64
  let own := engStack e
  let seg := windowData own r.plot addr 4096 s
  let ue := windowBad own r.plot addr 4096 s
  let win := windowOut own r.plot addr 4096 s
  let hdrBad := windowBad own r.plot addr 16 s || windowOut own r.plot addr 16 s
  let first := r.reported
  let s := windowRead own acc r.plot addr 4096 s
  let s := if win && !first then stmFault 7 r.plot e r.pc s else s
  let out := kcSegment (dTag r.desc) (dTable r.desc) r.seqNext ue win seg
  let cov := match out with
    | .good _ => some ((kcHeader seg).first, (kcHeader seg).elems / 16)
    | .bad _ => kcCovered (dTag r.desc) r.seqNext r.expect hdrBad seg
  let seqNext := kcNext hdrBad seg cov
  let (check, elems) := match out with
    | .good es => (0, es)
    | .bad c => (c, [])
  match cov with
  | none =>
    let s := kcError check true e r addr s
    setFront e { r with decoded := r.decoded + 64, waiting := r.waiting + 64, expect := none, seqNext := seqNext
                        reported := r.reported || win } s
  | some (b, n) =>
    -- companion read of the scales: from the 64-byte boundary at or below block b
    let sa := dBase r.desc 1 + b
    let lo := sa / 64 * 64
    let span := sa + n - lo
    let scales := ((windowData own r.plot lo span s).drop (sa - lo)).take n
    let winS := windowOut own r.plot lo span s
    let s := windowRead own acc r.plot lo span s
    let s := if winS && !(first || win) then stmFault 7 r.plot e r.pc s else s
    let s := if check = 0 then s else kcError check false e r addr s
    let ebytes := if check = 0 then packNibbles elems else List.replicate (8 * n) 0
    let sbytes := if check = 0 then scales else List.replicate n 0x7F
    let s := deliver e r.desc 0 (8 * b) ebytes s
    let s := deliver e r.desc 1 b sbytes s
    setFront e { r with decoded := r.decoded + 64, waiting := r.waiting + 64 + (accessesOf lo span).length
                        expect := some (b + n), seqNext := seqNext, reported := r.reported || win || winS } s
where
  /-- Elements two to a byte, the first in the low half (R38). -/
  packNibbles : List Nat → List Byte
    | x :: y :: r => BitVec.ofNat 8 (x + 16 * y) :: packNibbles r
    | [x] => [BitVec.ofNat 8 x]
    | [] => []

/-! ### Retirement and completion (R182, R197) -/

/-- Is a request a KC4 element read? -/
def isKc (r : StmReq) : Bool := dFmt r.desc == 8 && r.plane == 0 && r.op == 1

/-- Has every access of the first request of an engine been made? -/
def reqOver (r : StmReq) : Bool :=
  r.faulted || r.page == .bad || (if isKc r then r.decoded == r.len && r.waiting == 0 else r.next == r.len)

/-- The first request of an engine completes (R197): its positions are freed and its signal sent, applied 8 cycles
later. -/
def reqComplete (e : Nat) (r : StmReq) (s : State) : State :=
  let s := freePos e r.held (setReqs e (engReqs e s).tail s)
  if r.nosig then s else sendTally 8 (.inc r.plot r.tly 1 (srcEngine e) none) s

/-- A paged request without a page delivers 0xFF into every piece of its reads (R193). -/
def pageFill (e : Nat) (r : StmReq) (s : State) : State :=
  if r.faulted ∨ r.page ≠ .bad then s else forAll (fun i => movePiece e r i) (List.range r.len) s

/-- Complete every request at the head of engine e that has nothing left to do. -/
def engDrain (e : Nat) : Nat → State → State
  | 0, s => s
  | n + 1, s => match engReqs e s with
    | [] => s
    | r :: _ => if reqOver r then engDrain e n (reqComplete e r (pageFill e r s)) else s

/-- Complete what engine e has finished; not while a scrub runs (R93, R199). -/
def engSettle (e : Nat) (s : State) : State :=
  if s.seq.scrubEnd.isSome then s else engDrain e (engReqs e s).length s

/-- The first request of engine e frees a position and becomes r. -/
def retireOne (e : Nat) (r : StmReq) (s : State) : State := engSettle e (freePos e 1 (setFront e { r with held := r.held - 1 } s))

/-- ACCESS_RETIRE (R182): the next access of engine e retires and frees a position. Deliveries pause in a scrub (R199), and
a stack serves no access in its recalibration pause (R176). -/
def accessRetire (e : Nat) (s : State) : State :=
  if s.seq.scrubEnd.isSome then s
  else match engReqs e s with
    | [] => s
    | r :: _ =>
      if reqOver r then engSettle e s
      else if isKc r then
        if r.waiting = 0 then s
        else retireOne e { r with waiting := r.waiting - 1 } s
      else if r.page = .wanted ∨ engPaused e s then s
      else
        let s' := if pieceOut e r r.next s then reqFault 7 e r s else s
        let r' := { r with next := r.next + 1, reported := r.reported || pieceOut e r r.next s }
        retireOne e r' (movePiece e r r.next s')

/-- The requests of a bundle's two slots are accepted in order (R183); one that makes no access, and that no earlier
request precedes, completes at once (R193, R196). -/
def stmIssue (n pc : Nat) (m0 m1 : SmSlot) (c0 c1 : Option Nat) (s : State) : State :=
  engSettle m1.eng (engSettle m0.eng (stmAccept n pc m1 c1 (stmAccept n pc m0 c0 s)))

/-- The linear address of the page-table entry a request of engine e waits for (R193); none outside its window. -/
def pageEntryAt (e : Nat) (r : StmReq) (s : State) : Option Nat :=
  reach (engStack e) r.plot (dPtBase r.desc + 4 * (r.u0 * dPiece r.desc r.plane / region r.desc r.plane)) 4 s

/-- The page an entry gives: none where it is not valid or cannot be read; all ones for an entry outside the window. -/
def pageGiven (at_ : Option Nat) (s : State) : Page :=
  match at_ with
  | none => .tile 0x7FFFFFFF
  | some a => if hbmBad a 4 s || decide (natLE (hbmData a 4 s) < 0x80000000) then .bad
    else .tile (natLE (hbmData a 4 s) % 0x80000000)

/-- The read of an entry, and the fault of one that cannot be used. -/
def pageRead (e : Nat) (r : StmReq) (at_ : Option Nat) (s : State) : State :=
  match at_ with
  | none => reqFault 7 e r s
  | some a =>
    let s1 := meterAccess 2 r.plot (hbmCheck ⟨some r.plot, e, false⟩ a 4 s)
    if pageGiven (some a) s = .bad then reqFault 8 e r s1 else s1

/-- PAGE_ENTRY_RETURN (R193): the page-table entry of engine e's first request, for an engine makes the accesses of its
requests in acceptance order (R184, R198). -/
def pageReturn (e : Nat) (s : State) : State :=
  if s.seq.scrubEnd.isSome ∨ engPaused e s then s
  else match engReqs e s with
    | [] => s
    | r :: _ =>
      if r.page ≠ .wanted then s
      else
        let at_ := pageEntryAt e r s
        let page := pageGiven at_ s
        retireOne e { r with page := page, reported := r.reported || at_.isNone || page == .bad } (pageRead e r at_ s)

/-- SEGMENT_DECODE (R195): the next segment of engine e's first request. -/
def segmentDecode (e : Nat) (s : State) : State :=
  if s.seq.scrubEnd.isSome ∨ engPaused e s then s
  else match engReqs e s with
    | [] => s
    | r :: _ => if isKc r ∧ !r.faulted ∧ r.decoded < r.len then engSettle e (decodeSegment e r s) else s

/-- End the requests of plot n: their accesses not made, no signal, their positions freed (R410, R433). -/
def endRequests (n : Nat) (s : State) : State :=
  { s with eng := s.eng.filterMap fun (e, rs) =>
      match rs.filter fun r => r.plot != n with
      | [] => none
      | rs' => some (e, rs') }

/-- Requests of plot n still in progress. -/
def openRequests (n : Nat) (s : State) : List (Nat × StmReq) :=
  s.eng.flatMap fun (e, rs) => (rs.filter fun r => r.plot == n).map fun r => (e, r)

/-- STM_ENG_STATUS_e. -/
def engStatus (e : Nat) (s : State) : Nat :=
  let n := (engReqs e s).length
  b2n (n != 0) * 2 ^ 31 + n % 2 ^ 12 * 2 ^ 16 + occ e s

end Sys2Proof.Machine
end

