-- ==== Sys2Proof/Machine/Flags.lean ====
section
/-! DEFINITION. The lane functions of the vector unit: comparisons (R151), minimum and maximum (R47), the reciprocal,
root, exponential and logarithm (R154), shifts and counts (R152), and the reduction tree (R82). -/
namespace Sys2Proof.Machine

/-- Largest r with r² ≤ n and r < 2^k, bit by bit from the top. -/
def isqrt : Nat → Nat → Nat → Nat
  | 0, _, r => r
  | k + 1, n, r => if (r + 2 ^ k) * (r + 2 ^ k) ≤ n then isqrt k n (r + 2 ^ k) else isqrt k n r

/-- VRCP (R154): 1/a, rounded once. -/
def rcpF32 (w : Nat) : Nat :=
  match fromF32 w with
  | .nan => nan32
  | .inf s => b2n s * 2 ^ 31
  | .fin s m e => if m = 0 then b2n s * 2 ^ 31 + 0x7F800000 else roundF32 s 1 m (-e)

/-- VRSQ (R154): 1/√a, rounded once. The root is taken to 64 bits and a sticky bit. -/
def rsqF32 (w : Nat) : Nat :=
  match fromF32 w with
  | .nan => nan32
  | .inf s => if s then nan32 else 0
  | .fin s m e =>
    if m = 0 then b2n s * 2 ^ 31 + 0x7F800000
    else if s then nan32
    else
      -- a = m' · 2^(2h): 1/√a = √(2^200 / m') · 2^(−100 − h)
      let odd := e % 2 != 0
      let m' := if odd then 2 * m else m
      let h := (if odd then e - 1 else e) / 2
      let q := 2 ^ 200 / m'
      let r := isqrt 101 q 0
      let exact := r * r * m' = 2 ^ 200
      roundF32 false (2 * r + (if exact then 0 else 1)) 1 (-101 - h)

/-- 2^f for f = n/2^k in [0, 1), times 2^160, by the product of the roots c = 2^(2^−i) for the bits of f. -/
def pow2Frac : Nat → Nat → Nat → Nat → Nat
  | 0, _, _, acc => acc
  | k + 1, n, c, acc =>
    let c' := isqrt 161 (c * 2 ^ 160) 0
    pow2Frac k n c' (if n.testBit k then acc * c' / 2 ^ 160 else acc)

/-- VEXP2 (R154): 2^a. A non-integer a gives an irrational power, so a sticky bit stands for the rest. -/
def exp2F32 (w : Nat) : Nat :=
  match fromF32 w with
  | .nan => nan32
  | .inf s => if s then 0 else 0x7F800000
  | .fin s m e =>
    if m = 0 then 0x3F800000
    else if flog2 m 1 e < -30 then 0x3F800000
    else if 9 < flog2 m 1 e then (if s then 0 else 0x7F800000)
    else
      -- a = x / 2^60 exactly, since 2^−30 ≤ |a| and a has 24 bits
      let x := scaled s m e (-60)
      let n := x / 2 ^ 60
      let f := (x % 2 ^ 60).toNat
      if f = 0 then roundF32 false 1 1 n
      else
        let y := pow2Frac 60 f (2 * 2 ^ 160) (2 ^ 160)
        roundF32 false (2 * y + 1) 1 (n - 161)

/-- `k` bits of log₂ of x/2^320 in [1, 2), by squaring. -/
def log2Frac : Nat → Nat → Nat → Nat
  | 0, _, acc => acc
  | k + 1, x, acc =>
    let y := x * x / 2 ^ 320
    if 2 ^ 321 ≤ y then log2Frac k (y / 2) (2 * acc + 1) else log2Frac k y (2 * acc)

/-- VLOG2 (R154). Only a power of two has a rational logarithm, so a sticky bit stands for the rest. -/
def log2F32 (w : Nat) : Nat :=
  match fromF32 w with
  | .nan => nan32
  | .inf s => if s then nan32 else 0x7F800000
  | .fin s m e =>
    if m = 0 then 0xFF800000
    else if s then nan32
    else
      let k := Nat.log2 m
      let x := m * 2 ^ (320 - k)
      let n : Int := k + e
      if m = 2 ^ k then (if n = 0 then 0 else roundF32 (decide (n < 0)) n.natAbs 1 0)
      else
        let v : Int := 2 * (n * 2 ^ 128 + (log2Frac 128 x 0 : Int)) + 1
        roundF32 (decide (v < 0)) v.natAbs 1 (-129)

/-- Two's-complement 32-bit word of an integer. -/
def wrap32 (x : Int) : Nat := unsigned 32 x

/-- VCMP of one lane (R151). -/
def cmpLane (int : Bool) (how a b : Nat) : Bool :=
  if int then
    let x := signed 32 a
    let y := signed 32 b
    match how with
    | 0 => x = y
    | 1 => x ≠ y
    | 2 => x < y
    | 3 => x ≤ y
    | 4 => x > y
    | _ => x ≥ y
  else
    let x := fromF32 a
    let y := fromF32 b
    if isNan x || isNan y then how == 1
    else
      let c := fcmp x y
      match how with
      | 0 => c = 0
      | 1 => c ≠ 0
      | 2 => c < 0
      | 3 => c ≤ 0
      | 4 => c > 0
      | _ => c ≥ 0

/-- Combine two values of a reduction (R82, R160): 0 sum, 1 maximum, 2 minimum. -/
def combine (int : Bool) (how a b : Nat) : Nat :=
  if int then
    match how with
    | 0 => (a + b) % 2 ^ 32
    | 1 => if signed 32 a < signed 32 b then b else a
    | _ => if signed 32 b < signed 32 a then b else a
  else
    match how with
    | 0 => addF32 a b
    | 1 => minMaxF32 true a b
    | _ => minMaxF32 false a b

/-- One round of the pairwise tree (R82). -/
def treeStep (f : Nat → Nat → Nat) : List Nat → List Nat
  | a :: b :: xs => f a b :: treeStep f xs
  | xs => xs

/-- The pairwise tree over 2^k values (R82). -/
def treeReduce (f : Nat → Nat → Nat) : Nat → List Nat → Nat
  | 0, xs => xs.headD 0
  | k + 1, xs => treeReduce f k (treeStep f xs)

/-- Lane function of the arithmetic and logic opcodes with lane sources a, b, c (R150, R152). -/
def laneOp (op : Nat) (int : Bool) (m a b c imm : Nat) : Nat :=
  match op with
  | 0x01 => if int then (a + b) % 2 ^ 32 else addF32 a b
  | 0x02 => if int then wrap32 ((a : Int) - b) else subF32 a b
  | 0x03 => if int then a * b % 2 ^ 32 else mulF32 a b
  | 0x04 => fmaF32 a b c
  | 0x05 => if int then combine true 1 a b else minMaxF32 true a b
  | 0x06 => if int then combine true 2 a b else minMaxF32 false a b
  | 0x07 => if int then wrap32 (signed 32 a).natAbs else if isNan (fromF32 a) then nan32 else a % 2 ^ 31
  | 0x08 => if int then wrap32 (-(signed 32 a)) else if isNan (fromF32 a) then nan32 else Nat.xor a (2 ^ 31)
  | 0x09 => rcpF32 a
  | 0x0A => rsqF32 a
  | 0x0B => exp2F32 a
  | 0x0C => log2F32 a
  | 0x0F => b      -- VMOV: the caller gives a, or IMM with BIMM, as b
  | 0x10 => Nat.land a b
  | 0x11 => Nat.lor a b
  | 0x12 => Nat.xor a b
  | 0x13 =>
    let k := imm % 32
    match m % 4 with
    | 0 => a * 2 ^ k % 2 ^ 32
    | 1 => a / 2 ^ k
    | _ => wrap32 (signed 32 a / 2 ^ k)
  | _ => a

/-- Number of 1 bits among the low `n` bits. -/
def popcount : Nat → Nat → Nat
  | 0, _ => 0
  | n + 1, x => popcount n x + b2n (x.testBit n)

/-- Latency in issue cycles of a vector opcode (R150). -/
def vxLatency (op : Nat) (int : Bool) : Nat :=
  match op with
  | 0x01 | 0x02 | 0x05 | 0x06 | 0x07 | 0x08 => if int then 1 else 2
  | 0x03 => 2
  | 0x04 => 4
  | 0x09 | 0x0A | 0x0B | 0x0C => 8
  | 0x1E => 2
  | 0x1F => 6
  | 0x14 => 3
  | 0x15 | 0x16 => 6
  | 0x17 => 4
  | 0x18 => 3
  | _ => 1

end Sys2Proof.Machine
end

