-- ==== Sys2Proof/Machine/Vector.lean ====
section
/-! DEFINITION. The vector slots (05_compute_ops.md R148–R162), the core opcodes of the scalar/control slot (R163) and
the SRAM load/store slots (R164, R165, R73–R75). Each reads its operands as they stand at the start of the issue cycle
(R100) and sends its results on their way. -/
namespace Sys2Proof.Machine

/-- The modifier bits of R148. -/
def modInt (m : Nat) : Bool := bit m 5
def modBimm (m : Nat) : Bool := bit m 4
def modNp (m : Nat) : Bool := bit m 3

/-- Lanes an opcode writes (R149): those PRED selects, or with NP those it clears. -/
def selLanes (v : VxSlot) (c : Nat) (s : State) : Nat :=
  let p := readP c v.pred s
  let np := match v.op with
    | 0x14 | 0x15 | 0x16 | 0x17 | 0x18 | 0x19 | 0x1A | 0x1B | 0x1C | 0x1D | 0x22 => false
    | _ => modNp v.mod
  if np then 2 ^ 64 - 1 - p else p

/-- Is the slot a stochastic conversion (R51)? -/
def isSr (v : VxSlot) : Bool := (v.op == 0x14 || v.op == 0x15 || v.op == 0x16) && v.mod % 2 == 1

/-- Element type of VQMX (R156). -/
def qmxElem (m : Nat) : Elem :=
  match m / 2 % 8 with
  | 0 => .e2m1
  | 1 => .e2m3
  | 2 => .e3m2
  | 3 => .e4m3
  | 4 => .e5m2
  | _ => .int8

/-- Chunk bytes of an element type (R139). -/
def elemChunk (t : Elem) : Nat := if (elemP t).width = 4 then 32 else 64

/-- One write of a vector slot in one core: destination, byte (or bit) mask and value. -/
abbrev VWrite := Dest × Nat × Nat

/-- Byte mask of `n` bytes from byte `i`. -/
def byteMask (i n : Nat) : Nat := (2 ^ n - 1) * 2 ^ i

/-- Pack a conversion: chunk at byte `cp`, scales at byte `sp` (R156). -/
def quantWrites (v : VxSlot) (chunk scales : List Byte) (cp sp : Nat) : List VWrite :=
  [(.v v.vd, byteMask cp chunk.length, natLE chunk * 2 ^ (8 * cp)),
   (.v v.vc, byteMask sp scales.length, natLE scales * 2 ^ (8 * sp))]

/-- Split a list into groups of n. -/
def groups {α : Type} (n : Nat) : Nat → List α → List (List α)
  | 0, _ => []
  | k + 1, xs => xs.take n :: groups n k (xs.drop n)

/-- The writes of a vector slot in a core it acts in, the bus and shift opcodes apart (R150–R160). `rms` is the
rounding of each lane of a conversion. A BF16 NaN that VCVT widens keeps its payload (R53 over R46, DEDUCED, log entry
7). -/
def vxWrites (v : VxSlot) (c : Nat) (rms : List Rnd) (s : State) : List VWrite :=
  let va := readV c v.va s
  let a := lanes va
  let int := modInt v.mod
  let sel := selLanes v c s
  let b := if modBimm v.mod then List.replicate 64 v.imm else lanes (readV c v.vb s)
  let out (xs : List Nat) : List VWrite := [(.v v.vd, laneBytes sel, ofLanes xs)]
  match v.op with
  | 0x0D => [(.p v.pd, sel, (List.zipWith (cmpLane int (v.mod % 8)) a b).foldr (fun x acc => 2 * acc + b2n x) 0)]
  | 0x0E =>
    let p := readP c (v.mod % 8) s
    out ((List.range 64).map fun l => if p.testBit l then a.getD l 0 else b.getD l 0)
  | 0x0F => out (if modBimm v.mod then b else a)
  | 0x14 =>
    let h := v.mod / 4 % 2
    if v.mod / 2 % 2 = 0 then
      let xs := List.zipWith (fun x r => toBf16 r x) a rms
      [(.v v.vd, byteMask (128 * h) 128, natLE (packElems 16 xs) * 2 ^ (1024 * h))]
    else out ((List.range 64).map fun l => va / 2 ^ (1024 * h + 16 * l) % 2 ^ 16 * 2 ^ 16)
  | 0x15 =>
    let t := qmxElem v.mod
    let cb := elemChunk t
    let bl := List.zipWith (mxEncode t) (groups 32 2 rms) (groups 32 2 a)
    let chunk := packElems (elemP t).width (bl.flatMap (·.2))
    let r := v.imm % 64
    quantWrites v (chunk ++ List.replicate (cb - chunk.length) 0) (bl.map fun x => BitVec.ofNat 8 x.1)
      (cb * (r % (256 / cb))) (128 * (v.imm / 64 % 2) + 2 * r)
  | 0x16 =>
    let rs := readV c v.vb s % 2 ^ 32
    let bl := List.zipWith (fun rm x => kb4Encode rm rs x) (groups 16 4 rms) (groups 16 4 a)
    let r := v.imm % 64
    quantWrites v (packElems 4 (bl.flatMap (·.2))) (bl.map fun x => BitVec.ofNat 8 x.1) (32 * (r % 8)) (4 * r)
  | 0x17 =>
    let f := v.mod % 16
    let t := fmtElem f
    let cb := elemChunk t
    let r := v.imm % 64
    let chunk := bytesLE cb (va / 2 ^ (8 * (cb * (r % (256 / cb)))))
    let sc := readV c v.vb s
    if f = 7 then
      let rs := readV c v.vc s % 2 ^ 32
      out ((List.range 64).map fun l =>
        kb4Decode (sc / 2 ^ (8 * (4 * r + l / 16)) % 256) rs (unpackElem 4 chunk l))
    else out ((List.range 64).map fun l =>
      mxDecode t (sc / 2 ^ (8 * (128 * (v.imm / 64 % 2) + 2 * r + l / 32)) % 256)
        (unpackElem (elemP t).width chunk l))
  | 0x18 => [(.v v.vd, laneBytes sel, readAcc c (v.mod % 2) (v.imm % 64) s)]
  | 0x1E => out ((List.range 64).map fun l => a.getD ((l + v.imm % 64) % 64) 0)
  | 0x1F => out (List.replicate 64 (treeReduce (combine int (v.mod % 4)) 6 a))
  | 0x20 => out (List.replicate 64 (popcount 64 (readP c (v.mod % 8) s)))
  | 0x21 => out ((List.range 64).map fun l => (l + v.imm) % 2 ^ 32)
  | 0x22 => []
  | _ =>
    let cc := lanes (readV c v.vc s)
    out ((List.range 64).map fun l =>
      laneOp v.op int (v.mod % 8) (a.getD l 0) (b.getD l 0) (cc.getD l 0) v.imm)

/-- Is the opcode one of the movement opcodes, which VSHIFT and the buses carry out? -/
def isMove (op : Nat) : Bool := 0x19 ≤ op && op ≤ 0x1D

/-- Rounding of each lane of core c for a conversion of slot k, with the other slot stochastic too or not (R158). -/
def laneRnds (v : VxSlot) (second : Bool) (c : Nat) (s : State) : List Rnd :=
  if isSr v then (gens c s).map fun g => .sr (if second then lfsrStep g else g) else List.replicate 64 .rne

/-- Send the writes of slot k in the selected cores, grouped by destination. -/
def vxSend (k : Nat) (v : VxSlot) (second : Bool) (sel : List Nat) (s : State) : State :=
  let ws := sel.map fun c => (c, vxWrites v c (laneRnds v second c s) s)
  let lat := vxLatency v.op (modInt v.mod)
  let pick (i : Nat) : List (Nat × VWrite) := ws.filterMap fun (c, l) => (l[i]?).map fun w => (c, w)
  let one (i : Nat) (s : State) : State :=
    match pick i with
    | [] => s
    | (c, w) :: rest => sendPend
        ⟨s.seq.ic + lat, 1 - k, s.seq.ic, k, w.1,
          ((c, w) :: rest).map fun (c, w) => (c, BitVec.ofNat 256 w.2.1, BitVec.ofNat 2048 w.2.2)⟩ s
  one 1 (one 0 s)

/-- Send a movement's result to cores: all at one latency. -/
def moveSend (k rank lat : Nat) (d : Dest) (vals : List (Nat × Nat × Nat)) (s : State) : State :=
  if vals.isEmpty then s
  else sendPend ⟨s.seq.ic + lat, rank, s.seq.ic, k, d,
    vals.map fun (c, m, x) => (c, BitVec.ofNat 256 m, BitVec.ofNat 2048 x)⟩ s

/-- The core a shift in direction d (0 north, 1 south, 2 east, 3 west) brings core c its value from (R79, R80). -/
def shiftFrom (d c : Nat) : Option Nat :=
  match d with
  | 0 => if coreRow c = 31 then none else some (c + 32)
  | 1 => if coreRow c = 0 then none else some (c - 32)
  | 2 => if coreCol c = 0 then none else some (c - 1)
  | _ => if coreCol c = 31 then none else some (c + 1)

/-- The flat row that receives across the seam (R85), for a shift north or south. -/
def seamRow (d : Nat) : Nat := if d = 0 then 15 else if d = 1 then 16 else 32

/-- Errors a shift in direction d meets at the bridge (R84, R445): column, 64-bit word, bits; BRIDGE_2 first. -/
def bridgeHits (d : Nat) (s : State) : List (Nat × Nat × Nat) :=
  if 2 ≤ d then []
  else (if injArmed 5 s then [(injTarget s % 32, 0, 2)] else []) ++ s.cores.bridge

/-- A crossing vector with its double-bit errors delivered as two lanes of 0x7FC0_0000 each (R84). -/
def bridgeBlend (hits : List (Nat × Nat × Nat)) (col x : Nat) : Nat :=
  (hits.filter fun h => h.1 == col && h.2.2 == 2).foldl
    (fun x h => blend ((2 ^ 64 - 1) * 2 ^ (64 * h.2.1)) ((nan32 + nan32 * 2 ^ 32) * 2 ^ (64 * h.2.1)) x) x

/-- An error of the bridge is counted; a double-bit error is reported with the receiving core (R84), one that the core mask
leaves out too, for the word has crossed (DESIGN CHOICE, log entry 19). -/
def bridgeReport (row : Nat) (h : Nat × Nat × Nat) (s : State) : State :=
  if h.2.2 = 2 then
    let s := bump SEQ_BRIDGE_ERR_UE_COUNT 1 s
    match runPlot s with
    | some p => plotFault p 2 2 (32 * row + h.1) 0 s
    | none => s
  else bump SEQ_BRIDGE_ERR_CE_COUNT 1 s

/-- The errors of the cycle have met a crossing vector: reported with the row that receives, and spent (log entry 19). -/
def bridgeSpend (row : Nat) (hits : List (Nat × Nat × Nat)) (s : State) : State :=
  { forAll (bridgeReport row) hits s with cores := { s.cores with bridge := [] } }

/-- VSHIFT (R79, R80, R160): latency 2, and 5 in the row that receives across the seam (R85). -/
def vxShift (k : Nat) (v : VxSlot) (sel : List Nat) (s : State) : State :=
  let d := v.mod % 4
  let hits := bridgeHits d s
  let val (c : Nat) : Nat :=
    let x := match shiftFrom d c with
      | some c' => readV c' v.va s
      | none => 0
    if coreRow c = seamRow d then bridgeBlend hits (coreCol c) x else x
  let vals := sel.map fun c => (c, laneBytes (readP c v.pred s), val c)
  let s := moveSend k 5 2 (.v v.vd) (vals.filter fun x => coreRow x.1 != seamRow d) s
  let s := moveSend k 5 5 (.v v.vd) (vals.filter fun x => coreRow x.1 == seamRow d) s
  if d < 2 then
    let s := bridgeSpend (seamRow d) hits s
    if injArmed 5 s then injConsume s else s
  else s

/-- Does a bus whose last operation was accepted in issue cycle `last` accept one in cycle `c` (R162)? -/
def busFree (last : Option Nat) (c : Nat) : Bool :=
  match last with
  | none => true
  | some l => l + 4 ≤ c

/-- Cores of the bus that core c lies on (R81), in increasing order of position. -/
def busCores (row both : Bool) (c : Nat) : List Nat :=
  if row then (List.range 32).map fun j => 32 * coreRow c + j
  else if both then (List.range 32).map fun r => 32 * r + coreCol c
  else (List.range 16).map fun r => 32 * (16 * coreDie c + r) + coreCol c

/-- What a core supplies to a reduction: its register, or the identity of R82 where the mask leaves it out. -/
def busInput (v : VxSlot) (sel : List Nat) (s : State) (c : Nat) : List Nat :=
  if sel.contains c then lanes (readV c v.va s)
  else List.replicate 64 (if v.mod % 4 = 0 then 0x80000000 else nan32)

/-- Reduction of one bus, lane by lane (R82). -/
def busReduce (v : VxSlot) (k : Nat) (xs : List (List Nat)) : List Nat :=
  (List.range 64).map fun l => treeReduce (combine false (v.mod % 4)) k (xs.map fun x => x.getD l 0)

/-- Reduction of the bus of one column over both dies: die A's partial result crosses the bridge to die B, where an error
meets it (R82–R84; which partial crosses is a DESIGN CHOICE, log entry 19). -/
def busReduceBoth (v : VxSlot) (hits : List (Nat × Nat × Nat)) (col : Nat) (xs : List (List Nat)) : List Nat :=
  let a := bridgeBlend hits col (ofLanes (busReduce v 4 (xs.take 16)))
  busReduce v 1 [lanes a, busReduce v 4 (xs.drop 16)]

/-- The bus opcodes (R81, R82, R85, R161), where the bus accepts the operation; else BUS_BUSY (R162). -/
def vxBus (k : Nat) (v : VxSlot) (sel : List Nat) (s : State) : State :=
  let row := v.op == 0x1A || v.op == 0x1B
  let both := bit v.mod 2
  let last := if row then s.cores.rowBus else s.cores.colBus
  if !busFree last s.seq.ic then hazard 5 s
  else
    let s := { s with cores := if row then { s.cores with rowBus := some s.seq.ic }
                               else { s.cores with colBus := some s.seq.ic } }
    let lat := match v.op with
      | 0x1A => 6
      | 0x1B => 36
      | 0x1C => if both then 11 else 8
      | _ => if both then 60 else 52
    let mask (c : Nat) : Nat := readP c v.pred s
    let cross := !row && both
    let hits := if cross then s.cores.bridge else []
    -- the die that receives across the seam: the other than a broadcast's source, die B for a reduction
    let into := if v.op = 0x1C ∧ 16 ≤ v.imm % 32 then 0 else 1
    let spend (s : State) : State := if cross then bridgeSpend (15 + into) hits s else s
    if v.op = 0x1A ∨ v.op = 0x1C then
      let src (c : Nat) : Nat :=
        if row then 32 * coreRow c + v.imm % 32
        else if both then 32 * (v.imm % 32) + coreCol c
        else 32 * (16 * coreDie c + v.imm % 16) + coreCol c
      let val (c : Nat) : Nat :=
        if cross && coreDie c == into then bridgeBlend hits (coreCol c) (readV (src c) v.va s) else readV (src c) v.va s
      spend (moveSend k 4 lat (.v v.vd) (sel.map fun c => (c, laneBytes (mask c), val c)) s)
    else
      -- one reduction per bus; the bus of core c is named by its first core
      let heads := (sel.map fun c => (busCores row both c).headD 0).eraseDups
      let res := heads.map fun h =>
        let xs := (busCores row both h).map (busInput v sel s)
        (h, if cross then busReduceBoth v hits (coreCol h) xs else busReduce v (if row then 5 else 4) xs)
      let of (c : Nat) : List Nat := ((res.find? fun x => x.1 = (busCores row both c).headD 0).map (·.2)).getD []
      let s' := spend (moveSend k 4 lat (.v v.vd) (sel.map fun c => (c, laneBytes (mask c), ofLanes (of c))) s)
      if bit v.mod 3 then
        moveSend k 4 lat (.p v.pd) (sel.map fun c =>
          (c, mask c, (of c).foldr (fun x acc => 2 * acc + b2n (cmpLane false 5 x v.imm)) 0)) s'
      else s'

/-- Vector slot k issues in the selected cores. -/
def vxIssue (k : Nat) (v : VxSlot) (second : Bool) (sel : List Nat) (s : State) : State :=
  if v.op = 0 then s
  else if v.op = 0x19 then vxShift k v sel s
  else if isMove v.op then vxBus k v sel s
  else vxSend k v second sel s

/-- Generators after a bundle (R51, R158, R159): one step for each stochastic slot in every core, then the seeds of
VSEED in the selected cores, slot 1's standing over slot 0's. -/
def genStep (v0 v1 : VxSlot) (sel : List Nat) (s : State) : State :=
  let n := b2n (isSr v0) + b2n (isSr v1)
  let s' := if n = 0 then s
    else forAll (fun c t => setGens c ((gens c s).map fun g => if n = 2 then lfsrStep (lfsrStep g) else lfsrStep g) t)
      (List.range 1024) s
  let seed (v : VxSlot) (s : State) : State :=
    if v.op = 0x22 then
      forAll (fun c => setGens c ((List.range 64).map (seedState (v.imm % 2 ^ 16) c))) sel s
    else s
  seed v1 (seed v0 s')

/-! ### Scalar core opcodes (R163) -/

/-- Value of a core opcode of the scalar/control slot in core c; ALC reads the loop counter (R119). -/
def ctlValue (t : CtlSlot) (c : Nat) (s : State) : Nat :=
  let a := readA c t.as s
  let b := readA c t.at_ s
  let i := signed 24 t.imm
  match t.op with
  | 1 => unsigned 32 i
  | 2 => unsigned 32 (a + i)
  | 3 => (a + b) % 2 ^ 32
  | 4 => unsigned 32 ((a : Int) - b)
  | 5 => unsigned 32 (a * i)
  | 6 => a * 2 ^ (t.imm % 32) % 2 ^ 32
  | 7 => a / 2 ^ (t.imm % 32)
  | 8 => Nat.land a t.imm
  | _ => match s.seq.run with
    | some r => get 0 t.lvl r.lc % 2 ^ 32
    | none => 0

/-- Send an address register write with latency 1 at a place of R117. -/
def aSend (rank d : Nat) (sel : List Nat) (f : Nat → Nat) (s : State) : State :=
  moveSend 0 rank 1 (.a d) (sel.map fun c => (c, 0, f c)) s

/-- The scalar/control slot's core opcodes (R106, R163). -/
def ctlCore (t : CtlSlot) (sel : List Nat) (s : State) : State :=
  if 1 ≤ t.op ∧ t.op ≤ 9 then aSend 0 t.ad sel (fun c => ctlValue t c s) s else s

/-! ### SRAM load/store slots (R164, R165) -/

/-- Address of a slot's access in core c (R138). -/
def lsAddr (l : LsSlot) (c : Nat) (s : State) : Nat := (readA c l.areg s + l.ofs) % 2 ^ 32

/-- Is the access within the SRAM (R72, R73)? -/
def lsIn (l : LsSlot) (c : Nat) (s : State) : Bool := l.op != 0 && decide (lsAddr l c s < 2 ^ 19)

/-- Bank of the access. -/
def lsBank (l : LsSlot) (c : Nat) (s : State) : Nat := lsAddr l c s / 2 ^ 16

/-- The accesses of slots 0 and 1 that core c loses to a bank conflict (R75): matrix fetch first, then slot 0. -/
def lsLost (l0 l1 : LsSlot) (c : Nat) (s : State) : Bool × Bool :=
  let m := fetchBank s.seq.ic c s
  let lost0 := lsIn l0 c s && m == some (lsBank l0 c s)
  let lost1 := lsIn l1 c s && (m == some (lsBank l1 c s) || (lsIn l0 c s && lsBank l0 c s == lsBank l1 c s))
  (lost0, lost1)

/-- Faults of the two slots' accesses in core c (R73, R75). Where both lose one bank to the matrix fetch of the cycle, each
loss is counted, and one core fault names them both (DESIGN CHOICE, log entry 16). -/
def lsFaults (l0 l1 : LsSlot) (c : Nat) (s : State) : State :=
  let (x0, x1) := lsLost l0 l1 c s
  let bad (l : LsSlot) (t : State) : State := if l.op != 0 && !lsIn l c s then addrFault c t else t
  let conflict (b : Nat) (f0 f1 : Bool) (t : State) : State :=
    let t := bump SEQ_BANK_CONFLICT_COUNT_COUNT (b2n f0 + b2n f1) t
    coreFault 3 c (holdFirst SEQ_BANK_CONFLICT_LOC_VALID
      [(SEQ_BANK_CONFLICT_LOC_SLOT1_LOST, b2n f1), (SEQ_BANK_CONFLICT_LOC_SLOT0_LOST, b2n f0),
       (SEQ_BANK_CONFLICT_LOC_CORE, c), (SEQ_BANK_CONFLICT_LOC_BANK, b)] t)
  let t := bad l1 (bad l0 s)
  if x0 && x1 && lsBank l0 c s == lsBank l1 c s then conflict (lsBank l0 c s) true true t
  else
    let t := if x0 then conflict (lsBank l0 c s) true false t else t
    if x1 then conflict (lsBank l1 c s) false true t else t

/-- A load's value and destination in core c (R164). -/
def lsLoad (l : LsSlot) (c : Nat) (s : State) : Nat × Nat :=
  let ad := lsAddr l c s
  let p := readP c l.pred s
  match l.op with
  | 1 => (laneBytes p, sramLine c (ad / 256) s)
  | 3 =>
    let w := natLE (sramRead c (ad / 8 * 8) 1 s) / 2 ^ (32 * (ad / 4 % 2)) % 2 ^ 32
    (laneBytes p, ofLanes (List.replicate 64 w))
  | _ => (p, natLE (sramRead c (ad / 8 * 8) 1 s))

/-- Words of SRAM an access reads: first byte address and number of 64-bit words. -/
def lsSpan (l : LsSlot) (ad : Nat) : Nat × Nat := if l.op ≤ 2 then (ad / 256 * 256, 32) else (ad / 8 * 8, 1)

/-- A store in core c (R164): whole lanes of the line, or eight bytes of a predicate. Values are those of `s0`, the
start of the cycle. -/
def lsStore (l : LsSlot) (c : Nat) (s0 s : State) : State :=
  let ad := lsAddr l c s0
  if l.op = 2 then
    let ln := ad / 256
    let x := readV c l.vr s0
    let p := readP c l.pred s0
    let s := forAll (fun i s =>
      if p.testBit i then sramStore c (256 * ln + 4 * i) (bytesLE 4 (x / 2 ^ (32 * i))) s else s) (List.range 64) s
    if p = 0 then s else injSram c ln s
  else injSram c (ad / 256) (sramStore c (ad / 8 * 8) (bytesLE 8 (readP c (l.vr % 8) s0)) s)

/-- Load and post-increment of slot k in the selected cores (R112, R164, R165). -/
def lsLoads (k : Nat) (l : LsSlot) (ok : Nat → Bool) (sel : List Nat) (s : State) : State :=
  if l.op = 0 then s
  else
    let s' := if l.op = 1 ∨ l.op = 3 ∨ l.op = 4 then
        let d : Dest := if l.op = 4 then .p (l.vr % 8) else .v l.vr
        let cs := sel.filter ok
        let vals := cs.map fun c => (c, lsLoad l c s)
        let t := moveSend k (3 - k) 4 d vals s
        forAll (fun c => sramCheck (runPlot s) c (lsSpan l (lsAddr l c s)).1 (lsSpan l (lsAddr l c s)).2) cs t
      else s
    if l.areg = 0 then s'
    else aSend (2 - k) l.areg sel (fun c => unsigned 32 (readA c l.areg s + signed 16 l.postinc)) s'

/-- Both SRAM slots issue (R73–R75, R164, R165): loads read before the stores of the same cycle land. -/
def lsIssue (l0 l1 : LsSlot) (sel : List Nat) (s : State) : State :=
  if l0.op = 0 ∧ l1.op = 0 then s
  else
    let lost := sel.map fun c => (c, lsLost l0 l1 c s)
    let of (c : Nat) : Bool × Bool := ((lost.find? fun x => x.1 = c).map (·.2)).getD (false, false)
    let ok0 (c : Nat) : Bool := lsIn l0 c s && !(of c).1
    let ok1 (c : Nat) : Bool := lsIn l1 c s && !(of c).2
    let t := forAll (fun c => lsFaults l0 l1 c) sel s
    let t := lsLoads 1 l1 ok1 sel (lsLoads 0 l0 ok0 sel t)
    let store (l : LsSlot) (ok : Nat → Bool) (t : State) : State :=
      if l.op = 2 ∨ l.op = 5 then forAll (fun c t => if ok c then lsStore l c s t else t) sel t else t
    store l1 ok1 (store l0 ok0 t)

end Sys2Proof.Machine
end

