-- ==== Sys2Proof/Machine/Loader.lean ====
section
/-! DEFINITION. Program loads (04_bundle_format.md R127–R130, R136), descriptor loads (06_stream_memory.md R185–R187)
and what makes a plot runnable (R131, R211, R390, R407). A load reads and checks its bytes at the command that ends
it. -/
namespace Sys2Proof.Machine

/-- Change the sequencer. -/
def onSeq (f : Seq → Seq) (s : State) : State := { s with seq := f s.seq }

/-- The loaded image of plot n, if it holds a valid one. -/
def imageOf (n : Nat) (s : State) : Option Image := get none n s.seq.image

/-- Invalidate the loaded image of plot n (R128, R129, R405). -/
def dropImage (n : Nat) (s : State) : State := onSeq (fun q => { q with image := put none n none q.image }) s

/-- First bundle and size in bundles of plot n's store region (R128). -/
def storeRegion (n : Nat) (s : State) : Option (Nat × Nat) :=
  let lo := fld (SEQ_ISR_BASE n) s
  let hi := fld (SEQ_ISR_LIMIT n) s
  if flag (SEQ_ISR_VALID n) s ∧ lo ≤ hi then some (64 * lo, 64 * (hi + 1 - lo)) else none

/-- Does plot n's store region overlap another plot's valid region (R132)? -/
def storeOverlap (n base size : Nat) (s : State) : Bool :=
  (List.range 16).any fun m => m != n && match storeRegion m s with
    | some (b, k) => decide (b < base + size) && decide (base < b + k)
    | none => false

/-- Is a program load or a descriptor load of plot n in progress? -/
def loadsProgram (n : Nat) (s : State) : Bool := s.seq.load.any fun l => l.plot == n
def loadsDesc (n : Nat) (s : State) : Bool := s.dload.any fun l => l.plot == n

/-! ### Program loads -/

/-- Where a load that reads its image ends: after the header, or at the image's end (R130). -/
inductive LoadEnd where
  | header (reason : Nat)
  | full (reason bad : Nat) (image : Option Image)

/-- Reserved header bytes, IMG_VER and FLAGS (R130). -/
def versionOk (h : List Byte) : Bool :=
  leAt h 4 2 == 1 && leAt h 6 2 == 0 && leAt h 0x18 8 == 0 && leAt h 0x98 104 == 0

/-- The bundles of a body. -/
def bundlesOf : Nat → List Byte → List Nat
  | 0, _ => []
  | n + 1, bs => natLE (bs.take 128) :: bundlesOf n (bs.drop 128)

/-- The first bundle that breaks a rule, and whether it breaks a field rule (R126, R130). -/
def badBundle (prog : List Nat) : Option (Nat × Bool) :=
  let ls := loopsOf prog
  ((enum 0 prog).find? fun p => !(bundleOk p.2 && structOk prog.length ls p.1 p.2)).map fun p => (p.1, !bundleOk p.2)

/-- The image a good header and body give. -/
def mkImage (h : List Byte) : Image :=
  ⟨leAt h 0x0C 4, leAt h 8 4,
    (List.range 15).map fun i => (BitVec.ofNat 32 (leAt h (0x20 + 8 * i) 4), BitVec.ofNat 32 (leAt h (0x24 + 8 * i) 4)),
    BitVec.ofNat 32 (leAt h 0x14 4), BitVec.ofNat 32 (leAt h 0x10 4)⟩

/-- The bytes of plot n's window at an address as a loader receives them. -/
def imageBytes (n addr : Nat) (h : List Byte) (s : State) : List Byte :=
  windowData none n (addr + 256) (128 * leAt h 8 4) s

/-- The first reason of R130 found before any read, codes of SEQ_LOAD_STATUS; 0 none. -/
def earlyReason (n addr : Nat) (s : State) : Nat :=
  match storeRegion n s with
  | none => 9
  | some (base, size) =>
    if storeOverlap n base size s then 9
    else if flag SEQ_CORE_STATUS_DEGRADED s || anyFailed s then 8
    else if addr % 256 ≠ 0 ∨ window n addr 256 s = none then 10
    else 0

/-- The first later reason of R130 that refuses a load, codes of SEQ_LOAD_STATUS, with what it found. -/
def judgeLoad (n addr : Nat) (s : State) : LoadEnd :=
  let size := ((storeRegion n s).getD (0, 0)).2
  let h := windowData none n addr 256 s
  let count := leAt h 8 4
  let entry := leAt h 0x0C 4
  if window n addr (256 + 128 * count) s = none then .header 10
  else if leAt h 0 4 ≠ 0x4B454C31 then .header 1
  else if !versionOk h then .header 2
  else if count = 0 ∨ size < count then .header 3
  else if count ≤ entry then .header 4
  else
    let body := imageBytes n addr h s
    let prog := bundlesOf count body
    if !(containing (loopsOf prog) entry).isEmpty then .full 4 0 none
    else match badBundle prog with
      | some (i, field) => .full (if field then 6 else 7) i none
      | none =>
        if windowBad none n addr (256 + 128 * count) s then .full 11 0 none
        else if crc32 body ≠ leAt h 0x10 4 then .full 5 0 none
        else .full 0 0 (some (mkImage h))

/-- Write a program into the store from bundle `base` (R129): its words are correct again. -/
def storeProgram (base : Nat) (prog : List Nat) (s : State) : State :=
  onSeq (fun q => { q with
    store := putRange 0 base (prog.map (BitVec.ofNat 1024)) q.store
    storeErr := clearRange (16 * base) (16 * prog.length) q.storeErr }) s

/-- Start a program load of plot n (R129): the image it holds is invalid from here on. REGION, DEGRADED and the header's
WINDOW are judged now, before any read (R130). -/
def loadStart (n addr : Nat) (cmd : Option (Nat × Nat × Nat)) (s : State) : State :=
  onSeq (fun q => { q with load := some ⟨n, addr, cmd, earlyReason n addr s⟩ }) (dropImage n s)

/-- Does a load's stack pause to recalibrate, so that it serves no access (R176)? -/
def loadPaused (l : Load) (s : State) : Bool :=
  l.early == 0 && decide (l.addr < 2 ^ 39) && flag (HBM_STACK_STATUS_RECAL (l.addr / 2 ^ 36)) s

/-- Record the end of a load in SEQ_LOAD_STATUS. -/
def loadStatus (reason bad : Nat) (s : State) : State :=
  irq 18 (raise (if reason = 0 then SEQ_LOAD_STATUS_DONE else SEQ_LOAD_STATUS_REFUSED) 1 (setFlds
    [(SEQ_LOAD_STATUS_DONE, 0), (SEQ_LOAD_STATUS_REFUSED, 0), (SEQ_LOAD_STATUS_REASON, reason), (SEQ_LOAD_STATUS_BAD_INDEX, bad)] s))

/-- A load's reads and its image, and how it ends: reason, BAD_INDEX, and the state after. -/
def loadRun (l : Load) (s : State) : Nat × Nat × State :=
  let acc : HAcc := ⟨some l.plot, 0, true⟩
  let h := windowData none l.plot l.addr 256 s
  if l.early ≠ 0 then (l.early, 0, s)
  else match judgeLoad l.plot l.addr s with
    | .header r => (r, 0, windowRead none acc l.plot l.addr 256 s)
    | .full r i img =>
      let prog := bundlesOf (leAt h 8 4) (imageBytes l.plot l.addr h s)
      let base := ((storeRegion l.plot s).getD (0, 0)).1
      let s := windowRead none acc l.plot l.addr (256 + 128 * leAt h 8 4) s
      (r, i, onSeq (fun q => { q with image := put none l.plot img q.image }) (storeProgram base prog s))

/-- LOAD_END (R129, R130): the load in progress ends with DONE or with REFUSED and its reason. In isolation mode only
within the plot's slice (R415), and not while its stack pauses (R176). -/
def loadEnd (s : State) : State :=
  match s.seq.load with
  | none => s
  | some l =>
    if !isoWindow l.plot s || loadPaused l s then s
    else
      let (reason, bad, s) := loadRun l (onSeq (fun q => { q with load := none }) s)
      let s := loadStatus reason bad s
      if reason = 0 then completeCmd l.cmd stOK 0 0 s else completeCmd l.cmd stRefused reason 0 s

/-! ### Descriptor loads (R186) -/

/-- First descriptor and number of descriptors of plot n's region (R185). -/
def descRegion (n : Nat) (s : State) : Option (Nat × Nat) :=
  let lo := fld (STM_DSR_BASE n) s
  let hi := fld (STM_DSR_LIMIT n) s
  if flag (STM_DSR_VALID n) s ∧ lo ≤ hi then some (64 * lo, 64 * (hi + 1 - lo)) else none

/-- Does plot n's region of the descriptor store overlap another plot's valid region? -/
def descOverlap (n base size : Nat) (s : State) : Bool :=
  (List.range 16).any fun m => m != n && match descRegion m s with
    | some (b, k) => decide (b < base + size) && decide (base < b + k)
    | none => false

/-- Mark every descriptor of plot n's region invalid. -/
def dropDescs (n : Nat) (s : State) : State :=
  match descRegion n s with
  | none => s
  | some (base, k) => { s with desc := clearRange base k s.desc }

/-- The first reason of R186 found before any read, codes of STM_DLOAD_STATUS: REGION, DEGRADED, WINDOW; 0 none. -/
def earlyDload (n addr : Nat) (s : State) : Nat :=
  match descRegion n s with
  | none => 1
  | some (base, k) =>
    if descOverlap n base k s then 1
    else if anyFailed s then 2
    else if addr % 128 ≠ 0 ∨ window n addr (128 * k) s = none then 3
    else 0

/-- Start a descriptor load of plot n. -/
def dloadStart (n addr : Nat) (cmd : Option (Nat × Nat × Nat)) (s : State) : State :=
  setFld STM_DLOAD_STATUS_LOADING 1 { dropDescs n s with dload := some ⟨n, addr, cmd, earlyDload n addr s⟩ }

/-- The table a descriptor load reads. -/
def dloadTable (n addr k : Nat) (s : State) : List (BitVec 1024) :=
  (bundlesOf k (windowData none n addr (128 * k) s)).map (BitVec.ofNat 1024)

/-- The reason of R186 that refuses a descriptor load, codes of STM_DLOAD_STATUS, and the index of BAD_DESC: the one found
before any read, or what the whole table gives. -/
def judgeDload (l : Load) (s : State) : Nat × Nat :=
  let k := ((descRegion l.plot s).getD (0, 0)).2
  if l.early ≠ 0 then (l.early, 0)
  else if windowBad none l.plot l.addr (128 * k) s then (4, 0)
  else match (enum 0 (dloadTable l.plot l.addr k s)).find? fun p => dValid p.2 && !dscOk p.2 with
    | some p => (5, p.1)
    | none => (0, 0)

/-- DLOAD_END (R186). -/
def dloadEnd (s : State) : State :=
  match s.dload with
  | none => s
  | some l =>
    if !isoWindow l.plot s || loadPaused l s then s
    else
      let (reason, bad) := judgeDload l s
      let (base, k) := (descRegion l.plot s).getD (0, 0)
      let table := dloadTable l.plot l.addr k s
      let s := dropDescs l.plot { s with dload := none }
      let s := if reason = 0 ∨ 4 ≤ reason then windowRead none ⟨some l.plot, 0, true⟩ l.plot l.addr (128 * k) s else s
      let s := if reason = 0 then { s with desc := putRange 0 base table s.desc } else s
      let s := irq 19 (raise (if reason = 0 then STM_DLOAD_STATUS_DONE else STM_DLOAD_STATUS_REFUSED) 1 (setFlds
        [(STM_DLOAD_STATUS_LOADING, 0), (STM_DLOAD_STATUS_DONE, 0), (STM_DLOAD_STATUS_REFUSED, 0),
         (STM_DLOAD_STATUS_REASON, reason), (STM_DLOAD_STATUS_BAD_INDEX, bad)] s))
      if reason = 0 then completeCmd l.cmd stOK 0 0 s else completeCmd l.cmd stRefused reason 0 s

/-- Are program loads, descriptor loads and copies accepted (R92, R508)? From the SIDEBAND stage, which the first scrub
comes before. -/
def loadsOpen (s : State) : Bool := decide (4 ≤ stage s) && decide (stage s ≤ 8)

/-- DLOAD_GO of STM_CTRL (R186). -/
def stmCtrl (a : Accessor) (w : Word) (s : State) : State :=
  let n := wfld STM_CTRL_PLOT w
  let s := setFld STM_CTRL_PLOT n s
  if wfld STM_CTRL_DLOAD_GO w = 0 then s
  else if s.dload.isSome ∨ runOf n s ∨ !plotOpen n s ∨ halted s ∨ !loadsOpen s then discard a rSTM_CTRL s
  else dloadStart n (reg64 rSTM_DLOAD_SRC_LO rSTM_DLOAD_SRC_HI s) none s

/-! ### What makes a plot runnable -/

/-- Is plot n runnable? -/
def isRunnable (n : Nat) (s : State) : Bool := s.seq.runnable.any fun p => p.1 == n

/-- The status a START of plot n cannot pass with (R131, R211, R390, R404, R435). A START of a plot with no valid image, or
already runnable or running, is refused (DESIGN CHOICE for SEQ_CTRL, log entry 18). -/
def startRefused (n : Nat) (s : State) : Option Nat :=
  if halted s then some stBusy
  else if !plotOpen n s || (imageOf n s).isNone || !flag (TLY_TR_VALID n) s || !flag (TLY_WR_VALID n) s then some stRefused
  else if isRunnable n s || runOf n s then some stBusy
  else none

/-- Make plot n runnable (R407). -/
def makeRunnable (n : Nat) (cmd : Option (Nat × Nat × Nat)) (s : State) : State :=
  onSeq (fun q => { q with runnable := q.runnable ++ [(n, cmd)] }) s

/-- Plot n is runnable no more. -/
def dropRunnable (n : Nat) (s : State) : State :=
  onSeq (fun q => { q with runnable := q.runnable.filter fun p => p.1 != n }) s

/-- A write of SEQ_CTRL (R129, R132, R211, R435): LOAD_GO, then START. LOAD_GO of a plot whose own run is in progress is
discarded and recorded (DESIGN CHOICE, log entry 18), and so is one before loads are accepted (R92, R508). -/
def seqCtrl (a : Accessor) (w : Word) (s : State) : State :=
  let n := wfld SEQ_CTRL_PLOT w
  let s := setFld SEQ_CTRL_PLOT n s
  let s := if wfld SEQ_CTRL_LOAD_GO w = 0 then s
    else if s.seq.load.isSome ∨ runOf n s ∨ !plotOpen n s ∨ halted s ∨ !loadsOpen s then discard a rSEQ_CTRL s
    else loadStart n (reg64 rSEQ_LOAD_SRC_LO rSEQ_LOAD_SRC_HI s) none s
  if wfld SEQ_CTRL_START w = 0 then s
  else if (startRefused n s).isSome then discard a rSEQ_CTRL s
  else makeRunnable n none s

end Sys2Proof.Machine
end

