-- ==== Sys2Proof/Machine/Seq.lean ====
section
/-! DEFINITION. The sequencer (04_bundle_format.md R100–R126, R131; 16_hallmark_replay.md R468, R469): issue cycles,
holds, control flow, and the start and end of a run. One BUNDLE_ISSUE is one SEQ cycle of the run in progress. -/
namespace Sys2Proof.Machine

/-- Change the run in progress. -/
def onRun (f : Run → Run) (s : State) : State := onSeq (fun q => { q with run := q.run.map f }) s

/-- First SEQ cycle that begins at or after an instant. -/
def cycleAt (t : Nat) : Nat := (t + 9) / 10

/-! ### Metering and holds of a run (R124, R417) -/

/-- Count CORE_CYCLES of the run in progress up to SEQ cycle `upTo`, that cycle not included (R417). -/
def meterRun (upTo : Nat) (s : State) : State :=
  match s.seq.run with
  | some r => if r.begun ∧ s.seq.meteredTo < upTo then
      onSeq (fun q => { q with meteredTo := upTo }) (meterAdd 1 r.plot (1024 * (upTo - s.seq.meteredTo)) s)
    else s
  | none => s

/-- Count the present hold up to SEQ cycle c, that cycle not included (R124): cycles in which a WAIT holds in
SEQ_HOLD_WAIT, others in which a stream engine holds in SEQ_HOLD_STREAM. -/
def accrueHold (c : Nat) (s : State) : State :=
  match s.seq.run with
  | none => s
  | some r => match r.hold with
    | none => s
    | some h =>
      let w := match r.waitSlot with
        | none => h
        | some _ => max h (min c (r.waitEnd.getD c))
      let e := match r.stream, r.streamEnd with
        | true, _ => c
        | false, some e => min c e
        | false, none => w
      onRun (fun r => { r with hold := some (max h c) })
        (addSat SEQ_HOLD_STREAM_COUNT (e - w) (addSat SEQ_HOLD_WAIT_COUNT (w - h) s))

/-- The hold ends before SEQ cycle c. -/
def countHolds (c : Nat) (s : State) : State :=
  onRun (fun r => { r with hold := none, waitSlot := none, waitEnd := none, stream := false, streamEnd := none })
    (accrueHold c s)

/-! ### End and start of a run (R131, R226, R259, R278, R407) -/

/-- The run in progress ends with a cause of R131. Its wakes on the way are lost; its transfers go on to the slice's
send stop and receive close (R259, R409). -/
def runEnd (cause : Nat) (s : State) : State :=
  match s.seq.run with
  | none => s
  | some r =>
    let s := tallyRun s
    let s := countHolds (cycle s) s
    let s := meterRun (if cause = 2 then cycleAt s.now else cycle s + 1) s
    let s := capEvent 8 r.plot cause 0 0 [] s
    let s := cancelSeq r.plot s
    let s := runDisarm r.plot s
    let s := setFlds [(SEQ_STATUS_LAST_PLOT, r.plot), (SEQ_STATUS_END_CAUSE, cause)] s
    let cmd := s.seq.startCmd
    let s := onSeq (fun q => { q with run := none, startCmd := none, wslot := [] }) (onTally (fun t => { t with wakes := [] }) s)
    let s := { s with
      linkPlot := if cause = 2 then s.linkPlot else none
      reported := s.reported.filter fun x => x.1 != r.plot }
    -- an aborted START completes with the other commands of the abort (R433)
    if cause = 5 then s else completeCmd cmd stOK 0 cause s

/-- The mask table of a plot's image (R86, R92). -/
def loadMasks (n : Nat) (s : State) : State :=
  match imageOf n s with
  | none => s
  | some img => forAll (fun (p : Nat × Word × Word) s =>
      setReg (rSEQ_CMASK_COL (p.1 + 1)) p.2.2 (setReg (rSEQ_CMASK_ROW (p.1 + 1)) p.2.1 s)) (enum 0 img.cmask) s

/-- May the runnable plot of the slice begin a run now (R404, R407, R435)? -/
def mayBegin (n : Nat) (s : State) : Bool :=
  s.slice.owner == some n && !s.slice.drained && isRunnable n s && plotOpen n s && (imageOf n s).isSome
    && s.seq.run.isNone && !halted s && !flag (PLOT_FAULT_STATUS_ABORTING n) s && mstValid s

/-- RUN_START (R131, R407, R409): the run of the slice's plot begins with the state of R131. After an earlier run of the
slice a scrub goes first, once every access of that run has retired. -/
def runStart (s : State) : State :=
  match s.slice.owner with
  | none => s
  | some n =>
    if !mayBegin n s then s
    else if s.seq.issuedInSlice ∧ (!(openRequests n s).isEmpty ∨ s.seq.scrubEnd.isSome) then s
    else
      let s := if s.seq.issuedInSlice then scrubBegin s else s
      let first := max (s.slice.start + 4400) (s.seq.scrubEnd.getD s.now)
      let cmd := ((s.seq.runnable.find? fun p => p.1 == n).map (·.2)).getD none
      let entry := match imageOf n s with
        | some img => img.entry
        | none => 0
      let s := loadMasks n (dropRunnable n s)
      let s := onSeq (fun q => { q with
        run := some { plot := n, pc := entry, next := cycleAt (max first s.now) }
        runNo := q.runNo + 1, wslot := [], startCmd := cmd, issuedInSlice := false })
        (onTally (fun t => { t with wakes := t.wakes.filter fun w => decide (cycle s < w.due) }) s)
      { s with
        linkPlot := some n
        reported := s.reported.filter fun x => x.1 != n }

/-! ### Replay (R469) -/

/-- The oldest wake on its way to a slot. -/
def wakeFor (k : Nat) (expiry : Bool) (s : State) : Option Wake :=
  s.tally.wakes.find? fun w => w.slot == k && w.expiry == expiry && decide (w.due ≤ cycle s)

/-- Take a wake from those on their way. -/
def dropWake (w : Wake) (s : State) : State := onTally (fun t => { t with wakes := t.wakes.erase w }) s

/-- A wake reaches its slot (R123, R124, R220): one whose generation differs, or that finds the slot Empty, is
discarded. A bundle held on the slot may issue two cycles later. -/
def wakeArrives (w : Wake) (s : State) : State :=
  let s := dropWake w s
  if get false w.slot s.tally.gen ≠ w.gen ∨ wslot w.slot s ≠ .armed then s
  else
    let s := setWslot w.slot .woken s
    onRun (fun r => if r.waitSlot = some w.slot ∧ r.waitEnd = none then
      { r with waitEnd := some (cycle s + 2), next := max r.next (cycle s + 2) } else r) s

/-- The SEND of a replay: its digest computed from SRAM and compared (R469). -/
def replaySend (n : Nat) (r : List Byte) (s : State) : State :=
  let p := leAt r 12 4 % 8
  let m := leAt r 12 4 / 8
  match (linkOf p (lowLink m) s).sends.find? fun x => x.plot == n && x.lmask == m with
  | none => diverge n 4 s
  | some x =>
    let part (l : Nat) : List Byte := match (linkOf p l s).sends.find? fun y => y.id == x.id with
      | some y => (List.range y.flits).flatMap fun f => (flitData p l { y with sent := f } s).1
      | none => []
    let digest := crc32 ((maskLinks m).flatMap part)
    let s := forAll (fun l => onLink p l fun k => { k with sends := k.sends.filter fun y => y.id != x.id }) (maskLinks m) s
    if x.flits = leAt r 16 4 ∧ digest = leAt r 20 8 then s else diverge n 4 s

/-- Write the flits of a captured transfer at their lines (R251, R255). -/
def replayWrite (p l : Nat) (bases : List Nat) : Nat → List Byte → State → State
  | 0, _, s => s
  | n + 1, bs, s =>
    let s := replayWrite p l bases n bs s
    let a := flitLine bases n
    if a < 2 ^ 19 then sramWrite (groupCore p l (n % 32)) a ((bs.drop (256 * n)).take 256) s else s

/-- The RECV of a replay: its data is written from the capture and its tally signalled (R469). -/
def replayRecv (n : Nat) (r : List Byte) (s : State) : State :=
  let p := leAt r 12 4 % 8
  let m := leAt r 12 4 / 8
  if leAt r 2 2 = 0 then diverge n 5 s
  else match s.post.find? fun x => x.2.plot == n && x.2.port == p && x.2.lmask == m with
    | none => diverge n 7 s
    | some (id, q) =>
      let data := hbmData (capBase s + 32 * s.replay + 32) (256 * q.flits * (maskLinks m).length) s
      let one (x : Nat × Nat) (s : State) : State :=
        match (linkOf p x.2 s).posts.find? fun y => y.id == id with
        | some y => replayWrite p x.2 y.bases q.flits (data.drop (256 * q.flits * x.1)) s
        | none => s
      let s := forAll one (enum 0 (maskLinks m)) s
      let s := forAll (fun l => closePart p l id true) (maskLinks m) s
      sendTally 8 (.inc n q.tly 1 (srcLink 0 0 0 p (lowLink m)) none) s

/-- Events of the capture due before the next issue of a replayed run; answers whether the bench may issue. -/
def replayEvents (n : Nat) : Nat → State → State × Bool
  | 0, s => (s, true)
  | fuel + 1, s =>
    let r := replayRecord s
    if leAt r 4 8 ≠ runIdx s then (s, true)
    else match leAt r 0 1 with
      | 3 => match wakeFor (leAt r 12 4) false s with
        | none => (s, false)
        | some w =>
          let s := wakeArrives w s
          let s := if w.rel = leAt r 16 4 ∧ w.value = leAt r 20 8 then s else diverge n 3 s
          replayEvents n fuel (replayNext r s)
      | 4 => replayEvents n fuel (replayNext r (sendTally 0 (.inc n (leAt r 12 4) (leAt r 16 4) (srcHost 0) none) s))
      | 5 => replayEvents n fuel (replayNext r (replayRecv n r s))
      | 6 => replayEvents n fuel (replayNext r (replaySend n r s))
      | _ => (s, true)

/-! ### Control flow (R119, R122) -/

/-- R119 next_pc, after the last repetition of the bundle at pc: loops that end there close, inner first. -/
def nextPc (pc : Nat) : Nat → Run → Run
  | 0, r => { r with pc := pc + 1 }
  | d + 1, r =>
    if get 0 d r.last ≠ pc then { r with pc := pc + 1, depth := d + 1 }
    else
      let c := get 0 d r.lc + 1
      let r := { r with lc := put 0 d c r.lc }
      if c < get 0 d r.cnt then { r with pc := get 0 d r.first, depth := d + 1 } else nextPc pc d { r with depth := d }

/-- Condition of a BR (R122). -/
def brHolds (c : CtlSlot) (r : Run) : Bool :=
  match c.cond with
  | 0 => true
  | 1 => r.flags.getLsbD (c.imm % 16)
  | 2 => !r.flags.getLsbD (c.imm % 16)
  | 3 => get 0 c.lvl r.lc == c.imm
  | _ => get 0 c.lvl r.lc != c.imm

/-- The run after the last repetition of a bundle (R119, R122, R125). -/
def advance (c : CtlSlot) (r : Run) : Run :=
  match c.op with
  | 0x20 =>
    if c.imm = 0 then { r with lc := put 0 c.lvl 0 r.lc, pc := c.tgt + 1 }
    else { r with
      lc := put 0 c.lvl 0 r.lc, cnt := put 0 c.lvl c.imm r.cnt, first := put 0 c.lvl (r.pc + 1) r.first
      last := put 0 c.lvl c.tgt r.last, depth := r.depth + 1, pc := r.pc + 1 }
  | 0x21 => if brHolds c r then { r with pc := c.tgt, bubble := true } else nextPc r.pc r.depth r
  | 0x25 => { r with halted := true }
  | _ => nextPc r.pc r.depth r

/-- SETF and CLRF (R122). -/
def setFlag (c : CtlSlot) (r : Run) : Run :=
  match c.op with
  | 0x23 => { r with flags := r.flags ||| (1#16 <<< (c.imm % 16)) }
  | 0x24 => { r with flags := r.flags &&& ~~~ (1#16 <<< (c.imm % 16)) }
  | _ => r

/-- The run after one issue of its bundle (R118). -/
def issued (b : Nat) (r : Run) : Run :=
  let c := ctlSlot b
  let r := setFlag c { r with reached := false, idx := r.idx + 1 }
  if r.rep < hdrRepeat b then { r with rep := r.rep + 1, waited := true }
  else advance c { r with rep := 0, waited := false }

/-! ### Issue (R100–R103) -/

/-- The pipelines' part of an issue cycle or of a cycle after HALT (R77, R101, R125). -/
def pipelines (s : State) : State := mxBegin s.seq.ic (landDue s.seq.ic s)

/-- The issue cycle is over. -/
def endCycle (s : State) : State :=
  onSeq (fun q => { q with ic := q.ic + 1 }) { s with cores := { s.cores with bridge := [] } }

/-- Capture of a VSEED (R468): the immediate, and the slot in bit 0 and CMASK in bits [7:4] of one word. -/
def seedEvent (n k cmask : Nat) (v : VxSlot) (s : State) : State :=
  if v.op = 0x22 then capEvent 2 n (v.imm % 2 ^ 16) (k + 16 * cmask) 0 [] s else s

/-- The first issue of a run (R407, R417, R468). -/
def firstIssue (n : Nat) (s : State) : State :=
  match s.seq.run with
  | none => s
  | some r =>
    if r.begun then s
    else
      let s := onSeq (fun q => { q with meteredTo := cycle s, issuedInSlice := true }) (onRun (fun r => { r with begun := true }) s)
      match imageOf n s with
      | some img => capEvent 1 n img.bodyCrc.toNat img.toolVer.toNat (mstNs s) [] s
      | none => s

/-- The slots of a bundle of plot n act in the present issue cycle (R100, R106). -/
def issueSlots (n pc rep b : Nat) (s : State) : State :=
  let i := s.seq.ic
  let m := hdrCmask b
  let sel := selCores (maskRows m s) (maskCols m s)
  let v0 := vxSlot b 0
  let v1 := vxSlot b 1
  let m0 := smSlot b 0
  let m1 := smSlot b 1
  let c0 := stmCheck n m0 s
  let c1 := stmCheck2 n m0 m1 s
  let t := tlySlot b
  let s := mxFetch (some n) i (mxIssue 1 (mxSlot b 1) sel i (mxIssue 0 (mxSlot b 0) sel i s))
  let s := vxIssue 1 v1 (isSr v0 && isSr v1) sel (vxIssue 0 v0 false sel s)
  let s := genStep v0 v1 sel (lsIssue (lsSlot b 0) (lsSlot b 1) sel (ctlCore (ctlSlot b) sel s))
  let s := seedEvent n 1 m v1 (seedEvent n 0 m v0 s)
  let s := stmIssue n pc m0 m1 c0 c1 s
  let s := lnkIssue n pc (lnkSlot b) s
  let s := tlyIssue n t.op t.tly t.val t.cmp t.wslot t.tmo t.grp (hazard 4) s
  let s := cswIssue n pc (cswSlot b) s
  let s := meterAdd 0 n 1 s
  if hdrTrig b && rep == 0 then trigger 0 0 none s else s

/-- The WAIT of a bundle that issues (R123): it consumes the slot it held on; on an Empty slot it is a hazard. -/
def waitIssues (c : CtlSlot) (r : Run) (s : State) : State :=
  match r.waitSlot with
  | some k => if wslot k s = .empty then hazard 3 s else setWslot k .empty s
  | none => if c.op = 0x22 ∧ !r.waited then hazard 3 s else s

/-- A bundle issues (R100). -/
def issueBundle (n b : Nat) (s : State) : State :=
  match s.seq.run with
  | none => s
  | some r =>
    let s := waitIssues (ctlSlot b) r s
    let s := firstIssue n (countHolds (cycle s) s)
    endCycle (onRun (issued b) (issueSlots n r.pc r.rep b (pipelines s)))

/-- A cycle in which the pipelines advance and nothing issues: the bubble of a taken branch (R122), or a cycle after
HALT (R125). -/
def idleCycle (s : State) : State :=
  let s := pipelines s
  let s := mxFetch (runPlot s) s.seq.ic s
  endCycle (onRun (fun r => if r.halted then r else { r with bubble := false, idx := r.idx + 1 }) s)

/-- Does the bundle at pc come from the loop buffer (R121)? -/
def fromLoopBuffer (r : Run) : Bool :=
  (List.range r.depth).any fun l => decide (get 0 l r.last < get 0 l r.first + 64) && decide (0 < get 0 l r.lc)

/-- Errors of the store words of bundle i (R127): words with one bit, words with two. -/
def fetchErrors (i : Nat) (s : State) : Nat × Nat :=
  let es := (List.range 16).map fun w => get 0 (16 * i + w) s.seq.storeErr
  (es.count 1, es.count 2)

/-- The bundle at pc is fetched (R121, R127): with a double-bit error the run ends with FETCH_UE. -/
def fetch (r : Run) (base : Nat) (s : State) : State :=
  if fromLoopBuffer r then s
  else
    let (ce, ue) := fetchErrors (base + r.pc) s
    let s := bump SEQ_IS_ECC_UE_COUNT ue (bump SEQ_IS_ECC_CE_COUNT ce s)
    if ue = 0 then s else runEnd 4 (plotFault r.plot 2 3 0 r.pc s)

/-- The WAIT of a bundle that reaches issue is tested (R118, R123): an Armed slot holds the bundle, a Woken one is
consumed, an Expired one ends the run, an Empty one does not hold. IMM names the slot modulo 64 (DESIGN CHOICE, log entry
17). -/
def testWait (c : CtlSlot) (s : State) : State :=
  match s.seq.run with
  | none => s
  | some r =>
    if c.op ≠ 0x22 ∨ r.waited ∨ r.waitSlot.isSome then s
    else
      let k := c.imm % 64
      match wslot k s with
      | .empty => s
      | .armed => onRun (fun r => { r with hold := some (cycle s), waitSlot := some k, stream := false })
          (accrueHold (cycle s) s)
      | .woken => onRun (fun r => { r with waited := true }) (setWslot k .empty s)
      | .expired => runEnd 3 (setWslot k .empty s)

/-- The bundle at pc, its WAIT tested, issues, or goes on to hold (R102, R183). -/
def issueOrHold (b : Nat) (s : State) : State :=
  match s.seq.run with
  | none => s
  | some r =>
    if r.waitSlot.isSome && r.waitEnd.isNone then s
    else if stmHolds (fun e => heldNow e s) r.plot (smSlot b 0) (smSlot b 1) s then
      onRun (fun r => { r with stream := true, streamEnd := none, hold := some (r.hold.getD (cycle s)) }) s
    else issueBundle r.plot b s

/-- The bundle at pc is due to issue (R102). -/
def tryIssue (b : Nat) (s : State) : State := issueOrHold b (testWait (ctlSlot b) s)

/-- Bits lost by themselves. -/
def upset (u : Upset) (s : State) : State :=
  match u with
  | .store w n => onSeq (fun q => { q with storeErr := upd 0 w (fun x => min 2 (x + n)) q.storeErr }) s
  | .sram c w n => { s with cores := { s.cores with
      sramErr := upd 0 (c * 2 ^ 16 + w) (fun x => min 2 (x + n)) s.cores.sramErr } }
  | .bridge c w n => { s with cores := { s.cores with bridge :=
      (s.cores.bridge.filter fun h => h.1 != c || h.2.1 != w) ++
        [(c, w, min 2 (n + ((s.cores.bridge.find? fun h => h.1 == c && h.2.1 == w).map (·.2.2)).getD 0))] } }
  | .hbm w n => { s with hbm := { s.hbm with
      word := upd 0 w (fun x => if x = 0 then 0 else min 3 (x + n)) s.hbm.word } }

/-- BUNDLE_ISSUE (R100–R103, R443): one SEQ cycle of the run in progress, with the bits memories lost before it. In a
cycle that a throttle takes, before the run's first instant, in a scrub, or held, nothing issues. -/
def bundleIssue (us : List Upset) (s : State) : State :=
  match s.seq.run with
  | none => s
  | some r =>
    if cycle s < r.next ∨ s.seq.scrubEnd.isSome then s
    else
      let s := forAll upset us s
      let s := onRun (fun r => { r with next := cycle s + 1 }) s
      -- no run issues in a cycle of the throttle (R443), or while MST is INVALID or ACQUIRING (R364)
      if (flag GLB_THERM_STATUS_THROTTLE s && cycle s % 2 == 1) || !mstValid s then s
      else
        let (s, go) := if replaying r.plot s then replayEvents r.plot 64 s else (s, true)
        if r.halted ∨ r.bubble then idleCycle s
        else if !go ∨ r.stream ∨ (s.seq.run.any fun r => decide (cycle s + 1 < r.next)) then s
        else
          let base := ((storeRegion r.plot s).getD (0, 0)).1
          let b := (get 0 (base + r.pc) s.seq.store).toNat
          if r.reached ∨ r.rep ≠ 0 then tryIssue b s
          else
            tryIssue b (onRun (fun r => { r with reached := true }) (fetch r base s))

/-! ### Effects of the other rows of this unit -/

/-- RESULT_VISIBLE (R77): what is due by the present issue cycle lands. -/
def resultVisible (s : State) : State := landDue s.seq.ic s

/-- MATRIX_OP_END (R109, R142). -/
def matrixOpEnd (s : State) : State := mxBegin s.seq.ic s

/-- STREAM_RELEASE (R124, R183): positions have been freed, and a bundle held for them issues in the next cycle. -/
def streamRelease (s : State) : State :=
  match s.seq.run with
  | none => s
  | some r =>
    let base := ((storeRegion r.plot s).getD (0, 0)).1
    let b := (get 0 (base + r.pc) s.seq.store).toNat
    if r.stream && !stmHolds (fun e => occ e s) r.plot (smSlot b 0) (smSlot b 1) s then
      onRun (fun r => { r with stream := false, streamEnd := some (cycle s + 1), next := max r.next (cycle s + 1) }) s
    else s

/-- WAKE_DELIVERY (R123, R124, R219): the wake due at a wait slot arrives, and is captured; with no run in progress every
slot is Empty and it is discarded (R220). In replay the capture says when (R469). -/
def wakeDelivery (k : Nat) (s : State) : State :=
  let s := tallyRun s
  match s.seq.run, wakeFor k false s with
  | _, none => s
  | none, some w => dropWake w s
  | some r, some w =>
    if replaying r.plot s then s else wakeArrives w (capEvent 3 r.plot k w.rel w.value [] s)

/-- EXPIRY_ARRIVAL (R123, R223): a run held on the slot ends with WATCH_TIMEOUT; otherwise the slot becomes Expired. -/
def expiryArrival (k : Nat) (s : State) : State :=
  match wakeFor k true s with
  | none => s
  | some w =>
    let s := dropWake w s
    if get false k s.tally.gen ≠ w.gen ∨ wslot k s ≠ .armed then s
    else match s.seq.run with
      | none => s
      | some r => if r.waitSlot = some k then runEnd 3 (setWslot k .empty s) else setWslot k .expired s

/-- Has plot n an operation on its way in the Tally unit? -/
def tallyBusy (n : Nat) (s : State) : Bool :=
  s.tally.ops.any fun p => match p.2 with
    | .inc m _ _ _ _ => m == n
    | .register _ w => w.plot == n
    | .rebase _ w => w.plot == n
    | .unwatch _ _ => true
    | .fault m _ _ => m == n
    | .hostWake .. | .touch => false

/-- RUN_DONE (R125): after HALT, once every core operation, request, transfer and tally operation has retired. -/
def runDone (s : State) : State :=
  let s := tallyRun s
  match s.seq.run with
  | none => s
  | some r =>
    if r.halted && s.cores.pend.isEmpty && s.cores.mxRun.isNone && (openRequests r.plot s).isEmpty
        && !plotTransfers r.plot s && !tallyBusy r.plot s then runEnd 1 s
    else s

/-- Has every service-port access queued retired (R93)? -/
def portsIdle (s : State) : Bool := (List.range 16).all fun n => (openRequests n s).isEmpty && !plotTransfers n s

/-- SCRUB_START of SEQ_CORE_CTRL (R93, R94): the sequencer is halted with its service-port accesses retired (DEDUCED, log
entry 14), and no scrub runs. -/
def scrubStart (a : Accessor) (s : State) : State :=
  if s.seq.run.isSome ∨ s.seq.scrubEnd.isSome ∨ !portsIdle s then discard a rSEQ_CORE_CTRL s else scrubBegin s

/-- SCRUB_COMPLETE (R93): after 320 cycles; the service ports reopen, and the mask table of the slice's plot is loaded
(R92). -/
def scrubComplete (s : State) : State :=
  match s.seq.scrubEnd with
  | none => s
  | some t =>
    if s.now < t then s
    else
      let s := loop engSettle 16 (scrubEnd s)
      match s.slice.owner with
      | some n => loadMasks n s
      | none => s

end Sys2Proof.Machine
end

