-- ==== Sys2Proof/Machine/Sundial.lean ====
section
/-! DEFINITION. The Sundial time unit: MST and its servo, TOD and the service port, virtual time, slot skew, time pins
(12_sundial.md R352–R371). -/
namespace Sys2Proof.Machine

def onSdl (f : Sundial → Sundial) (s : State) : State := { s with sdl := f s.sdl }

/-! ### Roles (R25, R358) -/

/-- The package is mesh master, or rack master (R545). -/
def isMesh (s : State) : Bool := flag GLB_ROLE_STATUS_SET s && flag GLB_ROLE_STATUS_MESH_MASTER s
def isRack (s : State) : Bool := flag GLB_ROLE_STATUS_SET s && flag GLB_ROLE_STATUS_RACK_MASTER s

/-- The package's origin: its domain and coordinate; none on the mesh master or without a role table. -/
def originOf (s : State) : Option (Nat × Coord) :=
  if !flag GLB_ROLE_STATUS_SET s ∨ isMesh s then none
  else if isRack s then some (0, (fld GLB_MESH_MASTER_X s, fld GLB_MESH_MASTER_Y s, fld GLB_MESH_MASTER_Z s))
  else some (1, (fld GLB_RACK_MASTER_X s, fld GLB_RACK_MASTER_Y s, fld GLB_RACK_MASTER_Z s))

/-! ### States and fences (R354, R368) -/

/-- A slot-skew fence begins. -/
def skewFence (s : State) : State :=
  if skewFenced s then s
  else sweepLinks (devFault 9 0x0C 0 (raise SDL_EVENT_SKEW_FENCE 1 (setFld SDL_STATUS_SKEW_STATE 2 (onSdl (fun d => { d with
    above := 0, within := 0, missFirst := fld CSC_STATUS_MISS_FENCE s }) s))))

/-- Schedule slots and slices go on from the next boundary of MST. -/
def renumber (s : State) : State :=
  onSdl (fun d => { d with
    nextSlot := if slotNs s = 0 then 0 else mstNs s / slotNs s + 1
    nextSlice := if sliceNs s = 0 then 0 else mstNs s / sliceNs s + 1 }) s

/-- MST has become valid (R364): boundaries go on from the next; a slice that was over meanwhile is left, with its run. -/
def resumeSlices (s : State) : State :=
  let s := renumber s
  if sliceNs s ≠ 0 ∧ mstNs s / sliceNs s = s.slice.number then s
  else
    let s := runEnd 2 s
    setFld SEQ_SLICE_STATUS_IDLE 1 { s with slice := { s.slice with owner := none } }

/-- MST enters a state. -/
def setMst (st : Nat) (s : State) : State :=
  let was := mstValid s
  let s := setFld SDL_STATUS_MST_STATE st s
  let s := if 2 ≤ st then setFld SDL_STATUS_MST_SEEN_VALID 1 s else s
  let s := if 2 ≤ st ∧ !was then resumeSlices s else s
  if st = 4 then setFld SDL_STATUS_SKEW_STATE 0 (onSdl (fun d => { d with above := 0, within := 0 }) s)
  else if st < 2 then skewFence s else s

/-! ### Time pins (R369, R370) -/

/-- The base of pin n: its value in ns, and whether it stands still. -/
def pinBase (n : Nat) (s : State) : Nat := if flag (SDL_TPO_CTRL_BASE n) s then todNs s else mstNs s
def pinStill (n : Nat) (s : State) : Bool := flag (SDL_TPO_CTRL_BASE n) s && todStill s

def pinOf (n : Nat) (s : State) : TimePin := get {} n s.sdl.pin
def onPin (n : Nat) (f : TimePin → TimePin) (s : State) : State := onSdl (fun d => { d with pin := upd {} n f d.pin }) s

def tpoTime (n : Nat) (s : State) : Nat := reg64 (rSDL_TPO_TIME_LO n) (rSDL_TPO_TIME_HI n) s
def tpoPeriod (n : Nat) (s : State) : Nat := (reg (rSDL_TPO_PERIOD n) s).toNat

/-- The first point of the grid of pin n after an instant of its base. -/
def gridAfter (n v : Nat) (s : State) : Nat :=
  let t := tpoTime n s
  let p := tpoPeriod n s
  if v < t then t else if p = 0 then t else t + ((v - t) / p + 1) * p

/-- A base in clock units: MST, or TOD. -/
def baseM (tod : Bool) (s : State) : Nat := if tod then todM s else mstM s

/-- When a pulse of pin n that rises now falls. -/
def pinFall (n : Nat) (s : State) : Fall :=
  let tod := flag (SDL_TPO_CTRL_BASE n) s
  let width := fld (SDL_TPO_CTRL_WIDTH n) s * 16
  ⟨tod, (baseM tod s : Int) + (width * nsM : Nat), s.now + width * nsT⟩

/-- A base is stepped by `d`: a pulse on it keeps its width. -/
def stepFalls (tod : Bool) (d : Int) (s : State) : State :=
  onSdl (fun x => { x with pin := x.pin.map fun (n, p) =>
    (n, { p with fall := p.fall.map fun f => if f.tod = tod then { f with value := f.value + d } else f }) }) s

/-- Pin n rises. -/
def pinFire (n : Nat) (late : Bool) (s : State) : State :=
  let s := raise (SDL_TPO_CTRL_FIRED n) 1 (if late then raise (SDL_TPO_CTRL_LATE n) 1 s else s)
  let fall := pinFall n s
  let s := emit (.pin (.tpOut n) true) (onPin n (fun p => { p with fall := some fall }) s)
  if flag (SDL_TPO_CTRL_PERIODIC n) s then onPin n (fun p => { p with next := gridAfter n (pinBase n s) s }) s
  else hwFld (SDL_TPO_CTRL_ENABLE n) 0 s

/-- Does the period of pin n not arm (R369)? -/
def pinBadPeriod (n : Nat) (s : State) : Bool :=
  flag (SDL_TPO_CTRL_PERIODIC n) s && (decide (tpoPeriod n s < 1000) || decide (tpoPeriod n s < fld (SDL_TPO_CTRL_WIDTH n) s * 32))

/-- ENABLE of pin n has been written 1 (R369). -/
def pinArm (n : Nat) (s : State) : State :=
  if pinBadPeriod n s then raise (SDL_TPO_CTRL_LATE n) 1 (setFld (SDL_TPO_CTRL_ENABLE n) 0 s)
  else
    let s := onPin n (fun p => { p with next := tpoTime n s }) s
    -- the clearing of ENABLE is here the write's own, and no update that meets it
    if !pinStill n s ∧ tpoTime n s < pinBase n s then
      let s := pinFire n true s
      if flag (SDL_TPO_CTRL_PERIODIC n) s then s else setFld (SDL_TPO_CTRL_ENABLE n) 0 s
    else s

/-- A base (false MST, true TOD) has been stepped or given a value: pulses passed fire late; a pulse of a periodic
output that now lies ahead is counted again from TIME. -/
def pinStep (base : Bool) (s : State) : State :=
  loop (fun n s =>
    if !flag (SDL_TPO_CTRL_ENABLE n) s ∨ flag (SDL_TPO_CTRL_BASE n) s ≠ base ∨ pinStill n s then s
    else if (pinOf n s).next ≤ pinBase n s then pinFire n true s
    else if flag (SDL_TPO_CTRL_PERIODIC n) s then
      let v := pinBase n s
      onPin n (fun p => { p with next := if v = 0 then tpoTime n s else gridAfter n (v - 1) s }) s
    else s) 4 s

/-- TP_OUT_FIRE (R369). -/
def tpOutFire (n : Nat) (s : State) : State :=
  if n < 4 ∧ flag (SDL_TPO_CTRL_ENABLE n) s ∧ !pinStill n s ∧ (pinOf n s).next ≤ pinBase n s then pinFire n false s else s

/-- Has the base of a pulse come to its fall? A base that stands still counts as the reference does. -/
def fallDue (f : Fall) (s : State) : Bool :=
  if f.tod && todStill s then decide (f.at_ ≤ s.now) else decide (f.value ≤ baseM f.tod s)

/-- TP_OUT_FALL (R369). -/
def tpOutFall (n : Nat) (s : State) : State :=
  match (pinOf n s).fall with
  | some f => if n < 4 ∧ fallDue f s then emit (.pin (.tpOut n) false) (onPin n (fun p => { p with fall := none }) s) else s
  | none => s

/-- TP_IN_CAPTURE (R370, R454): a rising edge on TP_IN_n. -/
def tpInCapture (n : Nat) (s : State) : State :=
  if 2 ≤ n then s
  else if bit (fld SDL_TPI_STATUS_CAPTURED s) n then raise SDL_TPI_STATUS_OVERRUN (2 ^ n) s
  else
    let s := setReg64 (rSDL_TPI_MST_LO n) (rSDL_TPI_MST_HI n) (mstNs s) s
    let s := setReg64 (rSDL_TPI_TOD_LO n) (rSDL_TPI_TOD_HI n) (todNs s) s
    trigger 4 0 none (raise SDL_TPI_STATUS_CAPTURED (2 ^ n) s)

/-! ### Steps (R354, R358) -/

/-- MST := MST − o, with the consequences of a step. -/
def stepMst (o : Int) (s : State) : State :=
  let s := onSdl (fun d => { d with off := d.off - o, step := none }) s
  let s := devFault 13 2 0 (raise SDL_EVENT_STEP 1 (setFld SDL_STATUS_STEP_PENDING 0 s))
  -- the time up to the next slice start holds no run
  let s := setFld SEQ_SLICE_STATUS_IDLE 1 { s with hmkAt := 0, slice := { s.slice with owner := none } }
  pinStep false (stepFalls false (-o) (stepDisarm (renumber s)))

/-- A step falls due: made now, or deferred to the end of the run (R358). -/
def stepDue (o : Int) (s : State) : State :=
  if runOn s then
    let s := devFault 13 4 0 (setFld SDL_STATUS_STEP_PENDING 1 (onSdl (fun d => { d with step := some o }) s))
    skewFence s
  else stepMst o s

/-- STEP_APPLY (R358): the deferred step, at the end of the run. -/
def stepApply (s : State) : State :=
  match s.sdl.step with
  | some o => if runOn s then s else stepMst o s
  | none => s

/-! ### Mesh time (R355–R358) -/

/-- The link sends and receives time cells (R355): it is UP, and its lane 8 carries no logical lane. -/
def cellLink (p l : Nat) (s : State) : Bool :=
  flag SDL_CTRL_ENABLE s && phaseOf p l s == .up && spareLane p l 0 s == 15 && spareLane p l 1 s == 15

/-- A timestamp of this package at the present instant: MST in units of 2⁻⁴ ns (R355). -/
def timestamp (s : State) : Nat := mstM s / (nsM / 16)

/-- Delay of the ingress circuit of a link with the port's asymmetry, in units of 2⁻⁴ ns. -/
def pathDelay (p l : Nat) (s : State) : Int :=
  let d := match activeBank s with
    | some b => ((dropEntry b p l s).bind fun x => keptOf p x s).elim 0 fun k => (k.delay : Int)
    | none => 0
  d + signed 16 (fld (SDL_ASYM_ASYM p) s)

/-- Offset of a Sync received now (R358), in clock units: a whole number of 2⁻¹⁶ ns. -/
def syncOffset (p l : Nat) (m : TimeMsg) (s : State) : Int :=
  (timestamp s : Int) * (nsM / 16 : Nat)
    - ((m.ns : Int) * nsM + m.corr * (nsM / 2 ^ 16 : Nat) + pathDelay p l s * (nsM / 16 : Nat))

/-- The bound of fi and rate, 50 × 10⁻⁶ (R358). -/
abbrev rateMax : Int := 800 * 2 ^ 32

/-- The servo (R358). The offsets it meets are whole numbers of 2⁻¹⁶ ns, so that both quotients are exact (R18). -/
def servo (o : Int) (s : State) : State :=
  let s := rebaseClocks s
  let fi := clamp (-rateMax) rateMax (s.sdl.fi - o / 176000000)
  onSdl (fun d => { d with fi := fi, rate := clamp (-rateMax) rateMax (fi - o * 16 / 176000000) }) s

/-- Key of what a link told of an origin domain. -/
def linkKey (domain p l : Nat) : Nat := 2 ^ 10 * domain + 32 * p + l

/-- May the link be the upstream for a domain (R358)? -/
def upstreamOk (domain p l : Nat) (s : State) : Bool :=
  match look (linkKey domain p l) s.sdl.link with
  | none => false
  | some x => cellLink p l s && (x.syncAt.any fun t => decide (s.now ≤ t + msT)) && decide (2 ≤ x.annState) && decide (x.annState ≤ 4)

/-- The upstream for a domain: lowest relay count, then port, then link. -/
def upstream (domain : Nat) (s : State) : Option (Nat × Nat) :=
  let cand := allLinks.filterMap fun (p, l) =>
    if upstreamOk domain p l s then (look (linkKey domain p l) s.sdl.link).map fun x => (x.relays, p, l) else none
  (cand.foldl (fun (a : Option (Nat × Nat × Nat)) c => match a with
    | none => some c
    | some b => if c.1 < b.1 then some c else some b) none).map (·.2)

/-- Choose the upstream again (R358). -/
def chooseUpstream (domain : Nat) (s : State) : State :=
  let old := if flag SDL_UPSTREAM_VALID s then some (fld SDL_UPSTREAM_PORT s, fld SDL_UPSTREAM_LINK s) else none
  let new := upstream domain s
  let s := if old = new then s else raise SDL_EVENT_UPSTREAM_CHANGE 1 s
  match new with
  | none => setReg rSDL_UPSTREAM 0 s
  | some (p, l) => setFlds [(SDL_UPSTREAM_VALID, 1), (SDL_UPSTREAM_PORT, p), (SDL_UPSTREAM_LINK, l),
      (SDL_UPSTREAM_RELAYS, ((look (linkKey domain p l) s.sdl.link).elim 0 (·.relays))), (SDL_UPSTREAM_ORIGIN, 1 - domain)] s

/-- Move of MST's state at a Sync from the upstream with offset o (R354). -/
def syncState (o : Int) (s : State) : State :=
  let a := o.natAbs
  let st := mstState s
  if st = 0 then stepDue o (setMst 1 s)
  else
    let inRow := if a ≤ 10 * nsM then s.sdl.inRow + 1 else 0
    let outRow := if 1000 * nsM < a then s.sdl.outRow + 1 else 0
    let s := onSdl (fun d => { d with inRow := inRow, outRow := outRow }) s
    let clear (s : State) : State := onSdl (fun d => { d with inRow := 0, outRow := 0 }) s
    match st with
    | 1 => if 64 ≤ inRow then setMst 2 (clear (servo o s)) else servo o s
    | 2 => if 4 ≤ outRow then stepDue o (setMst 1 (clear s)) else servo o s
    | 3 => if 1000 * nsM < a then stepDue o (setMst 1 (clear s)) else servo o (setMst 1 (clear s))
    | _ => s

/-- SDL_OFFSET of an offset: units of 2⁻⁴ ns, saturating. -/
def offsetReg (o : Int) : Word :=
  let q := (⟨o, nsM / 16⟩ : Frac).round
  BitVec.ofNat 32 (unsigned 32 (clamp (-(2 ^ 31)) (2 ^ 31 - 1) q))

/-- The links with time cells but one. -/
def otherCells (p l : Nat) (s : State) : List (Nat × Nat) := allLinks.filter fun e => e ≠ (p, l) ∧ cellLink e.1 e.2 s

/-- Relay a cell received on link l of port p at timestamp `rx` on every other UP link (R357). How long it waits there for its
cell is a free value; its residence is what MST says of that. -/
def relayCell (p l rx : Nat) (cell : List Byte) (m : TimeMsg) (s : State) : State :=
  if 63 < m.relays + 1 then s
  else
    let n := s.fresh
    let path := pathDelay p l s
    forAll (fun (e : Nat × Nat) s =>
      let out := timestamp { s with now := s.now + Config.relayWait n (32 * e.1 + e.2) }
      emit (.cell e.1 e.2 none) (emit (.cell e.1 e.2 (some (relayedCell cell m ((path + ((out : Int) - rx)) * 4096)))) s))
      (otherCells p l s) (drawn s)

/-- Does the package take and relay a message (R357, R358): of the mesh master, or of its own rack master? -/
def relays (m : TimeMsg) (s : State) : Bool :=
  (m.domain == 0 && !isMesh s && m.origin == (fld GLB_MESH_MASTER_X s, fld GLB_MESH_MASTER_Y s, fld GLB_MESH_MASTER_Z s))
  || (m.domain == 1 && !isRack s
    && m.origin == (fld GLB_RACK_MASTER_X s, fld GLB_RACK_MASTER_Y s, fld GLB_RACK_MASTER_Z s))

/-- The offset of a Sync of the package's origin from its upstream: SDL_OFFSET, the servo or the step, and slot skew. -/
def useSync (p l : Nat) (m : TimeMsg) (s : State) : State :=
  if originOf s ≠ some (m.domain, m.origin) then s
  else
    let s := chooseUpstream m.domain (onSdl (fun d => { d with lastSync := some s.now }) s)
    if upstream m.domain s ≠ some (p, l) then s
    else
      let o := syncOffset p l m s
      syncState o (onSdl (fun d => { d with skewOs := d.skewOs ++ [o] }) (setReg rSDL_OFFSET (offsetReg o) s))

/-- SYNC (R355–R358): a time cell with a Sync of domain 0 or 1. -/
def syncReceive (p l : Nat) (cell : List Byte) (s : State) : State :=
  match readCell cell with
  | none => s
  | some m =>
    if m.type ≠ 0 ∨ !cellLink p l s ∨ !relays m s then s
    else
      let key := linkKey m.domain p l
      let rx := timestamp s
      let s := onSdl (fun d => { d with link := upd ⟨0, none, 0⟩ key (fun x => { x with relays := m.relays, syncAt := some s.now }) d.link }) s
      let up := upstream m.domain s = some (p, l)
      let s := useSync p l m s
      if up then relayCell p l rx cell m s else s

/-- ANNOUNCE (R356–R358): a time cell with an Announce of domain 0 or 1, which tells the MST state of its origin. The last one
on a link is its partner's (R368). -/
def announceReceive (p l : Nat) (cell : List Byte) (s : State) : State :=
  match readCell cell with
  | none => s
  | some m =>
    if m.type ≠ 0xB ∨ 1 < m.domain ∨ !cellLink p l s then s
    else
      let rx := timestamp s
      let locked := m.state == 2 || m.state == 4
      let s := onSdl (fun d => { d with peer := upd ⟨none, 0, false⟩ (32 * p + l) (fun x => { x with locked := locked }) d.peer }) s
      if !relays m s then s
      else
        let key := linkKey m.domain p l
        let s := onSdl (fun d => { d with link := upd ⟨m.relays, none, 0⟩ key (fun x => { x with annState := m.state }) d.link }) s
        if upstream m.domain s = some (p, l) then relayCell p l rx cell m s else s

/-- LOCAL_SYNC (R356, R368): a time cell with the partner's own Sync, which tells the peer skew. -/
def localSync (p l : Nat) (cell : List Byte) (s : State) : State :=
  match readCell cell with
  | none => s
  | some m =>
    if m.type ≠ 0 ∨ m.domain ≠ 2 ∨ !cellLink p l s then s
    else
      let skew := -syncOffset p l m s
      let at_ := s.now
      let s := onSdl (fun d => { d with peer := upd ⟨none, 0, false⟩ (32 * p + l) (fun x => { x with at_ := some at_, skew := skew }) d.peer }) s
      if (List.range 16).find? (fun i => phaseOf p i s = .up) = some l then
        setFld (SDL_PEER_SKEW p) (unsigned 16 (clamp (-32768) 32767 (⟨skew, nsM⟩ : Frac).round)) s
      else s

/-- Has the partner sent a local Sync within the last 1 ms? -/
def peerRecent (x : PeerTime) (s : State) : Bool := x.at_.any fun t => decide (s.now ≤ t + msT)

/-- VALID and PARTNER_LOCKED of SDL_PEER_p. -/
def peerValid (p : Nat) (s : State) : Bool :=
  (List.range 16).any fun l => (look (32 * p + l) s.sdl.peer).any fun x => peerRecent x s
def partnerLocked (p : Nat) (s : State) : Bool :=
  (List.range 16).any fun l => phaseOf p l s == .up && (look (32 * p + l) s.sdl.peer).any (·.locked)

/-- The cells the package sends as an origin and as a partner (R356), with MST as it stands: for each a Sync of domain 0 on
the mesh master, 1 on a rack master, 2 of its own; every 16th time the Announces of the origins. -/
def ownCells (s : State) : List (List Byte) :=
  let msg (type domain : Nat) : TimeMsg :=
    ⟨type, domain, node s, 0, mstFrac s / 2 ^ 16, mstNs s, mstState s⟩
  let origins := (if isMesh s then [0] else []) ++ (if isRack s then [1] else [])
  (origins ++ [2]).map (fun d => timeCell (msg 0 d) (s.sdl.sends % 2 ^ 16))
    ++ (if s.sdl.sends % 16 = 0 then origins.map fun d => timeCell (msg 0xB d) (s.sdl.sends / 16 % 2 ^ 16) else [])

/-- SYNC_SEND (R355, R356): the cells on every UP link, and fill cells after them. -/
def syncSend (s : State) : State :=
  if !flag SDL_CTRL_ENABLE s then s
  else
    let cells := ownCells s
    let s := forAll (fun (e : Nat × Nat) s =>
      emit (.cell e.1 e.2 none) (forAll (fun c => emit (.cell e.1 e.2 (some c))) cells s))
      (allLinks.filter fun e => cellLink e.1 e.2 s) s
    onSdl (fun d => { d with sends := d.sends + 1 }) s

/-- SYNC_TIMEOUT (R354, R360). -/
def syncTimeout (s : State) : State :=
  let late := match s.sdl.lastSync with
    | some t => decide (t + msT ≤ s.now)
    | none => false
  if late && (mstState s == 1 || mstState s == 2) then
    let s := rebaseClocks s
    let s := onSdl (fun d => { d with rate := d.fi, evalAt := s.now, inRow := 0, outRow := 0 }) s
    devFault 13 1 0 (raise SDL_EVENT_HOLDOVER 1 (setMst 3 s))
  else s

/-- An accepted change of the role table (R354). `was`: this package was the mesh master. -/
def roleChanged (s : State) : State :=
  if mstState s = 4 ∧ isMesh s then s
  else
    let s := if flag SDL_UPSTREAM_VALID s then raise SDL_EVENT_UPSTREAM_CHANGE 1 s else s
    onSdl (fun d => { d with link := [], lastSync := none, inRow := 0, outRow := 0, skewOs := [] })
      (setReg rSDL_UPSTREAM 0 (setMst 0 s))

/-! ### Slot skew (R367, R368) -/

/-- One evaluation, with the mean of offsets. -/
def skewMove (os : List Int) (s : State) : State :=
  -- the mean against a bound is the sum against so many times the bound
  let a := os.sum.natAbs
  let warn := fld SDL_SKEW_THR_WARN s * nsM * os.length
  let fence := fld SDL_SKEW_THR_FENCE s * nsM * os.length
  let above := if fence < a then s.sdl.above + 1 else 0
  let within := if a ≤ warn then s.sdl.within + 1 else 0
  let s := onSdl (fun d => { d with above := above, within := within }) s
  let pending := flag SDL_STATUS_STEP_PENDING s
  match fld SDL_STATUS_SKEW_STATE s with
  | 2 => if 8 ≤ within ∧ !pending ∧ 2 ≤ mstState s then setFld SDL_STATUS_SKEW_STATE 0 s else s
  | _ =>
    if 2 ≤ above ∨ pending then skewFence s
    else setFld SDL_STATUS_SKEW_STATE (b2n (decide (warn < a))) s

/-- SKEW_EVALUATION (R368): every 8 accepted Syncs, or every 0.5 ms in HOLDOVER. -/
def skewEvaluation (s : State) : State :=
  if mstState s = 3 then
    if s.now < s.sdl.evalAt + 500 * usT then s
    else
      let s := onSdl (fun d => { d with evalAt := d.evalAt + 500 * usT }) s
      let xs := s.sdl.peer.filter fun x => x.2.locked && peerRecent x.2 s && phaseOf (x.1 / 32) (x.1 % 32) s == .up
      if xs.isEmpty then s else skewMove (xs.map fun x => x.2.skew) s
  else if s.sdl.skewOs.length < 8 ∨ mstState s = 4 then s
  else skewMove (s.sdl.skewOs.take 8) (onSdl (fun d => { d with skewOs := d.skewOs.drop 8 }) s)

/-- REF_MISMATCH (R367) on link l of port p. -/
def refMismatch (p l : Nat) (s : State) : State :=
  let plesio : Bool := match activeBank s with
    | some b => (dropEntry b p l s).any (·.plesio)
    | none => true
  if phaseOf p l s ≠ .up ∨ plesio then s
  else devFault 13 3 p (raise SDL_EVENT_REF_MISMATCH 1 (setFld (SDL_PEER_REF_MISMATCH p) 1 s))

/-! ### Host sets (R354, R362, R363) -/

/-- Each plot's next metering record carries a TOD step (R421). -/
def noteTodStep (before after : Nat) (s : State) : State :=
  { s with
    mtrNext := 0
    mrec := loop (fun n m => upd {} n (fun r => { r with step := some (before, after) }) m) 16 s.mrec }

/-- TOD := a value in clock units (R362); a step where TOD had one. `st`: the state it enters. -/
def setTod (v st : Nat) (s : State) : State :=
  let before := todNs s
  let had := todState s != 0
  let d := (v : Int) - todM s
  let s := setFld SDL_STATUS_TOD_STATE st (onSdl (fun d => { d with tod := v, todAt := s.now }) (rebaseClocks (stepFalls true d s)))
  let s := if had then noteTodStep before (todNs s) (raise SDL_EVENT_TOD_STEP 1 s) else s
  pinStep true s

/-- SET_MST and MST_FROM_TOD on the mesh master (R354), or discarded. -/
def mstSet (a : Accessor) (fromTod : Bool) (s : State) : State :=
  if !isMesh s ∨ runOn s ∨ (fromTod ∧ todState s = 0) ∨ !(mstState s = 0 ∨ mstState s = 4) then discard a rSDL_CTRL s
  else
    let v := if fromTod then todM s else reg64 rSDL_SET_LO rSDL_SET_HI s * nsM
    let s := rebaseClocks s
    let s := onSdl (fun d => { d with rate := 0, fi := 0 }) s
    setMst 4 (stepMst ((mstM s : Int) - v) s)

/-- VT_ZERO (R363). -/
def vtZero (a : Accessor) (n : Nat) (s : State) : State :=
  if runOf n s then discard a rSDL_CTRL s
  else onSdl (fun d => { d with
    vt := put 0 n 0 d.vt
    vtPlot := d.vtPlot.map fun (p, r) => if p = n then (p, mstRun s) else (p, r) }) s

/-- A write of SDL_CTRL (R354, R362, R363, R375). -/
def sdlCtrlWrite (a : Accessor) (w : Word) (s : State) : State :=
  let on_ (f : Fld) : Bool := wfld f w == 1
  if wfld SDL_CTRL_TOD_SRC w = 3 ∨ (on_ SDL_CTRL_SET_MST && on_ SDL_CTRL_MST_FROM_TOD) then discard a rSDL_CTRL s
  else
    let s := rebaseClocks s
    let s := setFlds [(SDL_CTRL_VT_PLOT, wfld SDL_CTRL_VT_PLOT w), (SDL_CTRL_TOD_SRC, wfld SDL_CTRL_TOD_SRC w),
      (SDL_CTRL_ENABLE, wfld SDL_CTRL_ENABLE w)] s
    let s := if wfld SDL_CTRL_TOD_SRC w = 0 then setFld SDL_STATUS_TOD_STATE 0 s else s
    let s := if on_ SDL_CTRL_SET_TOD then
        (if wfld SDL_CTRL_TOD_SRC w = 2 then setTod (reg64 rSDL_SET_LO rSDL_SET_HI s * nsM) 3 s else discard a rSDL_CTRL s)
      else s
    let s := if on_ SDL_CTRL_SET_MST then mstSet a false s else if on_ SDL_CTRL_MST_FROM_TOD then mstSet a true s else s
    if on_ SDL_CTRL_VT_ZERO then vtZero a (wfld SDL_CTRL_VT_PLOT w) s else s

/-! ### The service port (R361) -/

/-- TOD is disciplined by the service port. -/
def svcOn (domain : Nat) (s : State) : Bool := fld SDL_CTRL_TOD_SRC s == 1 && fld SDL_SVC_CFG_DOMAIN s == domain

/-- An offset of TOD from the master, its Sync received at `rx` (clock units), sent at `sent` by its timestamps. -/
def svcOffset (rx : Nat) (sent : Int) (s : State) : State :=
  let asym := signed 16 (fld SDL_SVC_CFG_SVC_ASYM s) * (nsM / 16 : Nat)
  let o := (rx : Int) - (sent + s.sdl.svcDelay + asym)
  let step := todState s = 0 ∨ 1000000 * nsM < o.natAbs
  -- t2 is kept on the TOD that t3 will be read on
  let s := onSdl (fun d => { d with svcT21 := (rx : Int) - sent - (if step then o else 0) }) s
  if step then setTod ((todM s : Int) - o).toNat (if todState s = 0 then 3 else todState s) (onSdl (fun d => { d with svcRow := 0 }) s)
  else
    let row := if o.natAbs ≤ 100 * nsM then s.sdl.svcRow + 1 else 0
    -- the rate of TOD's servo is not stated: a free value, TOD never running backward
    let r := Config.freeInt s.fresh
    let s := rebaseClocks (drawn s)
    let s := onSdl (fun d => { d with svcRow := row, todRate := if r < -(stepM : Int) then -(stepM : Int) else r }) s
    if 16 ≤ row then setFld SDL_STATUS_TOD_STATE 1 s else s

/-- The device asks for the path delay (R361): a Delay_Req to the PTP event port of the primary multicast address. -/
def delayRequest (s : State) : State :=
  let seq := s.sdl.svcSeq % 2 ^ 16
  emit (.udp 0xE0000181 319 (delayReqMessage (fld SDL_SVC_CFG_DOMAIN s) seq))
    (onSdl (fun d => { d with svcReq := some (seq, todM s), svcSeq := d.svcSeq + 1 }) s)

/-- A message of the chosen master. -/
def svcFrom (domain src : Nat) (s : State) : Bool := svcOn domain s && s.sdl.svcMaster == some src

/-- SVC_SYNC (R361): from master `src`, of a logSyncInterval, its timestamps in ns with a correction in 2⁻¹⁶ ns. -/
def svcSync (domain src seq : Nat) (log : Int) (ns : Nat) (corr : Int) (twoStep : Bool) (s : State) : State :=
  if !svcFrom domain src s ∨ log < -4 ∨ 0 < log then s
  else if twoStep then onSdl (fun d => { d with svcWait := some (seq, todM s) }) s
  else delayRequest (svcOffset (todM s) ((ns : Int) * nsM + corr * (nsM / 2 ^ 16 : Nat)) s)

/-- SVC_FOLLOW_UP (R361). -/
def svcFollowUp (domain src seq ns : Nat) (corr : Int) (s : State) : State :=
  match s.sdl.svcWait with
  | none => s
  | some (q, rx) =>
    if !svcFrom domain src s ∨ q ≠ seq then s
    else delayRequest (svcOffset rx ((ns : Int) * nsM + corr * (nsM / 2 ^ 16 : Nat))
      (onSdl (fun d => { d with svcWait := none }) s))

/-- SVC_DELAY_RESP (R361): the answer to the Delay_Req of a sequence number of port `asker`: the delay is half of (t2 − t1) +
(t4 − t3). -/
def svcDelayResp (domain src seq asker ns : Nat) (corr : Int) (s : State) : State :=
  match s.sdl.svcReq with
  | none => s
  | some (q, t3) =>
    if !svcFrom domain src s ∨ q ≠ seq ∨ asker ≠ Config.svcIdentity then s
    else
      let t43 := (ns : Int) * nsM - corr * (nsM / 2 ^ 16 : Nat) - t3
      onSdl (fun d => { d with svcReq := none, svcDelay := (d.svcT21 + t43) / 2 }) s

/-- The first list comes before the second, number by number. -/
def listLess : List Nat → List Nat → Bool
  | a :: as, b :: bs => decide (a < b) || (a == b && listLess as bs)
  | _, _ => false

/-- Is master a better than b (IEEE 1588-2019 clause 9.3.4)? Of two that show one grandmaster, the nearer. -/
def betterMaster (a b : SvcMaster) : Bool :=
  if a.data.grandmaster = b.data.grandmaster then listLess [a.data.steps, a.src] [b.data.steps, b.src]
  else
    let attrs (d : ClockData) : List Nat := [d.priority1, d.clockClass, d.accuracy, d.variance, d.priority2, d.grandmaster]
    listLess (attrs a.data) (attrs b.data)

/-- A master qualifies with two Announces within four intervals, fewer than 255 steps away (clause 9.3.2.5). -/
def svcQualified (m : SvcMaster) (s : State) : Bool :=
  decide (m.data.steps < 255) && decide (s.now ≤ m.at_ + 4 * m.interval)
    && m.before.any fun t => decide (m.at_ ≤ t + 4 * m.interval)

/-- The master the slave-only clock follows: the best of those that qualify, the present one else. -/
def chooseMaster (s : State) : State :=
  let best := (s.sdl.svcSeen.filter fun m => svcQualified m s).foldl (fun (a : Option SvcMaster) m => match a with
    | none => some m
    | some b => if betterMaster m b then some m else some b) none
  match best with
  | some m => onSdl (fun d => { d with svcMaster := some m.src }) s
  | none => s

/-- SVC_ANNOUNCE (R361): of master `src` with an announce interval. -/
def svcAnnounce (domain src : Nat) (data : ClockData) (interval : Nat) (s : State) : State :=
  if !svcOn domain s then s
  else
    let before := (s.sdl.svcSeen.find? fun m => m.src == src).map (·.at_)
    let at_ := s.now
    chooseMaster (onSdl (fun d => { d with
      svcSeen := ⟨src, data, at_, before, interval⟩ :: d.svcSeen.filter fun m => m.src != src }) s)

/-- ANNOUNCE_TIMEOUT (R361): three announce intervals without an Announce of the master. -/
def announceTimeout (s : State) : State :=
  match s.sdl.svcMaster with
  | none => s
  | some src =>
    if s.sdl.svcSeen.any fun m => m.src == src && decide (s.now < m.at_ + 3 * m.interval) then s
    else
      let s := onSdl (fun d => { d with
        svcSeen := d.svcSeen.filter (fun m => m.src != src), svcMaster := none, svcRow := 0, svcWait := none, svcReq := none }) s
      if fld SDL_CTRL_TOD_SRC s = 1 ∧ todState s ≠ 0 then setFld SDL_STATUS_TOD_STATE 2 s else s

/-! ### Schedule slots (R364, R342) -/

/-- Is port p idle (R342)? -/
def portIdle (p : Nat) (s : State) : Bool :=
  (List.range 16).all fun l => let k := linkOf p l s; k.sends.isEmpty && k.posts.isEmpty && k.retry.isEmpty

/-- SLOT_START (R364): the slot's number, and the idle-slot boundary of R342. -/
def slotStart (s : State) : State :=
  let len := slotNs s
  if len = 0 ∨ mstNs s < s.sdl.nextSlot * len then s
  else
    let s := onSdl (fun d => { d with nextSlot := mstNs s / len + 1 }) s
    if flag TRM_CTRL_IDLE_EN s then applyTrims 4 (fun p => portIdle p s) s else s

/-- SDL_RATE: units of 2⁻⁴⁰, rounded to even. -/
def rateReg (s : State) : Word := BitVec.ofNat 32 (unsigned 32 (⟨s.sdl.rate * 2 ^ 40, 2 ^ 32 * 16000000⟩ : Frac).round)

/-- The kept result SDL_ADT_SEL names (R273, R375). -/
def adtResult (s : State) : Option Kept :=
  if 17 ≤ fld SDL_ADT_SEL_XCVR s then none
  else (get [] (17 * fld SDL_ADT_SEL_PORT s + fld SDL_ADT_SEL_XCVR s) s.csc.kept)[fld SDL_ADT_SEL_ENTRY s]?

/-- SDL_ADT_KEY and SDL_ADT_DELAY as they read. -/
def adtKey (s : State) : Nat :=
  match adtResult s with
  | none => 0
  | some k => 2 ^ 31 + k.llink * 2 ^ 27 + k.x * 2 ^ 23 + k.y * 2 ^ 19 + k.z * 2 ^ 16 + k.inter * 2 ^ 13
def adtDelay (s : State) : Nat := (adtResult s).elim 0 (·.delay)

end Sys2Proof.Machine
end

