-- ==== Sys2Proof/Machine/Host.lean ====
section
/-! DEFINITION. The host interface and the command queues (13_host_queues.md R376–R400): doorbells, grants, fetches,
sequence numbers, commands and copies, tags, the pause of Bus Master Enable, the link, the aperture and the sideband's
messages. -/
namespace Sys2Proof.Machine

/-- Is VF n + 1 enabled (R377)? -/
def vfOn (n : Nat) (s : State) : Bool := decide (n < s.vfs)

/-- Does plot n accept commands (R377, R404)? -/
def plotAccepts (n : Nat) (s : State) : Bool := vfOn n s && plotOpen n s

/-- Size of SQ q of plot n, and whether it is enabled. -/
def sqSize (n q : Nat) (s : State) : Nat := fld (PLOT_SQ_CFG_SIZE_M1 n q) s + 1
def sqOn (n q : Nat) (s : State) : Bool := bit (fld (PLOT_Q_CTRL_SQ_EN n) s) q

/-- The next entry SQ q fetches. -/
def sqHead (n q : Nat) (s : State) : Nat := fld (PLOT_SQ_HEAD_HEAD n q) s

/-! ### Tags (R392) -/

/-- Tags of every function. -/
def tagsUsed (s : State) : Nat := (s.func.map fun f => f.2.tags.length).sum

/-- Floor of each function (R392, R403); in isolation mode the share of R415. -/
def tagFloor (s : State) : Nat := min (fld GLB_TAG_FLOOR_FLOOR s) (fld GLB_TAG_STATUS_LIMIT s / 17)

/-- May function f hold one more tag (R392, R415)? -/
def tagFree (f : Nat) (s : State) : Bool :=
  let limit := fld GLB_TAG_STATUS_LIMIT s
  let used (g : Nat) : Nat := (func g s).tags.length
  let floor (g : Nat) : Nat := if (func g s).bme then tagFloor s else 0
  let fs := List.range 17
  let held := (fs.map floor).sum
  let shared := (fs.map fun g => used g - floor g).sum
  decide (tagsUsed s < limit) && if isoOn s then decide (used f < limit / 17)
    else decide (used f < floor f) || decide (shared + held < limit)

/-- The lowest tag of which no function holds a request. -/
def tagId (s : State) : Nat :=
  let ids := s.func.flatMap fun f => f.2.tags.map (·.id)
  ((List.range 1024).find? fun i => !ids.contains i).getD 0

/-- Issue a read request to host memory. -/
def hostRead (f : Nat) (copy : Bool) (sq seq piece addr len : Nat) (s : State) : State :=
  let id := tagId s
  onFunc f (fun g => { g with tags := g.tags ++ [⟨id, copy, sq, seq, piece, addr, len, s.now, false⟩] })
    (emit (.hostRead f id addr len) s)

/-- Completion timeout of a function (R376). -/
def tagLife (f : Nat) (s : State) : Nat := if (func f s).cfg.timeout = 1 then 100 * usT else 10 * msT

/-! ### Reads that wait for a tag (R392, R394) -/

/-- Has plot n a request out for this piece, on a tag that is not fenced? -/
def asked (n : Nat) (copy : Bool) (sq seq piece : Nat) (s : State) : Bool :=
  (func (n + 1) s).tags.any fun t => t.copy == copy && t.sq == sq && (!copy || t.seq == seq) && t.piece == piece && !t.fenced

/-- Ring indices of SQ q from the head up to the tail. -/
def ringOpen (n q : Nat) (s : State) : List Nat :=
  let size := sqSize n q s
  let h := sqHead n q s
  (List.range ((get 0 q (queueOf n s).tail + size - h) % size)).map fun i => (h + i) % size

/-- Pieces of a copy: the blocks of host memory it covers, of the size of one request; address and length of one. -/
def pieces (c : Copy) : List Nat :=
  if c.len = 0 then []
  else (List.range ((c.host + c.len - 1) / c.cut - c.host / c.cut + 1)).map fun i => c.host / c.cut + i
def pieceSpan (c : Copy) (j : Nat) : Nat × Nat :=
  let lo := max c.host (c.cut * j)
  (lo, min (c.host + c.len) (c.cut * (j + 1)) - lo)

/-- The fetches SQ q waits for, one 64-byte entry each: SQ, ring index and host address. -/
def fetchWants (n q : Nat) (s : State) : List (Nat × Nat × Nat) :=
  if !sqOn n q s || !vfOn n s || bit (queueOf n s).stopped q then []
  else ((ringOpen n q s).filter fun i => !asked n false q 0 i s && (get none (4096 * q + i) (queueOf n s).arrived).isNone).map
    fun i => (q, i, reg64 (rPLOT_SQ_BASE_LO n q) (rPLOT_SQ_BASE_HI n q) s + 64 * i)

/-- The pieces a COPY_IN waits for. -/
def copyWants (n : Nat) (c : Copy) (s : State) : List Nat :=
  if !c.toHbm || !isoWindow n s then []
  else (pieces c).filter fun j => (get [] j c.got).isEmpty && (get [] j c.wait).isEmpty && !asked n true c.sq c.seq j s

/-- Issue the next request plot n waits for, if there is one and a tag for it (R392). -/
def issueNext (n : Nat) (s : State) : State :=
  if paused n s || !tagFree (n + 1) s then s
  else match (List.range 4).flatMap fun q => fetchWants n q s with
    | (q, i, a) :: _ => hostRead (n + 1) false q 0 i a 64 s
    | [] => match (queueOf n s).copies.flatMap fun c => (copyWants n c s).map fun j => (c, j) with
      | (c, j) :: _ => hostRead (n + 1) true c.sq c.seq j (pieceSpan c j).1 (pieceSpan c j).2 s
      | [] => s

/-- Share the tags round-robin (R392): the functions with requests waiting take one each, from the one after the last that
did, until none waits or no tag is left. -/
def shareTags : Nat → State → State
  | 0, s => s
  | k + 1, s =>
    let before := tagsUsed s
    let first := s.tagTurn
    let s := forAll (fun i s =>
      let n := (first + i) % 16
      let s' := issueNext n s
      if tagsUsed s = tagsUsed s' then s' else { s' with tagTurn := (n + 1) % 16 }) (List.range 16) s
    if tagsUsed s = before then s else shareTags k s

/-- Change the copy of a command. -/
def onCopy (n sq seq : Nat) (f : Copy → Copy) (s : State) : State :=
  onQueue n (fun q => { q with copies := q.copies.map fun c => if c.sq = sq ∧ c.seq = seq then f c else c }) s

/-- Write a piece of a COPY_IN into HBM (R390, R417). -/
def copyWrite (n : Nat) (c : Copy) (j : Nat) (bs : List Byte) (s : State) : State :=
  let a := c.addr + ((pieceSpan c j).1 - c.host)
  let s := forAll (fun _ => meterAccess 3 n) (accessesOf a bs.length) s
  let s := hbmWriteAll ⟨some n, 0, false⟩ a bs s
  onCopy n c.sq c.seq (fun c => { c with got := put [] j bs c.got, wait := put [] j [] c.wait }) s

/-- Write what arrived for a copy outside its plot's slice (R415). -/
def copyFlush (n : Nat) (c : Copy) (s : State) : State :=
  if isoWindow n s then forAll (fun (p : Nat × List Byte) => copyWrite n c p.1 p.2) c.wait s else s

/-- Write the credit record (R385): due within 1 µs of a grant, and at most once a µs. -/
def creditWrite (n : Nat) (s : State) : State :=
  let q := queueOf n s
  let early := match q.creditAt with
    | some t => decide (s.now < t + usT)
    | none => false
  if !q.creditDue || paused n s || early || !flag (PLOT_CREDIT_ADDR_LO_CREDIT_EN n) s then s
  else
    let addr := reg64 (rPLOT_CREDIT_ADDR_LO n) (rPLOT_CREDIT_ADDR_HI n) s / 64 * 64
    let rec_ := (List.range 4).flatMap (fun i => bytesLE 4 (grantOf n i s)) ++ bytesLE 4 (q.credits + 1) ++ bytesLE 44 0
    onQueue n (fun q => { q with credits := (q.credits + 1) % 2 ^ 32, creditDue := false, creditAt := some s.now })
      (emit (.hostWrite (n + 1) addr rec_) s)

/-- Everything the queues of plot n may send to the host now. -/
def pumpPlot (n : Nat) (s : State) : State :=
  if paused n s then s
  else
    creditWrite n (forAll (copyFlush n) (queueOf n s).copies s)

/-- Everything every plot's queues may send now. -/
def pumpQueues (s : State) : State := shareTags 1024 (forAll (fun (x : Nat × Queue) => pumpPlot x.1) s.queue s)

/-! ### Doorbells, enables and grants (R382–R384) -/

/-- SQ_DOORBELL (R384): the host writes tail t of SQ q. -/
def sqDoorbell (n q t : Nat) (s : State) : State :=
  if !plotAccepts n s || 4 ≤ q || !sqOn n q s then s
  else
    let x := queueOf n s
    let size := sqSize n q s
    let k := (t + size - get 0 q x.tail) % size
    let credit := (grantOf n q s + 2 ^ 32 - get 0 q x.submitted) % 2 ^ 32
    if size ≤ t then queueErr n 1 q s
    else if credit < k then queueErr n 2 q s
    else onQueue n (fun x => { x with
      tail := put 0 q t x.tail, submitted := upd 0 q (fun v => (v + k) % 2 ^ 32) x.submitted }) s

/-- Posted entries the host has not freed. -/
def cqPosted (n : Nat) (s : State) : Nat :=
  (fld (PLOT_CQ_STATE_TAIL n) s + cqSize n s - fld (PLOT_CQ_STATE_HEAD n) s) % cqSize n s

/-- CQ_DOORBELL (R384): the host writes head h of the CQ. -/
def cqDoorbell (n h : Nat) (s : State) : State :=
  if !plotAccepts n s || !flag (PLOT_Q_CTRL_CQ_EN n) s then s
  else
    let size := cqSize n s
    let k := (h + size - fld (PLOT_CQ_STATE_HEAD n) s) % size
    if size ≤ h ∨ cqPosted n s < k then queueErr n 3 0 s else setFld (PLOT_CQ_STATE_HEAD n) h s

/-- Granted commands of plot n that have not completed. -/
def cqReserved (n : Nat) (s : State) : Nat :=
  let x := queueOf n s
  ((List.range 4).map fun q => (get 0 q x.grant + 2 ^ 32 - get 0 q x.completed) % 2 ^ 32).sum

/-- May SQ q be granted one more command (R383)? -/
def mayGrant (n q : Nat) (s : State) : Bool :=
  let x := queueOf n s
  sqOn n q s && decide ((get 0 q x.grant + 2 ^ 32 - get 0 q x.fetched) % 2 ^ 32 < 64)
    && decide (cqPosted n s + x.hold.length + cqReserved n s + 1 < cqSize n s)

/-- GRANT_STEP (R383, R385): one cycle of the queue engine over the SQs of plot n, in round-robin order. -/
def grantStep (n : Nat) (s : State) : State :=
  if !flag (PLOT_Q_CTRL_CQ_EN n) s then s
  else
    let turn := (queueOf n s).turn
    forAll (fun i s =>
      let q := (turn + i) % 4
      if mayGrant n q s then
        onQueue n (fun x => { x with
          grant := upd 0 q (fun g => (g + 1) % 2 ^ 32) x.grant, turn := (q + 1) % 4
          creditDue := x.creditDue || flag (PLOT_CREDIT_ADDR_LO_CREDIT_EN n) s }) s
      else s) (List.range 4) s

/-- Commands of SQ q fetched and not completed. -/
def sqOut (n q : Nat) (s : State) : Nat :=
  let x := queueOf n s
  ((x.staged ++ x.started).filter fun c => c.sq == q).length

/-- SQ q is enabled (R382): head, tail and counts at 0, the commands it fetched before still to be counted. -/
def enableSq (n q : Nat) (s : State) : State :=
  let out := sqOut n q s
  let st := ((queueOf n s).staged.filter fun c => c.sq == q).length
  let s := setFld (PLOT_SQ_HEAD_HEAD n q) 0 s
  onQueue n (fun x => { x with
    tail := put 0 q 0 x.tail, submitted := put 0 q 0 x.submitted, grant := put 0 q 0 x.grant
    fetched := put 0 q ((2 ^ 32 - st) % 2 ^ 32) x.fetched, completed := put 0 q ((2 ^ 32 - out) % 2 ^ 32) x.completed
    stopped := x.stopped &&& (15 ^^^ 2 ^ q) }) s

/-- SQ q is disabled (R382): what is not fetched is dropped, and its grants with it. An entry read still on its way is no
queue's any more. -/
def disableSq (n q : Nat) (s : State) : State :=
  let out := sqOut n q s
  let s := onFunc (n + 1) (fun g => { g with tags := g.tags.map fun t => if !t.copy && t.sq == q then { t with sq := 4 } else t }) s
  onQueue n (fun x => { x with
    arrived := clearRange (4096 * q) 4096 x.arrived
    grant := put 0 q ((get 0 q x.completed + out) % 2 ^ 32) x.grant }) s

/-- QUEUE_ENABLE (R382): a write of PLOT_Q_CTRL. The SQ bits are judged by the CQ_EN the write leaves. -/
def queueEnable (n : Nat) (w : Word) (s : State) : State :=
  let cq := wfld (PLOT_Q_CTRL_CQ_EN n) w
  let sq := wfld (PLOT_Q_CTRL_SQ_EN n) w
  if sq ≠ 0 ∧ cq = 0 then queueErr n 5 0 s
  else
    let s := if cq = 1 ∧ !flag (PLOT_Q_CTRL_CQ_EN n) s then
        setFlds [(PLOT_CQ_STATE_HEAD n, 0), (PLOT_CQ_STATE_TAIL n, 0), (PLOT_CQ_STATE_PHASE n, 1)] s
      else s
    let old := fld (PLOT_Q_CTRL_SQ_EN n) s
    let s := loop (fun q s =>
      if bit sq q && !bit old q then enableSq n q s else if bit old q && !bit sq q then disableSq n q s else s) 4 s
    setFlds [(PLOT_Q_CTRL_CQ_EN n, cq), (PLOT_Q_CTRL_SQ_EN n, sq)] s

/-- A write of a queue register of plot n at block offset `o` by its VF (R382, R401); one from elsewhere is ignored. A base
off 4 KiB is recorded as ORDER; a base or size of an enabled queue so too, and in the global error status. -/
def queueWrite (n o : Nat) (w : Word) (s : State) : State :=
  let off := 0x100000 + 0x10000 * n + o
  let lost (q : Nat) : State := queueErr n 5 q (discard (.vf n) off s)
  let base (q : Nat) (on : Bool) : State :=
    if on then lost q else if w.toNat % 4096 ≠ 0 then queueErr n 5 q s else setReg off w s
  let cqOn := flag (PLOT_Q_CTRL_CQ_EN n) s
  if o = 0 then queueEnable n w s
  else if o = 0x08 then base 0 cqOn
  else if o = 0x0C then (if cqOn then lost 0 else setReg off w s)
  else if o = 0x10 then
    let size := wfld (PLOT_CQ_CFG_SIZE_M1 n) w
    if size = 0 then queueErr n 5 0 s
    else if cqOn ∧ size ≠ fld (PLOT_CQ_CFG_SIZE_M1 n) s then lost 0
    else setFlds [(PLOT_CQ_CFG_VEC n, wfld (PLOT_CQ_CFG_VEC n) w), (PLOT_CQ_CFG_IRQ_EN n, wfld (PLOT_CQ_CFG_IRQ_EN n) w),
      (PLOT_CQ_CFG_SIZE_M1 n, size)] s
  else if o = 0x14 then cqCoalesce n (setFlds [(PLOT_CQ_COAL_COUNT n, wfld (PLOT_CQ_COAL_COUNT n) w),
    (PLOT_CQ_COAL_TIME n, wfld (PLOT_CQ_COAL_TIME n) w)] s)
  else if o = 0x18 then setFlds [(PLOT_CREDIT_ADDR_LO_ADDR_LO n, wfld (PLOT_CREDIT_ADDR_LO_ADDR_LO n) w),
    (PLOT_CREDIT_ADDR_LO_CREDIT_EN n, wfld (PLOT_CREDIT_ADDR_LO_CREDIT_EN n) w)] s
  else if o = 0x1C then setReg off w s
  else if o = 0x20 then clearW1c off w s
  else if 0x40 ≤ o ∧ o < 0x80 then
    let q := (o - 0x40) / 16
    let on := sqOn n q s
    if o % 16 = 0 then base q on
    else if o % 16 = 4 then (if on then lost q else setReg off w s)
    else if o % 16 = 8 then
      let size := wfld (PLOT_SQ_CFG_SIZE_M1 n q) w
      if size = 0 then queueErr n 5 q s else if on then lost q else setFld (PLOT_SQ_CFG_SIZE_M1 n q) size s
    else if o % 16 = 12 then (if on then s else setReg off w s)
    else s
  else s

/-! ### Entries (R386–R389) -/

/-- Operand bytes [i, i + k) of an entry as a number. -/
def arg (e : BitVec 512) (i k : Nat) : Nat := bits e.toNat (8 * (i + k) - 1) (8 * i)

/-- Bytes from `i` on are 0. -/
def zeroFrom (e : BitVec 512) (i : Nat) : Bool := e.toNat / 2 ^ (8 * i) == 0

/-- Reserved bytes and flags of an entry are 0 (R386, R389): a byte its command does not use is reserved. -/
def entryOk (e : BitVec 512) : Bool :=
  let op := arg e 0 1
  arg e 1 1 ≤ 1 && arg e 2 2 == 0 &&
    if op = 0 ∨ op = 3 ∨ op = 9 then zeroFrom e 16
    else if op = 1 ∨ op = 2 then zeroFrom e 24
    else if op = 4 then arg e 18 2 == 0 && zeroFrom e 24
    else if op = 5 then zeroFrom e 24
    else if op = 6 then zeroFrom e 21
    else zeroFrom e 36

/-- The commands of plot n that an abort ends: started and staged, in fetch order. -/
def insertCmd (c : Cmd) : List Cmd → List Cmd
  | [] => [c]
  | d :: ds => if c.no < d.no then c :: d :: ds else d :: insertCmd c ds

/-- A command that has left staging. -/
def passed (n q : Nat) (s : State) : State :=
  onQueue n (fun x => { x with fetched := upd 0 q (fun v => (v + 1) % 2 ^ 32) x.fetched }) s

/-- A duplicate is answered (R387): with the original's outcome, with ORIG_PENDING and an outcome the spec leaves open,
or with HISTORY_LOST. -/
def answerDup (n q seq tag : Nat) (s : State) : State :=
  let x := queueOf n s
  if (x.staged ++ x.started).any fun c => c.sq == q && c.seq == seq then
    let f (i : Nat) : Nat := (Config.freeWord (s.fresh + i)).toNat
    post n ⟨q, seq, tag, true, true, f 0 % 256, f 1 % 2 ^ 16, f 2 + 2 ^ 32 * f 3⟩ { s with fresh := s.fresh + 4 }
  else match (get [] q x.history).find? fun h => h.1 == seq && recentSeq n q seq s with
    | some (_, st, d, v) => post n ⟨q, seq, tag, true, false, st, d, v⟩ s
    | none => post n ⟨q, seq, tag, true, false, stHistoryLost, 0, 0⟩ s

/-- The started command of a plot that a refusal at once answers. -/
def startEntry (n : Nat) (c : Cmd) (s : State) : State :=
  onQueue n (fun x => { x with started := x.started ++ [c] }) s

/-- Commands started within the last µs. -/
def recentStarts (n : Nat) (s : State) : Nat := ((queueOf n s).starts.filter fun t => decide (s.now < t + usT)).length
def allStarts (s : State) : Nat := (s.queue.map fun x => recentStarts x.1 s).sum

/-- May a command of plot n start within the limits (R388, R415)? -/
def startRoom (n : Nat) (s : State) : Bool := decide (allStarts s < 64) && decide (recentStarts n s < if isoOn s then 4 else 16)

/-- A command leaves staging and starts (R388). -/
def startCmd (n : Nat) (c : Cmd) (s : State) : State :=
  onQueue n (fun x => { x with
    staged := x.staged.filter fun d => d.no != c.no
    started := x.started ++ [c]
    starts := s.now :: x.starts.filter fun t => decide (s.now < t + usT) }) (passed n c.sq s)

/-- COMMAND_FETCH (R387–R389), ABORT apart: the entry at the head of SQ q is checked against the expected sequence number,
then staged or answered. Answers the ABORT that starts at once (R388); one the limits hold back is staged. -/
def commandFetch (n q : Nat) (s : State) : State × Option (Nat × Nat) :=
  let x := queueOf n s
  let h := sqHead n q s
  match get none (4096 * q + h) x.arrived with
  | none => (s, none)
  | some e =>
    if !sqOn n q s ∨ !vfOn n s then (s, none)
    else
      let s := setFld (PLOT_SQ_HEAD_HEAD n q) (if h + 1 = sqSize n q s then 0 else h + 1) s
      let s := onQueue n (fun x => { x with arrived := put none (4096 * q + h) none x.arrived, fetchNo := x.fetchNo + 1 }) s
      let seq := arg e 4 4
      let exp := fld (PLOT_SQ_SEQ_EXP n q) s
      let d := (seq + 2 ^ 32 - exp) % 2 ^ 32
      let c : Cmd := ⟨x.fetchNo, q, seq, e⟩
      if d = 0 then
        let s := execSeq n q seq (setFld (PLOT_SQ_SEQ_EXP n q) (exp + 1) s)
        if 9 < arg e 0 1 then (complete n q seq stBadOpcode 0 0 (startEntry n c (passed n q s)), none)
        else if !entryOk e then (complete n q seq stBadField 0 0 (startEntry n c (passed n q s)), none)
        else if arg e 0 1 = 9 ∧ startRoom n s then (startCmd n c s, some (q, seq))
        else (onQueue n (fun x => { x with staged := x.staged ++ [c] }) s, none)
      else if d < 2 ^ 31 then (post n ⟨q, seq, entryTag e, false, false, stSeqGap, 0, 0⟩ (passed n q s), none)
      else (answerDup n q seq (entryTag e) (passed n q s), none)

/-! ### Commands (R388, R390) -/

/-- May the command at the front of SQ q start now (R377, R388, R415, R433)? Loads and copies also wait
for the SIDEBAND stage (R92, R508), and a load for the one loader of its kind. -/
def mayStart (n : Nat) (c : Cmd) (s : State) : Bool :=
  let x := queueOf n s
  !flag (PLOT_FAULT_STATUS_ABORTING n) s && vfOn n s && startRoom n s
    && (arg c.entry 1 1 == 0 || !((x.staged ++ x.started).any fun d => d.sq == c.sq && decide (d.no < c.no)))
    && (!([1, 2, 7, 8].contains (arg c.entry 0 1)) || loadsOpen s)
    && (arg c.entry 0 1 != 1 || s.seq.load.isNone || loadsProgram n s)
    && (arg c.entry 0 1 != 2 || s.dload.isNone || loadsDesc n s)

/-- A copy starts, or is refused (R390, R435): BAD_FIELD off a 64-byte multiple, WINDOW outside one segment. -/
def startCopy (n : Nat) (c : Cmd) (s : State) : State :=
  let host := arg c.entry 16 8
  let pa := arg c.entry 24 8
  let len := arg c.entry 32 4
  if halted s then complete n c.sq c.seq stBusy 0 0 s
  else if host % 64 ≠ 0 ∨ len % 64 ≠ 0 then complete n c.sq c.seq stBadField 0 0 s
  else match window n pa len s with
    | none => complete n c.sq c.seq stWindow 0 0 s
    | some a => onQueue n (fun x => { x with
        copies := x.copies ++ [⟨c.sq, c.seq, arg c.entry 0 1 == 7, host, pa, a, len, min 512 (func (n + 1) s).cfg.maxRead, [], []⟩] }) s

/-- A command of R390 starts, ABORT apart. -/
def runCmd (n : Nat) (c : Cmd) (s : State) : State :=
  let e := c.entry
  let q := c.sq
  let who := some (n, q, c.seq)
  let busy := halted s || loadsProgram n s || loadsDesc n s || runOf n s
  match arg e 0 1 with
  | 0 => complete n q c.seq stOK 0 0 s
  | 1 => if busy then complete n q c.seq stBusy 0 0 s else loadStart n (arg e 16 8) who s
  | 2 => if busy then complete n q c.seq stBusy 0 0 s else dloadStart n (arg e 16 8) who s
  | 3 => match startRefused n s with
    | some st => complete n q c.seq st 0 0 s
    | none => makeRunnable n who s
  | 4 => hostSignal n q c.seq (arg e 16 2) (arg e 20 4) s
  | 5 => hostWatch n q c.seq (arg e 16 2) (arg e 18 1) (arg e 19 1) (arg e 20 4) (tallyRun s)
  | 6 => hostUnwatch n q c.seq (arg e 16 4) (arg e 20 1) (tallyRun s)
  | 7 | 8 => startCopy n c s
  | _ => s

/-- The oldest staged command of SQ q starts, where the limits allow (R388), ABORT apart. -/
def commandStart (n q : Nat) (s : State) : State :=
  match (queueOf n s).staged.find? fun c => c.sq == q with
  | none => s
  | some c => if mayStart n c s then runCmd n c (startCmd n c s) else s

/-- The ABORT of SQ q that waits in staging for the limits. -/
def stagedAbort (n q : Nat) (s : State) : Option Cmd :=
  (queueOf n s).staged.find? fun c => c.sq == q && arg c.entry 0 1 == 9

/-- COPY_DONE (R390): every piece of a COPY_IN is written, or the bytes of a COPY_OUT go to host memory now. -/
def copyDone (n sq seq : Nat) (s : State) : State :=
  match (queueOf n s).copies.find? fun c => c.sq == sq && c.seq == seq with
  | none => s
  | some c =>
    if c.toHbm then
      if (pieces c).any fun j => (get [] j c.got).isEmpty then s
      else
        let data := (pieces c).flatMap fun j => get [] j c.got
        let s := if runOf n s then capEvent 7 n (c.plotAddr % 2 ^ 32) c.len (crc32 data) [] s else s
        complete n sq seq stOK 0 c.len s
    else if paused n s || !isoWindow n s then s
    else
      let bad := hbmBad c.addr c.len s
      let data := hbmData c.addr c.len s
      let s := forAll (fun _ => meterAccess 2 n) (accessesOf c.addr c.len) s
      let s := hbmCheckAll ⟨some n, 0, false⟩ c.addr c.len s
      let c := { c with cut := min 512 (max 128 (func (n + 1) s).cfg.maxPayload) }
      let s := forAll (fun j s =>
        emit (.hostWrite (n + 1) (pieceSpan c j).1 ((data.drop ((pieceSpan c j).1 - c.host)).take (pieceSpan c j).2)) s)
        (pieces c) s
      complete n sq seq (if bad then stHbmUe else stOK) 0 c.len s

/-- Bytes a copy has moved. -/
def copyMoved (c : Copy) : Nat := (c.got.map fun p => p.2.length).sum

/-! ### Completions from the host (R392–R394) -/

/-- A request of a function ends in error (R393): its SQ's fetching stops, or its copy ends with HOST_ERR. -/
def requestFails (n : Nat) (t : Tag) (s : State) : State :=
  if t.copy then
    match (queueOf n s).copies.find? fun c => c.sq == t.sq && c.seq == t.seq with
    | some c => complete n t.sq t.seq stHostErr 0 (copyMoved c) s
    | none => s
  else if sqOn n t.sq s then
    queueErr n 4 t.sq (onQueue n (fun x => { x with stopped := x.stopped ||| 2 ^ t.sq }) s)
  else s

/-- Free a tag of function f. -/
def freeTag (f id : Nat) (s : State) : State :=
  onFunc f (fun g => { g with tags := g.tags.filter fun t => t.id != id }) s

/-- READ_COMPLETION (R392–R394): data, or none for an error, arrives for tag `id` of function f. On a fenced tag it is
discarded. -/
def readCompletion (f id : Nat) (data : Option (List Byte)) (s : State) : State :=
  match (func f s).tags.find? fun t => t.id == id with
  | none => s
  | some t =>
    if t.fenced then s
    else
      let n := f - 1
      let s := freeTag f id s
      match data with
      | none => requestFails n t s
      | some bs =>
        if t.copy then
          match (queueOf n s).copies.find? fun c => c.sq == t.sq && c.seq == t.seq with
          | none => s
          | some c =>
            let bs := (bs ++ List.replicate t.len 0).take t.len
            if isoWindow n s then copyWrite n c t.piece bs s
            else onCopy n c.sq c.seq (fun c => { c with wait := put [] t.piece bs c.wait }) s
        else if sqOn n t.sq s && (ringOpen n t.sq s).contains t.piece then
          onQueue n (fun x => { x with
            arrived := put none (4096 * t.sq + t.piece) (some (BitVec.ofNat 512 (natLE (bs.take 64)))) x.arrived }) s
        else s

/-- COMPLETION_TIMEOUT (R393): a request that is not fenced gets no completion in time. -/
def completionTimeout (f id : Nat) (s : State) : State :=
  match (func f s).tags.find? fun t => t.id == id with
  | none => s
  | some t => if t.fenced ∨ s.now < t.at_ + tagLife f s then s else requestFails (f - 1) t (freeTag f id s)

/-- The function-level reset of a function is over once its abort is complete and no tag is left (R395). Its Device Control
fields are then at their reset values. -/
def flrOver (f : Nat) (s : State) : State :=
  if (func f s).flr && (func f s).tags.isEmpty && (f == 0 || !flag (PLOT_FAULT_STATUS_ABORTING (f - 1)) s) then
    onFunc f (fun g => { g with flr := false, cfg := { g.cfg with maxRead := 512, timeout := 0, d3 := false } }) s
  else s

/-- TAG_TIMEOUT (R394): a fenced tag is freed once the completion timeout has run from its request. -/
def tagTimeout (f id : Nat) (s : State) : State :=
  match (func f s).tags.find? fun t => t.id == id with
  | none => s
  | some t => if !t.fenced ∨ s.now < t.at_ + tagLife f s then s else flrOver f (freeTag f id s)

/-- COALESCE_TIMEOUT (R386): TIME µs after the first unsignalled completion. -/
def coalesceTimeout (n : Nat) (s : State) : State :=
  let t := fld (PLOT_CQ_COAL_TIME n) s
  if flag (PLOT_CQ_CFG_IRQ_EN n) s ∧ t ≠ 0 ∧ (queueOf n s).unsig ≠ 0 ∧ (queueOf n s).unsigAt + t * usT ≤ s.now then cqSignal n s
  else s

/-! ### Bus Master Enable and the link (R378, R381, R394) -/

/-- Fence the tags of a function (R394); `copies` only: those of its copies (R433). -/
def fenceTags (f : Nat) (copies : Bool) (s : State) : State :=
  onFunc f (fun g => { g with tags := g.tags.map fun t => if t.copy || !copies then { t with fenced := true } else t }) s

/-- A function's configuration fields are written (R376); those that R376 does not allow keep their values. -/
def configure (f : Nat) (c : PciConfig) (s : State) : State :=
  onFunc f (fun g => { g with cfg := {
    maxRead := if 128 ≤ c.maxRead ∧ c.maxRead ≤ 4096 then c.maxRead else g.cfg.maxRead
    maxPayload := if 128 ≤ c.maxPayload ∧ c.maxPayload ≤ 512 then c.maxPayload else g.cfg.maxPayload
    timeout := if c.timeout ≤ 2 then c.timeout else g.cfg.timeout
    d3 := c.d3
    bar2 := if f = 0 ∧ c.bar2 ≤ 6 then c.bar2 else g.cfg.bar2 } }) s

/-- BME_CLEAR (R376, R394, R396): a configuration write that clears Bus Master Enable. -/
def bmeClear (f : Nat) (c : PciConfig) (s : State) : State :=
  let s := configure f c s
  if !(func f s).bme then s
  else devFault 0 5 f (fenceTags f false (onFunc f (fun g => { g with bme := false }) s))

/-- Write the completions held of plot n, in order. -/
def writeHeld (n : Nat) (s : State) : State :=
  let h := (queueOf n s).hold
  let s := setFld (PLOT_Q_STATUS_HELD n) 0 (onQueue n (fun q => { q with hold := [] }) s)
  forAll (postNow n) h s

/-- Send the interrupts a function holds pending, if it may now (R381). -/
def sendPending (f : Nat) (s : State) : State := msixFlush f (if f = 0 then 64 else 8) s

/-- BME_SET (R376, R381, R394): a configuration write that leaves Bus Master Enable set: requests go out again, and held
completions and interrupts are sent. -/
def bmeSet (f : Nat) (c : PciConfig) (s : State) : State :=
  let s := onFunc f (fun g => { g with bme := true }) (configure f c s)
  let s := if f ≠ 0 ∧ !paused (f - 1) s then writeHeld (f - 1) s else s
  sendPending f s

/-- MSIX_ENABLE (R381). -/
def msixEnable (f : Nat) (s : State) : State := sendPending f (onFunc f (fun g => { g with msixEn := true }) s)

/-- NUMVFS_WRITE (R377): NumVFs, VF Enable and ARI Capable Hierarchy of the PF; above 7 only with ARI. -/
def numvfsWrite (num : Nat) (enable ari : Bool) (s : State) : State :=
  { s with vfs := if enable then min num (if ari then 16 else 7) else 0, ari := ari }

/-- The status of a trained PCIe link (R376, R378, R392): RATE code, width, FLIT mode and tag bits. -/
def setLink (rate width : Nat) (flit : Bool) (tagBits : Nat) (s : State) : State :=
  setFlds [(GLB_PCIE_STATUS_RATE, rate), (GLB_PCIE_STATUS_WIDTH, width), (GLB_PCIE_STATUS_FLIT, b2n flit),
    (GLB_PCIE_STATUS_LINK_UP, 1), (GLB_PCIE_STATUS_DEGRADED, b2n (decide (rate < 5) || decide (width < 16))),
    (GLB_TAG_STATUS_LIMIT, if flit then 1024 else if tagBits = 10 then 768 else 256)] s

/-- LINK_UP (R378, R396). -/
def pcieUp (rate width : Nat) (flit : Bool) (tagBits : Nat) (s : State) : State :=
  devFault 0 1 (2 ^ 11 * rate + 2 ^ 6 * width) (setLink rate width flit tagBits s)

/-- LINK_RATE_CHANGE (R378, R396). -/
def pcieChange (rate width : Nat) (flit : Bool) (tagBits : Nat) (s : State) : State :=
  if !flag GLB_PCIE_STATUS_LINK_UP s then s
  else if fld GLB_PCIE_STATUS_RATE s = rate ∧ fld GLB_PCIE_STATUS_WIDTH s = width then setLink rate width flit tagBits s
  else devFault 0 3 (2 ^ 11 * rate + 2 ^ 6 * width) (setLink rate width flit tagBits s)

/-! ### Where accesses reach -/

/-- Domains are gated (R500, R511). -/
def gated (s : State) : Bool := s.down.any fun d => decide (3 ≤ d.2)

/-- Are MCTP requests answered (R439)? Not while Chous restarts. -/
def mctpUp (s : State) : Bool := s.wdogAt.isNone

/-- Do accesses of an accessor reach the registers (R376, R439, R506, R508, R510)? The host's until its domain is gated, and
not in D3hot; the sideband's from the end of BOOT, not in Crucible (R490) and not while Chous restarts (R439). -/
def reaches (a : Accessor) (s : State) : Bool :=
  s.powered && !s.inReset && decide (3 ≤ stage s) && stage s != 10 && match a with
  | .host => !gated s && !(func 0 s).cfg.d3
  | .vf n => !gated s && vfOn n s && !(func (n + 1) s).cfg.d3
  | .sideband => mctpUp s
  | .device => true

/-! ### The aperture (R380) -/

/-- APERTURE_ACCESS (R379, R380, R510): a read of n bytes, or a write of bytes, at offset x of a BAR2 of the size set. -/
def apertureAccess (x : Nat) (write : Option (List Byte)) (n : Nat) (s : State) : State :=
  if !reaches .host s ∨ 2 ^ (30 + (func 0 s).cfg.bar2) < x + (write.map (·.length)).getD n then
    (if gated s || write.isSome then s else emit .unsupported s) else
  let l := fld GLB_APER_BASE_BASE s * 2 ^ 30 + x
  if l + (write.map (·.length)).getD n ≤ hbmBytes then apertureServe l write n s
  else match write with
    | some _ => s
    | none => emit (.aperture (List.replicate n 0xFF) false) s

/-! ### The sideband's messages (R397, R399, R400) -/

/-- READ_FIFO (R397, R400): of 1–14 entries; entries oldest first; an empty FIFO gives the last entry read and UNDERRUN. -/
def readFifo (count : Nat) (s : State) : State :=
  let es := s.sfifo.take count
  if !reaches .sideband s then s
  else if count = 0 ∨ 14 < count then emit (.mctp [2]) s
  else if es.isEmpty then
    let s := raise GLB_SFIFO_STATUS_UNDERRUN 1 s
    emit (.mctp ([0, 1, 1] ++ bytesLE 4 (fld GLB_SFIFO_LAST_ENTRY s))) s
  else
    let s := setReg rGLB_SFIFO_LAST (es.getLastD 0) { s with sfifo := s.sfifo.drop count }
    sfHold (emit (.mctp ([0, BitVec.ofNat 8 es.length, 0] ++ es.flatMap fun e => bytesLE 4 e.toNat)) s)

/-- SET_ENDPOINT_ID (R399): completion code, assignment accepted, the endpoint ID, no pool. Operations 0 (set) and 1 (force)
assign an ID of 8–254; others leave it. -/
def setEndpointId (op eid : Nat) (s : State) : State :=
  if !mctpUp s then s
  else if op ≤ 1 ∧ 8 ≤ eid ∧ eid ≤ 254 then emit (.mctp [0, 0, BitVec.ofNat 8 eid, 0]) { s with eid := eid }
  else emit (.mctp [2]) s

/-- GET_ENDPOINT_ID (R399): completion code, the ID, simple endpoint with dynamic EID, no medium-specific byte. -/
def getEndpointId (s : State) : State := if mctpUp s then emit (.mctp [0, BitVec.ofNat 8 s.eid, 0, 0]) s else s

/-- GET_MCTP_VERSION_SUPPORT (R399) for a message type: base 0xFF and control 0x00 give one entry, others none. -/
def getVersions (t : Nat) (s : State) : State :=
  if !mctpUp s then s
  else if t = 0xFF ∨ t = 0 then emit (.mctp [0, 1, 0xF1, 0xF3, 0xF1, 0x00]) s else emit (.mctp [0x80]) s

/-- GET_MESSAGE_TYPE_SUPPORT (R399, R400): control and vendor defined by IANA number. -/
def getMessageTypes (s : State) : State := if mctpUp s then emit (.mctp [0, 2, 0x00, 0x7F]) s else s

/-- GET_VENDOR_DEFINED_MESSAGE_SUPPORT (R399, R400): one set, by the IANA enterprise number of the identity registers. -/
def getVendorSupport (sel : Nat) (s : State) : State :=
  if !mctpUp s then s
  else if sel = 0 then emit (.mctp ([0, 0xFF, 1] ++ (bytesLE 4 (reg rGLB_IANA s).toNat).reverse ++ [0, 0])) s
  else emit (.mctp [2]) s

/-- ENTDAA (R399): the bus owner assigns a dynamic address; only on I3C. -/
def entdaa (addr : Nat) (s : State) : State := if s.strapI3c then { s with i3cAddr := some (addr % 128) } else s

end Sys2Proof.Machine
end

