-- ==== Sys2Proof/Machine/Abort.lean ====
section
/-! DEFINITION. Abort, function reset and halt (15_faults.md R433–R436; 13_host_queues.md R395; 14_plots_isolation.md
R404–R406): how an ABORT begins and completes, what a function-level reset adds, HALT_ALL and RESUME, and the opening,
closing and teardown of a plot. -/
namespace Sys2Proof.Machine

/-! ### ABORT (R433, R434, R436) -/

/-- The abort of plot n in progress. -/
def abortOf (n : Nat) (s : State) : Option Abort := s.aborts.find? fun a => a.plot == n

/-- An ABORT of plot n is in progress. -/
def aborting (n : Nat) (s : State) : Bool := flag (PLOT_FAULT_STATUS_ABORTING n) s

/-- A further ABORT joins the one in progress (R436): with a stop fault of the same instant the CODE is ABORT's. -/
def abortJoin (n code : Nat) (cmd : Option (Nat × Nat)) (s : State) : State :=
  { s with aborts := s.aborts.map fun a => if a.plot = n then
      { a with
        cmds := a.cmds ++ cmd.toList
        code := if (a.code = 3 ∧ code = 1 ∧ a.at_ = s.now) ∨ (a.code = 4 ∧ code ≠ 4) then code else a.code }
    else a }

/-- Loads of plot n are abandoned: the region's image or descriptors are invalid (R433). -/
def dropLoads (n : Nat) (s : State) : State :=
  let s := if loadsProgram n s then dropImage n (onSeq (fun q => { q with load := none }) s) else s
  if loadsDesc n s then setFld STM_DLOAD_STATUS_LOADING 0 (dropDescs n { s with dload := none }) else s

/-- The VALUE an aborted command completes with: END_CAUSE 5 of the START whose run ends, the bytes a copy has moved. -/
def abortValue (n : Nat) (start : Option (Nat × Nat × Nat)) (c : Cmd) (s : State) : Nat :=
  if start = some (n, c.sq, c.seq) then 5
  else match (queueOf n s).copies.find? fun d => d.sq == c.sq && d.seq == c.seq with
    | some d => if d.toHbm then copyMoved d else 0
    | none => 0

/-- Commands started, and staged before the ABORT, complete ABORTED in fetch order (R433). An ABORT in progress is not
among them. -/
def abortCmds (n : Nat) (start : Option (Nat × Nat × Nat)) (s : State) : State :=
  let x := queueOf n s
  let all := (x.staged ++ x.started).foldl (fun l c => insertCmd c l) []
  let s := forAll (fun c => passed n c.sq) x.staged s
  let s := onQueue n (fun x => { x with staged := [], started := x.started ++ x.staged }) s
  -- an ABORT that has started completes with the abort
  forAll (fun c s => if arg c.entry 0 1 = 9 ∧ x.started.contains c then s
    else complete n c.sq c.seq stAborted 0 (abortValue n start c s) s) all s

/-- The plot held the slice: its storage is scrubbed and the rest of the slice is idle (R433). -/
def idleRest (n : Nat) (s : State) : State :=
  if s.slice.owner = some n then
    setFld SEQ_SLICE_STATUS_IDLE 1 (scrubBegin { s with slice := { s.slice with owner := none } })
  else s

/-- What an ABORT of plot n does at once to everything of the plot but its commands (R433). -/
def abortObjects (n : Nat) (s : State) : State :=
  let s := if runOf n s then runEnd 5 s else s
  let s := cancelSeq n (tallyRun (runDisarm n (dropLoads n (dropRunnable n s))))
  let s := cutPlotPosts n false (cutPlotSends n false (endRequests n s))
  let s := fenceTags (n + 1) true (cancelHost n none s)
  { s with linkPlot := if s.linkPlot = some n then none else s.linkPlot }

/-- An ABORT of plot n starts with a CODE of CLASS 8, or joins the one in progress (R432, R433, R436). -/
def abortStart (n code : Nat) (cmd : Option (Nat × Nat)) (s : State) : State :=
  if aborting n s then abortJoin n code cmd s
  else
    let start := if runOf n s then s.seq.startCmd else none
    let s := setFld (PLOT_FAULT_STATUS_ABORTING n) 1 { s with aborts := s.aborts ++ [⟨n, code, s.now, cmd.toList⟩] }
    let s := if code = 3 then raise (PLOT_FAULT_STATUS_AUTO_ABORT n) 1 s else s
    idleRest n (abortCmds n start (abortObjects n s))

/-- COMMAND_FETCH (R387–R389): the entry at the head of SQ q of plot n, an ABORT in order starting at once (R388). -/
def fetchCommand (n q : Nat) (s : State) : State :=
  match commandFetch n q s with
  | (s, none) => s
  | (s, some c) => abortStart n 1 (some c) s

/-- COMMAND_START (R388): an ABORT that the limits held back goes first. -/
def startCommand (n q : Nat) (s : State) : State :=
  match stagedAbort n q s with
  | some c => if startRoom n s && vfOn n s then abortStart n 1 (some (q, c.seq)) (startCmd n c s) else s
  | none => commandStart n q s

/-- A duration in whole µs, saturating. -/
def durUs (t top : Nat) (s : State) : Nat := min ((s.now - t) / usT) top

/-- The state of plot n that FLR and teardown clear (R405, R406): tallies, watches, image, descriptors, trigger. -/
def clearPlot (n : Nat) (s : State) : State :=
  runDisarm n (dropDescs n (dropImage n (cancelSeq n (cancelHost n none (zeroTallies n s)))))

/-- The end of an FLR's abort (R395, R406, R446): held completions are discarded, the queue registers, PLOT_FAULT_CFG and
the MSI-X table take their reset values. -/
def flrEnd (n : Nat) (s : State) : State :=
  let s := clearPlot n s
  let s := { s with
    queue := put {} n {} s.queue
    regs := del (rPLOT_FAULT_CFG n) (clearRange (rPLOT_Q_CTRL n) 0xA0 s.regs) }
  flrOver (n + 1) (onFunc (n + 1) (fun g => { g with msixEn := false, pba := 0, table := [] }) s)

/-- ABORT_COMPLETE (R434): ABORTING clears, the abort is reported with its duration, and its commands complete OK. One that
HALT_ALL started is reported with the halt (R435). -/
def abortComplete (n : Nat) (s : State) : State :=
  match abortOf n s with
  | none => s
  | some a =>
    if s.seq.scrubEnd.isSome ∨ !(openRequests n s).isEmpty ∨ plotTransfers n s then s
    else
      let s := setFld (PLOT_FAULT_STATUS_ABORTING n) 0 { s with aborts := s.aborts.filter fun a => a.plot != n }
      let s := if a.code = 4 then s else plotFault n 8 a.code (durUs a.at_ 0x3FFF s) 0 s
      let s := forAll (fun (c : Nat × Nat) => complete n c.1 c.2 stOK 0 0) a.cmds s
      if (func (n + 1) s).flr then flrEnd n s else s

/-! ### FLR (R395, R396, R504) -/

/-- FLR of VF n + 1: it pauses as R394 states, and its plot is aborted. -/
def flrVf (n : Nat) (s : State) : State :=
  let s := devFault 0 4 (n + 1) s
  let s := fenceTags (n + 1) false (onFunc (n + 1) (fun g => { g with bme := false, msixEn := false, flr := true }) s)
  abortStart n 2 none s

/-- FLR of a function: the PF's acts on the PF and on every enabled VF. -/
def flrFunc (f : Nat) (s : State) : State :=
  if f = 0 then
    let s := devFault 0 4 0 s
    let s := fenceTags 0 false (onFunc 0 (fun g => { g with bme := false, msixEn := false, pba := 0, table := [], flr := true }) s)
    forAll flrVf (List.range s.vfs) (flrOver 0 s)
  else if vfOn (f - 1) s then flrVf (f - 1) s
  else s

/-- LINK_DOWN (R378, R396): an FLR of every function. -/
def pcieDown (s : State) : State :=
  let s := setFld GLB_PCIE_STATUS_LINK_UP 0 s
  flrFunc 0 (devFault 0 2 0 (bump GLB_PCIE_STATUS_DOWN_COUNT 1 s))

/-! ### HALT_ALL (R435, R436) -/

/-- HALT_ALL with a CAUSE of GLB_HALT_STATUS. A trip during one in progress takes it over (R436). -/
def haltAll (cause : Nat) (s : State) : State :=
  if halted s then (if cause = 3 then setFld GLB_HALT_STATUS_CAUSE 3 s else s)
  else
    let s := setFlds [(GLB_HALT_STATUS_HALTING, 1), (GLB_HALT_STATUS_CAUSE, cause)] { s with haltAt := some s.now }
    forAll (fun n s => if plotState n s = 0 then s else abortStart n 4 none s) (List.range 16) s

/-- HALT_ALL_COMPLETE (R435, R500): every abort is complete; HALTED is set and the halt reported. -/
def haltAllComplete (s : State) : State :=
  match s.haltAt with
  | none => s
  | some t =>
    if !s.aborts.isEmpty then s
    else
      let s := setFlds [(GLB_HALT_STATUS_HALTING, 0), (GLB_HALT_STATUS_HALTED, 1),
        (GLB_HALT_STATUS_LAST_DUR, durUs t 0xFFFF s)] { s with haltAt := none }
      devFault 8 4 (durUs t 0x3FFF s) s

/-- Is a die or a stack in ACT (R443)? -/
def dieAct (s : State) : Bool := (List.range 10).any fun g => get 0 g s.therm == 2

/-- RESUME (R435). -/
def resume (a : Accessor) (s : State) : State :=
  if flag GLB_HALT_STATUS_HALTING s || (isoOn s && dieAct s) || flag GLB_THERM_STATUS_TRIPPED s then
    discard a rGLB_HALT_CTRL s
  else setFld GLB_HALT_STATUS_HALTED 0 s

/-- A write of GLB_HALT_CTRL: HALT_ALL, then RESUME. -/
def haltCtrl (a : Accessor) (w : Word) (s : State) : State :=
  let s := if wfld GLB_HALT_CTRL_HALT_ALL w = 1 then haltAll 1 s else s
  if wfld GLB_HALT_CTRL_RESUME w = 1 then resume a s else s

/-! ### Opening and closing a plot (R404, R405) -/

/-- OPEN of plot n (R404); no effect on a plot that is not FREE. -/
def openPlot (a : Accessor) (n : Nat) (s : State) : State :=
  if plotState n s ≠ 0 then s
  else if flag (SEQ_ISR_VALID n) s ∧ flag (TLY_TR_VALID n) s ∧ flag (TLY_WR_VALID n) s
      ∧ (!isoOn s ∨ flag (CSC_PLOT_HOME_VALID n) s) then setFld (PLOT_STATUS_STATE n) 1 s
  else discard a (rPLOT_CTRL n) s

/-- CLOSE of plot n (R404): the plot is aborted and its queue enables are cleared. -/
def closePlot (n : Nat) (s : State) : State :=
  if plotState n s = 1 then
    queueEnable n 0 (abortStart n 5 none (setFld (PLOT_STATUS_STATE n) 2 s))
  else s

end Sys2Proof.Machine
end

