-- ==== Sys2Proof/Machine/Thermal.lean ====
section
/-! DEFINITION. Thermal events, the management watchdog and error injection (15_faults.md R439, R442–R445, R447). -/
namespace Sys2Proof.Machine

/-! ### Thermal states (R442, R443) -/

/-- The state of a sensor group at a reading: groups 0 and 1 the dies, 2–9 the stacks, 10–15 the laser banks. ACT of a die
or stack is left at 92 °C, WARN of a stack at 82 °C (R175); TRIP is not left. -/
def nextTherm (g was t : Nat) (s : State) : Nat :=
  if g < 10 then
    let warn := if g < 2 then fld GLB_THERM_CFG_TJ_WARN s else 85
    let out := if g < 2 then warn else 83
    if was = 3 ∨ 105 ≤ t then 3
    else if 95 ≤ t ∨ (was = 2 ∧ 92 < t) then 2
    else if warn ≤ t ∨ (was ≠ 0 ∧ out ≤ t) then 1 else 0
  else if 65 ≤ t then 2 else if 55 ≤ t then 1 else 0

/-- The registers that show a group's temperature. -/
def thermShow (g t : Nat) (s : State) : State :=
  if g = 0 then setFld GLB_THERM_STATUS_TJ_A t s
  else if g = 1 then setFld GLB_THERM_STATUS_TJ_B t s
  else if g < 10 then setFld (HBM_STACK_STATUS_TEMP (g - 2)) t s
  else setFlds [(OPT_BANK_STATUS_TEMP (g - 10), t), (OPT_BANK_STATUS_HOT (g - 10), b2n (decide (55 ≤ t)))] s

/-- Turn a laser bank off: its ENABLE is cleared by the device. -/
def bankOff (p : Nat) (s : State) : State :=
  let was := flag (OPT_BANK_CTRL_ENABLE p) s
  bankEnable p was (hwFld (OPT_BANK_CTRL_ENABLE p) 0 s)

/-- TRIP (R444): HALT_ALL with CAUSE 3, and the snapshot of source TRIP with the flush that follows it. -/
def thermalTrip (s : State) : State :=
  if flag GLB_THERM_STATUS_TRIPPED s then s
  else trigger 7 0 (some 2) (haltAll 3 (setFld GLB_THERM_STATUS_TRIPPED 1 { s with tripAt := some s.now }))

/-- THROTTLE (R443): a die or stack in ACT, isolation mode off, and no trip. -/
def throttle (s : State) : State :=
  setFld GLB_THERM_STATUS_THROTTLE (b2n (dieAct s && !isoOn s && !flag GLB_THERM_STATUS_TRIPPED s)) s

/-- A group enters another state (R442–R444): a rise is reported with the state entered, a fall from ACT as RELEASE. -/
def thermEnter (g was st detail : Nat) (s : State) : State :=
  let s := if was < st then devFault 11 (if st = 3 then 4 else st) detail s
    else if was = 2 then devFault 11 3 detail s else s
  if st ≤ was then s
  else if st = 3 then thermalTrip s
  else if st = 2 then
    if g < 10 then (if isoOn s then haltAll 2 s else s)
    else devFault 11 5 detail (hwFld (LNK_PORT_CTRL_FENCE (g - 10)) 1 (bankOff (g - 10) s))
  else s

/-- One group's reading. -/
def thermRead (g t : Nat) (s : State) : State :=
  let was := get 0 g s.therm
  let st := nextTherm g was t s
  let s := thermShow g (t % 256) s
  if st = was then s else thermEnter g was st (1024 * g + t % 256) { s with therm := put 0 g st s.therm }

/-- The highest state of the eight stacks. -/
def hbmTherm (s : State) : Nat := (List.range 8).foldl (fun m k => max m (get 0 (k + 2) s.therm)) 0

/-- SENSOR_READ (R442): the readings of the sixteen groups in °C. -/
def sensorRead (temps : List Nat) (s : State) : State :=
  let s := forAll (fun (x : Nat × Nat) => thermRead x.1 x.2) (enum 0 (temps.take 16)) s
  throttle (setFlds [(GLB_THERM_STATUS_STATE_A, get 0 0 s.therm), (GLB_THERM_STATUS_STATE_B, get 0 1 s.therm),
    (GLB_THERM_STATUS_STATE_HBM, hbmTherm s)] s)

/-- Isolation mode has changed: an ACT state that holds acts as on its entry in the new mode (R443). -/
def thermIso (s : State) : State := throttle (if isoOn s && dieAct s then haltAll 2 s else s)

/-- TRIP_OPTICS_OFF (R444): 260 µs after the trip every laser is OFF and the CSC in OFF. -/
def tripOpticsOff (s : State) : State :=
  match s.tripAt with
  | none => s
  | some t => if s.now < t + 260 * usT then s else cscOff (loop bankOff 6 s)

/-! ### Watchdog (R439) -/

/-- Does the management core run (R439)? -/
def chousUp (s : State) : Bool := s.wdogAt.isNone

/-- WATCHDOG_EXPIRY (R439): the core is held in reset. -/
def watchdogExpiry (s : State) : State :=
  if chousUp s then bump GLB_WDOG_STATUS_EXPIRIES 1 { s with wdogAt := some s.now, fw := { s.fw with wdog := true } } else s

/-- CHOUS_RESTART (R439): after 1 ms Chous restarts, and the expiry is entered in the FIFO. -/
def chousRestart (s : State) : State :=
  match s.wdogAt with
  | none => s
  | some t =>
    if s.now < t + msT then s
    else devFault 14 1 (min (fld GLB_WDOG_STATUS_EXPIRIES s) 0x3FFF) { s with wdogAt := none }

/-! ### Injection (R445) -/

/-- The injections whose event is their arming: LANE_DARK, FIBRE_DARK and LASER. -/
def injAtOnce (kind target : Nat) (counts : Map Nat) (s : State) : State :=
  match kind with
  | 7 => injConsume { s with dark := (7, target) :: s.dark }
  | 8 => injConsume { s with dark := (8, target) :: s.dark }
  | 9 =>
    let p := bits target 23 21
    let j := bits target 3 0
    injConsume (if p < 6 ∧ j < 9 then laserFails p j 1 counts s else s)
  | _ => s

/-- A write of GLB_INJ_CTRL: DONE cleared (INJ_DONE_CLEAR), the fields stored, then ARM (INJ_ARM). -/
def injCtrl (a : Accessor) (w : Word) (counts : Map Nat) (s : State) : State :=
  let s := if wfld GLB_INJ_CTRL_DONE w = 1 then clearW1c rGLB_INJ_CTRL w { s with dark := [] } else s
  let kind := wfld GLB_INJ_CTRL_KIND w
  let target := wfld GLB_INJ_CTRL_TARGET w
  let s := setFlds [(GLB_INJ_CTRL_KIND, kind), (GLB_INJ_CTRL_TARGET, target)] s
  if wfld GLB_INJ_CTRL_ARM w = 0 then s
  else if isoOn s ∨ flag GLB_INJ_CTRL_BUSY s ∨ kind = 0 ∨ 10 < kind then discard a rGLB_INJ_CTRL s
  else injAtOnce kind target counts (setFld GLB_INJ_CTRL_BUSY 1 { s with
    inj := some (kind, target, reg64 rGLB_INJ_ADDR_LO rGLB_INJ_ADDR_HI s) })

end Sys2Proof.Machine
end

