-- ==== Sys2Proof/Machine/Plots.lean ====
section
/-! DEFINITION. Plots, slices, isolation and metering (14_plots_isolation.md R404–R424), and the boundaries at which trims
apply and lanes return (11_anneal_engine.md R342; 10_optical_engines.md R312). -/
namespace Sys2Proof.Machine

/-! ### Metering records (R418–R421) -/

/-- Time of a record: TOD, or free-running time while TOD is INVALID (R418). -/
def meterTime (s : State) : Nat := if todState s = 0 then freeNs s else todNs s

/-- Bytes 0–31 of a record, its STEP fields, counters and VT. RSEQ is set as it is written. -/
def recordBytes (n start flags : Nat) (step : Option (Nat × Nat)) (s : State) : List Byte :=
  let st := step.getD (0, 0)
  bytesLE 8 start ++ bytesLE 8 (meterTime s) ++ [BitVec.ofNat 8 n, BitVec.ofNat 8 flags] ++ bytesLE 2 0 ++ bytesLE 4 0
    ++ bytesLE 8 st.1 ++ bytesLE 8 st.2 ++ (List.range 6).flatMap (fun k => bytesLE 8 (get 0 (8 * n + k) s.meter))
    ++ bytesLE 8 (vtNs n s) ++ bytesLE 32 0

/-- The ring is full, or off: a record is held pending (R420). -/
def ringFull (s : State) : Bool :=
  let size := 2 ^ fld MTR_RING_CFG_SIZE_LOG2 s
  !flag MTR_RING_CFG_RING_EN s || !(func 0 s).bme || (fld MTR_RING_TAIL_TAIL s + 1) % size == fld MTR_RING_HEAD_HEAD s

/-- Change plot n's metering. -/
def onMeter (n : Nat) (f : Meter → Meter) (s : State) : State := { s with mrec := upd {} n f s.mrec }

/-- MTR_STATUS PENDING bit of plot n. -/
def pendBit (n v : Nat) (s : State) : State := setFld ⟨rMTR_STATUS, n, n⟩ v s

/-- Write the pending record of plot n, if it may be written (R419, R420, R546). -/
def writeRecord (n : Nat) (s : State) : State :=
  let m := get {} n s.mrec
  match m.pend with
  | none => s
  | some r =>
    if ringFull s then s
    else
      let tail := fld MTR_RING_TAIL_TAIL s
      let bytes := bytesLE 128 (putBits r.toNat 191 160 m.rseq)
      let s := emit (.hostWrite 0 (reg64 rMTR_RING_BASE_LO rMTR_RING_BASE_HI s + 128 * tail) bytes) s
      let s := setFld MTR_RING_TAIL_TAIL ((tail + 1) % 2 ^ fld MTR_RING_CFG_SIZE_LOG2 s) s
      irq 17 (pendBit n 0 (onMeter n (fun m => { m with rseq := (m.rseq + 1) % 2 ^ 32, pend := none }) s))

/-- PENDING_RECORD_WRITE (R420): in plot order, as space and Bus Master Enable allow. -/
def writeRecords (s : State) : State := loop writeRecord 16 s

/-- Close a record of plot n (R418–R421): it merges into one still pending. -/
def closeRecord (n : Nat) (final : Bool) (s : State) : State :=
  let s := meterRun (cycle s) s
  let m := get {} n s.mrec
  let free := todState s == 0
  let (start, old) := match m.pend with
    | some r => (bits r.toNat 63 0, some r)
    | none => (m.prevEnd, none)
  let was (b : Nat) : Bool := old.any fun r => bit r.toNat (136 + b)
  let flags := b2n (m.step.isSome || was 0) + 2 * b2n old.isSome + 4 * b2n (free || was 2) + 8 * b2n (final || was 3)
  let step := match m.step, old with
    | some x, _ => some x
    | none, some r => if was 0 then some (bits r.toNat 255 192, bits r.toNat 319 256) else none
    | none, none => none
  let rec_ := BitVec.ofNat 1024 (natLE (recordBytes n start flags step s))
  pendBit n 1 (onMeter n (fun m => { m with prevEnd := meterTime s, step := none, pend := some rec_ }) s)

/-- METERING_BOUNDARY (R418): at a multiple of PERIOD ms, once, a record is closed for every plot that is OPEN or CLOSING. -/
def meteringBoundary (s : State) : State :=
  let p := fld MTR_CTRL_PERIOD s * 1000000
  let t := meterTime s
  if !flag MTR_CTRL_ENABLE s ∨ p = 0 ∨ t % p ≠ 0 ∨ s.mtrNext = t + 1 then s
  else writeRecords (forAll (fun n s => if plotState n s = 0 then s else closeRecord n false s) (List.range 16)
    { s with mtrNext := t + 1 })

/-! ### Teardown (R404, R405) -/

/-- TEARDOWN (R404, R405): once the abort of a CLOSING plot is complete and its tags are freed, the plot is FREE. -/
def teardown (n : Nat) (s : State) : State :=
  if plotState n s ≠ 2 ∨ aborting n s ∨ !(func (n + 1) s).tags.isEmpty then s
  else writeRecords (closeRecord n true (clearPlot n (setFld (PLOT_STATUS_STATE n) 0 s)))

/-! ### Boundaries of R312 and R342 -/

/-- Every pending trim applies, and lanes return to wavelengths a spare lights. -/
def boundary (kind : Nat) (counts : Map Nat) (s : State) : State := laneReturn counts (applyTrims kind (fun _ => true) s)

/-- GUARD_SWITCH (R281, R312, R342). -/
def guardSwitch (counts : Map Nat) (s : State) : State :=
  let (s, switched) := guardSwitched s
  if switched then boundary 1 counts s else s

/-- REPLAN_PHASE (R285, R312, R333, R334, R341, R342). -/
def replanPhase (spares : List (Nat × Bool × Bool)) (counts : Map Nat) (s : State) : State :=
  let first := s.csc.replan.any fun r => r.phase.isNone
  match replanNext spares s with
  | (s, none) => s
  | (s, some moves) =>
    let s := boundary 3 counts s
    moveElements moves (if first then rehomeFailed s else s)

/-! ### Around a slice start (R407, R409–R412) -/

/-- MST of the next slice start. -/
def nextStart (s : State) : Nat := s.sdl.nextSlice * sliceNs s

/-- The slice timeline has come to so many ns before the next slice start. -/
def comesTo (before : Nat) (s : State) : Bool :=
  mstValid s && sliceNs s != 0 && decide (nextStart s ≤ mstNs s + before)

/-- The drain begins (R409): the run still in progress ends with SLICE_END. -/
def beginDrain (s : State) : State :=
  if s.slice.drained then s
  else setFld SEQ_SLICE_STATUS_DRAINING 1 { runEnd 2 s with slice := { (runEnd 2 s).slice with drained := true } }

/-- Send stop (R409). -/
def stopSends (s : State) : State :=
  if s.slice.sendStop then s
  else forAll (fun n => cutPlotSends n true) (List.range 16) { s with slice := { s.slice with sendStop := true } }

/-- Receive close (R409, R412). -/
def closeReceives (s : State) : State :=
  if s.slice.recvClose then s
  else
    let s := forAll (fun n => cutPlotPosts n true) (List.range 16) s
    { s with linkPlot := none, slice := { s.slice with recvClose := true } }

/-- DRAIN_START, SEND_STOP and RECEIVE_CLOSE (R409). -/
def drainStart (s : State) : State := if comesTo (fld SEQ_SLICE_CTRL_DRAIN s * 1000) s then beginDrain s else s
def sendStop (s : State) : State := if comesTo 2000 s then stopSends (beginDrain s) else s
def receiveClose (s : State) : State := if comesTo 1000 s then closeReceives (stopSends (beginDrain s)) else s

/-- The plot slice N belongs to, and its table entry (R407, R435). -/
def sliceOwner (N : Nat) (s : State) : Option Nat × Nat :=
  if !flag SEQ_SLICE_CTRL_ENABLE s then (none, 0)
  else
    let e := N % (fld SEQ_SLICE_CTRL_LEN_M1 s + 1)
    let p := fld (SEQ_SLICE_TAB_PLOT e) s
    (if flag (SEQ_SLICE_TAB_VALID e) s && plotOpen p s && !halted s then some p else none, e)

/-- Every stream request still in progress is ended, counted and reported with kind DRAIN (R410). -/
def forceRequests (s : State) : State :=
  forAll (fun n s =>
    let rs := openRequests n s
    let s := forAll (fun (x : Nat × StmReq) s => plotFault n 3 9 x.1 0 (bump SEQ_SLICE_STATUS_FORCED 1 s)) rs s
    if rs.isEmpty then s else endRequests n s) (List.range 16) s

/-- Virtual time passes from the plot of the ending slice to that of the new one (R363). -/
def switchVt (p : Option Nat) (s : State) : State :=
  let vt := match s.sdl.vtPlot with
    | some (q, r) => put 0 q (get 0 q s.sdl.vt + (mstRun s - r)) s.sdl.vt
    | none => s.sdl.vt
  onSdl (fun d => { d with vt := vt, vtPlot := p.map fun q => (q, mstRun s) }) s

/-- SLICE_START (R364, R407, R409, R410): only in stage READY with MST valid. -/
def sliceStart (counts : Map Nat) (s : State) : State :=
  if fld GLB_STARTUP_STATUS_STAGE s ≠ 8 ∨ !comesTo 0 s then s
  else
    let s := forceRequests (closeReceives (stopSends (beginDrain s)))
    let N := mstNs s / sliceNs s
    let (p, e) := sliceOwner N s
    let s := onSdl (fun d => { d with nextSlice := N + 1 }) (switchVt p s)
    let s := setFlds [(SEQ_SLICE_STATUS_PLOT, p.getD 0), (SEQ_SLICE_STATUS_IDLE, b2n p.isNone),
      (SEQ_SLICE_STATUS_DRAINING, 0), (SEQ_SLICE_STATUS_ENTRY, e)] s
    let s := onSeq (fun q => { q with issuedInSlice := false }) (scrubBegin { s with reported := [] })
    let s := { s with slice := ⟨p, N, s.now, false, false, false⟩ }
    let s := match p with
      | some q => homeSwap q (N * sliceNs s) s
      | none => s
    trigger 3 0 none (boundary 2 counts s)

/-! ### Isolation mode (R414, R467) -/

/-- Is the running firmware authentic (R413)? Every image the ROM starts has passed its checks; Crucible is not. -/
def authentic (s : State) : Bool := flag FWU_STATUS_AUTHENTIC s

/-- HOT of every stack shows the interval in use (R175). -/
def showHot (s : State) : State :=
  loop (fun k s => setFld (HBM_STACK_STATUS_HOT k) (b2n ((get {} k s.hbm.stack).hot || isoOn s)) s) 8 s

/-- Why isolation mode cannot turn on: 1 BUSY, 2 FIRMWARE, 3 HOME (R414). -/
def isoRefused (s : State) : Option Nat :=
  if runOn s || s.seq.load.isSome || s.dload.isSome then some 1
  else if !authentic s then some 2
  else if (List.range 16).any fun n => plotOpen n s && !flag (CSC_PLOT_HOME_VALID n) s then some 3
  else none

/-- ISO_EN (R414): a write of SEQ_ISO_CTRL. -/
def isoWrite (a : Accessor) (w : Word) (s : State) : State :=
  if wfld SEQ_ISO_CTRL_ISO_EN w = 0 then
    if runOn s then discard a rSEQ_ISO_CTRL s
    else thermIso (showHot (setFlds [(SEQ_ISO_CTRL_ISO_EN, 0), (SEQ_ISO_CTRL_ISO_ON, 0)] s))
  else
    let s := setFld SEQ_ISO_CTRL_ISO_EN 1 s
    if isoOn s then s
    else match isoRefused s with
      | some r => setFld SEQ_ISO_CTRL_REASON r s
      | none =>
        let s := setFld SEQ_ISO_CTRL_ISO_ON 1 s
        let s := if flag HMK_CAP_CFG_CAP_EN s ∧ fld HMK_CAP_STATUS_STOP s = 0 then setFld HMK_CAP_STATUS_STOP 3 s else s
        thermIso (showHot s)

end Sys2Proof.Machine
end

