-- ==== Sys2Proof/Machine/Train.lean ====
section
/-! DEFINITION. Training, loss, refresh and recalibration of the HBM stacks (06_stream_memory.md R171–R176). -/
namespace Sys2Proof.Machine

/-- Stack k. -/
def stackOf (k : Nat) (s : State) : Stack := get {} k s.hbm.stack

/-- Change stack k. -/
def onStack (k : Nat) (f : Stack → Stack) (s : State) : State := { s with hbm := { s.hbm with stack := upd {} k f s.hbm.stack } }

/-- Stack k enters a phase now. -/
def setStack (k : Nat) (ph : StackPhase) (s : State) : State := onStack k (fun x => { x with phase := ph, since := s.now }) s

/-- The highest declared rate not above `top` (R172): rate codes 0 to 3. -/
def bestRate (rates top : Nat) : Option Nat := (List.range (top + 1)).reverse.find? fun r => rates.testBit r

/-- Has stack k reached DONE or FAILED? -/
def trained (k : Nat) (s : State) : Bool := (stackOf k s).phase == .done || (stackOf k s).phase == .failed

/-- Has every stack? -/
def allTrained (s : State) : Bool := (List.range 8).all fun k => trained k s

/-- The lowest rate of the DONE stacks. -/
def lowestRate (s : State) : Option Nat :=
  (List.range 4).find? fun r => (List.range 8).any fun k => (stackOf k s).phase == .done && (stackOf k s).rate == r

/-- With EQUALIZE, once every stack is DONE or FAILED, each DONE stack above the lowest DONE rate retrains at it (R172). -/
def equalize (s : State) : State :=
  match lowestRate s with
  | none => s
  | some r =>
    if !flag HBM_CTRL_EQUALIZE s || !allTrained s then s
    else loop (fun k s =>
      if (stackOf k s).phase = .done ∧ r < (stackOf k s).rate then
        setFld (HBM_STACK_STATUS_DONE k) 0 (onStack k (fun x => { x with rate := r, equal := true }) (setStack k .train s))
      else s) 8 s

/-- Stack k is FAILED with a CAUSE (R174): NO_STACK, TRAIN and VERIFY 0x02 STACK_FAILED, LOST 0x03 STACK_LOST (R429). -/
def failStack (k cause : Nat) (s : State) : State :=
  let s := setFlds [(HBM_STACK_STATUS_FAILED k, 1), (HBM_STACK_STATUS_DONE k, 0), (HBM_STACK_STATUS_CAUSE k, cause)]
    (setStack k .failed s)
  devFault 12 (if cause = 4 then 3 else 2) k s

/-- Training or verify of stack k failed: the next lower rate is tried, or the stack is FAILED (R172). -/
def lowerRate (k cause : Nat) (s : State) : State :=
  let x := stackOf k s
  if x.rate = 0 then equalize (failStack k cause s)
  else onStack k (fun x => { x with rate := x.rate - 1, equal := false }) (setStack k .train s)

/-- The HBM stage begins (R172, R508): every stack is powered and its identity read. -/
def trainBegin (s : State) : State := loop (fun k => setStack k .init) 8 s

/-- STACK_IDENTITY_READ (R172): within 2 ms, what stack k declares: whether it matches R171, and its rates. -/
def identityRead (k : Nat) (ok : Bool) (rates : Nat) (s : State) : State :=
  let x := stackOf k s
  if 8 ≤ k ∨ x.phase ≠ .init ∨ x.since + 2 * msT < s.now then s
  else match if ok then bestRate rates (fld HBM_CTRL_RATE_CEIL s) else none with
    | some r => onStack k (fun x => { x with rate := r, rates := rates }) (setStack k .train s)
    | none => equalize (failStack k 1 s)

/-- HBM_TRAIN_TIMEOUT (R172): 2 ms without identity, or 20 ms of training. -/
def trainTimeout (k : Nat) (s : State) : State :=
  let x := stackOf k s
  if 8 ≤ k then s
  else if x.phase = .init ∧ x.since + 2 * msT ≤ s.now then equalize (failStack k 1 s)
  else if x.phase = .train ∧ x.since + 20 * msT ≤ s.now then lowerRate k 2 s
  else s

/-- HBM_VERIFY_END (R172): training of stack k ends, or its 8 ms verify, passed or failed with the lowest failing channel. -/
def verifyEnd (k : Nat) (pass : Bool) (ch : Nat) (s : State) : State :=
  let x := stackOf k s
  if 8 ≤ k then s
  else if x.phase = .train then
    if x.since + 20 * msT < s.now then s
    else if pass then setStack k .verify s
    else lowerRate k 2 s
  else if x.phase = .verify ∧ x.since + 8 * msT ≤ s.now then
    if pass then equalize (setFlds [(HBM_STACK_STATUS_DONE k, 1), (HBM_STACK_STATUS_RATE k, x.rate)] (setStack k .done s))
    else lowerRate k 3 (setFld (HBM_STACK_STATUS_FAILED_CH k) ch s)
  else s

/-- STACK_LOST (R174): a stack in service stops responding. -/
def stackLost (k : Nat) (s : State) : State :=
  if k < 8 ∧ (stackOf k s).phase = .done then failStack k 4 s else s

/-- REFRESH (R175): stack k refreshes at the interval its temperature and the isolation mode give; with it, bits the stack
has lost by itself. -/
def refresh (k : Nat) (us : List Upset) (s : State) : State :=
  if 8 ≤ k ∨ (stackOf k s).phase ≠ .done then s
  else
    let t := fld (HBM_STACK_STATUS_TEMP k) s
    let s := onStack k (fun x => { x with hot := if 85 ≤ t then true else if t ≤ 82 then false else x.hot }) s
    showHot (forAll upset us s)

/-- Time of the recalibration slots (R176): MST, or free-running time while it is not valid. -/
def recalTime (s : State) : Nat := if mstValid s then mstNs s else freeNs s

/-- RECALIBRATION_END (R176): after 2.2 µs the stack serves again, first the accesses that waited for it. -/
def recalibrationEnd (k : Nat) (s : State) : State :=
  if k < 8 ∧ flag (HBM_STACK_STATUS_RECAL k) s ∧ (stackOf k s).since + 2200 * nsT ≤ s.now then
    capResume (apertureResume (setFld (HBM_STACK_STATUS_RECAL k) 0 s))
  else s

/-- RECALIBRATION (R176): at its slot of the millisecond stack k pauses; one stack at a time. -/
def recalibration (k : Nat) (s : State) : State :=
  let s := loop recalibrationEnd 8 s
  if 8 ≤ k ∨ (stackOf k s).phase ≠ .done ∨ recalTime s % 1000000 ≠ 125000 * k
      ∨ (List.range 8).any fun j => flag (HBM_STACK_STATUS_RECAL j) s then s
  else setFld (HBM_STACK_STATUS_RECAL k) 1 (onStack k (fun x => { x with since := s.now }) s)

end Sys2Proof.Machine
end

