-- ==== Sys2Proof/Machine/Store.lean ====
section
/-! DEFINITION. The non-volatile store and the checks of an image (17_firmware.md R475–R480): double-buffered areas, the
manifest header, the component table. -/
namespace Sys2Proof.Machine

/-! ### Areas (R475, R476) -/

/-- A double-buffered area: in the MRAM device or the NOR device, the offsets of its copies, the size of each, MAGIC. -/
structure Area where
  mram : Bool
  copy0 : Nat
  copy1 : Nat
  size : Nat
  magic : Nat

def bootArea : Area := ⟨false, 0x0000000, 0x0010000, 2 ^ 16, 0x42545231⟩
def calArea : Area := ⟨false, 0x6100000, 0x6500000, 2 ^ 22, 0x434C5331⟩
def settingsArea (slot : Nat) : Area := ⟨false, 0x6900000 + 0x200000 * slot, 0x6A00000 + 0x200000 * slot, 2 ^ 20, 0x53544731⟩
def healthArea : Area := ⟨true, 0x400000, 0x408000, 2 ^ 15, 0x484C5431⟩
def meterArea : Area := ⟨true, 0x410000, 0x490000, 2 ^ 19, 0x4D545231⟩

/-- Bytes of a device of the store. -/
def storeRead (mram : Bool) (off n : Nat) (s : State) : List Byte :=
  if mram then readRun 0 off n s.mram else readRun 0xFF off n s.nor

/-- Write bytes to a device of the store. -/
def storeWrite (mram : Bool) (off : Nat) (bs : List Byte) (s : State) : State :=
  if mram then { s with mram := writeRun 0 off bs s.mram } else { s with nor := writeRun 0xFF off bs s.nor }

/-- Erase n bytes of the NOR device. -/
def norErase (off n : Nat) (s : State) : State := { s with nor := clearRange off n s.nor }

/-- Offset of copy k of an area. -/
def copyAt (a : Area) (k : Nat) : Nat := if k = 0 then a.copy0 else a.copy1

/-- Generation, FORMAT and body of a copy, where it is valid (R476). -/
def readCopy (a : Area) (k : Nat) (s : State) : Option (Nat × Nat × List Byte) :=
  let h := storeRead a.mram (copyAt a k) 32 s
  let len := leAt h 8 4
  if leAt h 28 4 = crc32 (h.take 28) ∧ len + 32 ≤ a.size then
    let body := storeRead a.mram (copyAt a k + 32) len s
    if leAt h 16 4 = crc32 body then some (leAt h 4 4, leAt h 12 2, body) else none
  else none

/-- The newer valid copy: its number, generation, FORMAT and body (R476). -/
def newerCopy (a : Area) (s : State) : Option (Nat × Nat × Nat × List Byte) :=
  match readCopy a 0 s, readCopy a 1 s with
  | none, none => none
  | some x, none => some (0, x)
  | none, some y => some (1, y)
  | some x, some y => if (x.1 + 2 ^ 32 - y.1) % 2 ^ 32 < 2 ^ 31 ∧ x.1 ≠ y.1 then some (0, x) else some (1, y)

/-- The body an area reads back. -/
def areaBody (a : Area) (s : State) : Option (List Byte) := (newerCopy a s).map fun x => x.2.2.2

/-- Write an area (R476): the copy that does not hold the newer generation, one generation on. -/
def writeArea (a : Area) (fmt : Nat) (body : List Byte) (s : State) : State :=
  let (k, gen) := match newerCopy a s with
    | none => (0, 1)
    | some (k, g, _) => (1 - k, (g + 1) % 2 ^ 32)
  let h := bytesLE 4 a.magic ++ bytesLE 4 gen ++ bytesLE 4 body.length ++ bytesLE 2 fmt ++ bytesLE 2 0
    ++ bytesLE 4 (crc32 body) ++ bytesLE 8 0
  let s := if a.mram then s else norErase (copyAt a k) a.size s
  storeWrite a.mram (copyAt a k) (h ++ bytesLE 4 (crc32 h) ++ body) s

/-- The boot record's body (R482): ACTIVE, STATE (0 CONFIRMED, 1 TRIAL, 2 CRUCIBLE_REQ), SLOT_BAD, service address. The
spec gives the fields and no layout: bytes 0, 1, 2 and 4–7 (DESIGN CHOICE, log entry 64). -/
structure BootRec where
  active : Nat := 0
  state : Nat := 0
  bad : Nat := 0
  addr : Nat := 0
deriving DecidableEq, Repr

/-- The boot record, where one is valid. -/
def bootRec (s : State) : Option BootRec :=
  (areaBody bootArea s).map fun b => ⟨leAt b 0 1 % 2, leAt b 1 1, leAt b 2 1, leAt b 4 4⟩

/-- Write the boot record. -/
def writeBoot (r : BootRec) (s : State) : State :=
  writeArea bootArea 1 (bytesLE 1 r.active ++ bytesLE 1 r.state ++ bytesLE 1 r.bad ++ [0] ++ bytesLE 4 r.addr) s

/-- Change the boot record, a fresh one where none is valid. -/
def onBoot (f : BootRec → BootRec) (s : State) : State := writeBoot (f ((bootRec s).getD {})) s

/-- TRIAL_BOOTS of the health record (R477): a body of 4 bytes (DESIGN CHOICE, log entry 64). -/
def trialBoots (s : State) : Nat := ((areaBody healthArea s).map fun b => leAt b 0 4).getD 0
def setTrialBoots (n : Nat) (s : State) : State := writeArea healthArea 1 (bytesLE 4 n) s

/-! ### Images (R478–R480) -/

/-- Offset of an image slot, and its size. -/
def slotAt (slot : Nat) : Nat := 0x100000 + 0x3000000 * slot
abbrev slotSize : Nat := 48 * 2 ^ 20

/-- Header of a slot, as it stands in the store. -/
def slotHeader (slot : Nat) (s : State) : List Byte := storeRead false (slotAt slot) 512 s

/-- The fields of R478 that a header fixes. -/
def headerForm (h : List Byte) : Bool :=
  h.length == 512 && leAt h 0 4 == 0x464D4C50 && leAt h 4 2 == 1 && decide (leAt h 6 2 ≤ 1) && leAt h 0x0D 3 == 0
    && leAt h 0x14 1 == 6 && leAt h 0x16 10 == 0 && leAt h 0xB0 240 == 0

/-- KEY_IDX names a fused key that is not revoked, and its hash is that of PUBKEY. -/
def headerKey (h : List Byte) (f : Fuses) : Bool :=
  let k := leAt h 0x15 1
  decide (k ≤ 1) && bit f.present k && !bit f.revoked k
    && natBE (sha384 ((h.drop 0x50).take 96)) == (if k = 0 then f.key0 else f.key1).toNat

/-- SIGNATURE verifies over bytes 0x000–0x19F. -/
def headerSigned (h : List Byte) : Bool :=
  let n (i : Nat) : Nat := natBE ((h.drop i).take 48)
  ecdsaVerify (n 0x50) (n 0x80) (n 0x1A0) (n 0x1D0) (h.take 0x1A0)

/-- The first check of R480 a header fails, as REASON of FWU_UPD_STATUS; none for an authentic header. -/
def headerReason (h : List Byte) (f : Fuses) : Option Nat :=
  if !headerForm h then some 1
  else if !headerKey h f then some 2
  else if !headerSigned h then some 3
  else if leAt h 0x0C 1 < f.floor then some 4
  else if leAt h 0x10 4 = 0 ∨ slotSize - 512 < leAt h 0x10 4 then some 5
  else none

/-- Does a component of the table hold (R479)? -/
def componentOk (body : List Byte) (i : Nat) : Bool :=
  let e := (body.drop (64 * i)).take 64
  let off := leAt e 8 4
  let len := leAt e 12 4
  leAt e 2 2 == 0 && decide (1 ≤ len) && decide (off + len ≤ body.length)
    && (e.drop 16).take 48 == sha384 ((body.drop off).take len)

/-- The component table meets R479: each ID once, and every component matching. -/
def tableOk (body : List Byte) : Bool :=
  let ids := (List.range 6).map fun i => leAt body (64 * i) 2
  decide (384 ≤ body.length) && (List.range 6).all (fun k => ids.count (k + 1) == 1) && (List.range 6).all (componentOk body)

/-- Body of a slot, as long as its header says. -/
def slotBody (slot : Nat) (s : State) : List Byte := storeRead false (slotAt slot + 512) (leAt (slotHeader slot s) 0x10 4) s

/-- The first check of R480 an image fails; none for an authentic image. -/
def imageReason (slot : Nat) (s : State) : Option Nat :=
  let h := slotHeader slot s
  match headerReason h s.fuses with
  | some r => some r
  | none =>
    let body := slotBody slot s
    if sha384 body ≠ (h.drop 0x20).take 48 then some 9
    else if !tableOk body then some 10
    else none

/-- Is the image of a slot authentic? -/
def imageOk (slot : Nat) (s : State) : Bool := (imageReason slot s).isNone

/-- MANIFEST_VER and SEC_VER of a slot, and RAISE_FLOOR. -/
def slotVer (slot : Nat) (s : State) : Nat := leAt (slotHeader slot s) 8 4
def slotSec (slot : Nat) (s : State) : Nat := leAt (slotHeader slot s) 0x0C 1
def slotRaise (slot : Nat) (s : State) : Bool := leAt (slotHeader slot s) 6 2 % 2 == 1

/-! ### The metering checkpoint (R477) -/

/-- Chous writes the counters and RSEQ of every plot: 52 bytes each (DESIGN CHOICE, log entry 64). -/
def meterCheckpoint (s : State) : State :=
  writeArea meterArea 1 ((List.range 16).flatMap fun n =>
    (List.range 6).flatMap (fun k => bytesLE 8 (get 0 (8 * n + k) s.meter)) ++ bytesLE 4 (get {} n s.mrec).rseq) s

/-- METERING_BOUNDARY (R418, R477): records are closed, and Chous writes the checkpoint. -/
def meterBoundary (s : State) : State :=
  let s' := meteringBoundary s
  if s'.mtrNext ≠ s.mtrNext ∧ chousUp s then meterCheckpoint s' else s'

end Sys2Proof.Machine
end

