-- ==== Sys2Proof/Machine/Firmware.lean ====
section
/-! DEFINITION. Boot, trial and fall-back, updates, Crucible and the service protocol (17_firmware.md R481–R491;
09_circuit_switch.md and 01_architecture.md R26 for the plan messages). -/
namespace Sys2Proof.Machine

/-- Change the firmware's state. -/
def onFw (f : Fw → Fw) (s : State) : State := { s with fw := f s.fw }

/-- Whole milliseconds since reset release, saturating: STAGE_MS (R513). -/
def stageMs (s : State) : Nat := min ((s.now - s.releaseAt) / msT) 0xFFFF

/-- A start-up stage begins. -/
def enterStage (n : Nat) (s : State) : State :=
  setFlds [(GLB_STARTUP_STATUS_STAGE, n), (GLB_STARTUP_STATUS_STAGE_MS, stageMs s)] s

/-- A firmware reset is due: HALT_ALL, and the reset once it is over (R483, R489, R490, R513). -/
def resetAfterHalt (s : State) : State := onFw (fun f => { f with resetDue := true }) (haltAll 1 s)

/-! ### What the registers show of the slots (R496) -/

/-- ALT_VALID and FWU_ALT_VER for the slot that does not run. -/
def showAlt (s : State) : State :=
  let other := 1 - s.fw.slot
  let ok := imageOk other s
  setReg rFWU_ALT_VER (BitVec.ofNat 32 (if ok then slotVer other s else 0)) (setFld FWU_STATUS_ALT_VALID (b2n ok) s)

/-- The service address with no valid boot record: 169.254.a.b (R490). -/
def linkLocal (s : State) : Nat :=
  let ab := s.fuses.serial % 2 ^ 16
  0xA9FE0000 + (if ab = 0 ∨ ab = 0xFFFF then 1 else ab)

/-- The service address after a boot (R490): that of the boot record. -/
def showAddress (s : State) : State :=
  setReg rFWU_SVC_ADDR (BitVec.ofNat 32 (match bootRec s with
    | some r => r.addr
    | none => linkLocal s)) s

/-! ### Boot (R481, R482, R484) -/

/-- The ROM enters Crucible (R490). -/
def enterCrucible (s : State) : State :=
  showAddress (enterStage 10 (onFw (fun f => { f with phase := .crucible, fall := 0 }) (setReg rFWU_STATUS 0 s)))

/-- The ROM turns to checking a slot. -/
def checkSlot (slot : Nat) (why : Try) (s : State) : State := onFw (fun f => { f with phase := .check slot why }) s

/-- Fall back to the other slot (R482): it is checked unless it is bad. -/
def fallBack (cause : Nat) (s : State) : State :=
  let r := (bootRec s).getD {}
  if bit r.bad (1 - r.active) then enterCrucible s else checkSlot (1 - r.active) (.fall cause) s

/-- BOOT (R481, R482): the ROM reads the records and chooses a slot. -/
def boot (s : State) : State :=
  if s.fw.phase ≠ .rom ∨ stage s ≠ 2 then s
  else match bootRec s with
    | none => checkSlot 0 .blank s
    | some r =>
      if r.state = 2 then enterCrucible s
      else if r.state = 1 then
        if s.fw.fall = 2 ∨ s.fw.fall = 4 then fallBack s.fw.fall s
        else if 3 ≤ trialBoots s then fallBack 1 s
        else checkSlot r.active .active (setTrialBoots (trialBoots s + 1) s)
      else checkSlot r.active .active s

/-- Settings migration (R484): on a trial boot, where the slot's own settings are not valid or of another format. -/
def migrate (slot : Nat) (s : State) : State :=
  let v := Config.setVer (slotVer slot s)
  let own := newerCopy (settingsArea slot) s
  if own.any fun x => x.2.2.1 == v % 2 ^ 16 && leAt x.2.2.2 0 2 == v % 2 ^ 16 then s
  else match areaBody (settingsArea (1 - slot)) s with
    | none => s
    | some b => setFld FWU_STATUS_MIGRATED 1
        (writeArea (settingsArea slot) v (bytesLE 2 v ++ Config.migrate (slotVer slot s) b) s)

/-- The ROM starts Chous from a slot (R481, R482, R496); `cause`: of a fall-back, or 0. -/
def startSlot (slot cause : Nat) (s : State) : State :=
  let trial := (bootRec s).any fun r => r.state == 1 && r.active == slot
  let s := onFw (fun f => { f with phase := .load, slot := slot, trial := trial, ready := 2, loadAt := s.now, fall := 0 }) s
  let s := setFlds [(FWU_STATUS_AUTHENTIC, 1), (FWU_STATUS_TRIAL, b2n trial), (FWU_STATUS_ACTIVE_SLOT, slot),
    (FWU_STATUS_FALLBACK, b2n (cause != 0)), (FWU_STATUS_FB_CAUSE, cause), (FWU_STATUS_TRIAL_BOOTS, min (trialBoots s) 3),
    (FWU_STATUS_MIGRATED, 0)] s
  let s := setReg rFWU_RUN_VER (BitVec.ofNat 32 (slotVer slot s)) s
  showAddress (showAlt (if trial then migrate slot s else s))

/-- SLOT_CHECK_END (R482): the slot passes as its image stands in the store, but for one that has failed its load. -/
def slotCheckEnd (s : State) : State :=
  match s.fw.phase with
  | .check slot why =>
    let pass := imageOk slot s && !(s.fw.fall == 5 && slot == s.fw.slot)
    let r := (bootRec s).getD {}
    match why with
    | .blank => if pass then startSlot slot 0 s else if slot = 0 then checkSlot 1 .blank s else enterCrucible s
    | .active =>
      if pass then startSlot slot 0 s
      else if r.state = 1 then fallBack (if s.fw.fall = 5 then 5 else 3) s
      else checkSlot (1 - slot) .other s
    | .other => if pass then startSlot slot 0 (writeBoot { r with bad := r.bad ||| 2 ^ r.active } s) else enterCrucible s
    | .fall c =>
      if pass then startSlot slot c (writeBoot { r with active := slot, state := 0, bad := r.bad ||| 2 ^ r.active } s)
      else enterCrucible s
  | _ => s

/-- A component has failed its load (R481): a firmware reset, and the slot fails at the next boot with cause LOAD. -/
def loadFails (s : State) : State := resetAfterHalt (onFw (fun f => { f with phase := .off, fall := 5 }) s)

/-- Does component `id` of the running slot still match its hash? -/
def componentHolds (id : Nat) (s : State) : Bool :=
  let body := slotBody s.fw.slot s
  (List.range 6).any fun i => leAt body (64 * i) 2 == id && componentOk body i

/-- COMPONENT_READY (R481): component `id` is loaded, checked again, and its unit is ready. -/
def componentReady (id : Nat) (s : State) : State :=
  if s.fw.phase ≠ .load ∨ id < 2 ∨ 6 < id ∨ s.fw.loadAt + 50 * msT < s.now then s
  else if !componentHolds id s then loadFails s
  else
    let s := onFw (fun f => { f with ready := f.ready ||| 2 ^ id, loadAt := s.now }) s
    if s.fw.ready = 0x7E then onFw (fun f => { f with phase := .run }) s else s

/-- COMPONENT_LOAD_TIMEOUT (R481): 50 ms without a unit that reports ready. -/
def componentTimeout (s : State) : State :=
  if s.fw.phase = .load ∧ s.fw.loadAt + 50 * msT ≤ s.now then loadFails s else s

/-! ### Trial (R483, R491) -/

/-- Instants in the trial time of 600 s. -/
abbrev trialT : Nat := 600000 * msT

/-- Is the running image on trial, with no fall-back decided? -/
def onTrial (s : State) : Bool := s.fw.trial && s.fw.fall == 0 && s.fw.phase == .run

/-- Is port p as a confirmation asks: not enabled, UP, EDGE, or in QUARANTINE with ITEM MANIFEST? -/
def portConfirms (p : Nat) (s : State) : Bool :=
  !flag (LNK_PORT_CTRL_ENABLE p) s || portState p s == 1 || portState p s == 3
    || (portState p s == 4 && fld (LNK_PORT_STATUS_ITEM p) s == 4)

/-- CONFIRMATION (R483): Chous confirms a trial image once every condition holds. -/
def confirmation (s : State) : State :=
  let hold := Config.holdConfirm ((areaBody (settingsArea s.fw.slot) s).getD [])
  if !onTrial s ∨ stage s < 4 ∨ 8 < stage s ∨ s.fw.wdog ∨ !(List.range 6).all (fun p => portConfirms p s)
      ∨ !chousUp s ∨ !flag FWU_SVC_CFG_LINK_UP s ∨ (hold ∧ !s.fw.pfConfirm) then s
  else
    let s := onBoot (fun r => { r with state := 0 }) (onFw (fun f => { f with trial := false }) s)
    let s := setFld FWU_STATUS_TRIAL 0 s
    let s := if slotRaise s.fw.slot s ∧ s.fuses.floor < slotSec s.fw.slot s then
        { s with fuses := { s.fuses with floor := slotSec s.fw.slot s } } else s
    irq 21 (showAlt s)

/-- A trial falls back (R483): cause 2 TIMEOUT or 4 REJECT. -/
def trialFails (cause : Nat) (s : State) : State := resetAfterHalt (onFw (fun f => { f with fall := cause }) s)

/-- TRIAL_TIMEOUT (R483): 600 s since the ROM started this boot, without confirmation; an image that every condition now
confirms is confirmed (R491). -/
def trialTimeout (s : State) : State :=
  let s := confirmation s
  if onTrial s ∧ s.fw.bootAt + trialT ≤ s.now then trialFails 2 s else s

/-! ### Updates (R487–R490) -/

/-- Change the update in progress. -/
def onUpd (f : Update → Update) (s : State) : State := onFw (fun w => { w with upd := f w.upd }) s

/-- STATE and REASON of FWU_UPD_STATUS; entering READY or FAILED is source 21 of R546. -/
def updState (st reason : Nat) (s : State) : State :=
  let s := setFlds [(FWU_UPD_STATUS_STATE, st), (FWU_UPD_STATUS_REASON, reason)] s
  if st = 4 ∨ st = 5 then irq 21 s else s

/-- Crucible runs (R490). -/
def inCrucible (s : State) : Bool := s.fw.phase == .crucible

/-- The slot an update writes: the one that does not run; in Crucible the one not ACTIVE when it was entered by request,
else slot 0 (R487, R490). -/
def targetSlot (s : State) : Nat :=
  if inCrucible s then (match bootRec s with
    | some r => if r.state = 2 then 1 - r.active else 0
    | none => 0)
  else 1 - s.fw.slot

/-- A slot is bad in the boot record. -/
def markBad (slot : Nat) (s : State) : State := onBoot (fun r => { r with bad := r.bad ||| 2 ^ slot }) s

/-- FW_BEGIN (R487, R488): the STATUS it is answered with. -/
def fwBegin (delta : Bool) (header : List Byte) (s : State) : Nat × State :=
  let st := fld FWU_UPD_STATUS_STATE s
  if st = 2 ∨ st = 3 ∨ (inCrucible s ∧ delta) then (8, s)
  else if !inCrucible s ∧ s.fw.trial then (6, updState 0 6 s)
  else match headerReason header s.fuses with
    | some r => (r, updState 0 r s)
    | none =>
      let t := targetSlot s
      let s := markBad t s
      let s := storeWrite false (slotAt t) header (norErase (settingsArea t).copy0 (2 * 2 ^ 20) (norErase (slotAt t) slotSize s))
      let s := onUpd (fun _ => { slot := t, delta := delta, header := header, next := 512, at_ := s.now }) s
      let s := if inCrucible s then s else showAlt s
      (0, setFld FWU_UPD_STATUS_KIB 0 (updState 2 0 s))

/-- Length of the body the header names. -/
def bodyLen (s : State) : Nat := leAt s.fw.upd.header 0x10 4

/-- Append bytes to the body; bytes beyond BODY_LEN are not written and spoil the update. -/
def bodyWrite (bs : List Byte) (s : State) : State :=
  let u := s.fw.upd
  if bodyLen s < u.written + bs.length then onUpd (fun u => { u with bad := true }) s
  else
    let s := onUpd (fun u => { u with written := u.written + bs.length })
      (storeWrite false (slotAt u.slot + 512 + u.written) bs s)
    setFld FWU_UPD_STATUS_KIB (s.fw.upd.written / 1024) s

/-- The update fails with a REASON. -/
def updFails (reason : Nat) (s : State) : State := updState 5 reason s

/-- A delta header (R488): its MAGIC, reserved bytes and BASE_HASH against the running image's BODY_HASH. -/
def deltaHeader (h : List Byte) (s : State) : State :=
  if (h.drop 8).take 48 ≠ ((slotHeader s.fw.slot s).drop 0x20).take 48 then updFails 7 s
  else onUpd (fun u => { u with
    begun := true, ops := leAt h 4 4, bad := u.bad || leAt h 0 4 != 0x41544C44 || leAt h 56 8 != 0 }) s

/-- One operation of a delta from its buffered bytes (R488): what is left of them, or none where it needs more. -/
def deltaOp (buf : List Byte) (s : State) : Option (List Byte × State) :=
  let len := leAt buf 4 4
  let kind := leAt buf 0 1
  let s1 := onUpd (fun u => { u with ops := u.ops - 1, bad := u.bad || leAt buf 1 3 != 0 }) s
  if buf.length < 8 then none
  else match kind with
    | 2 => some (buf.drop 8, onUpd (fun u => { u with dataLeft := len }) s1)
    | 1 =>
      if buf.length < 12 then none
      else
        let off := leAt buf 8 4
        let body := slotBody s.fw.slot s
        if body.length < off + len then some ([], updFails 7 s1)
        else some (buf.drop 12, bodyWrite ((body.drop off).take len) s1)
    | 3 =>
      if buf.length < 12 then none
      else some (buf.drop 12, bodyWrite (List.replicate (min len (bodyLen s + 1)) (buf.getD 8 0))
        (onUpd (fun u => { u with bad := u.bad || leAt buf 9 3 != 0 }) s1))
    | _ => some ([], onUpd (fun u => { u with bad := true }) s1)

/-- Take what the buffered bytes of a delta give; each round uses at least one. -/
def deltaTake : Nat → List Byte → State → List Byte × State
  | 0, buf, s => (buf, s)
  | n + 1, buf, s =>
    let u := s.fw.upd
    if u.bad ∨ fld FWU_UPD_STATUS_STATE s ≠ 2 then ([], s)
    else if !u.begun then
      if buf.length < 64 then (buf, s) else deltaTake n (buf.drop 64) (deltaHeader (buf.take 64) s)
    else if 0 < u.dataLeft then
      match buf with
      | [] => ([], s)
      | _ => deltaTake n (buf.drop u.dataLeft)
          (onUpd (fun u => { u with dataLeft := u.dataLeft - buf.length }) (bodyWrite (buf.take u.dataLeft) s))
    else if u.ops = 0 then (match buf with
      | [] => ([], s)
      | _ => ([], onUpd (fun u => { u with bad := true }) s))
    else match deltaOp buf s with
      | none => (buf, s)
      | some (rest, s) => deltaTake n rest s

/-- FW_DATA (R487, R488): stream bytes at an offset. -/
def fwData (off : Nat) (data : List Byte) (s : State) : Nat × State :=
  if fld FWU_UPD_STATUS_STATE s ≠ 2 then (8, s)
  else
    let s := onUpd (fun u => { u with at_ := s.now }) s
    if off ≠ s.fw.upd.next then (8, s)
    else
      let s := onUpd (fun u => { u with next := u.next + data.length }) s
      let s := if s.fw.upd.delta then
          let (buf, s) := deltaTake (s.fw.upd.buf.length + data.length + 1) (s.fw.upd.buf ++ data) s
          onUpd (fun u => { u with buf := buf }) s
        else bodyWrite data s
      (if fld FWU_UPD_STATUS_STATE s = 5 then fld FWU_UPD_STATUS_REASON s else 0, s)

/-- The first check of R480 and R488 the received stream fails. -/
def updReason (storeError : Bool) (s : State) : Option Nat :=
  let u := s.fw.upd
  if storeError then some 0xD
  else if u.bad ∨ u.total ≠ u.next ∨ u.written ≠ bodyLen s ∨ (u.delta ∧ (!u.begun ∨ u.ops ≠ 0 ∨ u.dataLeft ≠ 0 ∨ !u.buf.isEmpty))
  then some 5
  else imageReason u.slot s

/-- Activation of a READY update (R487, R489, R490). -/
def activate (now_ : Bool) (s : State) : State :=
  let s := setTrialBoots 0 (onBoot (fun r => { r with active := s.fw.upd.slot, state := 1 }) s)
  let s := updState 0 0 s
  if inCrucible s then onFw (fun f => { f with resetDue := true }) s
  else if now_ then resetAfterHalt s
  else s

/-- A write of FWU_CTRL: ACTIVATE with RESET_NOW, CONFIRM, REJECT, CRUCIBLE (R483, R487, R490, R491). -/
def fwuCtrl (a : Accessor) (w : Word) (s : State) : State :=
  let s := if wfld FWU_CTRL_ACTIVATE w = 1 then
      (if fld FWU_UPD_STATUS_STATE s = 4 then activate (wfld FWU_CTRL_RESET_NOW w == 1) s else discard a rFWU_CTRL s)
    else s
  let s := if wfld FWU_CTRL_CONFIRM w = 1 then onFw (fun f => { f with pfConfirm := true }) s else s
  let s := if wfld FWU_CTRL_REJECT w = 1 then (if onTrial s then trialFails 4 s else discard a rFWU_CTRL s) else s
  if wfld FWU_CTRL_CRUCIBLE w = 1 then resetAfterHalt (onBoot (fun r => { r with state := 2 }) s) else s

/-! ### The service protocol (R485, R486) -/

/-- Does the service port answer (R490, R500, R508)? -/
def serviceUp (s : State) : Bool := inCrucible s || (s.fw.phase == .run && chousUp s && stage s != 9)

/-- The bytes of an answer (R486). -/
def answerBytes (type seq status : Nat) (payload : List Byte) : List Byte :=
  let h := bytesLE 2 0x4C59 ++ bytesLE 1 1 ++ bytesLE 1 (type + 0x80) ++ bytesLE 4 seq ++ bytesLE 2 payload.length
    ++ bytesLE 2 status
  h ++ bytesLE 4 (crc32 (h ++ payload)) ++ payload

/-- The last 64 answers of one requester are kept. -/
def keepAnswer (p : Peer) (seq : Nat) (bs : List Byte) (l : List (Peer × Nat × List Byte)) : List (Peer × Nat × List Byte) :=
  (p, seq, bs) :: ((l.filter fun x => x.1 == p).take 63 ++ l.filter fun x => x.1 != p)

/-- Answer a request. -/
def answer (p : Peer) (type seq status : Nat) (payload : List Byte) (s : State) : State :=
  let bs := answerBytes type seq status payload
  emit (.service bs) (onFw (fun f => { f with answered := keepAnswer p seq bs f.answered }) s)

/-- A request (R486): one already answered is answered again and not acted on. `rom`: Crucible knows its TYPE; one it does
not know is an unknown TYPE there (R490). -/
def request (p : Peer) (type seq : Nat) (rom : Bool) (act : State → State) (s : State) : State :=
  if !serviceUp s then s
  else match s.fw.answered.find? fun x => x.1 == p && x.2.1 == seq with
    | some x => emit (.service x.2.2) s
    | none => if inCrucible s && !rom then answer p type seq 0xFFFF [] s else act s

/-- A request whose action gives the STATUS of an empty answer. -/
def simpleRequest (p : Peer) (type seq : Nat) (rom : Bool) (act : State → Nat × State) (s : State) : State :=
  request p type seq rom (fun s => let (st, s) := act s; answer p type seq st [] s) s

/-- The waiting FW_END is answered. -/
def answerEnd (status : Nat) (s : State) : State :=
  match s.fw.upd.waits with
  | none => s
  | some (p, seq) => answer p 0x12 seq status [] (onUpd (fun u => { u with waits := none }) s)

/-- UPDATE_VERIFY_END (R487): `storeError`: a program or read-back error. -/
def updateVerifyEnd (storeError : Bool) (s : State) : State :=
  if fld FWU_UPD_STATUS_STATE s ≠ 3 then s
  else match updReason storeError s with
    | some r => answerEnd r (updFails r s)
    | none =>
      let s := onBoot (fun r => { r with bad := r.bad &&& (3 - 2 ^ s.fw.upd.slot) }) s
      answerEnd 0 (updState 4 0 (if inCrucible s then s else showAlt s))

/-- The update is abandoned with a REASON (R487); its slot stays bad, and one already found authentic is bad again (DESIGN
CHOICE, log entry 30). -/
def updAbandon (reason : Nat) (s : State) : State :=
  let s := if fld FWU_UPD_STATUS_STATE s = 4 then markBad s.fw.upd.slot s else s
  answerEnd reason (updState 0 reason s)

/-- UPDATE_TIMEOUT (R487): 30 s without FW_DATA. -/
def updateTimeout (s : State) : State :=
  if fld FWU_UPD_STATUS_STATE s ≠ 0 ∧ s.fw.upd.at_ + 30000 * msT ≤ s.now then updAbandon 0xB s else s

/-- STATUS (0x01): four registers. -/
def fwStatusMsg (p : Peer) (seq : Nat) (s : State) : State :=
  request p 0x01 seq true (fun s => answer p 0x01 seq 0 ([rFWU_STATUS, rFWU_UPD_STATUS, rFWU_RUN_VER, rFWU_ALT_VER].flatMap
    fun r => bytesLE 4 (reg r s).toNat) s) s

/-- FW_BEGIN (0x10), FW_DATA (0x11), FW_ACTIVATE (0x13) and FW_ABORT (0x14). -/
def fwBeginMsg (p : Peer) (seq : Nat) (delta : Bool) (header : List Byte) (s : State) : State :=
  simpleRequest p 0x10 seq true (fwBegin delta header) s
def fwDataMsg (p : Peer) (seq off : Nat) (data : List Byte) (s : State) : State :=
  simpleRequest p 0x11 seq true (fwData off data) s
def fwActivateMsg (p : Peer) (seq : Nat) (now_ : Bool) (s : State) : State :=
  simpleRequest p 0x13 seq true (fun s => if fld FWU_UPD_STATUS_STATE s = 4 then (0, activate now_ s) else (8, s)) s
def fwAbortMsg (p : Peer) (seq : Nat) (s : State) : State :=
  simpleRequest p 0x14 seq true (fun s => (0, if fld FWU_UPD_STATUS_STATE s = 0 then s else updAbandon 0xC s)) s

/-- FW_END (0x12): verification starts; it is answered when that ends. A repeated one still waiting is not acted on. -/
def fwEndMsg (p : Peer) (seq total : Nat) (s : State) : State :=
  request p 0x12 seq true (fun s =>
    if s.fw.upd.waits = some (p, seq) then s
    else if fld FWU_UPD_STATUS_STATE s ≠ 2 then answer p 0x12 seq 8 [] s
    else updState 3 0 (onUpd (fun u => { u with total := total, waits := some (p, seq) }) s)) s

/-- CAL_READ (0x20): bytes of the calibration body in use. -/
def calReadMsg (p : Peer) (seq off len : Nat) (s : State) : State :=
  request p 0x20 seq false (fun s =>
    let data := (((areaBody calArea s).getD []).drop off).take (min len 1392)
    answer p 0x20 seq 0 (bytesLE 4 off ++ bytesLE 4 data.length ++ data) s) s

/-- CAL_WRITE (0x21): the whole body with these bytes replaced, as one new generation (R477). -/
def calWriteMsg (p : Peer) (seq off : Nat) (data : List Byte) (s : State) : State :=
  simpleRequest p 0x21 seq false (fun s =>
    if calArea.size < off + data.length + 32 then (5, s)
    else
      let b := (areaBody calArea s).getD []
      let b := b ++ List.replicate (off - b.length) 0
      (0, writeArea calArea 1 (b.take off ++ data ++ b.drop (off + data.length)) s)) s

/-- MRAM_READ (0x40). -/
def mramReadMsg (p : Peer) (seq off len : Nat) (s : State) : State :=
  request p 0x40 seq true (fun s => answer p 0x40 seq 0 (storeRead true off (min (min len 1024) (2 ^ 23 - off)) s) s) s

/-! ### Plans and fire times (R26, R277, R278) -/

/-- A rack master sends a plan message on to the packages of its rack (R26). -/
def forward (type : Nat) (payload : List Byte) (s : State) : State :=
  if flag GLB_ROLE_STATUS_RACK_MASTER s then emit (.forward type payload) s else s

/-- Stage entries (index, LO, HI) in a bank with the digest expected of it, and start its CHECKING. -/
def stagePlan (bank : Nat) (entries : List (Nat × Word × Word)) (digest : List Byte) (s : State) : State :=
  let s := forAll (fun (x : Nat × Word × Word) s =>
    setReg (rCSC_ENTRY_HI bank x.1) x.2.2 (setReg (rCSC_ENTRY_LO bank x.1) x.2.1 s)) entries s
  let s := if entries.isEmpty then s else entryWritten bank s
  stageGo bank (loop (fun i => setReg (rCSC_BANK_EXP bank i) (BitVec.ofNat 32 (leAt digest (4 * i) 4))) 4 s)

/-- A new plan for a bank: what was collected of an earlier one counts no more, and this package reports its check. -/
def planBegun (bank : Nat) (s : State) : State :=
  onFw (fun f => { f with
    planned := bank :: f.planned.filter fun b => b != bank
    reports := f.reports.filter fun x => x.2 != bank
    racks := f.racks.filter fun x => x != (fld GLB_ROLE_RACK s, bank) }) s

/-- PLAN_STAGE (0x30): staged plan entries from the rack master. -/
def planStageMsg (p : Peer) (seq bank : Nat) (entries : List (Nat × Word × Word)) (digest : List Byte) (s : State) : State :=
  simpleRequest p 0x30 seq false (fun s =>
    if bankProtected bank s then (8, s)
    else (0, forward 0x30 (bytesLE 1 bank ++ digest ++ entries.flatMap fun x =>
      bytesLE 2 x.1 ++ bytesLE 4 x.2.1.toNat ++ bytesLE 4 x.2.2.toNat) (stagePlan bank entries digest (planBegun bank s)))) s

/-- The mesh master keeps a rack's confirmation of a bank. -/
def keepRack (rack bank : Nat) (s : State) : State :=
  onFw (fun f => { f with racks := (rack, bank) :: f.racks.filter fun x => x != (rack, bank) }) s

/-- Has every package of this rack reported bank READY with the expected digest? -/
def rackReady (bank : Nat) (s : State) : Bool :=
  (Config.rackPackages (fld GLB_ROLE_RACK s)).all fun c => s.fw.reports.contains (c, bank)

/-- Has every rack of the mesh confirmed bank? -/
def meshReady (bank : Nat) (s : State) : Bool := Config.meshRacks.all fun r => s.fw.racks.contains (r, bank)

/-- The rack master takes the report of the package at coordinate `c` (its word as R243 lays it out): CSC_BANK_STATUS_b and the
digest. The last one that was missing confirms the rack to the mesh master (R26). -/
def collectReport (c bank : Nat) (st : Word) (digest : List Byte) (s : State) : State :=
  let same := (List.range 4).all fun i => reg (rCSC_BANK_EXP bank i) s == BitVec.ofNat 32 (leAt digest (4 * i) 4)
  let rest := s.fw.reports.filter fun x => x != (c, bank)
  let was := rackReady bank s
  let s := onFw (fun f => { f with reports := if bit st.toNat 28 ∧ same then (c, bank) :: rest else rest }) s
  if was || !rackReady bank s then s
  else if flag GLB_ROLE_STATUS_MESH_MASTER s then keepRack (fld GLB_ROLE_RACK s) bank s
  else emit (.forward 0x32 (bytesLE 1 (fld GLB_ROLE_RACK s) ++ bytesLE 1 bank)) s

/-- PLAN_REPORT (0x31): a package's bank state and digest, collected by the rack master. -/
def planReportMsg (p : Peer) (seq node_ bank : Nat) (st : Word) (digest : List Byte) (s : State) : State :=
  simpleRequest p 0x31 seq false (fun s =>
    (0, if flag GLB_ROLE_STATUS_RACK_MASTER s then collectReport node_ bank st digest s else s)) s

/-- This package reports the check of a bank that PLAN_STAGE staged to its rack master (R26). -/
def planReported (bank : Nat) (s : State) : State :=
  if !s.fw.planned.contains bank ∨ bankState bank s = 2 then s
  else
    let st := BitVec.ofNat 32 (putBits (reg (rCSC_BANK_STATUS bank) s).toNat 28 28 (b2n (bankReady bank s)))
    let digest := (List.range 4).flatMap fun i => bytesLE 4 (reg (rCSC_BANK_DIG bank i) s).toNat
    let c := coordWord (node s)
    let s := onFw (fun f => { f with planned := f.planned.filter fun b => b != bank }) s
    if flag GLB_ROLE_STATUS_RACK_MASTER s then collectReport c bank st digest s
    else emit (.forward 0x31 (bytesLE 2 c ++ bytesLE 1 bank ++ bytesLE 4 st.toNat ++ digest)) s

/-- CHECKING_END (R276, R277): the bank's check is over, and reported where a plan message staged it. -/
def bankChecked (bank : Nat) (s : State) : State := planReported bank (checkingEnd bank s)

/-- RACK_CONFIRM (0x32): a rack confirmed, kept by the mesh master. -/
def rackConfirmMsg (p : Peer) (seq rack bank : Nat) (s : State) : State :=
  simpleRequest p 0x32 seq false (fun s =>
    (0, if flag GLB_ROLE_STATUS_MESH_MASTER s then keepRack rack bank s else s)) s

/-- A fire time is out: the next one of the bank waits for fresh confirmations. -/
def planSpent (bank : Nat) (s : State) : State := onFw (fun f => { f with racks := f.racks.filter fun x => x.2 != bank }) s

/-- FIRE_TIME (0x33): the chosen fire time arms the register trigger (R278). The mesh master sends one on only once every rack
has confirmed the bank, and answers ORDER before (DEDUCED, log entry 31). -/
def fireTimeMsg (p : Peer) (seq bank t : Nat) (s : State) : State :=
  simpleRequest p 0x33 seq false (fun s =>
    if flag GLB_ROLE_STATUS_MESH_MASTER s && !meshReady bank s then (8, s)
    else
      let s := registerArm .device bank (setReg64 rCSC_TRIG_TIME_LO rCSC_TRIG_TIME_HI (t % 2 ^ 64) s)
      (0, forward 0x33 (bytesLE 1 bank ++ bytesLE 8 t) (planSpent bank s))) s

/-! ### Unknown messages, ARP, ICMP, link status (R485, R486) -/

/-- UNKNOWN_TYPE (R486): answered with 0xFFFF; a message whose CRC fails is dropped. -/
def unknownType (p : Peer) (seq type : Nat) (crcOk : Bool) (s : State) : State :=
  if !crcOk then s else simpleRequest p type seq true (fun s => (0xFFFF, s)) s

/-- ARP_REQUEST: the reply of RFC 826, for the device's own address. -/
def arpRequest (mac ip target : Nat) (s : State) : State :=
  if !serviceUp s ∨ target ≠ (reg rFWU_SVC_ADDR s).toNat then s
  else emit (.service (bytesBE 2 1 ++ bytesBE 2 0x0800 ++ [6, 4] ++ bytesBE 2 2 ++ bytesBE 6 Config.macAddress
    ++ bytesBE 4 target ++ bytesBE 6 mac ++ bytesBE 4 ip)) s

/-- Sum of 16-bit big-endian words. -/
def sum16 : List Byte → Nat
  | a :: b :: bs => 256 * a.toNat + b.toNat + sum16 bs
  | [a] => 256 * a.toNat
  | [] => 0

/-- The Internet checksum of RFC 1071. -/
def inetSum (bs : List Byte) : Nat :=
  let n := sum16 bs
  0xFFFF - (if n = 0 then 0 else (n - 1) % 0xFFFF + 1)

/-- ICMP_ECHO: the echo reply of RFC 792, with the request's identifier, sequence number and data. -/
def icmpEcho (body : List Byte) (s : State) : State :=
  if serviceUp s then emit (.service ([0, 0] ++ bytesBE 2 (inetSum body) ++ body)) s else s

/-- SGMII_LINK_STATUS (R485): the link is up at 1,000 Mb/s full duplex, or not. -/
def sgmiiStatus (up full1000 : Bool) (s : State) : State := setFld FWU_SVC_CFG_LINK_UP (b2n (up && full1000)) s

end Sys2Proof.Machine
end

