-- ==== Sys2Proof/Machine/Read.lean ====
section
/-! DEFINITION. What a register reads as (20_register_map.md R538–R542, R547; the "Registers" sections of the chapters)
and the effects of a read: high-word latches (R9, R375, R539) and read-to-clear counters (R12). -/
namespace Sys2Proof.Machine

/-! ### Registers whose value follows from other state -/

/-- GLB_STATUS (R542). -/
def glbStatus (s : State) : Nat :=
  let ports (st : Nat) : Bool := (List.range 6).any fun p => portState p s == st
  b2n (stage s == 8) * 2 ^ 31 + b2n (flag SEQ_CORE_STATUS_DEGRADED s || anyFailed s) * 2 ^ 30
    + b2n (flag GLB_HALT_STATUS_HALTED s) * 2 ^ 29 + b2n (flag GLB_THERM_STATUS_TRIPPED s) * 2 ^ 28
    + b2n (isoOn s) * 2 ^ 27 + b2n (flag FWU_STATUS_AUTHENTIC s) * 2 ^ 26 + b2n (flag FWU_STATUS_TRIAL s) * 2 ^ 25
    + b2n (mstValid s) * 2 ^ 24 + b2n (ports 4) * 2 ^ 23 + b2n (ports 5) * 2 ^ 22
    + ((List.range 6).map fun p => b2n (portState p s == 3) * 2 ^ (16 + p)).sum
    + ((List.range 16).map fun n => b2n (plotState n s == 1 || plotState n s == 2) * 2 ^ n).sum

/-- SEQ_STATUS (R132). -/
def seqStatus (s : State) : Nat :=
  let stored := fld SEQ_STATUS_LAST_PLOT s * 2 ^ 18 + fld SEQ_STATUS_END_CAUSE s * 2 ^ 15
  let load := match s.seq.load with
    | some l => 2 ^ 30 + l.plot * 2 ^ 22
    | none => 0
  let run := match s.seq.run with
    | some r => 2 ^ 31 + r.plot * 2 ^ 26 + r.pc
    | none => 0
  stored + load + run

/-- A load or copy of plot n waits for its slice (R415). -/
def deferred (n : Nat) (s : State) : Bool :=
  let q := queueOf n s
  !isoWindow n s && (loadsProgram n s || loadsDesc n s || !q.copies.isEmpty
    || q.staged.any fun c => [1, 2, 7, 8].contains (arg c.entry 0 1))

/-- PLOT_STATUS of plot n (R423). -/
def plotStatus (n : Nat) (s : State) : Nat :=
  plotState n s * 2 ^ 30 + b2n (isRunnable n s) * 2 ^ 29 + b2n (runOf n s) * 2 ^ 28
    + b2n (loadsProgram n s || loadsDesc n s) * 2 ^ 27 + b2n (deferred n s) * 2 ^ 26

/-- PLOT_Q_STATUS of plot n (R401). -/
def queueStatus (n : Nat) (s : State) : Nat :=
  let tags := (func (n + 1) s).tags.length
  b2n (paused n s) * 2 ^ 31 + b2n (tags == 0) * 2 ^ 30 + fld (PLOT_Q_STATUS_HELD n) s * 2 ^ 16 + tags

/-- LNK_PORT_STATUS_p (R262). -/
def portStatus (p : Nat) (s : State) : Nat :=
  portState p s * 2 ^ 29 + fld (LNK_PORT_STATUS_ITEM p) s * 2 ^ 25 + fld (CSC_SUBST_XCVR_VALID p) s * 2 ^ 24
    + fld (CSC_SUBST_FIBRE_VALID p) s * 2 ^ 23 + linksUp p s * 2 ^ 18 + fenceCause p s * 2 ^ 16

/-- LNK_LINK_STATUS_p_l (R262). -/
def linkStatus (p l : Nat) (s : State) : Nat :=
  let x := if flag (CSC_SUBST_XCVR_VALID p) s ∧ fld (CSC_SUBST_XCVR_FOR p) s = l then 16 else l
  putBits (putBits (reg (rLNK_LINK_STATUS p l) s).toNat 31 29 (linkState p l s)) 25 21 x

/-- FWU_CAL_STATUS: the newer valid copy is in use. -/
def calStatus (s : State) : Nat :=
  match newerCopy calArea s with
  | none => 0
  | some (k, _) => 2 ^ 31 + k * 2 ^ 30 + b2n (readCopy calArea (1 - k) s).isSome * 2 ^ 29

/-- Word k of a recorder slot as the windows show it (R456, R457): SEQ is odd while the slot is written. -/
def recWord (slot k : Nat) (s : State) : Word :=
  match look slot s.recs with
  | none =>
    if slot < 1024 ∧ k = 0 then 0
    else if 1024 ≤ slot ∧ k = 1 then 0xFFFFFFFF
    else Config.freeRec s.recEpoch slot k
  | some r => BitVec.ofNat 32 (r.toNat >>> (32 * k))
def windowWord (slot k : Nat) (s : State) : Word :=
  let busy := slot < 1024 && k == 0 && flag HMK_STATUS_FAULT_BUSY s && fld HMK_FAULT_STATUS_HEAD s == slot
    && !(s.flush.any fun f => f.part1.contains slot || f.part3.contains slot)
  recWord slot k s + BitVec.ofNat 32 (b2n busy)

/-- Seconds left of a trial (R496). -/
def trialLeft (s : State) : Nat := if s.fw.trial then (s.fw.bootAt + trialT - s.now + 1000 * msT - 1) / (1000 * msT) else 0

/-- High or low half of a 64-bit value. -/
def half (hi : Bool) (v : Nat) : Nat := if hi then v / 2 ^ 32 else v % 2 ^ 32

def globalValue (off : Nat) (s : State) : Option Nat :=
  if off = rGLB_SERIAL_LO then some (half false s.fuses.serial)
  else if off = rGLB_SERIAL_HI then some (half true s.fuses.serial)
  else if off = rGLB_STATUS then some (glbStatus s)
  else if off = rGLB_TAG_STATUS then some (putBits (reg off s).toNat 26 16 (tagsUsed s))
  else if off = rGLB_SB_CFG then some (b2n s.strapI3c * 2 ^ 8 + fld GLB_SB_CFG_I3C_IBI_EN s * 2 ^ 7 + 0x48 + s.strapAddr)
  else none

/-- Register at block offset o of plot n. -/
def plotValue (n o : Nat) (s : State) : Option Nat :=
  if o = 0x04 then some (queueStatus n s)
  else if 0x80 ≤ o ∧ o < 0x90 then some (grantOf n ((o - 0x80) / 4) s)
  else if 0x90 ≤ o ∧ o < 0xA0 then
    let q := (o - 0x90) / 4
    some (putBits (reg (plotBase n + o) s).toNat 22 16 ((queueOf n s).staged.filter fun c => c.sq == q).length)
  else if o = 0x1004 then some (plotStatus n s)
  else none

def linkValue (off : Nat) (s : State) : Option Nat :=
  if 0x600020 ≤ off ∧ off < 0x600030 then some (leAt (configDigest s) (off - 0x600020) 4)
  else if 0x600100 ≤ off ∧ off < 0x600160 ∧ off % 16 = 4 then some (portStatus ((off - 0x600100) / 16) s)
  else if 0x601000 ≤ off ∧ off < 0x601300 then some (linkStatus ((off - 0x601000) / 128) ((off - 0x601000) % 128 / 4) s)
  else none

def cscValue (off : Nat) (s : State) : Option Nat :=
  if off = rCSC_TRIG_TIME_LO then s.csc.trig.map fun t => half false t.at_
  else if off = rCSC_TRIG_TIME_HI then s.csc.trig.map fun t => half true t.at_
  else if 0x701000 ≤ off ∧ off < 0x701200 ∧ off % 64 = 0 then
    let b := (off - 0x701000) / 64
    let v := putBits ((reg off s).toNat / 2 ^ 16 * 2 ^ 16) 28 28 (b2n (bankReady b s))
    some (if bankState b s = 3 ∨ bankState b s = 6 then v + bankUntrained b s % 256 * 2 ^ 8 + bankRefused b s % 256 else v)
  else if 0x710000 ≤ off ∧ off < 0x714000 ∧ off % 8 = 4 then
    some (putBits (reg off s).toNat 20 18 (cstateAt ((off - 0x710000) / 2048) ((off - 0x710000) % 2048 / 8) s))
  else none

def annealValue (off : Nat) (s : State) : Option Nat :=
  if off = rANL_STATUS then some (anlStatusRead s)
  else if off = rANL_LOOP_STATE then some (loopStateRead s)
  else if off = rANL_LOOP_SETPT then some (loopSetptRead s)
  else if off = rANL_LOOP_GAIN then some (loopGainRead s)
  else none

def opticsValue (off : Nat) (s : State) : Option Nat :=
  if off = rOPT_LANE_FFE then some (ffeRead s).toNat
  else if 0x900100 ≤ off ∧ off < 0x9001C0 ∧ off % 32 = 4 then
    some (putBits (reg off s).toNat 31 29 (optBankState ((off - 0x900100) / 32) s))
  else if 0x900200 ≤ off ∧ off < 0x900380 ∧ (off - 0x900200) % 64 < 44 then
    some (putBits (reg off s).toNat 27 16 (biasCode ((off - 0x900200) / 64) ((off - 0x900200) % 64 / 4) s))
  else none

def sundialValue (off : Nat) (s : State) : Option Nat :=
  if off = rSDL_MST_LO then some (half false (mstNs s))
  else if off = rSDL_MST_HI then some (half true (mstNs s))
  else if off = rSDL_MST_FRAC then some (mstFrac s)
  else if off = rSDL_TOD_LO then some (half false (todNs s))
  else if off = rSDL_TOD_HI then some (half true (todNs s))
  else if off = rSDL_TOD_FRAC then some (todFrac s)
  else if off = rSDL_FREE_LO then some (half false (freeNs s))
  else if off = rSDL_FREE_HI then some (half true (freeNs s))
  else if off = rSDL_RATE then some (rateReg s).toNat
  else if 0xA00080 ≤ off ∧ off < 0xA00098 then
    let p := (off - 0xA00080) / 4
    some (putBits (putBits (reg off s).toNat 31 31 (b2n (peerValid p s))) 29 29 (b2n (partnerLocked p s)))
  else if 0xA00200 ≤ off ∧ off < 0xA00280 then
    some (half (off % 8 == 4) (vtNs ((off - 0xA00200) / 8) s))
  else if off = rSDL_ADT_KEY then some (adtKey s)
  else if off = rSDL_ADT_DELAY then some (adtDelay s)
  else none

def hallmarkValue (off : Nat) (s : State) : Option Nat :=
  if 0xB10000 ≤ off ∧ off < 0xB10400 then some (windowWord (fld HMK_FCUR_SLOT s) ((off - 0xB10000) / 4) s).toNat
  else if 0xB10400 ≤ off ∧ off < 0xB10800 then some (windowWord (fld HMK_TCUR_SLOT s) ((off - 0xB10400) / 4) s).toNat
  else none

def firmwareValue (off : Nat) (s : State) : Option Nat :=
  if off = rFWU_TRIAL then some (trialLeft s)
  else if off = rFWU_CAL_STATUS then some (calStatus s)
  else if off = rFWU_CAL_GEN then some ((newerCopy calArea s).elim 0 fun x => x.2.1)
  else if off = rFWU_SEC then some (s.fuses.floor * 2 ^ 8 + s.fuses.revoked % 4 * 2 ^ 2 + s.fuses.present % 4)
  else none

/-- A counter of R417, with the run in progress counted up to now. -/
def meterValue (off : Nat) (s : State) : Option Nat :=
  if 0xD01000 ≤ off ∧ off < 0xD01400 ∧ (off - 0xD01000) % 64 < 48 then
    let n := (off - 0xD01000) / 64
    some (half (off % 8 == 4) (get 0 (8 * n + (off - 0xD01000) % 64 / 8) (meterRun (cycle s) s).meter))
  else none

/-- The value of a register that other state determines, by its offset in PF BAR0; none where the register stands by
itself. -/
def derived (off : Nat) (s : State) : Option Nat :=
  match off / 0x100000 with
  | 0 => globalValue off s
  | 1 => plotValue ((off - 0x100000) / 0x10000) (off % 0x10000) s
  | 2 =>
    if off = rSEQ_STATUS then some (seqStatus s)
    else if off = rSEQ_HOLD_WAIT ∨ off = rSEQ_HOLD_STREAM then some (reg off (accrueHold (cycle s) s)).toNat
    else none
  | 3 =>
    if off = rTLY_STATUS then some (tlyStatus s)
    else if 0x310000 ≤ off ∧ off < 0x314000 then some (tallyRead ((off - 0x310000) / 4) s)
    else none
  | 4 => if 0x400100 ≤ off ∧ off < 0x400140 then some (engStatus ((off - 0x400100) / 4) s) else none
  | 6 => linkValue off s
  | 7 => cscValue off s
  | 8 => annealValue off s
  | 9 => opticsValue off s
  | 10 => sundialValue off s
  | 11 => hallmarkValue off s
  | 12 => firmwareValue off s
  | 13 => meterValue off s
  | 14 =>
    if off = rTRM_STATUS then some (putBits (reg off s).toNat 31 20 (trimsPending s))
    else if isLaserTrim off then
      some (putBits (reg off s).toNat 11 0 (biasCode ((off - 0xE01000) / 64) ((off - 0xE01000) % 64 / 4) s))
    else none
  | _ => none

/-- What the register at an offset of PF BAR0 reads as (R12); 0 at a reserved offset (R13). -/
def regValue (off : Nat) (s : State) : Word :=
  if (regRow off).isNone then 0
  else match derived off s with
    | some v => BitVec.ofNat 32 v
    | none => reg off s

/-! ### MSI-X tables and pending bits (R379, R538, R540) -/

/-- Word at byte offset o of the MSI-X table of function f, and of its pending bit array. -/
def msixTableWord (f o : Nat) (s : State) : Word :=
  let e := get {} (o / 16) (func f s).table
  match o % 16 / 4 with
  | 0 => BitVec.ofNat 32 e.addr
  | 1 => BitVec.ofNat 32 (e.addr / 2 ^ 32)
  | 2 => e.data
  | _ => BitVec.ofNat 32 (b2n e.masked)
def pbaWord (f o : Nat) (s : State) : Word := BitVec.ofNat 32 ((func f s).pba / 2 ^ (8 * o))

/-! ### Where an access goes (R539, R540) -/

/-- What an offset of an accessor's BAR0 names: a register by its PF offset, a word of an MSI-X table or pending array
of a function by byte offset, a doorbell of a plot by byte offset (R402), or nothing. -/
inductive Target where
  | reg (off : Nat)
  | door (n o : Nat)
  | table (f o : Nat)
  | pba (f o : Nat)
  | none
deriving DecidableEq, Repr

def target (a : Accessor) (off : Nat) : Target :=
  match a with
  | .vf n =>
    if off < 0x1000 ∨ (0x1000 ≤ off ∧ off < 0x1008) ∨ (0x1010 ≤ off ∧ off < 0x1020) then .reg (plotBase n + off)
    else if 0x10000 ≤ off ∧ off < 0x10014 then .door n (off - 0x10000)
    else if 0x200000 ≤ off ∧ off < 0x200080 then .table (n + 1) (off - 0x200000)
    else if 0x201000 ≤ off ∧ off < 0x201008 then .pba (n + 1) (off - 0x201000)
    else .none
  | _ =>
    if 0xF00000 ≤ off ∧ off < 0xF00400 then .table 0 (off - 0xF00000)
    else if 0xF01000 ≤ off ∧ off < 0xF01008 then .pba 0 (off - 0xF01000)
    else if off < 0xF00000 then .reg off
    else .none

/-! ### Latches (R9, R375, R539) -/

/-- Is the register the low word of a 64-bit quantity (R9)? -/
def isLow (off : Nat) : Bool :=
  [0x8, 0x2024, 0x200008, 0x400004, 0x70000C, 0x700024, 0x800018, 0xE00008, 0xA00008, 0xA00014, 0xA00020, 0xA00028,
    0xD00008].contains off
  || (decide (0x100000 ≤ off) && decide (off < 0x200000) && (let o := off % 0x10000
      o == 0x08 || o == 0x18 || (decide (0x40 ≤ o) && decide (o < 0x80) && o % 16 == 0)))
  || (decide (0x710000 ≤ off) && decide (off < 0x714000) && off % 8 == 0)
  || (decide (0xA00100 ≤ off) && decide (off < 0xA00140) && off % 16 == 4)
  || (decide (0xA00140 ≤ off) && decide (off < 0xA00160) && off % 8 == 0)
  || (decide (0xA00200 ≤ off) && decide (off < 0xA00280) && off % 8 == 0)
  || (decide (0xD01000 ≤ off) && decide (off < 0xD01400) && off % 8 == 0)

/-- The registers a read of a low word latches: its high word, and for MST and TOD the fraction too (R375). -/
def latched (off : Nat) : List Nat :=
  if off = rSDL_MST_LO ∨ off = rSDL_TOD_LO then [off + 4, off + 8] else if isLow off then [off + 4] else []

/-- The registers whose latch an access to a register ends: its own, and those its pair's low word latches. -/
def unlatches (off : Nat) : List Nat := off :: latched off

/-- Key of an accessor's latch of a register. -/
def latchKey (a : Accessor) (off : Nat) : Nat := 2 ^ 28 * (match a with
  | .host => 0
  | .sideband => 1
  | .device => 2
  | .vf n => n + 3) + off

/-- An access by `a` to a register ends the latches of its pair. -/
def endLatches (a : Accessor) (off : Nat) (s : State) : State :=
  { s with latch := forAll (fun o => del (latchKey a o)) (unlatches off) s.latch }

/-! ### Reads -/

/-- Bring the counters of a hold to the present where they are read. -/
def accrueFor (off : Nat) (s : State) : State :=
  if off = rSEQ_HOLD_WAIT ∨ off = rSEQ_HOLD_STREAM then accrueHold (cycle s) s else s

/-- RC fields clear after the read (R12); they keep the increments of its cycle. -/
def clearRc (off : Nat) (s : State) : State :=
  match regRow off with
  | none => s
  | some r =>
    if r.rc = 0 then s
    else
      let u := updates s
      forAll (fun (c : Fld × Nat × Nat) s => if c.1.off = off then setFld c.1 (min c.2.2 (fldMax c.1)) s else s) u.counts
        (setReg off (reg off s &&& ~~~ BitVec.ofNat 32 r.rc) { s with
          upds := { u with counts := u.counts.map fun c => if c.1.off = off then (c.1, 0, c.2.2) else c } })

/-- A register as its RC fields stood before the increments of the present cycle (R12). -/
def beforeCounts (off : Nat) (s : State) : State :=
  match regRow off with
  | none => s
  | some r =>
    if r.rc = 0 then s
    else setFlds (((updates s).counts.filter fun c => c.1.off == off).map fun c => (c.1, c.2.1)) s

/-- A read of a register by its PF offset: its value, by the latch where one holds, and what the read does. -/
def readReg (a : Accessor) (off : Nat) (s : State) : Word × State :=
  let s := accrueFor off s
  let v := match get 0 (latchKey a off) s.latch with
    | 0 => regValue off (beforeCounts off s)
    | n + 1 => BitVec.ofNat 32 n
  let s' := endLatches a off s
  let s' := { s' with latch := forAll (fun o => ins (latchKey a o) ((regValue o s).toNat + 1)) (latched off) s'.latch }
  (v, clearRc off s')

/-- A read at an offset of an accessor's BAR0 (R13, R539, R540). -/
def readAt (a : Accessor) (off : Nat) (s : State) : Word × State :=
  match target a off with
  | .reg o => readReg a o s
  | .table f o => (msixTableWord f o s, s)
  | .pba f o => (pbaWord f o s, s)
  | .door _ _ => (0, s)
  | .none => (0, s)

/-- UNALIGNED_ACCESS (R10): a read returns 0, a write is discarded, and the access is recorded. At a register of a pair of
R9 it is no access to the pair: a latched high word stands (DESIGN CHOICE, log entry 5). -/
def unalignedAccess (a : Accessor) (off : Nat) (write : Bool) (s : State) : State :=
  if !reaches a s then s
  else
    let s := globalErr 1 (accSrc a) (accFunc a) off s
    if write then s else emit (.regData 0) s

/-- A read by the host or a VF (R10, R510). -/
def hostRegRead (a : Accessor) (off : Nat) (s : State) : State :=
  if !reaches a s then (if gated s then s else emit .unsupported s)
  else if off % 4 ≠ 0 then unalignedAccess a off false s
  else
    let (v, s) := readAt a off s
    emit (.regData v) s

/-- READ32 (R400): completion code, then 1 to 8 words. Another count is answered with an error. -/
def readWords (off : Nat) : Nat → State → List Byte × State
  | 0, s => ([], s)
  | n + 1, s =>
    let (v, s) := readAt .sideband off s
    let (vs, s) := readWords (off + 4) n s
    (bytesLE 4 v.toNat ++ vs, s)
def read32 (off count : Nat) (s : State) : State :=
  if !reaches .sideband s then s
  else if count = 0 ∨ 8 < count then emit (.mctp [2]) s
  else if off % 4 ≠ 0 then
    emit (.mctp (0 :: List.replicate (4 * count) 0)) (loop (fun i => globalErr 1 1 0 (off + 4 * i)) count s)
  else
    let (bs, s) := readWords off count s
    emit (.mctp (0 :: bs)) s

/-- GET_STATUS (R400), which Crucible answers too (R490). -/
def getStatus (s : State) : State :=
  if !reaches .sideband s && !(inCrucible s && s.powered) then s
  else
    let (a, s) := readReg .sideband rGLB_SFIFO_STATUS s
    let (b, s) := readReg .sideband rGLB_PCIE_STATUS s
    emit (.mctp (bytesLE 4 a.toNat ++ bytesLE 4 b.toNat)) s

end Sys2Proof.Machine
end

