-- ==== Sys2Proof/Machine/Write.lean ====
section
/-! DEFINITION. Register writes (00_scope.md R12, R13; 20_register_map.md R538–R546 and the "Registers" sections of the
chapters): each register's own rule, and the field types for the rest. -/
namespace Sys2Proof.Machine

/-- A write by the field types of R12: RW bits take the word, W1C bits written 1 clear. -/
def plainWrite (off : Nat) (w : Word) (s : State) : State :=
  match regRow off with
  | none => s
  | some r =>
    let rw_ := BitVec.ofNat 32 r.rw
    clearW1c off w (setReg off ((reg off s &&& ~~~rw_) ||| (w &&& rw_)) (noteWrite off r.rw s))

/-- A write taken where a condition holds, else discarded and recorded. -/
def writeIf (c : Bool) (a : Accessor) (off : Nat) (w : Word) (s : State) : State :=
  if c then plainWrite off w s else discard a off s

/-! ### Global block -/

/-- Evaluate the designation (R25, R545). A coordinate that is not VALID equals none. -/
def designate (a : Accessor) (off : Nat) (s : State) : State :=
  let is (v : Nat) (r : Nat) : Bool := v == 1 && (reg r s).toNat % 2 ^ 11 == (reg rGLB_NODE s).toNat % 2 ^ 11
  let nodeOk := flag GLB_NODE_VALID s
  let mesh := nodeOk && is (fld GLB_MESH_MASTER_VALID s) rGLB_MESH_MASTER
  let rack := nodeOk && is (fld GLB_RACK_MASTER_VALID s) rGLB_RACK_MASTER
  let refused := mesh && !rack
  let set_ := nodeOk && flag GLB_ROLE_VALID s && flag GLB_RACK_MASTER_VALID s && flag GLB_MESH_MASTER_VALID s && !refused
  let s := setFlds [(GLB_ROLE_STATUS_SET, b2n set_), (GLB_ROLE_STATUS_REFUSED, b2n refused),
    (GLB_ROLE_STATUS_RACK_MASTER, b2n (set_ && rack)), (GLB_ROLE_STATUS_MESH_MASTER, b2n (set_ && mesh))] s
  if refused then globalErr 3 (accSrc a) (accFunc a) off s else s

/-- A write of GLB_NODE, GLB_ROLE, GLB_RACK_MASTER or GLB_MESH_MASTER (R544, R545). -/
def designationWrite (a : Accessor) (off : Nat) (w : Word) (s : State) : State :=
  if a ≠ .sideband then globalErr 4 (accSrc a) (accFunc a) off s
  else if off = rGLB_NODE ∧ (List.range 6).any (fun p => flag (LNK_PORT_CTRL_ENABLE p) s) then discard a off s
  else
    let old := reg off s
    let s := designate a off (plainWrite off w s)
    if reg off s = old then s else roleChanged s

/-- GLB_IRQ_ROUTE_s (R546): setting EN while the source is pending sends its vector once. -/
def irqRouteWrite (off : Nat) (w : Word) (s : State) : State :=
  let k := (off - rGLB_IRQ_ROUTE 0) / 4
  let was := flag (GLB_IRQ_ROUTE_EN k) s
  let s := plainWrite off w s
  if !was ∧ flag (GLB_IRQ_ROUTE_EN k) s ∧ bit (reg rGLB_IRQ_PEND s).toNat k then msix 0 (fld (GLB_IRQ_ROUTE_VEC k) s) s else s

/-- GLB_RESET_CTRL (R512, R513). -/
def resetCtrl (a : Accessor) (w : Word) (s : State) : State :=
  if wfld GLB_RESET_CTRL_FW_RESET w = 0 then s
  else if wfld GLB_RESET_CTRL_KEY w ≠ 0x0A5A ∨ stage s = 9 ∨ flag GLB_HALT_STATUS_HALTING s then discard a rGLB_RESET_CTRL s
  else resetAfterHalt s

/-- GLB_IRQ_PEND (R546): a source that rises in the cycle of the write stays pending and sends its vector again. -/
def irqPendWrite (w : Word) (s : State) : State :=
  let old := reg rGLB_IRQ_PEND s
  let u := updates s
  let s := plainWrite rGLB_IRQ_PEND w s
  loop (fun k s =>
    if bit u.again k && bit w.toNat k && bit old.toNat k && !flag ⟨rGLB_IRQ_PEND, k, k⟩ s
    then irqSend k (setFld ⟨rGLB_IRQ_PEND, k, k⟩ 1 s) else s) 25 s

def globalWrite (a : Accessor) (off : Nat) (w : Word) (counts : Map Nat) (s : State) : State :=
  if off = rGLB_NODE ∨ off = rGLB_ROLE ∨ off = rGLB_RACK_MASTER ∨ off = rGLB_MESH_MASTER then designationWrite a off w s
  else if rGLB_IRQ_ROUTE 0 ≤ off ∧ off ≤ rGLB_IRQ_ROUTE 24 then irqRouteWrite off w s
  else if off = rGLB_TAG_FLOOR then
    writeIf (decide (wfld GLB_TAG_FLOOR_FLOOR w ≤ fld GLB_TAG_STATUS_LIMIT s / 17)) a off w s
  else if off = rGLB_APER_BASE then writeIf (decide (wfld GLB_APER_BASE_BASE w ≤ 383)) a off w s
  else if off = rGLB_SFIFO_CTRL then
    if wfld GLB_SFIFO_CTRL_HIGH w ≤ wfld GLB_SFIFO_CTRL_LOW w ∨ 256 < wfld GLB_SFIFO_CTRL_HIGH w then discard a off s
    else sfHold (plainWrite off w s)
  else if off = rGLB_HALT_CTRL then haltCtrl a w s
  else if off = rGLB_THERM_CFG then
    writeIf (decide (60 ≤ wfld GLB_THERM_CFG_TJ_WARN w) && decide (wfld GLB_THERM_CFG_TJ_WARN w ≤ 94)) a off w s
  else if off = rGLB_INJ_CTRL then injCtrl a w counts s
  else if off = rGLB_RESET_CTRL then resetCtrl a w s
  else if off = rGLB_IRQ_PEND then irqPendWrite w s
  else plainWrite off w s

/-! ### Plot blocks (R401, R423, R446, R540) -/

/-- A write at block offset o of plot n: queue registers from the VF only, PLOT_CTRL not from it. -/
def plotWrite (a : Accessor) (n o : Nat) (w : Word) (s : State) : State :=
  if o < 0x1000 then (if a = .vf n then queueWrite n o w s else s)
  else if o = 0x1000 then
    if a = .vf n then s
    else
      let s := if wfld (PLOT_CTRL_OPEN n) w = 1 then openPlot a n s else s
      if wfld (PLOT_CTRL_CLOSE n) w = 1 then closePlot n s else s
  else plainWrite (plotBase n + o) w s

/-! ### Sequencer -/

/-- SEQ_ISR_n (R128): an accepted change of the region invalidates the plot's image. -/
def isrWrite (a : Accessor) (off : Nat) (w : Word) (s : State) : State :=
  let n := (off - rSEQ_ISR 0) / 4
  if runOf n s ∨ loadsProgram n s then discard a off s
  else
    let old := reg off s
    let s := plainWrite off w s
    if reg off s = old then s else dropImage n s

def seqWrite (a : Accessor) (off : Nat) (w : Word) (s : State) : State :=
  if off = rSEQ_CTRL then seqCtrl a w s
  else if rSEQ_ISR 0 ≤ off ∧ off ≤ rSEQ_ISR 15 then isrWrite a off w s
  else if off = rSEQ_SLICE_CTRL then
    writeIf (!runOn s && decide (4 ≤ wfld SEQ_SLICE_CTRL_DRAIN w)) a off w s
  else if rSEQ_SLICE_TAB 0 ≤ off ∧ off ≤ rSEQ_SLICE_TAB 63 then writeIf (!runOn s) a off w s
  else if off = rSEQ_ISO_CTRL then isoWrite a w s
  else if off = rSEQ_CORE_CTRL then (if wfld SEQ_CORE_CTRL_SCRUB_START w = 1 then scrubStart a s else s)
  else if rSEQ_CMASK_ROW 1 ≤ off ∧ off ≤ rSEQ_CMASK_COL 15 then writeIf (!runOn s) a off w s
  else plainWrite off w s

/-! ### Tally, stream and HBM -/

/-- Does a tally or watch region of plot n at units [lo, hi] overlap another plot's valid region of its kind? -/
def regionOverlaps (valid base limit : Nat → Fld) (n lo hi : Nat) (s : State) : Bool :=
  (List.range 16).any fun m => m != n && flag (valid m) s && decide (fld (base m) s ≤ hi) && decide (lo ≤ fld (limit m) s)

/-- TLY_TR_n and TLY_WR_n (R211): an accepted write zeroes the new region's tallies, or cancels the plot's watches. -/
def tlyRegionWrite (a : Accessor) (watch : Bool) (n : Nat) (w : Word) (s : State) : State :=
  let off := if watch then rTLY_WR n else rTLY_TR n
  let lo := wfld (TLY_TR_BASE n) w
  let hi := wfld (TLY_TR_LIMIT n) w
  let clash := if watch then regionOverlaps TLY_WR_VALID TLY_WR_BASE TLY_WR_LIMIT n lo hi s
    else regionOverlaps TLY_TR_VALID TLY_TR_BASE TLY_TR_LIMIT n lo hi s
  if runOf n s ∨ loadsProgram n s ∨ hi < lo ∨ (wfld (TLY_TR_VALID n) w = 1 ∧ clash) then discard a off s
  else
    let s := plainWrite off w (tallyRun s)
    if watch then cancelHost n (some stCancelled) (cancelSeq n s) else touchWatches (zeroTallies n s)

def tallyWrite (a : Accessor) (off : Nat) (w : Word) (s : State) : State :=
  if off = rTLY_CTRL then
    (if wfld TLY_CTRL_ZERO_GO w = 1 then zeroGo a (wfld TLY_CTRL_PLOT w) s else plainWrite off w s)
  else if rTLY_TR 0 ≤ off ∧ off ≤ rTLY_TR 15 then tlyRegionWrite a false ((off - rTLY_TR 0) / 4) w s
  else if rTLY_WR 0 ≤ off ∧ off ≤ rTLY_WR 15 then tlyRegionWrite a true ((off - rTLY_WR 0) / 4) w s
  else plainWrite off w s

/-- STM_DSR_n (R185): an accepted change marks every descriptor of the region invalid. -/
def dsrWrite (a : Accessor) (off : Nat) (w : Word) (s : State) : State :=
  let n := (off - rSTM_DSR 0) / 4
  if runOf n s ∨ loadsDesc n s then discard a off s
  else
    let old := reg off s
    let s' := plainWrite off w s
    if reg off s' = old then s' else dropDescs n s'

def streamWrite (a : Accessor) (off : Nat) (w : Word) (s : State) : State :=
  if off = rSTM_CTRL then stmCtrl a w s
  else if rSTM_DSR 0 ≤ off ∧ off ≤ rSTM_DSR 15 then dsrWrite a off w s
  else plainWrite off w s

/-- HBM_WIN_p_s (R181). -/
def hbmRegWrite (a : Accessor) (off : Nat) (w : Word) (s : State) : State :=
  if 0x501000 ≤ off ∧ off < 0x501200 then
    let p := (off - 0x501000) / 32
    writeIf (!runOf p s && !loadsProgram p s && !loadsDesc p s
      && decide (wfld (HBM_WIN_BASE p 0) w + wfld (HBM_WIN_SIZE p 0) w ≤ 3072)) a off w s
  else plainWrite off w s

/-! ### Links and the circuit switch -/

/-- LNK_PORT_CTRL_p (R241, R260, R262): a port disabled loses its links; REHELLO repeats the hello. -/
def portCtrlWrite (p : Nat) (w : Word) (s : State) : State :=
  let was := flag (LNK_PORT_CTRL_ENABLE p) s
  let s := plainWrite (rLNK_PORT_CTRL p) w s
  let s := if was ∧ !flag (LNK_PORT_CTRL_ENABLE p) s then
      forAll (fun l s => setPhase p l .down (cutAltered p l s)) (List.range 16) s else s
  if wfld (LNK_PORT_CTRL_REHELLO p) w = 1 then resendHello p s else s

def linkRegWrite (a : Accessor) (off : Nat) (w : Word) (s : State) : State :=
  if off = rLNK_CTRL then writeIf (decide (wfld LNK_CTRL_NOPOST_TMO w ≤ 10)) a off w s
  else if off = rLNK_CFG 0 then { plainWrite off w s with extents := true }
  else if 0x600100 ≤ off ∧ off < 0x600160 ∧ off % 16 = 0 then portCtrlWrite ((off - 0x600100) / 16) w s
  else plainWrite off w s

/-- CSC_PLOT_n (R284, R414). -/
def cscPlotWrite (a : Accessor) (off : Nat) (w : Word) (s : State) : State :=
  let n := (off - rCSC_PLOT 0) / 4
  writeIf (!runOf n s && !(isoOn s && plotOpen n s && flag (CSC_PLOT_HOME_VALID n) s && wfld (CSC_PLOT_HOME_VALID n) w == 0))
    a off w s

def cscRegWrite (a : Accessor) (off : Nat) (w : Word) (s : State) : State :=
  if off = rCSC_CTRL then cscCtrl a w (plainWrite off w s)
  else if off = rCSC_TRIG_CTRL then cscTrigCtrl a w (plainWrite off w s)
  else if off = rCSC_TRIG_TIME_LO ∨ off = rCSC_TRIG_TIME_HI then writeIf s.csc.trig.isNone a off w s
  else if rCSC_PLOT 0 ≤ off ∧ off ≤ rCSC_PLOT 15 then cscPlotWrite a off w s
  else if 0x710000 ≤ off ∧ off < 0x714000 then
    let b := (off - 0x710000) / 2048
    if bankProtected b s then discard a off s else entryWritten b (plainWrite off w s)
  else plainWrite off w s

/-! ### Anneal, optics and trim -/

def annealWrite (a : Accessor) (off : Nat) (w : Word) (s : State) : State :=
  if off = rANL_CTRL then anlSwap a (wfld ANL_CTRL_SWAP w) (anlEnable (plainWrite off w s))
  else if off = rANL_CAL_CTRL then calGo a w (plainWrite off w s)
  else if off = rANL_LOOP_SETPT then setptWrite a w s
  else if 0x801000 ≤ off ∧ off < 0x801400 ∧ (regRow off).isSome then coefWrite a off w s
  else plainWrite off w s

def opticsWrite (a : Accessor) (off : Nat) (w : Word) (s : State) : State :=
  if off = rOPT_CTRL then writeIf (decide (wfld OPT_CTRL_MON_INT w ≤ 4)) a off w s
  else if off = rOPT_MEAS_CTRL then
    if 4 < wfld OPT_MEAS_CTRL_INT w ∨ (flag OPT_MEAS_CTRL_BUSY s ∧ wfld OPT_MEAS_CTRL_GO w = 1) then discard a off s
    else measGo a w (plainWrite off w s)
  else if off = rOPT_LANE_FFE then ffeWrite w s
  else if 0x900100 ≤ off ∧ off < 0x9001C0 ∧ off % 32 = 0 then
    let p := (off - 0x900100) / 32
    bankEnable p (flag (OPT_BANK_CTRL_ENABLE p) s) (plainWrite off w s)
  else plainWrite off w s

def trimRegWrite (a : Accessor) (off : Nat) (w : Word) (s : State) : State :=
  if 0xE01000 ≤ off ∧ (regRow off).isSome then trimWrite a off w s else plainWrite off w s

/-! ### Sundial -/

/-- SDL_SLOT_LEN and SDL_SLICE_SLOTS (R365). -/
def slotWrite (a : Accessor) (off : Nat) (w : Word) (s : State) : State :=
  let len := if off = rSDL_SLOT_LEN then wfld SDL_SLOT_LEN_LEN w else fld SDL_SLOT_LEN_LEN s
  let n := if off = rSDL_SLICE_SLOTS then wfld SDL_SLICE_SLOTS_SLOTS w else fld SDL_SLICE_SLOTS_SLOTS s
  if runOn s ∨ s.csc.trig.isSome ∨ len < 64 ∨ 4096 < len ∨ n = 0 ∨ 4294967295 < n * len * 16 then discard a off s
  else renumber (plainWrite off w s)

/-- SDL_TPO_CTRL_n (R369). -/
def tpoWrite (a : Accessor) (n : Nat) (w : Word) (s : State) : State :=
  let off := rSDL_TPO_CTRL n
  if wfld (SDL_TPO_CTRL_WIDTH n) w = 0 then discard a off s
  else
    let was := flag (SDL_TPO_CTRL_ENABLE n) s
    let s := plainWrite off w s
    if !flag (SDL_TPO_CTRL_ENABLE n) s then s
    else if !was then pinArm n s
    else if pinBadPeriod n s then raise (SDL_TPO_CTRL_LATE n) 1 (setFld (SDL_TPO_CTRL_ENABLE n) 0 s)
    else s

/-- SDL_TPO_PERIOD_n: a bad period disarms an armed periodic pulse (R369). -/
def tpoPeriodWrite (n : Nat) (w : Word) (s : State) : State :=
  let s := plainWrite (rSDL_TPO_PERIOD n) w s
  if flag (SDL_TPO_CTRL_ENABLE n) s ∧ pinBadPeriod n s then
    raise (SDL_TPO_CTRL_LATE n) 1 (setFld (SDL_TPO_CTRL_ENABLE n) 0 s)
  else s

def sundialWrite (a : Accessor) (off : Nat) (w : Word) (s : State) : State :=
  let inRange (x : Nat) : Bool := decide (16 ≤ x) && decide (x ≤ 240)
  if off = rSDL_CTRL then sdlCtrlWrite a w s
  else if off = rSDL_SLOT_LEN ∨ off = rSDL_SLICE_SLOTS then slotWrite a off w s
  else if off = rSDL_SKEW_THR then
    writeIf (inRange (wfld SDL_SKEW_THR_FENCE w) && inRange (wfld SDL_SKEW_THR_WARN w)
      && decide (wfld SDL_SKEW_THR_WARN w < wfld SDL_SKEW_THR_FENCE w)) a off w s
  else if 0xA00100 ≤ off ∧ off < 0xA00140 ∧ off % 16 = 0 then tpoWrite a ((off - 0xA00100) / 16) w s
  else if 0xA00100 ≤ off ∧ off < 0xA00140 ∧ off % 16 = 12 then tpoPeriodWrite ((off - 0xA00100) / 16) w s
  else plainWrite off w s

/-! ### Hallmark -/

/-- HMK_CAP_CFG (R467, R469, R474). -/
def capCfgWrite (a : Accessor) (w : Word) (s : State) : State :=
  let cap := wfld HMK_CAP_CFG_CAP_EN w == 1
  let rpl := wfld HMK_CAP_CFG_REPLAY w == 1
  if (cap && rpl) || (cap && isoOn s) then discard a rHMK_CAP_CFG s
  else
    let wasCap := flag HMK_CAP_CFG_CAP_EN s
    let wasRpl := flag HMK_CAP_CFG_REPLAY s
    let s := plainWrite rHMK_CAP_CFG w s
    let s := if cap && !wasCap then setFlds [(HMK_CAP_STATUS_STOP, 0), (HMK_CAP_STATUS_USED, 0)] s
      else if wasCap && !cap && fld HMK_CAP_STATUS_STOP s == 0 then setFld HMK_CAP_STATUS_STOP 4 s
      else s
    if rpl && !wasRpl then { s with replay := 0, replayNo := 0 } else s

def hallmarkWrite (a : Accessor) (off : Nat) (w : Word) (s : State) : State :=
  if off = rHMK_CTRL then
    let s := plainWrite off w s
    if wfld HMK_CTRL_SNAP_NOW w = 1 then trigger 5 0 none s else s
  else if off = rHMK_FCUR then writeIf (decide (wfld HMK_FCUR_SLOT w < 1024)) a off w s
  else if off = rHMK_TCUR then writeIf (decide (1024 ≤ wfld HMK_TCUR_SLOT w)) a off w s
  else if off = rHMK_CAP_BASE then
    if flag HMK_CAP_CFG_CAP_EN s ∨ flag HMK_CAP_CFG_REPLAY s ∨ 393216 ≤ wfld HMK_CAP_BASE_BASE w then s
    else plainWrite off w s
  else if off = rHMK_CAP_CFG then capCfgWrite a w s
  else plainWrite off w s

/-! ### Firmware and metering -/

/-- FWU_SVC_ADDR: the address is used, and stored in the settings and the boot record (R496). -/
def svcAddrWrite (w : Word) (s : State) : State :=
  let area := settingsArea s.fw.slot
  let (fmt, body) := match newerCopy area s with
    | some x => (x.2.2.1, x.2.2.2)
    | none => (Config.setVer (slotVer s.fw.slot s), [])
  let s := writeArea area fmt (Config.withAddress body w.toNat) s
  onBoot (fun r => { r with addr := w.toNat }) (setReg rFWU_SVC_ADDR w s)

def firmwareWrite (a : Accessor) (off : Nat) (w : Word) (s : State) : State :=
  if off = rFWU_CTRL then fwuCtrl a w s
  else if off = rFWU_SVC_ADDR then svcAddrWrite w s
  else if off = rFWU_SVC_CFG then
    writeIf (decide (8 ≤ wfld FWU_SVC_CFG_PREFIX w) && decide (wfld FWU_SVC_CFG_PREFIX w ≤ 30)) a off w s
  else plainWrite off w s

/-- MTR_RING_CFG (R424): SIZE_LOG2 only while RING_EN is 0; setting RING_EN sets HEAD and TAIL to 0. -/
def ringCfgWrite (a : Accessor) (w : Word) (s : State) : State :=
  let size := wfld MTR_RING_CFG_SIZE_LOG2 w
  if size < 4 ∨ 12 < size then discard a rMTR_RING_CFG s
  else if flag MTR_RING_CFG_RING_EN s then setFld MTR_RING_CFG_RING_EN (wfld MTR_RING_CFG_RING_EN w) s
  else
    let s := plainWrite rMTR_RING_CFG w s
    if flag MTR_RING_CFG_RING_EN s then writeRecords (setFlds [(MTR_RING_HEAD_HEAD, 0), (MTR_RING_TAIL_TAIL, 0)] s) else s

/-- MTR_RING_HEAD (R419, R424). -/
def ringHeadWrite (a : Accessor) (w : Word) (s : State) : State :=
  let size := 2 ^ fld MTR_RING_CFG_SIZE_LOG2 s
  let head := fld MTR_RING_HEAD_HEAD s
  let tail := fld MTR_RING_TAIL_TAIL s
  let new := wfld MTR_RING_HEAD_HEAD w
  if size ≤ new ∨ (tail + size - head) % size < (new + size - head) % size then discard a rMTR_RING_HEAD s
  else writeRecords (plainWrite rMTR_RING_HEAD w s)

def meterWrite (a : Accessor) (off : Nat) (w : Word) (s : State) : State :=
  if off = rMTR_CTRL then writeIf (decide (0 < wfld MTR_CTRL_PERIOD w)) a off w s
  else if off = rMTR_RING_BASE_LO ∨ off = rMTR_RING_BASE_HI then
    (if flag MTR_RING_CFG_RING_EN s then s else plainWrite off w s)
  else if off = rMTR_RING_CFG then ringCfgWrite a w s
  else if off = rMTR_RING_HEAD then ringHeadWrite a w s
  else plainWrite off w s

/-! ### The whole -/

/-- The latches a write ends (R9, R539). -/
def writeLatches (a : Accessor) (off : Nat) (s : State) : State :=
  endLatches a off (if isLow (off - 4) && off != rSDL_MST_HI && off != rSDL_TOD_HI then
    { s with latch := del (latchKey a off) s.latch } else s)

/-- After a write by `a`: of two writes that reach one register in the same cycle, the host's takes effect first, so that the
sideband's RW bits remain (R400). -/
def hostFirst (a : Accessor) (off : Nat) (s : State) : State :=
  match regRow off with
  | none => s
  | some r =>
    let rw_ := BitVec.ofNat 32 r.rw
    if a = .sideband then
      let u := updates s
      setUpds { u with sideband := ins off (reg off s &&& rw_) u.sideband } s
    else match look off (updates s).sideband with
      | some w => setReg off ((reg off s &&& ~~~rw_) ||| (w &&& rw_)) s
      | none => s

/-- A write of the register at an offset of PF BAR0 (R12, R13). -/
def writeReg (a : Accessor) (off : Nat) (w : Word) (counts : Map Nat) (s : State) : State :=
  let s := writeLatches a off s
  hostFirst a off (match off / 0x100000 with
  | 0 => globalWrite a off w counts s
  | 1 => plotWrite a ((off - 0x100000) / 0x10000) (off % 0x10000) w s
  | 2 => seqWrite a off w s
  | 3 => tallyWrite a off w s
  | 4 => streamWrite a off w s
  | 5 => hbmRegWrite a off w s
  | 6 => linkRegWrite a off w s
  | 7 => cscRegWrite a off w s
  | 8 => annealWrite a off w s
  | 9 => opticsWrite a off w s
  | 10 => sundialWrite a off w s
  | 11 => hallmarkWrite a off w s
  | 12 => firmwareWrite a off w s
  | 13 => meterWrite a off w s
  | 14 => trimRegWrite a off w s
  | _ => s)

/-- A write of word o / 4 of an MSI-X table (R379, R381): a vector that is unmasked while pending is sent. -/
def tableWrite (f o : Nat) (w : Word) (s : State) : State :=
  let f' (e : Msix) : Msix := match o % 16 / 4 with
    | 0 => { e with addr := e.addr / 2 ^ 32 * 2 ^ 32 + w.toNat }
    | 1 => { e with addr := e.addr % 2 ^ 32 + w.toNat * 2 ^ 32 }
    | 2 => { e with data := w }
    | _ => { e with masked := w.getLsbD 0 }
  sendPending f (onFunc f (fun g => { g with table := upd {} (o / 16) f' g.table }) s)

/-- A write of a doorbell of plot n at byte offset o (R402): 4q of SQ q, 16 of the CQ. -/
def doorWrite (n o : Nat) (w : Word) (s : State) : State :=
  if o = 16 then cqDoorbell n (w.toNat % 4096) s else sqDoorbell n (o / 4) (w.toNat % 4096) s

/-- A write at an offset of an accessor's BAR0 (R10, R13, R510, R539, R540); `counts`: the codeword count of each link at
which a lane map it names may apply (R246). -/
def regWrite (a : Accessor) (off : Nat) (w : Word) (counts : Map Nat) (s : State) : State :=
  if !reaches a s then s
  else if off % 4 ≠ 0 then unalignedAccess a off true s
  else match target a off with
    | .reg o => if (regRow o).isNone then s else writeReg a o w counts s
    | .table f o => tableWrite f o w s
    | .door n o => doorWrite n o w s
    | .pba _ _ => s
    | .none => s

/-- WRITE32 (R400): the completion code. -/
def write32 (off : Nat) (w : Word) (counts : Map Nat) (s : State) : State :=
  if !reaches .sideband s then s else emit (.mctp [0]) (regWrite .sideband off w counts s)

end Sys2Proof.Machine
end

