-- ==== Sys2Proof/Machine/Hallmark.lean ====
section
/-! DEFINITION. The Hallmark recorder: snapshots, the two classes, the flush to MRAM, the power-on clear
(16_hallmark_replay.md R451–R466; 15_faults.md R444). -/
namespace Sys2Proof.Machine

/-! ### Records (R451–R453, R456) -/

/-- Plot of the run in progress, 0xFF with none. -/
def plotByte (s : State) : Nat := (runPlot s).getD 0xFF

/-- The offset a valid entry k of a snapshot set names (R453). -/
def setEntry (set k : Nat) (s : State) : Option Nat :=
  let e := reg (if set = 0 then rHMK_SET0 k else rHMK_SET1 k) s
  if k < 240 ∧ bit e.toNat 31 then some (4 * bits e.toNat 27 2) else none

/-- The first valid entry of a set from k on, of the next n: its index and offset. -/
def nextEntry (set : Nat) : Nat → Nat → State → Option (Nat × Nat)
  | 0, _, _ => none
  | n + 1, k, s => match setEntry set k s with
    | some off => some (k, off)
    | none => nextEntry set n (k + 1) s

/-- The first read of a snapshot (R452). -/
def firstRead (s : State) : SnapRead :=
  { plot := plotByte s, pc := seqStatus s % 2 ^ 15, mst := mstNs s, tod := todNs s }

/-- The read of one word, or of both words of a 64-bit pair that two consecutive valid entries name (R453). -/
def readEntry (set : Nat) (r : SnapRead) (s : State) : SnapRead :=
  match nextEntry set 240 r.next s with
  | none => { r with next := 240 }
  | some (k, off) =>
    let v := regValue off s
    match if isLow off then nextEntry set 240 (k + 1) s else none with
    | some (j, off') =>
      if off' = off + 4 then { r with next := j + 1, vals := r.vals ++ [v, regValue off' s] }
      else { r with next := k + 1, vals := r.vals ++ [v] }
    | none => { r with next := k + 1, vals := r.vals ++ [v] }

/-- A MGMT cycle, 550 MHz, in units of the model's clock. -/
abbrev mgmtT : Nat := 20

/-- The instant of a snapshot's first read (R455). -/
def snapFrom (t : Snap) : Nat := t.at_ + min (500 * nsT) (Config.snapDelay t.at_)

/-- The reads of a snapshot up to instant `upto`, one word a MGMT cycle (R453, R470). -/
def readUpTo (set upto first : Nat) : Nat → SnapRead → State → SnapRead
  | 0, r, _ => r
  | n + 1, r, s =>
    let at_ := first + mgmtT * r.vals.length
    if 240 ≤ r.next ∨ upto < at_ then r else readUpTo set upto first n (readEntry set r { s with now := at_ }) s

/-- What a snapshot has read by instant `upto`. -/
def snapRead (set upto : Nat) (t : Snap) (s : State) : Snap :=
  if upto < snapFrom t then t
  else { t with read := some (readUpTo set upto (snapFrom t) 240 (t.read.getD (firstRead { s with now := snapFrom t })) s) }

/-- The reads that fall due up to instant t, of either class, before what happens then (R453). -/
def snapTime (t : Nat) (s : State) : State :=
  if s.recFault.busy.isNone && s.recTrace.busy.isNone then s
  else { s with
    recFault := { s.recFault with busy := s.recFault.busy.map fun x => snapRead 0 t x s }
    recTrace := { s.recTrace with busy := s.recTrace.busy.map fun x => snapRead 1 t x s } }

/-- The reads of a snapshot that are still to come, made now. -/
def readRest (set : Nat) : Nat → SnapRead → State → SnapRead
  | 0, r, _ => r
  | n + 1, r, s => if 240 ≤ r.next then r else readRest set n (readEntry set r s) s

/-- Everything a snapshot reads. -/
def allRead (set : Nat) (t : Snap) (s : State) : SnapRead := readRest set 240 (t.read.getD (firstRead s)) s

/-- A record of 1,024 bytes (R452). -/
def snapRecord (set seq rnum : Nat) (t : Snap) (s : State) : List Byte :=
  let r := allRead set t s
  bytesLE 4 seq ++ bytesLE 4 rnum ++ bytesLE 1 t.src ++ bytesLE 1 set ++ bytesLE 1 r.vals.length ++ bytesLE 1 r.plot
    ++ bytesLE 4 r.pc ++ bytesLE 8 r.mst ++ bytesLE 8 r.tod
    ++ bytesLE 4 t.entry.toNat ++ bytesLE 4 t.merged ++ List.replicate 24 0
    ++ r.vals.flatMap (fun w => bytesLE 4 w.toNat) ++ List.replicate (960 - 4 * r.vals.length) 0

/-- Put a record into a slot. -/
def putRecord (slot : Nat) (bs : List Byte) (s : State) : State :=
  { s with recs := ins slot (BitVec.ofNat 8192 (natLE bs)) s.recs }

/-- The 1,024 bytes of a slot. -/
def slotBytes (slot : Nat) (s : State) : List Byte := (List.range 256).flatMap fun k => bytesLE 4 (recWord slot k s).toNat

/-- The newest 64 fault records written since a flush started, less those it has copied (R461). -/
def flushLater (slot : Nat) (s : State) : State :=
  match s.flush with
  | none => s
  | some f =>
    let l := f.part3 ++ [slot]
    { s with flush := some { f with part3 := l.drop (l.length - (64 - f.later)) } }

/-- Write a fault record at HEAD; a slot a running flush has still to copy is not written (R451, R455). -/
def writeFault (t : Snap) (s : State) : State :=
  let head := fld HMK_FAULT_STATUS_HEAD s
  if s.flush.any fun f => f.part1.contains head || f.part3.contains head then bump HMK_DROP_COUNT_COUNT (t.merged + 1) s
  else
    let s := putRecord head (snapRecord 0 ((recWord head 0 s).toNat + 2) s.recFault.rnum t s) s
    let s := flushLater head { s with recFault := { s.recFault with rnum := (s.recFault.rnum + 1) % 2 ^ 32 } }
    setFld HMK_FAULT_STATUS_HEAD ((head + 1) % 1024) s

/-- Write a trace record at THEAD, unless a flush has stopped trace writes (R458, R461). -/
def writeTrace (t : Snap) (s : State) : State :=
  let head := fld HMK_FAULT_STATUS_THEAD s
  if s.traceStop then bump HMK_DROP_COUNT_COUNT (t.merged + 1) s
  else
    let s := putRecord head (snapRecord 1 0 s.recTrace.rnum t s) s
    setFld HMK_FAULT_STATUS_THEAD (1024 + (head - 1024 + 1) % 7168)
      { s with recTrace := { s.recTrace with rnum := (s.recTrace.rnum + 1) % 2 ^ 32 } }

/-! ### Flush to MRAM (R460–R464) -/

/-- MRAM offset of a flush slot (R475), and of its record i. -/
def flushAt (slot : Nat) : Nat := 0x200000 * slot
def flushRecordAt (slot i : Nat) : Nat := flushAt slot + 64 + 1040 * i

/-- FLUSH_NUM of a flush slot whose header holds (R465). -/
def flushNum (slot : Nat) (s : State) : Option Nat :=
  let h := storeRead true (flushAt slot) 64 s
  if leAt h 0 4 = 0x484C4D31 ∧ leAt h 60 4 = crc32 (h.take 60) then some (leAt h 4 4) else none

/-- Does the commit mark of record i hold? -/
def markOk (slot num i : Nat) (s : State) : Bool :=
  let r := storeRead true (flushRecordAt slot i) 1040 s
  leAt r 1024 4 == 0x434D4954 && leAt r 1028 4 == num && leAt r 1032 4 == i && leAt r 1036 4 == crc32 (r.take 1036)

/-- Records of a slot, in index order up to the first whose mark does not hold (R465). -/
def committed (slot num : Nat) : Nat → Nat → State → Nat
  | 0, i, _ => i
  | n + 1, i, s => if markOk slot num i s then committed slot num n (i + 1) s else i

/-- Is the flush slot complete (R465)? -/
def flushComplete (slot : Nat) (s : State) : Bool :=
  match flushNum slot s with
  | none => false
  | some num =>
    let n := committed slot num 1600 0 s
    let m := storeRead true (flushRecordAt slot n) 16 s
    leAt m 0 4 == 0x454E4431 && leAt m 4 4 == num && leAt m 8 4 == n && leAt m 12 4 == crc32 (m.take 12)

/-- The slot a flush uses (R462): not that of the newest complete flush; with none complete, not the newest valid one. -/
def flushSlot (s : State) : Nat :=
  let newer (f : Nat → Option Nat) : Nat := match f 0, f 1 with
    | none, _ => 0
    | some _, none => 1
    | some a, some b => if b < a then 1 else 0
  let whole (k : Nat) : Option Nat := if flushComplete k s then flushNum k s else none
  if (whole 0).isSome ∨ (whole 1).isSome then newer whole else newer fun k => flushNum k s

/-- FLUSH_NUM of the next flush: one above the highest. -/
def nextFlushNum (s : State) : Nat := max ((flushNum 0 s).getD 0) ((flushNum 1 s).getD 0) + 1

/-- The slot header (R462). -/
def flushHeader (num cause : Nat) (s : State) : List Byte :=
  let h := bytesLE 4 0x484C4D31 ++ bytesLE 4 num ++ bytesLE 1 cause ++ bytesLE 1 (plotByte s) ++ bytesLE 6 0
    ++ bytesLE 8 (mstNs s) ++ bytesLE 8 (todNs s) ++ bytesLE 8 (freeNs s) ++ bytesLE 20 0
  h ++ bytesLE 4 (crc32 h)

/-- The fault slots written so far, oldest first; and the newest 512 trace slots (R461). -/
def faultSlots (s : State) : List Nat :=
  let head := fld HMK_FAULT_STATUS_HEAD s
  ((List.range 1024).map fun i => (head + i) % 1024).filter fun k => (look k s.recs).isSome
def traceSlots (s : State) : List Nat :=
  let head := fld HMK_FAULT_STATUS_THEAD s - 1024
  ((List.range 512).map fun i => 1024 + (head + 7168 - 512 + i) % 7168).filter fun k => (look k s.recs).isSome

/-- Write to MRAM for the flush. -/
def flushWrite (off : Nat) (bs : List Byte) (s : State) : State := storeWrite true off bs s

/-- Is a snapshot that a TRIP flush follows still to be completed? -/
def tripSnapDue (s : State) : Bool :=
  let trip (t : Snap) : Bool := t.flush == some 2
  s.recFault.busy.any trip || s.recFault.pending.any trip

/-- Has the hold-off of a fault flush passed (R460)? -/
def holdoffOver (s : State) : Bool := match s.flushEnd with
  | none => true
  | some t => decide (t + 1000 * msT ≤ s.now)

/-- The flush ends with its closing mark (R460, R462, R444); a waiting fault flush may start. -/
def flushFinish (f : Flush) (s : State) : State :=
  let m := bytesLE 4 0x454E4431 ++ bytesLE 4 f.num ++ bytesLE 4 f.done
  let s := flushWrite (flushRecordAt f.slot f.done) (m ++ bytesLE 4 (crc32 m)) s
  let s := { s with flush := none, flushEnd := if f.cause = 0 then some s.now else s.flushEnd }
  let s := irq 23 (raise HMK_FLUSH_STATUS_DONE 1 (setFld HMK_FLUSH_STATUS_RUNNING 0 s))
  let s := if flag GLB_THERM_STATUS_TRIPPED s && !s.thermtrip && !tripSnapDue s then
      emit (.pin .thermtripN false) { s with thermtrip := true } else s
  if s.flushWait && holdoffOver s then leave (.flush 0) s else s

/-- What follows a step of the flush: trace writes go on once part 2 is copied, and the flush ends with its last record. -/
def flushAdvance (s : State) : State :=
  match s.flush with
  | none => s
  | some f =>
    let s := if f.part1.isEmpty && f.part2.isEmpty then { s with traceStop := false } else s
    if f.part1.isEmpty && f.part2.isEmpty && f.part3.isEmpty && f.head.isEmpty && !f.paused then flushFinish f s else s

/-- Write the slot header where it is still to be written. -/
def flushHead (s : State) : State :=
  match s.flush with
  | none => s
  | some f =>
    if f.paused ∨ f.head.isEmpty then s
    else flushWrite (flushAt f.slot) f.head { s with flush := some { f with head := [] } }

/-- A flush begins (R461, R462). -/
def flushBegin (cause : Nat) (s : State) : State :=
  let slot := flushSlot s
  let num := nextFlushNum s
  let f : Flush := { cause, slot, num, head := flushHeader num cause s, part1 := faultSlots s, part2 := traceSlots s,
                     paused := s.bkpFail }
  let s := setFlds [(HMK_FLUSH_STATUS_RUNNING, 1), (HMK_FLUSH_STATUS_PAUSED, b2n s.bkpFail), (HMK_FLUSH_STATUS_SLOT, slot),
    (HMK_FLUSH_STATUS_CAUSE, cause), (HMK_FLUSH_STATUS_RECORDS, 0)] { s with flush := some f, traceStop := true }
  flushAdvance (flushHead s)

/-- A fault flush waits, or no longer. -/
def setWait (b : Bool) (s : State) : State := setFld HMK_FLUSH_STATUS_WAITING (b2n b) { s with flushWait := b }

/-- A flush falls due for a cause (R460): a fault flush waits for the flush that runs and for the hold-off, and joins one
that waits; PWRFAIL or TRIP starts a waiting fault flush. -/
def flushDue (cause : Nat) (s : State) : State :=
  if s.flush.isSome then (if cause = 0 then setWait true s else s)
  else if cause = 0 ∧ !holdoffOver s then setWait true s
  else if s.flushWait then flushBegin 0 (setWait false s)
  else flushBegin cause s

/-- FLUSH_HOLDOFF_END (R460): 1 s has passed since the last fault flush. -/
def holdoffEnd (s : State) : State := if s.flushWait ∧ s.flush.isNone ∧ holdoffOver s then flushDue 0 s else s

/-- A record and its commit mark are written (R462). -/
def commitRecord (slot : Nat) (f : Flush) (s : State) : State :=
  let r := slotBytes slot s
  let m := bytesLE 4 0x434D4954 ++ bytesLE 4 f.num ++ bytesLE 4 f.done
  let s := flushWrite (flushRecordAt f.slot f.done) (r ++ m ++ bytesLE 4 (crc32 (r ++ m))) s
  flushAdvance (setFld HMK_FLUSH_STATUS_RECORDS (f.done + 1) { s with flush := some { f with done := f.done + 1 } })

/-- FLUSH_RECORD_COMMIT (R461, R462): the next record of the flush, oldest first in each part. -/
def flushCommit (s : State) : State :=
  match s.flush with
  | none => s
  | some f =>
    if f.paused ∨ !f.head.isEmpty then s
    else match f.part1, f.part2, f.part3 with
      | k :: ks, _, _ => commitRecord k { f with part1 := ks } s
      | [], k :: ks, _ => commitRecord k { f with part2 := ks } s
      | [], [], k :: ks => commitRecord k { f with part3 := ks, later := f.later + 1 } s
      | [], [], [] => s

/-- FLUSH_PAUSE and BKP_FAIL (R464): the rails are reported failing, and a running flush waits. -/
def flushPause (s : State) : State :=
  let s := { s with bkpFail := true }
  match s.flush with
  | none => s
  | some f => setFld HMK_FLUSH_STATUS_PAUSED 1 { s with flush := some { f with paused := true } }

/-- PWRFAIL_N has been high for 1 ms without a break. -/
def pwrSteady (s : State) : Bool := s.pwrHigh && match s.pwrHighAt with
  | none => true
  | some t => decide (t + msT ≤ s.now)

/-- FLUSH_RESUME (R464): the rails are good again and PWRFAIL_N has been high for 1 ms. -/
def flushResume (s : State) : State :=
  if !pwrSteady s then s
  else
    let s := { s with bkpFail := false }
    match s.flush with
    | none => s
    | some f =>
      if f.paused then flushAdvance (flushHead (setFld HMK_FLUSH_STATUS_PAUSED 0 { s with flush := some { f with paused := false } }))
      else s

/-- A reset or the loss of power ends a flush where it stands (R464, R505). -/
def flushStop (s : State) : State := { s with flush := none, flushWait := false, traceStop := false }

/-! ### Snapshots (R454, R455) -/

/-- Is a class stopped for a trigger that waited? -/
def classStopped (trace : Bool) (t : Snap) (s : State) : Bool :=
  (!flag HMK_CTRL_ENABLE s && t.src < 64) || (trace && (flag HMK_CTRL_FREEZE s || s.traceStop))

/-- The pending trigger of a class starts its snapshot, or is dropped where the class has been stopped. -/
def nextSnap (trace : Bool) (s : State) : State :=
  let c := if trace then s.recTrace else s.recFault
  let set (b : Option Snap) (s : State) : State :=
    setFld (if trace then HMK_STATUS_TRACE_BUSY else HMK_STATUS_FAULT_BUSY) (b2n b.isSome)
      (if trace then { s with recTrace := { c with busy := b, pending := none } }
        else { s with recFault := { c with busy := b, pending := none } })
  match c.pending with
  | none => set none s
  | some t =>
    if classStopped trace t s then
      let s := bump HMK_DROP_COUNT_COUNT (t.merged + 1) (set none s)
      match t.flush with
      | some f => leave (.flush f) s
      | none => s
    else set (some { t with at_ := s.now }) s

/-- SNAPSHOT_COMPLETE (R455, R460): the record of a class is complete; the flush it is the cause of starts. -/
def snapshotComplete (trace : Bool) (s : State) : State :=
  match (if trace then s.recTrace else s.recFault).busy with
  | none => s
  | some t =>
    let s := nextSnap trace (if trace then writeTrace t s else writeFault t s)
    match t.flush with
    | some f => leave (.flush f) s
    | none => s

/-- PERIODIC (R454): MST stands at a multiple of PERIOD µs. -/
def periodic (s : State) : State :=
  let p := 1000 * fld HMK_PERIOD_PERIOD s
  if p = 0 ∨ !mstValid s ∨ mstNs s % p ≠ 0 ∨ s.hmkAt = mstNs s + 1 then s
  else trigger 2 0 none { s with hmkAt := mstNs s + 1 }

/-- HALLMARK_CLEAR_END (R459): 120 µs after the release of a power-on reset. -/
def hallmarkClearEnd (s : State) : State :=
  if flag HMK_STATUS_CLEARING s ∧ !s.inReset ∧ s.releaseAt + 120 * usT ≤ s.now then setFld HMK_STATUS_CLEARING 0 s else s

end Sys2Proof.Machine
end

