-- ==== Sys2Proof/Machine/Power.lean ====
section
/-! DEFINITION. Resets, start-up stages and power-down (18_power_reset_clocks.md R497–R516; 03_cores.md R89–R92;
19_electrical_package.md R524, R525). -/
namespace Sys2Proof.Machine

/-! ### What a reset leaves (R504, R549) -/

/-- Outputs take their reset state (R507): what is driven is released or falls. -/
def outputsReset (s : State) : State :=
  let s := if s.thermtrip then emit (.pin .thermtripN true) s else s
  let s := if flag GLB_SFIFO_STATUS_HOLD s then emit (.pin .flowHoldN true) s else s
  loop (fun n s => if (get {} n s.sdl.pin).fall.isSome then emit (.pin (.tpOut n) false) s else s) 4 s

/-- What every reset keeps: the model's own fields, the store, the fuses and the part's constants (R475, R541). The rest
takes its reset value; core storage, which R92 leaves undefined up to the first scrub, reads 0 (DESIGN CHOICE, log entry
4). -/
def bare (s : State) : State :=
  { State.reset with
    now := s.now
    fresh := s.fresh
    out := s.out
    pending := s.pending
    fuses := s.fuses
    nor := s.nor
    mram := s.mram
    recEpoch := s.recEpoch
    hbm := { epoch := s.hbm.epoch + 1 }
    cores := { failFuse := s.cores.failFuse }
    opt := { cal := s.opt.cal } }

/-- POWER_ON_RESET (R499, R503, R459): VAON rises; everything volatile takes its reset value. -/
def powerOnReset (s : State) : State :=
  let b := bare (outputsReset s)
  setReg rGLB_RESET_CAUSE (BitVec.ofNat 32 (2 ^ 31)) { b with recEpoch := s.recEpoch + 1 }

/-- POWER_LOSS (R464): VAON or the service-die supply is gone. -/
def powerLoss (s : State) : State := { bare (outputsReset s) with powered := false }

/-- Without these HBM words: each is lost, or keeps its data and check bits (R549). -/
def hbmKept (lost : List Nat) (h : Hbm) : Hbm :=
  { epoch := h.epoch + 1
    byte := h.byte.filter fun x => !lost.contains (x.1 / 32)
    word := h.word.filter fun x => !lost.contains x.1 }

/-- GLB_RESET_CAUSE after a pin or firmware reset (R513). -/
def causeWord (firmware : Bool) (s : State) : Nat :=
  (if firmware then 2 ^ 29 else 2 ^ 30) + b2n s.down.isSome * 2 ^ 28 + b2n s.refLost * 2 ^ 27
    + b2n (flag GLB_THERM_STATUS_TRIPPED s) * 2 ^ 26 + min (fld GLB_RESET_CAUSE_PIN_COUNT s + 1) 0xFFFF

/-- Registers that keep a field through a pin reset: the recorder's heads, PRESERVED, and RATE_CEIL. -/
def keptRegs (firmware : Bool) (s : State) (b : State) : State :=
  let b := setReg rHMK_FAULT_STATUS (reg rHMK_FAULT_STATUS s) b
  let b := setFlds [(HMK_STATUS_PRESERVED, 1), (HMK_STATUS_CLEARING, 0), (HBM_CTRL_RATE_CEIL, fld HBM_CTRL_RATE_CEIL s)] b
  setReg rGLB_RESET_CAUSE (BitVec.ofNat 32 (causeWord firmware s)) b

/-- A pin reset, or a firmware reset, which acts exactly as one (R503, R504). `lost`: the HBM words that lose their data.
A fall-back Chous has decided, or a slot that failed its load, stands for the next boot (R481, R483). -/
def pinReset (firmware : Bool) (lost : List Nat) (s : State) : State :=
  let b := bare (outputsReset s)
  keptRegs firmware s { b with
    hbm := hbmKept lost s.hbm
    recs := s.recs
    recFault := { rnum := s.recFault.rnum }
    recTrace := { rnum := s.recTrace.rnum }
    fw := { fall := s.fw.fall, slot := s.fw.slot }
    strapI3c := s.strapI3c
    strapAddr := s.strapAddr
    testEn := s.testEn
    pwrHigh := s.pwrHigh
    pwrHighAt := s.pwrHighAt
    pwrLowAt := s.pwrLowAt
    bkpFail := s.bkpFail }

/-- PIN_RESET (R503, R505): RESET_N has been low for 10 µs while VAON holds. -/
def pinResetCmd (lost : List Nat) (s : State) : State := if s.powered then pinReset false lost s else s

/-- Start-up begins in the REF stage. -/
def startUp (s : State) : State := enterStage 1 { s with inReset := false, releaseAt := s.now }

/-- FIRMWARE_RESET (R503, R513): one that is due, once no HALT_ALL is in progress; straps as before (R525). -/
def firmwareReset (lost : List Nat) (s : State) : State :=
  if !s.powered ∨ s.inReset ∨ !s.fw.resetDue ∨ flag GLB_HALT_STATUS_HALTING s then s
  else startUp (pinReset true lost s)

/-- RESET_RELEASE (R525, R508): the straps are sampled and start-up begins. -/
def resetRelease (sel : Bool) (addr : Nat) (testEn : Bool) (s : State) : State :=
  if !s.powered ∨ !s.inReset then s
  else startUp { s with strapI3c := sel, strapAddr := addr % 8, testEn := testEn }

/-! ### Start-up (R501, R508–R510) -/

/-- REF_VALID (R501): the reference is valid, AON is steered, every PLL locks; the ROM starts unless TEST_EN was high
(R520). -/
def refValid (s : State) : State :=
  if !s.powered ∨ s.inReset ∨ stage s ≠ 1 ∨ s.testEn then s
  else
    let s := setReg rGLB_CLK_STATUS 0xFFFC0000 s
    let s := { s with sdl := { s.sdl with refAt := some s.now, at_ := s.now, todAt := s.now } }
    onFw (fun f => { f with phase := .rom, bootAt := s.now }) (enterStage 2 s)

/-- The least of a list of numbers. -/
def least : List Nat → Option Nat
  | [] => none
  | x :: xs => match least xs with
    | none => some x
    | some y => some (if x < y then x else y)

/-- SEQ_REMAP_ROW_n for a failed-core record, from the calibration store or the fuses (R89, R90). -/
def remapWord (cal : Bool) (failed : List Nat) : Nat :=
  let low := (least failed).getD 0x3F
  if failed.any fun c => c != low then b2n cal * 2 ^ 29 + 2 ^ 28 + low
  else 2 ^ 31 + b2n (decide (low < 32)) * 2 ^ 30 + b2n cal * 2 ^ 29 + low

/-- The failed-core record of row n: the calibration store's, where it holds one, else the fuses' (R89). A record that the
management controller adds in service, or a CAL_WRITE of one, counts from the next pin reset on (R91, R477). -/
def failRecord (n : Nat) (s : State) : Bool × List Nat :=
  match (areaBody calArea s).bind fun b => Config.failedCores b n with
  | some l => (true, l)
  | none => (false, get [] n s.cores.failFuse)

/-- Map row n past its failed core (R89, R90); a row that cannot be mapped is reported. -/
def remapRow (n : Nat) (s : State) : State :=
  let w := remapWord (failRecord n s).1 (failRecord n s).2
  let s := setReg (rSEQ_REMAP_ROW n) (BitVec.ofNat 32 w) s
  if flag (SEQ_REMAP_ROW_MULTI_FAIL n) s then devFault 12 1 n (setFld SEQ_CORE_STATUS_DEGRADED 1 s) else s

/-- COMPUTE_HBM (R508): the components are loaded; remap, first scrub, HBM training. -/
def computeHbm (s : State) : State :=
  if stage s ≠ 2 ∨ s.fw.phase ≠ .run then s
  else
    let s := setFld SEQ_CORE_STATUS_REMAP_DONE 1 (loop remapRow 32 (enterStage 3 s))
    trainBegin (scrubBegin s)

/-- The role table and the extents still wait: WAIT_ROLES. -/
def rolesWait (s : State) : Bool := !flag GLB_ROLE_STATUS_SET s || !s.extents

/-- SIDEBAND (R508): the first scrub, bridge training and every stack's training are over. -/
def sideband (s : State) : State :=
  if stage s ≠ 3 ∨ s.seq.scrubEnd.isSome ∨ !allTrained s then s
  else setFld SEQ_CORE_STATUS_BRIDGE_READY 1 (enterStage 4 s)

/-- What start-up takes from the calibration store (R300, R303, R331): the loops' and lasers' own figures, the equaliser taps of
every transmit ring, and both coefficient banks of every class. -/
def loadCal (cal : Map Int) (s : State) : State :=
  let s := onOpt (fun o => { o with
    cal := cal
    ffe := forAll (fun i => match look (4096 * 7 + i) cal with
      | some v => put 0x004000 i (BitVec.ofNat 32 (unsigned 24 v))
      | none => id) (List.range 918) o.ffe }) s
  forAll (fun i s => match look (4096 * 8 + i) cal with
    | some v => setReg (rANL_COEF (i / 32) (i / 16 % 2) (i % 16)) (BitVec.ofNat 32 (unsigned 32 v)) s
    | none => s) (List.range 128) s

/-- OPTICS (R508): the role table and the extents are set; the Anneal engine and every bank are enabled. `cal`: what the
calibration store gives the loops and lasers. -/
def opticsStage (cal : Map Int) (s : State) : State :=
  if stage s ≠ 4 ∨ rolesWait s then s
  else
    let s := setFld ANL_CTRL_ENABLE 1 (onAnl (fun a => { a with rxBegun := false }) (loadCal cal (enterStage 5 s)))
    loop (fun p s => let was := flag (OPT_BANK_CTRL_ENABLE p) s; bankEnable p was (setFld (OPT_BANK_CTRL_ENABLE p) 1 s)) 6 s

/-- Is every ring, element and grid-laser loop LOCKED (or held by the dark) or FAILED? A ring of a wavelength that is not lit is
OFF (R336), and no loop waits for it. -/
def loopsSettled (s : State) : Bool :=
  let used (k : Nat) : Bool := decide (k < 3756) || decide ((k - 3756) % 11 < 9)
  let ok (k : Nat) : Bool :=
    let st := (loopOf k s).st
    st == .locked || st == .failed || st == .hold
      || (decide (k < 1836) && st == .off && !wlLit (k % 918 / 153) (k % 9) s)
  ((List.range 3822).filter used).all ok

/-- Words of a circuit entry (R271). -/
def entryLo (kind inPort inIdx outPort outIdx llink : Nat) : Word :=
  BitVec.ofNat 32 (2 ^ 31 + kind * 2 ^ 29 + inPort * 2 ^ 24 + inIdx * 2 ^ 19 + outPort * 2 ^ 16 + outIdx * 2 ^ 11 + llink * 2 ^ 7)
def entryHi (c : Coord) : Word := BitVec.ofNat 32 (c.1 * 2 ^ 28 + c.2.1 * 2 ^ 24 + c.2.2 * 2 ^ 21)

/-- The entries of the bring-up plan: index, LO, HI (R509). -/
def bringUpEntries (s : State) : List (Nat × Word × Word) :=
  (List.range 6).flatMap fun p =>
    match if flag (LNK_PORT_CTRL_ENABLE p) s then hops (node s) p 1 s else none with
    | none => []
    | some c => (List.range 16).flatMap fun n =>
        [(32 * p + 2 * n, entryLo 0 p n p n n, entryHi c), (32 * p + 2 * n + 1, entryLo 2 p n p n n, entryHi c)]

/-- Write entries into a bank (R275). -/
def writeEntries (bank : Nat) (es : List (Nat × Word × Word)) (s : State) : State :=
  let s := forAll (fun (x : Nat × Word × Word) s =>
    setReg (rCSC_ENTRY_HI bank x.1) x.2.2 (setReg (rCSC_ENTRY_LO bank x.1) x.2.1 s)) es s
  if es.isEmpty then s else entryWritten bank s

/-- BRING_UP_PLAN (R508, R509): every loop is LOCKED or FAILED; banks of EDGE ports are disabled, and Chous stages the
bring-up plan in bank 0. -/
def bringUpPlan (s : State) : State :=
  if stage s ≠ 5 ∨ !loopsSettled s then s
  else
    let s := loop (fun p s => if portState p s = 1 then bankOff p s else s) 6 (enterStage 6 s)
    let s := writeEntries 0 (bringUpEntries s) s
    let d := planDigest 0 s
    let s := loop (fun i => setReg (rCSC_BANK_EXP 0 i) (BitVec.ofNat 32 (leAt d (4 * i) 4))) 4 s
    setFlds [(CSC_CTRL_REPLAN_MASK, 1), (CSC_CTRL_REPLAN_TARGET, 0)] (stageGo 0 s)

/-- The REPLAN stage ends with bank 0 ACTIVE and MODE RUN (R508). -/
def stageTime (s : State) : State :=
  if stage s = 6 ∧ activeBank s = some 0 ∧ cscMode s = 2 then enterStage 7 s else s

/-- READY (R508): MST is LOCKED or MASTER. -/
def readyStage (s : State) : State :=
  if stage s = 7 ∧ (mstState s = 2 ∨ mstState s = 4) then renumber (enterStage 8 s) else s

/-! ### Power-down (R502, R511, R512) -/

/-- PWRFAIL_FALL (R511, R454): the snapshot and the flush start. -/
def pwrFall (s : State) : State :=
  if !s.pwrHigh then s
  else
    let s := { s with pwrHigh := false, pwrLowAt := s.now }
    if s.inReset ∨ !s.powered then s else trigger 6 0 (some 1) s

/-- Power-down begins, its time 0 at `t`: every plot is aborted, and the CSC goes to OFF. -/
def downBegin (t : Nat) (s : State) : State :=
  let s := enterStage 9 { s with down := some (t, 0) }
  cscOff (forAll (fun n s => if plotState n s = 0 then s else abortStart n 1 none s) (List.range 16) s)

/-- POWER_DOWN (R511): PWRFAIL_N has been low for 20 µs. -/
def powerDown (s : State) : State :=
  if s.pwrHigh ∨ s.inReset ∨ !s.powered ∨ s.down.isSome ∨ s.now < s.pwrLowAt + 20 * usT then s else downBegin s.pwrLowAt s

/-- PWRFAIL_RISE (R511, R464): a low of 20 µs or more has begun the power-down. -/
def pwrRise (s : State) : State :=
  if s.pwrHigh then s
  else
    let s := powerDown s
    { s with pwrHigh := true, pwrHighAt := some s.now }

/-- Instants of the later steps after time 0. -/
def downTime (k : Nat) : Nat := match k with
  | 0 => 24500 * nsT
  | 1 => 30 * usT
  | 2 => 40 * usT
  | _ => 50 * usT

/-- What step k does: 0 self-refresh, 1 lasers off and the Anneal engine disabled, 2 domains gated, 3 only the flush rails
draw current. -/
def downAct (k : Nat) (s : State) : State := match k with
  | 1 => anlEnable (hwFld ANL_CTRL_ENABLE 0 (loop bankOff 6 s))
  | 2 => setFld GLB_PCIE_STATUS_LINK_UP 0 (setFlds [(GLB_CLK_STATUS_PLL_C_LOCK, 0), (GLB_CLK_STATUS_PLL_P_LOCK, 0),
      (GLB_CLK_STATUS_PLL_L_LOCK, 0), (GLB_CLK_STATUS_PLL_H_LOCK, 0)] s)
  | _ => s

/-- POWER_DOWN_STEP (R511): the next step whose time has come. -/
def downStep (s : State) : State :=
  match s.down with
  | none => s
  | some (t, k) =>
    if 4 ≤ k ∨ s.now < t + downTime k then s else downAct k { s with down := some (t, k + 1) }

/-- REF_LOST (R502): no REF edge for 200 ns; AON goes back to its oscillator, PLL_S holds, and power-down begins at once
without a snapshot. -/
def refLost (s : State) : State :=
  if !flag GLB_CLK_STATUS_REF_VALID s then s
  else
    let s := setReg rGLB_CLK_STATUS 0 { s with refLost := true }
    if s.down.isSome then s else downBegin (s.now - 20 * usT) s

/-- PERST_N (R378, R503): as an FLR of every function. -/
def perst (s : State) : State := flrFunc 0 s

end Sys2Proof.Machine
end

