-- ==== Sys2Proof/Machine/Settle.lean ====
section
/-! DEFINITION. What surrounds the effect of every command: the clock advances to the command's instant, the effect acts,
its consequences of the same instant follow (R429–R433, R460, R469, R288, R255, R345, R383, R508), and the status
registers show the units they stand for. -/
namespace Sys2Proof.Machine

/-- Is the part powered and out of reset? -/
def alive (s : State) : Bool := s.powered && !s.inReset

/-- The clock moves on to instant t; it never runs back. -/
def setNow (t : Nat) (s : State) : State := { s with now := max s.now t }

/-- What time brings of itself: a snapshot reads on (R453), the SRAM writes of a SEQ cycle land as it ends (R77), and the circuit switch moves on (R281,
R282, R285). -/
def passTo (t : Nat) (s : State) : State :=
  let s := snapTime (max s.now t) s
  fabricTime (setNow t (if cycle s < max s.now t / 10 then { s with cores := landPorts s.cores } else s))

/-- The clock moves on to instant t, with what that brings on a part that is powered and out of reset. -/
def clockTo (t : Nat) (s : State) : State :=
  if alive s then { passTo t s with now := max s.now t, pending := s.pending, powered := s.powered, inReset := s.inReset }
  else setNow t s

/-! ### Consequences -/

/-- A replayed run ends at its first difference, as by ABORT (R469). -/
def replayEnd (n : Nat) (s : State) : State :=
  if runOf n s then completeCmd s.seq.startCmd stAborted 0 5 (runEnd 5 s) else s

/-- Settle one consequence. -/
def settleOne (d : Due) (s : State) : State := match d with
  | .abort n code => if aborting n s then s else abortStart n code none s
  | .replayEnd n => replayEnd n s
  | .flush cause => flushDue cause s

/-- Settle the consequences in order, and those they leave. -/
def settleDue : Nat → State → State
  | 0, s => s
  | n + 1, s => match s.due with
    | [] => s
    | d :: ds => settleDue n (settleOne d { s with due := ds })

/-- Everything that follows a command at once: fenced links lose their transfers, waiting flits are taken, a deferred
calibration moves, queues fetch what they may, a start-up stage ends. -/
def follow (s : State) : State :=
  settleDue 64 (stageTime (pumpQueues (calMove (drainLinks (sweepLinks (settleDue 64 s))))))

/-! ### Status -/

/-- Status fields that show a unit, and what each shows (R513, R397, R93, R186, R435, R433, R455, R460, R464, R278,
R285). -/
def statusFields (s : State) : List (Fld × Nat) :=
  [(GLB_STARTUP_STATUS_WAIT_ROLES, b2n (stage s == 4 && rolesWait s)),
    (GLB_STARTUP_STATUS_WAIT_REPLAN, b2n (stage s == 6 && s.csc.replan.isNone)),
    (GLB_STARTUP_STATUS_WAIT_TIME, b2n (stage s == 7)),
    (GLB_SFIFO_STATUS_FILL, s.sfifo.length % 512),
    (SEQ_CORE_STATUS_SCRUB_BUSY, b2n s.seq.scrubEnd.isSome),
    (STM_DLOAD_STATUS_LOADING, b2n s.dload.isSome),
    (GLB_HALT_STATUS_HALTING, b2n s.haltAt.isSome),
    (HMK_STATUS_FAULT_BUSY, b2n s.recFault.busy.isSome),
    (HMK_STATUS_TRACE_BUSY, b2n s.recTrace.busy.isSome),
    (HMK_FLUSH_STATUS_RUNNING, b2n s.flush.isSome),
    (HMK_FLUSH_STATUS_WAITING, b2n s.flushWait),
    (HMK_FLUSH_STATUS_PAUSED, b2n (s.flush.any fun f => f.paused)),
    (CSC_STATUS_ARMED, b2n s.csc.trig.isSome),
    (CSC_STATUS_REPLAN_PENDING, b2n s.csc.replanAt.isSome)]
  ++ (List.range 16).map fun n => (PLOT_FAULT_STATUS_ABORTING n, b2n (s.aborts.any fun a => a.plot == n))

/-- The status fields show their units. -/
def showStatus (s : State) : State := setFlds (statusFields s) s

/-! ### Commands -/

/-- The state after a command of instant state `u` whose own effect left `v`: what follows at once, and the status. The
clock and the queue are those of `u`. -/
def after (u v : State) : State := { showStatus (follow v) with now := u.now, pending := u.pending, due := [] }

/-- A command at instant t with an effect on a part that is powered and out of reset, else on nothing. -/
def command (t : Nat) (f : State → State) (s : State) : State :=
  let u := clockTo t s
  if alive u then after u (f u) else u

/-- The state after a command of power and reset. -/
def afterPower (u v : State) : State := { showStatus (settleDue 64 v) with now := u.now, pending := u.pending, due := [] }

/-- A command of power and reset, which acts on a part in any condition. -/
def powerCommand (t : Nat) (f : State → State) (s : State) : State :=
  let u := clockTo t s
  afterPower u (f u)

end Sys2Proof.Machine
end

