-- ==== Sys2Proof/Machine/AnnealCommands.lean ====
section
/-! DEFINITION. The Anneal engine (11_anneal_engine.md): the meaning of each of its commands. -/
namespace Sys2Proof.Machine

/-- FRONT_END_TICK (R324). -/
def execFrontEndTick (t : Nat) (k : Nat) (sample : Nat) (s : State) :
    Host.Outcome State Fault Refusal := .next (command t (frontEndTick k sample) s)

/-- LOOP_UPDATE (R327). -/
def execLoopUpdate (t : Nat) (k : Nat) (power : Nat) (lit : Bool) (counts : Map Nat) (s : State) :
    Host.Outcome State Fault Refusal := .next (command t (loopUpdate k power lit counts) s)

/-- WINDOW_END (R326). -/
def execWindowEnd (t : Nat) (k : Nat) (counts : Map Nat) (s : State) :
    Host.Outcome State Fault Refusal := .next (command t (windowEnd k counts) s)

/-- LOOP_ENABLE (R332). -/
def execLoopEnable (t : Nat) (k : Nat) (cross : Bool) (s : State) :
    Host.Outcome State Fault Refusal := .next (command t (loopEnable k cross) s)

/-- LOOP_DISABLE (R332). -/
def execLoopDisable (t : Nat) (k : Nat) (s : State) :
    Host.Outcome State Fault Refusal := .next (command t (loopDisable k) s)

/-- HOMING_STEP (R339). -/
def execHomingStep (t : Nat) (k : Nat) (m : Nat) (counts : Map Nat) (s : State) :
    Host.Outcome State Fault Refusal := .next (command t (homingStep k m counts) s)

/-- LOOP_HOLD (R336). -/
def execLoopHold (t : Nat) (k : Nat) (s : State) :
    Host.Outcome State Fault Refusal := .next (command t (loopHold k true) s)

/-- LOOP_RELEASE (R336). -/
def execLoopRelease (t : Nat) (k : Nat) (s : State) :
    Host.Outcome State Fault Refusal := .next (command t (loopHold k false) s)

/-- ANL_ENABLE (R347). -/
def execAnlEnable (t : Nat) (a : Accessor) (w : Word) (s : State) :
    Host.Outcome State Fault Refusal := .next (command t (regWrite a rANL_CTRL w []) s)

/-- ANL_SWAP (R329). -/
def execAnlSwap (t : Nat) (a : Accessor) (w : Word) (s : State) :
    Host.Outcome State Fault Refusal := .next (command t (regWrite a rANL_CTRL w []) s)

/-- COEF_SWAP_APPLY (R329). -/
def execCoefSwapApply (t : Nat) (c : Nat) (s : State) :
    Host.Outcome State Fault Refusal := .next (command t (coefSwapApply c) s)

/-- SETPT_WRITE (R332). -/
def execSetptWrite (t : Nat) (a : Accessor) (w : Word) (s : State) :
    Host.Outcome State Fault Refusal := .next (command t (regWrite a rANL_LOOP_SETPT w []) s)

/-- SELFTEST (R344). -/
def execSelftest (t : Nat) (a : Accessor) (w : Word) (s : State) :
    Host.Outcome State Fault Refusal := .next (command t (regWrite a rANL_CAL_CTRL w []) s)

/-- GAINCAL (R344). -/
def execGaincal (t : Nat) (a : Accessor) (w : Word) (s : State) :
    Host.Outcome State Fault Refusal := .next (command t (regWrite a rANL_CAL_CTRL w []) s)

/-- CAL_START (R345). -/
def execCalStart (t : Nat) (s : State) :
    Host.Outcome State Fault Refusal := .next (command t calStart s)

/-- CAL_DONE (R345). -/
def execCalDone (t : Nat) (lanes : List Nat) (loops : List Nat) (s : State) :
    Host.Outcome State Fault Refusal := .next (command t (calDone lanes loops) s)

end Sys2Proof.Machine
end

