-- ==== Sys2Proof/Machine/CircuitCommands.lean ====
section
/-! DEFINITION. The circuit switch (09_circuit_switch.md): the meaning of each of its commands. -/
namespace Sys2Proof.Machine

/-- CIRCUIT_OP_ARRIVAL (R278). -/
def execCircuitOpArrival (t : Nat) (s : State) :
    Host.Outcome State Fault Refusal := .next (command t circuitOpArrival s)

/-- ENTRY_WRITE (R275). -/
def execEntryWrite (t : Nat) (a : Accessor) (b : Nat) (e : Nat) (hi : Bool) (w : Word) (s : State) :
    Host.Outcome State Fault Refusal := .next (command t (regWrite a (if hi then rCSC_ENTRY_HI b e else rCSC_ENTRY_LO b e) w []) s)

/-- STAGE_GO (R275). -/
def execStageGo (t : Nat) (a : Accessor) (w : Word) (s : State) :
    Host.Outcome State Fault Refusal := .next (command t (regWrite a rCSC_CTRL w []) s)

/-- CHECKING_END (R276). -/
def execCheckingEnd (t : Nat) (b : Nat) (s : State) :
    Host.Outcome State Fault Refusal := .next (command t (bankChecked b) s)

/-- REPLAN_GO (R285). -/
def execReplanGo (t : Nat) (a : Accessor) (w : Word) (s : State) :
    Host.Outcome State Fault Refusal := .next (command t (regWrite a rCSC_CTRL w []) s)

/-- REPLAN_NOW (R285). -/
def execReplanNow (t : Nat) (a : Accessor) (w : Word) (s : State) :
    Host.Outcome State Fault Refusal := .next (command t (regWrite a rCSC_CTRL w []) s)

/-- REPLAN_START (R285). -/
def execReplanStart (t : Nat) (s : State) :
    Host.Outcome State Fault Refusal := .next (command t replanDue s)

/-- REPLAN_PHASE (R285). -/
def execReplanPhase (t : Nat) (spares : List (Nat × Bool × Bool)) (counts : Map Nat) (s : State) :
    Host.Outcome State Fault Refusal := .next (command t (replanPhase spares counts) s)

/-- UNFENCE (R288). -/
def execUnfence (t : Nat) (a : Accessor) (w : Word) (s : State) :
    Host.Outcome State Fault Refusal := .next (command t (regWrite a rCSC_CTRL w []) s)

/-- CSC_TRIG_ARM (R279). -/
def execCscTrigArm (t : Nat) (a : Accessor) (w : Word) (s : State) :
    Host.Outcome State Fault Refusal := .next (command t (regWrite a rCSC_TRIG_CTRL w []) s)

/-- CSC_TRIG_DISARM (R292). -/
def execCscTrigDisarm (t : Nat) (a : Accessor) (w : Word) (s : State) :
    Host.Outcome State Fault Refusal := .next (command t (regWrite a rCSC_TRIG_CTRL w []) s)

/-- FIRE (R280). -/
def execFire (t : Nat) (s : State) :
    Host.Outcome State Fault Refusal := .next (command t fire s)

/-- GUARD_SWITCH (R281). -/
def execGuardSwitch (t : Nat) (counts : Map Nat) (s : State) :
    Host.Outcome State Fault Refusal := .next (command t (guardSwitch counts) s)

/-- GUARD_END (R281). -/
def execGuardEnd (t : Nat) (unlocked : List (Nat × Nat)) (counts : Map Nat) (s : State) :
    Host.Outcome State Fault Refusal := .next (command t (guardEnd unlocked counts) s)

/-- UNCACHED_ACQUIRE_TIMEOUT (R283). -/
def execUncachedAcquireTimeout (t : Nat) (p : Nat) (l : Nat) (s : State) :
    Host.Outcome State Fault Refusal := .next (command t (uncachedTimeout p l) s)

/-- REROUTE_DONE (R290). -/
def execRerouteDone (t : Nat) (b : Nat) (s : State) :
    Host.Outcome State Fault Refusal := .next (command t (rerouteDone b) s)

end Sys2Proof.Machine
end

