-- ==== Sys2Proof/Machine/FaultCommands.lean ====
section
/-! DEFINITION. Faults, halt, heat and injection (15_faults.md): the meaning of each of its commands. -/
namespace Sys2Proof.Machine

/-- ABORT_COMPLETE (R434). -/
def execAbortComplete (t : Nat) (n : Nat) (s : State) :
    Host.Outcome State Fault Refusal := .next (command t (abortComplete n) s)

/-- HALT_ALL (R435). -/
def execHaltAll (t : Nat) (a : Accessor) (w : Word) (s : State) :
    Host.Outcome State Fault Refusal := .next (command t (regWrite a rGLB_HALT_CTRL w []) s)

/-- HALT_ALL_COMPLETE (R435). -/
def execHaltAllComplete (t : Nat) (s : State) :
    Host.Outcome State Fault Refusal := .next (command t haltAllComplete s)

/-- RESUME (R435). -/
def execResume (t : Nat) (a : Accessor) (w : Word) (s : State) :
    Host.Outcome State Fault Refusal := .next (command t (regWrite a rGLB_HALT_CTRL w []) s)

/-- SENSOR_READ (R442). -/
def execSensorRead (t : Nat) (temps : List Nat) (s : State) :
    Host.Outcome State Fault Refusal := .next (command t (sensorRead temps) s)

/-- TRIP_OPTICS_OFF (R444). -/
def execTripOpticsOff (t : Nat) (s : State) :
    Host.Outcome State Fault Refusal := .next (command t tripOpticsOff s)

/-- WATCHDOG_EXPIRY (R439). -/
def execWatchdogExpiry (t : Nat) (s : State) :
    Host.Outcome State Fault Refusal := .next (command t watchdogExpiry s)

/-- CHOUS_RESTART (R439). -/
def execChousRestart (t : Nat) (s : State) :
    Host.Outcome State Fault Refusal := .next (command t chousRestart s)

/-- INJ_ARM (R445). -/
def execInjArm (t : Nat) (a : Accessor) (w : Word) (counts : Map Nat) (s : State) :
    Host.Outcome State Fault Refusal := .next (command t (regWrite a rGLB_INJ_CTRL w counts) s)

/-- INJ_DONE_CLEAR (R445). -/
def execInjDoneClear (t : Nat) (a : Accessor) (w : Word) (s : State) :
    Host.Outcome State Fault Refusal := .next (command t (regWrite a rGLB_INJ_CTRL w []) s)

end Sys2Proof.Machine
end

