-- ==== Sys2Proof/Machine/FirmwareCommands.lean ====
section
/-! DEFINITION. Firmware and the service port (17_firmware.md): the meaning of each of its commands. -/
namespace Sys2Proof.Machine

/-- BOOT (R481). -/
def execBoot (t : Nat) (s : State) :
    Host.Outcome State Fault Refusal := .next (command t boot s)

/-- SLOT_CHECK_END (R482). -/
def execSlotCheckEnd (t : Nat) (s : State) :
    Host.Outcome State Fault Refusal := .next (command t slotCheckEnd s)

/-- COMPONENT_READY (R481). -/
def execComponentReady (t : Nat) (id : Nat) (s : State) :
    Host.Outcome State Fault Refusal := .next (command t (componentReady id) s)

/-- COMPONENT_LOAD_TIMEOUT (R481). -/
def execComponentLoadTimeout (t : Nat) (s : State) :
    Host.Outcome State Fault Refusal := .next (command t componentTimeout s)

/-- CONFIRMATION (R483). -/
def execConfirmation (t : Nat) (s : State) :
    Host.Outcome State Fault Refusal := .next (command t confirmation s)

/-- TRIAL_TIMEOUT (R483). -/
def execTrialTimeout (t : Nat) (s : State) :
    Host.Outcome State Fault Refusal := .next (command t trialTimeout s)

/-- CONFIRM (R483). -/
def execConfirm (t : Nat) (a : Accessor) (w : Word) (s : State) :
    Host.Outcome State Fault Refusal := .next (command t (regWrite a rFWU_CTRL w []) s)

/-- REJECT (R483). -/
def execReject (t : Nat) (a : Accessor) (w : Word) (s : State) :
    Host.Outcome State Fault Refusal := .next (command t (regWrite a rFWU_CTRL w []) s)

/-- CRUCIBLE (R490). -/
def execCrucible (t : Nat) (a : Accessor) (w : Word) (s : State) :
    Host.Outcome State Fault Refusal := .next (command t (regWrite a rFWU_CTRL w []) s)

/-- ACTIVATE (R487). -/
def execActivate (t : Nat) (a : Accessor) (w : Word) (s : State) :
    Host.Outcome State Fault Refusal := .next (command t (regWrite a rFWU_CTRL w []) s)

/-- STATUS (R486). -/
def execFwStatus (t : Nat) (p : Peer) (seq : Nat) (s : State) :
    Host.Outcome State Fault Refusal := .next (command t (fwStatusMsg p seq) s)

/-- FW_BEGIN (R487). -/
def execFwBegin (t : Nat) (p : Peer) (seq : Nat) (delta : Bool) (header : List Byte) (s : State) :
    Host.Outcome State Fault Refusal := .next (command t (fwBeginMsg p seq delta header) s)

/-- FW_DATA (R487). -/
def execFwData (t : Nat) (p : Peer) (seq : Nat) (off : Nat) (data : List Byte) (s : State) :
    Host.Outcome State Fault Refusal := .next (command t (fwDataMsg p seq off data) s)

/-- FW_END (R487). -/
def execFwEnd (t : Nat) (p : Peer) (seq : Nat) (total : Nat) (s : State) :
    Host.Outcome State Fault Refusal := .next (command t (fwEndMsg p seq total) s)

/-- UPDATE_VERIFY_END (R487). -/
def execUpdateVerifyEnd (t : Nat) (storeError : Bool) (s : State) :
    Host.Outcome State Fault Refusal := .next (command t (updateVerifyEnd storeError) s)

/-- UPDATE_TIMEOUT (R487). -/
def execUpdateTimeout (t : Nat) (s : State) :
    Host.Outcome State Fault Refusal := .next (command t updateTimeout s)

/-- FW_ACTIVATE (R489). -/
def execFwActivate (t : Nat) (p : Peer) (seq : Nat) (now_ : Bool) (s : State) :
    Host.Outcome State Fault Refusal := .next (command t (fwActivateMsg p seq now_) s)

/-- FW_ABORT (R487). -/
def execFwAbort (t : Nat) (p : Peer) (seq : Nat) (s : State) :
    Host.Outcome State Fault Refusal := .next (command t (fwAbortMsg p seq) s)

/-- CAL_READ (R486). -/
def execCalRead (t : Nat) (p : Peer) (seq : Nat) (off : Nat) (len : Nat) (s : State) :
    Host.Outcome State Fault Refusal := .next (command t (calReadMsg p seq off len) s)

/-- CAL_WRITE (R477). -/
def execCalWrite (t : Nat) (p : Peer) (seq : Nat) (off : Nat) (data : List Byte) (s : State) :
    Host.Outcome State Fault Refusal := .next (command t (calWriteMsg p seq off data) s)

/-- PLAN_STAGE (R486). -/
def execPlanStage (t : Nat) (p : Peer) (seq : Nat) (bank : Nat) (entries : List (Nat × Word × Word)) (digest : List Byte) (s : State) :
    Host.Outcome State Fault Refusal := .next (command t (planStageMsg p seq bank entries digest) s)

/-- PLAN_REPORT (R486). -/
def execPlanReport (t : Nat) (p : Peer) (seq : Nat) (node : Nat) (bank : Nat) (st : Word) (digest : List Byte) (s : State) :
    Host.Outcome State Fault Refusal := .next (command t (planReportMsg p seq node bank st digest) s)

/-- RACK_CONFIRM (R486). -/
def execRackConfirm (t : Nat) (p : Peer) (seq : Nat) (rack : Nat) (bank : Nat) (s : State) :
    Host.Outcome State Fault Refusal := .next (command t (rackConfirmMsg p seq rack bank) s)

/-- FIRE_TIME (R486). -/
def execFireTime (t : Nat) (p : Peer) (seq : Nat) (bank : Nat) (at_ : Nat) (s : State) :
    Host.Outcome State Fault Refusal := .next (command t (fireTimeMsg p seq bank at_) s)

/-- MRAM_READ (R486). -/
def execMramRead (t : Nat) (p : Peer) (seq : Nat) (off : Nat) (len : Nat) (s : State) :
    Host.Outcome State Fault Refusal := .next (command t (mramReadMsg p seq off len) s)

/-- ARP_REQUEST (R485). -/
def execArpRequest (t : Nat) (mac : Nat) (ip : Nat) (target : Nat) (s : State) :
    Host.Outcome State Fault Refusal := .next (command t (arpRequest mac ip target) s)

/-- ICMP_ECHO (R485). -/
def execIcmpEcho (t : Nat) (body : List Byte) (s : State) :
    Host.Outcome State Fault Refusal := .next (command t (icmpEcho body) s)

/-- UNKNOWN_TYPE (R486). -/
def execUnknownType (t : Nat) (p : Peer) (seq : Nat) (type : Nat) (crcOk : Bool) (s : State) :
    Host.Outcome State Fault Refusal := .next (command t (unknownType p seq type crcOk) s)

/-- SGMII_LINK_STATUS (R485). -/
def execSgmiiLinkStatus (t : Nat) (up : Bool) (full : Bool) (s : State) :
    Host.Outcome State Fault Refusal := .next (command t (sgmiiStatus up full) s)

end Sys2Proof.Machine
end

