-- ==== Sys2Proof/Machine/HallmarkCommands.lean ====
section
/-! DEFINITION. The recorder (16_hallmark_replay.md): the meaning of each of its commands. -/
namespace Sys2Proof.Machine

/-- SNAP_NOW (R454). -/
def execSnapNow (t : Nat) (a : Accessor) (w : Word) (s : State) :
    Host.Outcome State Fault Refusal := .next (command t (regWrite a rHMK_CTRL w []) s)

/-- PERIODIC (R454). -/
def execPeriodic (t : Nat) (s : State) :
    Host.Outcome State Fault Refusal := .next (command t periodic s)

/-- SNAPSHOT_COMPLETE (R455). -/
def execSnapshotComplete (t : Nat) (trace : Bool) (s : State) :
    Host.Outcome State Fault Refusal := .next (command t (snapshotComplete trace) s)

/-- FLUSH_HOLDOFF_END (R460). -/
def execFlushHoldoffEnd (t : Nat) (s : State) :
    Host.Outcome State Fault Refusal := .next (command t holdoffEnd s)

/-- FLUSH_RECORD_COMMIT (R462). -/
def execFlushRecordCommit (t : Nat) (s : State) :
    Host.Outcome State Fault Refusal := .next (command t flushCommit s)

/-- FLUSH_PAUSE (R464). -/
def execFlushPause (t : Nat) (s : State) :
    Host.Outcome State Fault Refusal := .next (powerCommand t flushPause s)

/-- FLUSH_RESUME (R464). -/
def execFlushResume (t : Nat) (s : State) :
    Host.Outcome State Fault Refusal := .next (powerCommand t flushResume s)

/-- HALLMARK_CLEAR_END (R459). -/
def execHallmarkClearEnd (t : Nat) (s : State) :
    Host.Outcome State Fault Refusal := .next (command t hallmarkClearEnd s)

/-- BKP_FAIL (R464). -/
def execBkpFail (t : Nat) (s : State) :
    Host.Outcome State Fault Refusal := .next (powerCommand t flushPause s)

end Sys2Proof.Machine
end

