-- ==== Sys2Proof/Machine/HbmCommands.lean ====
section
/-! DEFINITION. HBM stacks (06_stream_memory.md): the meaning of each of its commands. -/
namespace Sys2Proof.Machine

/-- HBM_TRAIN_TIMEOUT (R172). -/
def execHbmTrainTimeout (t : Nat) (k : Nat) (s : State) :
    Host.Outcome State Fault Refusal := .next (command t (trainTimeout k) s)

/-- HBM_VERIFY_END (R172). -/
def execHbmVerifyEnd (t : Nat) (k : Nat) (pass : Bool) (ch : Nat) (s : State) :
    Host.Outcome State Fault Refusal := .next (command t (verifyEnd k pass ch) s)

/-- STACK_LOST (R174). -/
def execStackLost (t : Nat) (k : Nat) (s : State) :
    Host.Outcome State Fault Refusal := .next (command t (stackLost k) s)

/-- REFRESH (R175). -/
def execRefresh (t : Nat) (k : Nat) (us : List Upset) (s : State) :
    Host.Outcome State Fault Refusal := .next (command t (refresh k us) s)

/-- RECALIBRATION (R176). -/
def execRecalibration (t : Nat) (k : Nat) (s : State) :
    Host.Outcome State Fault Refusal := .next (command t (recalibration k) s)

/-- RECALIBRATION_END (R176). -/
def execRecalibrationEnd (t : Nat) (k : Nat) (s : State) :
    Host.Outcome State Fault Refusal := .next (command t (recalibrationEnd k) s)

/-- STACK_IDENTITY_READ (R172). -/
def execStackIdentityRead (t : Nat) (k : Nat) (ok : Bool) (rates : Nat) (s : State) :
    Host.Outcome State Fault Refusal := .next (command t (identityRead k ok rates) s)

end Sys2Proof.Machine
end

