-- ==== Sys2Proof/Machine/HostCommands.lean ====
section
/-! DEFINITION. Host interface and command queues (13_host_queues.md): the meaning of each of its commands. -/
namespace Sys2Proof.Machine

/-- SQ_DOORBELL (R384). -/
def execSqDoorbell (t : Nat) (n : Nat) (q : Nat) (w : Word) (s : State) :
    Host.Outcome State Fault Refusal := .next (command t (regWrite (.vf n) (0x10000 + 4 * q) w []) s)

/-- CQ_DOORBELL (R384). -/
def execCqDoorbell (t : Nat) (n : Nat) (w : Word) (s : State) :
    Host.Outcome State Fault Refusal := .next (command t (regWrite (.vf n) 0x10010 w []) s)

/-- QUEUE_ENABLE (R382). -/
def execQueueEnable (t : Nat) (n : Nat) (w : Word) (s : State) :
    Host.Outcome State Fault Refusal := .next (command t (regWrite (.vf n) 0 w []) s)

/-- GRANT_STEP (R383). -/
def execGrantStep (t : Nat) (n : Nat) (s : State) :
    Host.Outcome State Fault Refusal := .next (command t (grantStep n) s)

/-- COMMAND_FETCH (R387). -/
def execCommandFetch (t : Nat) (n : Nat) (q : Nat) (s : State) :
    Host.Outcome State Fault Refusal := .next (command t (fetchCommand n q) s)

/-- COMMAND_START (R388). -/
def execCommandStart (t : Nat) (n : Nat) (q : Nat) (s : State) :
    Host.Outcome State Fault Refusal := .next (command t (startCommand n q) s)

/-- COPY_DONE (R390). -/
def execCopyDone (t : Nat) (n : Nat) (q : Nat) (seq : Nat) (s : State) :
    Host.Outcome State Fault Refusal := .next (command t (copyDone n q seq) s)

/-- READ_COMPLETION (R392). -/
def execReadCompletion (t : Nat) (f : Nat) (id : Nat) (data : Option (List Byte)) (s : State) :
    Host.Outcome State Fault Refusal := .next (command t (readCompletion f id data) s)

/-- COALESCE_TIMEOUT (R386). -/
def execCoalesceTimeout (t : Nat) (n : Nat) (s : State) :
    Host.Outcome State Fault Refusal := .next (command t (coalesceTimeout n) s)

/-- BME_CLEAR (R394). -/
def execBmeClear (t : Nat) (f : Nat) (cfg : PciConfig) (s : State) :
    Host.Outcome State Fault Refusal := .next (command t (bmeClear f cfg) s)

/-- BME_SET (R394). -/
def execBmeSet (t : Nat) (f : Nat) (cfg : PciConfig) (s : State) :
    Host.Outcome State Fault Refusal := .next (command t (bmeSet f cfg) s)

/-- FLR (R395). -/
def execFlr (t : Nat) (f : Nat) (s : State) :
    Host.Outcome State Fault Refusal := .next (command t (flrFunc f) s)

/-- TAG_TIMEOUT (R394). -/
def execTagTimeout (t : Nat) (f : Nat) (id : Nat) (s : State) :
    Host.Outcome State Fault Refusal := .next (command t (tagTimeout f id) s)

/-- LINK_UP (R378). -/
def execLinkUp (t : Nat) (rate : Nat) (width : Nat) (flit : Bool) (tagBits : Nat) (s : State) :
    Host.Outcome State Fault Refusal := .next (command t (pcieUp rate width flit tagBits) s)

/-- LINK_RATE_CHANGE (R378). -/
def execLinkRateChange (t : Nat) (rate : Nat) (width : Nat) (flit : Bool) (tagBits : Nat) (s : State) :
    Host.Outcome State Fault Refusal := .next (command t (pcieChange rate width flit tagBits) s)

/-- LINK_DOWN (R378). -/
def execLinkDown (t : Nat) (s : State) :
    Host.Outcome State Fault Refusal := .next (command t pcieDown s)

/-- APERTURE_ACCESS (R380). -/
def execApertureAccess (t : Nat) (x : Nat) (write : Option (List Byte)) (n : Nat) (s : State) :
    Host.Outcome State Fault Refusal := .next (command t (apertureAccess x write n) s)

/-- COMPLETION_TIMEOUT (R393). -/
def execCompletionTimeout (t : Nat) (f : Nat) (id : Nat) (s : State) :
    Host.Outcome State Fault Refusal := .next (command t (completionTimeout f id) s)

/-- NUMVFS_WRITE (R377). -/
def execNumvfsWrite (t : Nat) (num : Nat) (enable : Bool) (ari : Bool) (s : State) :
    Host.Outcome State Fault Refusal := .next (command t (numvfsWrite num enable ari) s)

/-- MSIX_ENABLE (R381). -/
def execMsixEnable (t : Nat) (f : Nat) (s : State) :
    Host.Outcome State Fault Refusal := .next (command t (msixEnable f) s)

end Sys2Proof.Machine
end

