-- ==== Sys2Proof/Machine/LinkCommands.lean ====
section
/-! DEFINITION. Mesh links (08_mesh_links.md): the meaning of each of its commands. -/
namespace Sys2Proof.Machine

/-- FLIT_SEND (R238). -/
def execFlitSend (t : Nat) (p : Nat) (l : Nat) (s : State) :
    Host.Outcome State Fault Refusal := .next (command t (flitSend p l) s)

/-- CONTROL_FRAME_SEND (R237). -/
def execControlFrameSend (t : Nat) (p : Nat) (l : Nat) (s : State) :
    Host.Outcome State Fault Refusal := .next (command t (controlSend p l) s)

/-- FLIT_RECEIVE (R255). -/
def execFlitReceive (t : Nat) (p : Nat) (l : Nat) (words : List Codeword) (frame : List Byte) (s : State) :
    Host.Outcome State Fault Refusal := .next (command t (flitReceive p l words frame) s)

/-- FLOW (R237). -/
def execFlow (t : Nat) (p : Nat) (l : Nat) (frame : List Byte) (s : State) :
    Host.Outcome State Fault Refusal := .next (command t (flowReceive p l frame) s)

/-- HELLO (R242). -/
def execHello (t : Nat) (p : Nat) (l : Nat) (frame : List Byte) (s : State) :
    Host.Outcome State Fault Refusal := .next (command t (helloReceive p l frame) s)

/-- LANE_FAIL (R246). -/
def execLaneFail (t : Nat) (p : Nat) (l : Nat) (count : Nat) (frame : List Byte) (s : State) :
    Host.Outcome State Fault Refusal := .next (command t (laneFail p l count frame) s)

/-- LANE_MAP (R246). -/
def execLaneMap (t : Nat) (p : Nat) (l : Nat) (frame : List Byte) (s : State) :
    Host.Outcome State Fault Refusal := .next (command t (laneMap p l frame) s)

/-- LANE_MAP_APPLY (R246). -/
def execLaneMapApply (t : Nat) (p : Nat) (l : Nat) (count : Nat) (s : State) :
    Host.Outcome State Fault Refusal := .next (command t (laneMapApply p l count) s)

/-- RETRY_TIMEOUT (R239). -/
def execRetryTimeout (t : Nat) (p : Nat) (l : Nat) (s : State) :
    Host.Outcome State Fault Refusal := .next (command t (retryTimeout p l) s)

/-- LANE_GIVE_UP (R245). -/
def execLaneGiveUp (t : Nat) (p : Nat) (l : Nat) (dir : Nat) (lane : Nat) (why : LaneFault) (count : Nat) (s : State) :
    Host.Outcome State Fault Refusal := .next (command t (laneGiveUp p l dir lane why count) s)

/-- LOSS_OF_LIGHT (R248). -/
def execLossOfLight (t : Nat) (p : Nat) (f : Nat) (s : State) :
    Host.Outcome State Fault Refusal := .next (command t (lossOfLight p f) s)

/-- TRANSFER_START (R252). -/
def execTransferStart (t : Nat) (p : Nat) (id : Nat) (s : State) :
    Host.Outcome State Fault Refusal := .next (command t (transferStart p id) s)

/-- NOPOST_TIMEOUT (R257). -/
def execNopostTimeout (t : Nat) (p : Nat) (l : Nat) (s : State) :
    Host.Outcome State Fault Refusal := .next (command t (nopostTimeout p l) s)

/-- LINK_TRAINING_ADVANCE (R241). -/
def execLinkTrainingAdvance (t : Nat) (p : Nat) (l : Nat) (info : TrainInfo) (s : State) :
    Host.Outcome State Fault Refusal := .next (command t (trainingAdvance p l info) s)

/-- TRAINING_TIMEOUT (R241). -/
def execTrainingTimeout (t : Nat) (p : Nat) (l : Nat) (s : State) :
    Host.Outcome State Fault Refusal := .next (command t (trainingTimeout p l) s)

/-- REHELLO (R262). -/
def execRehello (t : Nat) (a : Accessor) (p : Nat) (w : Word) (s : State) :
    Host.Outcome State Fault Refusal := .next (command t (regWrite a (rLNK_PORT_CTRL p) w []) s)

/-- QUARANTINE_REHELLO (R241). -/
def execQuarantineRehello (t : Nat) (p : Nat) (s : State) :
    Host.Outcome State Fault Refusal := .next (command t (quarantineRehello p) s)

/-- RE_ACQUISITION (R283). -/
def execReAcquisition (t : Nat) (p : Nat) (l : Nat) (s : State) :
    Host.Outcome State Fault Refusal := .next (command t (reAcquire p l) s)

/-- TRANSCEIVER_FAULT (R248). -/
def execTransceiverFault (t : Nat) (p : Nat) (x : Nat) (dir : Nat) (s : State) :
    Host.Outcome State Fault Refusal := .next (command t (xcvrFault p x dir) s)

end Sys2Proof.Machine
end

