-- ==== Sys2Proof/Machine/OpticsCommands.lean ====
section
/-! DEFINITION. Lasers, monitors and trims (10_optical_engines.md): the meaning of each of its commands. -/
namespace Sys2Proof.Machine

/-- BANK_ENABLE (R301). -/
def execBankEnable (t : Nat) (a : Accessor) (p : Nat) (w : Word) (s : State) :
    Host.Outcome State Fault Refusal := .next (command t (regWrite a (rOPT_BANK_CTRL p) w []) s)

/-- BANK_DISABLE (R313). -/
def execBankDisable (t : Nat) (a : Accessor) (p : Nat) (w : Word) (s : State) :
    Host.Outcome State Fault Refusal := .next (command t (regWrite a (rOPT_BANK_CTRL p) w []) s)

/-- LASER_LOCK (R301). -/
def execLaserLock (t : Nat) (p : Nat) (w : Nat) (s : State) :
    Host.Outcome State Fault Refusal := .next (command t (laserLock p w) s)

/-- LASER_START_TIMEOUT (R301). -/
def execLaserStartTimeout (t : Nat) (p : Nat) (w : Nat) (counts : Map Nat) (s : State) :
    Host.Outcome State Fault Refusal := .next (command t (laserStartTimeout p w counts) s)

/-- COMPARATOR_TRIP (R311). -/
def execComparatorTrip (t : Nat) (p : Nat) (j : Nat) (counts : Map Nat) (s : State) :
    Host.Outcome State Fault Refusal := .next (command t (laserFails p j 1 counts) s)

/-- DRIVER_FAULT (R311). -/
def execDriverFault (t : Nat) (p : Nat) (j : Nat) (counts : Map Nat) (s : State) :
    Host.Outcome State Fault Refusal := .next (command t (laserFails p j 3 counts) s)

/-- SPARE_LOCK (R302). -/
def execSpareLock (t : Nat) (p : Nat) (sp : Nat) (s : State) :
    Host.Outcome State Fault Refusal := .next (command t (spareLock p sp) s)

/-- SPARE_TUNE_TIMEOUT (R302). -/
def execSpareTuneTimeout (t : Nat) (p : Nat) (sp : Nat) (dark : Bool) (s : State) :
    Host.Outcome State Fault Refusal := .next (command t (spareTimeout p sp dark) s)

/-- MONITOR_SCAN (R308). -/
def execMonitorScan (t : Nat) (ch : Nat) (x : Int) (s : State) :
    Host.Outcome State Fault Refusal := .next (command t (monitorScan ch x) s)

/-- MEAS_GO (R308). -/
def execMeasGo (t : Nat) (a : Accessor) (w : Word) (s : State) :
    Host.Outcome State Fault Refusal := .next (command t (regWrite a rOPT_MEAS_CTRL w []) s)

/-- MEAS_DONE (R308). -/
def execMeasDone (t : Nat) (x : Int) (s : State) :
    Host.Outcome State Fault Refusal := .next (command t (measDone x) s)

/-- AGE_STEP (R310). -/
def execAgeStep (t : Nat) (p : Nat) (j : Nat) (power : Int) (counts : Map Nat) (s : State) :
    Host.Outcome State Fault Refusal := .next (command t (ageStep p j power counts) s)

/-- TRIM_REQUEST (R342). -/
def execTrimRequest (t : Nat) (a : Accessor) (off : Nat) (w : Word) (s : State) :
    Host.Outcome State Fault Refusal := .next (command t (regWrite a off w []) s)

/-- NO_WORK (R342). -/
def execNoWork (t : Nat) (s : State) :
    Host.Outcome State Fault Refusal := .next (command t noWork s)

end Sys2Proof.Machine
end

