-- ==== Sys2Proof/Machine/PlotCommands.lean ====
section
/-! DEFINITION. Plots, slices and metering (14_plots_isolation.md): the meaning of each of its commands. -/
namespace Sys2Proof.Machine

/-- DRAIN_START (R409). -/
def execDrainStart (t : Nat) (s : State) :
    Host.Outcome State Fault Refusal := .next (command t drainStart s)

/-- SEND_STOP (R409). -/
def execSendStop (t : Nat) (s : State) :
    Host.Outcome State Fault Refusal := .next (command t sendStop s)

/-- RECEIVE_CLOSE (R409). -/
def execReceiveClose (t : Nat) (s : State) :
    Host.Outcome State Fault Refusal := .next (command t receiveClose s)

/-- SLICE_START (R409). -/
def execSliceStart (t : Nat) (counts : Map Nat) (s : State) :
    Host.Outcome State Fault Refusal := .next (command t (sliceStart counts) s)

/-- OPEN (R404). -/
def execOpenPlot (t : Nat) (a : Accessor) (n : Nat) (w : Word) (s : State) :
    Host.Outcome State Fault Refusal := .next (command t (regWrite a (rPLOT_CTRL n) w []) s)

/-- CLOSE (R404). -/
def execClosePlot (t : Nat) (a : Accessor) (n : Nat) (w : Word) (s : State) :
    Host.Outcome State Fault Refusal := .next (command t (regWrite a (rPLOT_CTRL n) w []) s)

/-- TEARDOWN (R405). -/
def execTeardown (t : Nat) (n : Nat) (s : State) :
    Host.Outcome State Fault Refusal := .next (command t (teardown n) s)

/-- ISO_EN (R414). -/
def execIsoEn (t : Nat) (a : Accessor) (w : Word) (s : State) :
    Host.Outcome State Fault Refusal := .next (command t (regWrite a rSEQ_ISO_CTRL w []) s)

/-- METERING_BOUNDARY (R418). -/
def execMeteringBoundary (t : Nat) (s : State) :
    Host.Outcome State Fault Refusal := .next (command t meterBoundary s)

/-- PENDING_RECORD_WRITE (R420). -/
def execPendingRecordWrite (t : Nat) (s : State) :
    Host.Outcome State Fault Refusal := .next (command t writeRecords s)

end Sys2Proof.Machine
end

