-- ==== Sys2Proof/Machine/PowerCommands.lean ====
section
/-! DEFINITION. Power, reset and start-up (18_power_reset_clocks.md): the meaning of each of its commands. -/
namespace Sys2Proof.Machine

/-- PERST_N (R503). -/
def execPerstN (t : Nat) (s : State) :
    Host.Outcome State Fault Refusal := .next (command t perst s)

/-- POWER_ON_RESET (R503). -/
def execPowerOnReset (t : Nat) (s : State) :
    Host.Outcome State Fault Refusal := .next (powerCommand t powerOnReset s)

/-- PIN_RESET (R503). -/
def execPinReset (t : Nat) (lost : List Nat) (s : State) :
    Host.Outcome State Fault Refusal := .next (powerCommand t (pinResetCmd lost) s)

/-- FW_RESET (R513). -/
def execFwReset (t : Nat) (a : Accessor) (w : Word) (s : State) :
    Host.Outcome State Fault Refusal := .next (command t (regWrite a rGLB_RESET_CTRL w []) s)

/-- FIRMWARE_RESET (R503). -/
def execFirmwareReset (t : Nat) (lost : List Nat) (s : State) :
    Host.Outcome State Fault Refusal := .next (powerCommand t (firmwareReset lost) s)

/-- REF_VALID (R501). -/
def execRefValid (t : Nat) (s : State) :
    Host.Outcome State Fault Refusal := .next (command t refValid s)

/-- REF_LOST (R502). -/
def execRefLost (t : Nat) (s : State) :
    Host.Outcome State Fault Refusal := .next (command t refLost s)

/-- PWRFAIL_FALL (R511). -/
def execPwrfailFall (t : Nat) (s : State) :
    Host.Outcome State Fault Refusal := .next (powerCommand t pwrFall s)

/-- POWER_DOWN (R511). -/
def execPowerDown (t : Nat) (s : State) :
    Host.Outcome State Fault Refusal := .next (command t powerDown s)

/-- POWER_DOWN_STEP (R511). -/
def execPowerDownStep (t : Nat) (s : State) :
    Host.Outcome State Fault Refusal := .next (command t downStep s)

/-- COMPUTE_HBM (R508). -/
def execComputeHbm (t : Nat) (s : State) :
    Host.Outcome State Fault Refusal := .next (command t computeHbm s)

/-- SIDEBAND (R508). -/
def execSideband (t : Nat) (s : State) :
    Host.Outcome State Fault Refusal := .next (command t sideband s)

/-- OPTICS (R508). -/
def execOptics (t : Nat) (cal : Map Int) (s : State) :
    Host.Outcome State Fault Refusal := .next (command t (opticsStage cal) s)

/-- BRING_UP_PLAN (R509). -/
def execBringUpPlan (t : Nat) (s : State) :
    Host.Outcome State Fault Refusal := .next (command t bringUpPlan s)

/-- READY (R508). -/
def execReady (t : Nat) (s : State) :
    Host.Outcome State Fault Refusal := .next (command t readyStage s)

/-- POWER_LOSS (R464). -/
def execPowerLoss (t : Nat) (s : State) :
    Host.Outcome State Fault Refusal := .next (powerCommand t powerLoss s)

/-- PWRFAIL_RISE (R511). -/
def execPwrfailRise (t : Nat) (s : State) :
    Host.Outcome State Fault Refusal := .next (powerCommand t pwrRise s)

/-- RESET_RELEASE (R525). -/
def execResetRelease (t : Nat) (sel : Bool) (addr : Nat) (testEn : Bool) (s : State) :
    Host.Outcome State Fault Refusal := .next (powerCommand t (resetRelease sel addr testEn) s)

end Sys2Proof.Machine
end

