-- ==== Sys2Proof/Machine/RegisterCommands.lean ====
section
/-! DEFINITION. Register accesses (20_register_map.md): the meaning of each of its commands. -/
namespace Sys2Proof.Machine

/-- DESIGNATION_WRITE (R545). -/
def execDesignationWrite (t : Nat) (off : Nat) (w : Word) (s : State) :
    Host.Outcome State Fault Refusal := .next (command t (regWrite .sideband off w []) s)

/-- REGISTER_WRITE (R12). -/
def execRegisterWrite (t : Nat) (a : Accessor) (off : Nat) (w : Word) (counts : Map Nat) (s : State) :
    Host.Outcome State Fault Refusal := .next (command t (regWrite a off w counts) s)

/-- RC_READ (R12). -/
def execRcRead (t : Nat) (a : Accessor) (off : Nat) (s : State) :
    Host.Outcome State Fault Refusal := .next (command t (hostRegRead a off) s)

/-- LOW_WORD_READ (R9). -/
def execLowWordRead (t : Nat) (a : Accessor) (off : Nat) (s : State) :
    Host.Outcome State Fault Refusal := .next (command t (hostRegRead a off) s)

/-- UNALIGNED_ACCESS (R10). -/
def execUnalignedAccess (t : Nat) (a : Accessor) (off : Nat) (write : Bool) (s : State) :
    Host.Outcome State Fault Refusal := .next (command t (unalignedAccess a off write) s)

end Sys2Proof.Machine
end

