-- ==== Sys2Proof/Machine/RunCommands.lean ====
section
/-! DEFINITION. The compute array and the sequencer (03_cores.md, 04_bundle_format.md, 05_compute_ops.md): the meaning of each of its commands. -/
namespace Sys2Proof.Machine

/-- BUNDLE_ISSUE (R100). -/
def execBundleIssue (t : Nat) (us : List Upset) (s : State) :
    Host.Outcome State Fault Refusal := .next (command t (bundleIssue us) s)

/-- RESULT_VISIBLE (R77). -/
def execResultVisible (t : Nat) (s : State) :
    Host.Outcome State Fault Refusal := .next (command t resultVisible s)

/-- STREAM_RELEASE (R124). -/
def execStreamRelease (t : Nat) (s : State) :
    Host.Outcome State Fault Refusal := .next (command t streamRelease s)

/-- WAKE_DELIVERY (R124). -/
def execWakeDelivery (t : Nat) (k : Nat) (s : State) :
    Host.Outcome State Fault Refusal := .next (command t (wakeDelivery k) s)

/-- EXPIRY_ARRIVAL (R223). -/
def execExpiryArrival (t : Nat) (k : Nat) (s : State) :
    Host.Outcome State Fault Refusal := .next (command t (expiryArrival k) s)

/-- MATRIX_OP_END (R142). -/
def execMatrixOpEnd (t : Nat) (s : State) :
    Host.Outcome State Fault Refusal := .next (command t matrixOpEnd s)

/-- RUN_DONE (R125). -/
def execRunDone (t : Nat) (s : State) :
    Host.Outcome State Fault Refusal := .next (command t runDone s)

/-- SCRUB_START (R94). -/
def execScrubStart (t : Nat) (a : Accessor) (w : Word) (s : State) :
    Host.Outcome State Fault Refusal := .next (command t (regWrite a rSEQ_CORE_CTRL w []) s)

/-- SCRUB_COMPLETE (R93). -/
def execScrubComplete (t : Nat) (s : State) :
    Host.Outcome State Fault Refusal := .next (command t scrubComplete s)

/-- LOAD_GO (R129). -/
def execLoadGo (t : Nat) (a : Accessor) (w : Word) (s : State) :
    Host.Outcome State Fault Refusal := .next (command t (regWrite a rSEQ_CTRL w []) s)

/-- LOAD_END (R130). -/
def execLoadEnd (t : Nat) (s : State) :
    Host.Outcome State Fault Refusal := .next (command t loadEnd s)

/-- SEQ_CTRL_START (R132). -/
def execSeqCtrlStart (t : Nat) (a : Accessor) (w : Word) (s : State) :
    Host.Outcome State Fault Refusal := .next (command t (regWrite a rSEQ_CTRL w []) s)

/-- RUN_START (R407). -/
def execRunStart (t : Nat) (s : State) :
    Host.Outcome State Fault Refusal := .next (command t runStart s)

end Sys2Proof.Machine
end

