-- ==== Sys2Proof/Machine/SidebandCommands.lean ====
section
/-! DEFINITION. The sideband (13_host_queues.md): the meaning of each of its commands. -/
namespace Sys2Proof.Machine

/-- READ32 (R400). -/
def execRead32 (t : Nat) (off : Nat) (count : Nat) (s : State) :
    Host.Outcome State Fault Refusal := .next (command t (read32 off count) s)

/-- WRITE32 (R400). -/
def execWrite32 (t : Nat) (off : Nat) (w : Word) (counts : Map Nat) (s : State) :
    Host.Outcome State Fault Refusal := .next (command t (write32 off w counts) s)

/-- READ_FIFO (R397). -/
def execReadFifo (t : Nat) (count : Nat) (s : State) :
    Host.Outcome State Fault Refusal := .next (command t (readFifo count) s)

/-- GET_STATUS (R400). -/
def execGetStatus (t : Nat) (s : State) :
    Host.Outcome State Fault Refusal := .next (command t getStatus s)

/-- SET_ENDPOINT_ID (R399). -/
def execSetEndpointId (t : Nat) (op : Nat) (eid : Nat) (s : State) :
    Host.Outcome State Fault Refusal := .next (command t (setEndpointId op eid) s)

/-- GET_ENDPOINT_ID (R399). -/
def execGetEndpointId (t : Nat) (s : State) :
    Host.Outcome State Fault Refusal := .next (command t getEndpointId s)

/-- GET_MCTP_VERSION_SUPPORT (R399). -/
def execGetMctpVersionSupport (t : Nat) (type : Nat) (s : State) :
    Host.Outcome State Fault Refusal := .next (command t (getVersions type) s)

/-- GET_MESSAGE_TYPE_SUPPORT (R399). -/
def execGetMessageTypeSupport (t : Nat) (s : State) :
    Host.Outcome State Fault Refusal := .next (command t getMessageTypes s)

/-- GET_VENDOR_DEFINED_MESSAGE_SUPPORT (R399). -/
def execGetVendorDefinedMessageSupport (t : Nat) (sel : Nat) (s : State) :
    Host.Outcome State Fault Refusal := .next (command t (getVendorSupport sel) s)

/-- ENTDAA (R399). -/
def execEntdaa (t : Nat) (addr : Nat) (s : State) :
    Host.Outcome State Fault Refusal := .next (command t (entdaa addr) s)

end Sys2Proof.Machine
end

