-- ==== Sys2Proof/Machine/StreamCommands.lean ====
section
/-! DEFINITION. Stream memory (06_stream_memory.md): the meaning of each of its commands. -/
namespace Sys2Proof.Machine

/-- ACCESS_RETIRE (R182). -/
def execAccessRetire (t : Nat) (e : Nat) (s : State) :
    Host.Outcome State Fault Refusal := .next (command t (accessRetire e) s)

/-- PAGE_ENTRY_RETURN (R193). -/
def execPageEntryReturn (t : Nat) (e : Nat) (s : State) :
    Host.Outcome State Fault Refusal := .next (command t (pageReturn e) s)

/-- SEGMENT_DECODE (R195). -/
def execSegmentDecode (t : Nat) (e : Nat) (s : State) :
    Host.Outcome State Fault Refusal := .next (command t (segmentDecode e) s)

/-- DLOAD_GO (R186). -/
def execDloadGo (t : Nat) (a : Accessor) (w : Word) (s : State) :
    Host.Outcome State Fault Refusal := .next (command t (regWrite a rSTM_CTRL w []) s)

/-- DLOAD_END (R186). -/
def execDloadEnd (t : Nat) (s : State) :
    Host.Outcome State Fault Refusal := .next (command t dloadEnd s)

end Sys2Proof.Machine
end

