-- ==== Sys2Proof/Machine/SundialCommands.lean ====
section
/-! DEFINITION. Time (12_sundial.md): the meaning of each of its commands. -/
namespace Sys2Proof.Machine

/-- SYNC (R358). -/
def execSync (t : Nat) (p : Nat) (l : Nat) (cell : List Byte) (s : State) :
    Host.Outcome State Fault Refusal := .next (command t (syncReceive p l cell) s)

/-- ANNOUNCE (R356). -/
def execAnnounce (t : Nat) (p : Nat) (l : Nat) (cell : List Byte) (s : State) :
    Host.Outcome State Fault Refusal := .next (command t (announceReceive p l cell) s)

/-- LOCAL_SYNC (R368). -/
def execLocalSync (t : Nat) (p : Nat) (l : Nat) (cell : List Byte) (s : State) :
    Host.Outcome State Fault Refusal := .next (command t (localSync p l cell) s)

/-- SYNC_SEND (R356). -/
def execSyncSend (t : Nat) (s : State) :
    Host.Outcome State Fault Refusal := .next (command t syncSend s)

/-- SYNC_TIMEOUT (R354). -/
def execSyncTimeout (t : Nat) (s : State) :
    Host.Outcome State Fault Refusal := .next (command t syncTimeout s)

/-- SKEW_EVALUATION (R368). -/
def execSkewEvaluation (t : Nat) (s : State) :
    Host.Outcome State Fault Refusal := .next (command t skewEvaluation s)

/-- STEP_APPLY (R358). -/
def execStepApply (t : Nat) (s : State) :
    Host.Outcome State Fault Refusal := .next (command t stepApply s)

/-- SET_MST (R354). -/
def execSetMst (t : Nat) (a : Accessor) (w : Word) (s : State) :
    Host.Outcome State Fault Refusal := .next (command t (regWrite a rSDL_CTRL w []) s)

/-- MST_FROM_TOD (R354). -/
def execMstFromTod (t : Nat) (a : Accessor) (w : Word) (s : State) :
    Host.Outcome State Fault Refusal := .next (command t (regWrite a rSDL_CTRL w []) s)

/-- SET_TOD (R362). -/
def execSetTod (t : Nat) (a : Accessor) (w : Word) (s : State) :
    Host.Outcome State Fault Refusal := .next (command t (regWrite a rSDL_CTRL w []) s)

/-- VT_ZERO (R363). -/
def execVtZero (t : Nat) (a : Accessor) (w : Word) (s : State) :
    Host.Outcome State Fault Refusal := .next (command t (regWrite a rSDL_CTRL w []) s)

/-- SVC_SYNC (R361). -/
def execSvcSync (t : Nat) (domain : Nat) (src : Nat) (seq : Nat) (log : Int) (ns : Nat) (corr : Int) (twoStep : Bool) (s : State) :
    Host.Outcome State Fault Refusal := .next (command t (svcSync domain src seq log ns corr twoStep) s)

/-- SVC_FOLLOW_UP (R361). -/
def execSvcFollowUp (t : Nat) (domain : Nat) (src : Nat) (seq : Nat) (ns : Nat) (corr : Int) (s : State) :
    Host.Outcome State Fault Refusal := .next (command t (svcFollowUp domain src seq ns corr) s)

/-- SVC_DELAY_RESP (R361). -/
def execSvcDelayResp (t : Nat) (domain : Nat) (src : Nat) (seq : Nat) (asker : Nat) (ns : Nat) (corr : Int) (s : State) :
    Host.Outcome State Fault Refusal := .next (command t (svcDelayResp domain src seq asker ns corr) s)

/-- SVC_ANNOUNCE (R361). -/
def execSvcAnnounce (t : Nat) (domain : Nat) (src : Nat) (data : ClockData) (interval : Nat) (s : State) :
    Host.Outcome State Fault Refusal := .next (command t (svcAnnounce domain src data interval) s)

/-- ANNOUNCE_TIMEOUT (R361). -/
def execAnnounceTimeout (t : Nat) (s : State) :
    Host.Outcome State Fault Refusal := .next (command t announceTimeout s)

/-- SLOT_START (R364). -/
def execSlotStart (t : Nat) (s : State) :
    Host.Outcome State Fault Refusal := .next (command t slotStart s)

/-- TP_OUT_FIRE (R369). -/
def execTpOutFire (t : Nat) (n : Nat) (s : State) :
    Host.Outcome State Fault Refusal := .next (command t (tpOutFire n) s)

/-- TP_OUT_FALL (R369). -/
def execTpOutFall (t : Nat) (n : Nat) (s : State) :
    Host.Outcome State Fault Refusal := .next (command t (tpOutFall n) s)

/-- TPO_ENABLE (R369). -/
def execTpoEnable (t : Nat) (a : Accessor) (n : Nat) (w : Word) (s : State) :
    Host.Outcome State Fault Refusal := .next (command t (regWrite a (rSDL_TPO_CTRL n) w []) s)

/-- TP_IN_CAPTURE (R370). -/
def execTpInCapture (t : Nat) (n : Nat) (s : State) :
    Host.Outcome State Fault Refusal := .next (command t (tpInCapture n) s)

/-- REF_MISMATCH (R367). -/
def execRefMismatch (t : Nat) (p : Nat) (l : Nat) (s : State) :
    Host.Outcome State Fault Refusal := .next (command t (refMismatch p l) s)

end Sys2Proof.Machine
end

