-- ==== Sys2Proof/Machine/TallyCommands.lean ====
section
/-! DEFINITION. The Tally unit (07_tally.md): the meaning of each of its commands. -/
namespace Sys2Proof.Machine

/-- INCREMENT_APPLY (R214). -/
def execIncrementApply (t : Nat) (s : State) :
    Host.Outcome State Fault Refusal := .next (command t incrementApply s)

/-- WATCH_EXPIRY (R223). -/
def execWatchExpiry (t : Nat) (e : Nat) (s : State) :
    Host.Outcome State Fault Refusal := .next (command t (watchExpiry e) s)

/-- GROUP_REBASE (R224). -/
def execGroupRebase (t : Nat) (e : Nat) (s : State) :
    Host.Outcome State Fault Refusal := .next (command t (groupRebase e) s)

/-- ZERO_GO (R226). -/
def execZeroGo (t : Nat) (a : Accessor) (w : Word) (s : State) :
    Host.Outcome State Fault Refusal := .next (command t (regWrite a rTLY_CTRL w []) s)

/-- TLY_TR_WRITE (R211). -/
def execTlyTrWrite (t : Nat) (a : Accessor) (n : Nat) (w : Word) (s : State) :
    Host.Outcome State Fault Refusal := .next (command t (regWrite a (rTLY_TR n) w []) s)

/-- TLY_WR_WRITE (R211). -/
def execTlyWrWrite (t : Nat) (a : Accessor) (n : Nat) (w : Word) (s : State) :
    Host.Outcome State Fault Refusal := .next (command t (regWrite a (rTLY_WR n) w []) s)

end Sys2Proof.Machine
end

