-- ==== Sys2Proof/Machine/Dispatch.lean ====
section
/-! DEFINITION. What each command does to everything but the queue: one direct call of its meaning. -/
namespace Sys2Proof.Machine

/-- The effect of a command. -/
def exec (i : Instr) (s : State) : Host.Outcome State Fault Refusal :=
  match i with
  | .bundleIssue t us => Sys2Proof.Machine.execBundleIssue t us s
  | .resultVisible t => Sys2Proof.Machine.execResultVisible t s
  | .streamRelease t => Sys2Proof.Machine.execStreamRelease t s
  | .wakeDelivery t k => Sys2Proof.Machine.execWakeDelivery t k s
  | .expiryArrival t k => Sys2Proof.Machine.execExpiryArrival t k s
  | .matrixOpEnd t => Sys2Proof.Machine.execMatrixOpEnd t s
  | .runDone t => Sys2Proof.Machine.execRunDone t s
  | .circuitOpArrival t => Sys2Proof.Machine.execCircuitOpArrival t s
  | .scrubStart t a w => Sys2Proof.Machine.execScrubStart t a w s
  | .scrubComplete t => Sys2Proof.Machine.execScrubComplete t s
  | .loadGo t a w => Sys2Proof.Machine.execLoadGo t a w s
  | .loadEnd t => Sys2Proof.Machine.execLoadEnd t s
  | .seqCtrlStart t a w => Sys2Proof.Machine.execSeqCtrlStart t a w s
  | .runStart t => Sys2Proof.Machine.execRunStart t s
  | .accessRetire t e => Sys2Proof.Machine.execAccessRetire t e s
  | .pageEntryReturn t e => Sys2Proof.Machine.execPageEntryReturn t e s
  | .segmentDecode t e => Sys2Proof.Machine.execSegmentDecode t e s
  | .dloadGo t a w => Sys2Proof.Machine.execDloadGo t a w s
  | .dloadEnd t => Sys2Proof.Machine.execDloadEnd t s
  | .hbmTrainTimeout t k => Sys2Proof.Machine.execHbmTrainTimeout t k s
  | .hbmVerifyEnd t k pass ch => Sys2Proof.Machine.execHbmVerifyEnd t k pass ch s
  | .stackLost t k => Sys2Proof.Machine.execStackLost t k s
  | .refresh t k us => Sys2Proof.Machine.execRefresh t k us s
  | .recalibration t k => Sys2Proof.Machine.execRecalibration t k s
  | .recalibrationEnd t k => Sys2Proof.Machine.execRecalibrationEnd t k s
  | .incrementApply t => Sys2Proof.Machine.execIncrementApply t s
  | .watchExpiry t e => Sys2Proof.Machine.execWatchExpiry t e s
  | .groupRebase t e => Sys2Proof.Machine.execGroupRebase t e s
  | .zeroGo t a w => Sys2Proof.Machine.execZeroGo t a w s
  | .tlyTrWrite t a n w => Sys2Proof.Machine.execTlyTrWrite t a n w s
  | .tlyWrWrite t a n w => Sys2Proof.Machine.execTlyWrWrite t a n w s
  | .flitSend t p l => Sys2Proof.Machine.execFlitSend t p l s
  | .controlFrameSend t p l => Sys2Proof.Machine.execControlFrameSend t p l s
  | .flitReceive t p l words frame => Sys2Proof.Machine.execFlitReceive t p l words frame s
  | .flow t p l frame => Sys2Proof.Machine.execFlow t p l frame s
  | .hello t p l frame => Sys2Proof.Machine.execHello t p l frame s
  | .laneFail t p l count frame => Sys2Proof.Machine.execLaneFail t p l count frame s
  | .laneMap t p l frame => Sys2Proof.Machine.execLaneMap t p l frame s
  | .laneMapApply t p l count => Sys2Proof.Machine.execLaneMapApply t p l count s
  | .retryTimeout t p l => Sys2Proof.Machine.execRetryTimeout t p l s
  | .laneGiveUp t p l dir lane why count => Sys2Proof.Machine.execLaneGiveUp t p l dir lane why count s
  | .lossOfLight t p f => Sys2Proof.Machine.execLossOfLight t p f s
  | .transferStart t p id => Sys2Proof.Machine.execTransferStart t p id s
  | .nopostTimeout t p l => Sys2Proof.Machine.execNopostTimeout t p l s
  | .linkTrainingAdvance t p l info => Sys2Proof.Machine.execLinkTrainingAdvance t p l info s
  | .trainingTimeout t p l => Sys2Proof.Machine.execTrainingTimeout t p l s
  | .rehello t a p w => Sys2Proof.Machine.execRehello t a p w s
  | .quarantineRehello t p => Sys2Proof.Machine.execQuarantineRehello t p s
  | .entryWrite t a b e hi w => Sys2Proof.Machine.execEntryWrite t a b e hi w s
  | .stageGo t a w => Sys2Proof.Machine.execStageGo t a w s
  | .checkingEnd t b => Sys2Proof.Machine.execCheckingEnd t b s
  | .replanGo t a w => Sys2Proof.Machine.execReplanGo t a w s
  | .replanNow t a w => Sys2Proof.Machine.execReplanNow t a w s
  | .replanStart t => Sys2Proof.Machine.execReplanStart t s
  | .replanPhase t spares counts => Sys2Proof.Machine.execReplanPhase t spares counts s
  | .unfence t a w => Sys2Proof.Machine.execUnfence t a w s
  | .cscTrigArm t a w => Sys2Proof.Machine.execCscTrigArm t a w s
  | .cscTrigDisarm t a w => Sys2Proof.Machine.execCscTrigDisarm t a w s
  | .fire t => Sys2Proof.Machine.execFire t s
  | .guardSwitch t counts => Sys2Proof.Machine.execGuardSwitch t counts s
  | .guardEnd t unlocked counts => Sys2Proof.Machine.execGuardEnd t unlocked counts s
  | .uncachedAcquireTimeout t p l => Sys2Proof.Machine.execUncachedAcquireTimeout t p l s
  | .rerouteDone t b => Sys2Proof.Machine.execRerouteDone t b s
  | .bankEnable t a p w => Sys2Proof.Machine.execBankEnable t a p w s
  | .bankDisable t a p w => Sys2Proof.Machine.execBankDisable t a p w s
  | .laserLock t p w => Sys2Proof.Machine.execLaserLock t p w s
  | .laserStartTimeout t p w counts => Sys2Proof.Machine.execLaserStartTimeout t p w counts s
  | .comparatorTrip t p j counts => Sys2Proof.Machine.execComparatorTrip t p j counts s
  | .driverFault t p j counts => Sys2Proof.Machine.execDriverFault t p j counts s
  | .spareLock t p sp => Sys2Proof.Machine.execSpareLock t p sp s
  | .spareTuneTimeout t p sp dark => Sys2Proof.Machine.execSpareTuneTimeout t p sp dark s
  | .monitorScan t ch x => Sys2Proof.Machine.execMonitorScan t ch x s
  | .measGo t a w => Sys2Proof.Machine.execMeasGo t a w s
  | .measDone t x => Sys2Proof.Machine.execMeasDone t x s
  | .ageStep t p j power counts => Sys2Proof.Machine.execAgeStep t p j power counts s
  | .frontEndTick t k sample => Sys2Proof.Machine.execFrontEndTick t k sample s
  | .loopUpdate t k power lit counts => Sys2Proof.Machine.execLoopUpdate t k power lit counts s
  | .windowEnd t k counts => Sys2Proof.Machine.execWindowEnd t k counts s
  | .loopEnable t k cross => Sys2Proof.Machine.execLoopEnable t k cross s
  | .loopDisable t k => Sys2Proof.Machine.execLoopDisable t k s
  | .homingStep t k m counts => Sys2Proof.Machine.execHomingStep t k m counts s
  | .loopHold t k => Sys2Proof.Machine.execLoopHold t k s
  | .loopRelease t k => Sys2Proof.Machine.execLoopRelease t k s
  | .anlEnable t a w => Sys2Proof.Machine.execAnlEnable t a w s
  | .anlSwap t a w => Sys2Proof.Machine.execAnlSwap t a w s
  | .coefSwapApply t c => Sys2Proof.Machine.execCoefSwapApply t c s
  | .setptWrite t a w => Sys2Proof.Machine.execSetptWrite t a w s
  | .selftest t a w => Sys2Proof.Machine.execSelftest t a w s
  | .gaincal t a w => Sys2Proof.Machine.execGaincal t a w s
  | .calStart t => Sys2Proof.Machine.execCalStart t s
  | .calDone t lanes loops => Sys2Proof.Machine.execCalDone t lanes loops s
  | .trimRequest t a off w => Sys2Proof.Machine.execTrimRequest t a off w s
  | .noWork t => Sys2Proof.Machine.execNoWork t s
  | .sync t p l cell => Sys2Proof.Machine.execSync t p l cell s
  | .announce t p l cell => Sys2Proof.Machine.execAnnounce t p l cell s
  | .localSync t p l cell => Sys2Proof.Machine.execLocalSync t p l cell s
  | .syncSend t => Sys2Proof.Machine.execSyncSend t s
  | .syncTimeout t => Sys2Proof.Machine.execSyncTimeout t s
  | .skewEvaluation t => Sys2Proof.Machine.execSkewEvaluation t s
  | .stepApply t => Sys2Proof.Machine.execStepApply t s
  | .setMst t a w => Sys2Proof.Machine.execSetMst t a w s
  | .mstFromTod t a w => Sys2Proof.Machine.execMstFromTod t a w s
  | .setTod t a w => Sys2Proof.Machine.execSetTod t a w s
  | .vtZero t a w => Sys2Proof.Machine.execVtZero t a w s
  | .svcSync t domain src seq log ns corr twoStep => Sys2Proof.Machine.execSvcSync t domain src seq log ns corr twoStep s
  | .svcFollowUp t domain src seq ns corr => Sys2Proof.Machine.execSvcFollowUp t domain src seq ns corr s
  | .svcDelayResp t domain src seq asker ns corr => Sys2Proof.Machine.execSvcDelayResp t domain src seq asker ns corr s
  | .svcAnnounce t domain src data interval => Sys2Proof.Machine.execSvcAnnounce t domain src data interval s
  | .announceTimeout t => Sys2Proof.Machine.execAnnounceTimeout t s
  | .slotStart t => Sys2Proof.Machine.execSlotStart t s
  | .drainStart t => Sys2Proof.Machine.execDrainStart t s
  | .sendStop t => Sys2Proof.Machine.execSendStop t s
  | .receiveClose t => Sys2Proof.Machine.execReceiveClose t s
  | .sliceStart t counts => Sys2Proof.Machine.execSliceStart t counts s
  | .tpOutFire t n => Sys2Proof.Machine.execTpOutFire t n s
  | .tpOutFall t n => Sys2Proof.Machine.execTpOutFall t n s
  | .tpoEnable t a n w => Sys2Proof.Machine.execTpoEnable t a n w s
  | .tpInCapture t n => Sys2Proof.Machine.execTpInCapture t n s
  | .sqDoorbell t n q w => Sys2Proof.Machine.execSqDoorbell t n q w s
  | .cqDoorbell t n w => Sys2Proof.Machine.execCqDoorbell t n w s
  | .queueEnable t n w => Sys2Proof.Machine.execQueueEnable t n w s
  | .grantStep t n => Sys2Proof.Machine.execGrantStep t n s
  | .commandFetch t n q => Sys2Proof.Machine.execCommandFetch t n q s
  | .commandStart t n q => Sys2Proof.Machine.execCommandStart t n q s
  | .copyDone t n q seq => Sys2Proof.Machine.execCopyDone t n q seq s
  | .readCompletion t f id data => Sys2Proof.Machine.execReadCompletion t f id data s
  | .coalesceTimeout t n => Sys2Proof.Machine.execCoalesceTimeout t n s
  | .bmeClear t f cfg => Sys2Proof.Machine.execBmeClear t f cfg s
  | .bmeSet t f cfg => Sys2Proof.Machine.execBmeSet t f cfg s
  | .flr t f => Sys2Proof.Machine.execFlr t f s
  | .tagTimeout t f id => Sys2Proof.Machine.execTagTimeout t f id s
  | .linkUp t rate width flit tagBits => Sys2Proof.Machine.execLinkUp t rate width flit tagBits s
  | .linkRateChange t rate width flit tagBits => Sys2Proof.Machine.execLinkRateChange t rate width flit tagBits s
  | .linkDown t => Sys2Proof.Machine.execLinkDown t s
  | .perstN t => Sys2Proof.Machine.execPerstN t s
  | .apertureAccess t x write n => Sys2Proof.Machine.execApertureAccess t x write n s
  | .read32 t off count => Sys2Proof.Machine.execRead32 t off count s
  | .write32 t off w counts => Sys2Proof.Machine.execWrite32 t off w counts s
  | .readFifo t count => Sys2Proof.Machine.execReadFifo t count s
  | .getStatus t => Sys2Proof.Machine.execGetStatus t s
  | .setEndpointId t op eid => Sys2Proof.Machine.execSetEndpointId t op eid s
  | .getEndpointId t => Sys2Proof.Machine.execGetEndpointId t s
  | .getMctpVersionSupport t type => Sys2Proof.Machine.execGetMctpVersionSupport t type s
  | .getMessageTypeSupport t => Sys2Proof.Machine.execGetMessageTypeSupport t s
  | .getVendorDefinedMessageSupport t sel => Sys2Proof.Machine.execGetVendorDefinedMessageSupport t sel s
  | .entdaa t addr => Sys2Proof.Machine.execEntdaa t addr s
  | .openPlot t a n w => Sys2Proof.Machine.execOpenPlot t a n w s
  | .closePlot t a n w => Sys2Proof.Machine.execClosePlot t a n w s
  | .teardown t n => Sys2Proof.Machine.execTeardown t n s
  | .isoEn t a w => Sys2Proof.Machine.execIsoEn t a w s
  | .meteringBoundary t => Sys2Proof.Machine.execMeteringBoundary t s
  | .pendingRecordWrite t => Sys2Proof.Machine.execPendingRecordWrite t s
  | .abortComplete t n => Sys2Proof.Machine.execAbortComplete t n s
  | .haltAll t a w => Sys2Proof.Machine.execHaltAll t a w s
  | .haltAllComplete t => Sys2Proof.Machine.execHaltAllComplete t s
  | .resume t a w => Sys2Proof.Machine.execResume t a w s
  | .sensorRead t temps => Sys2Proof.Machine.execSensorRead t temps s
  | .tripOpticsOff t => Sys2Proof.Machine.execTripOpticsOff t s
  | .watchdogExpiry t => Sys2Proof.Machine.execWatchdogExpiry t s
  | .chousRestart t => Sys2Proof.Machine.execChousRestart t s
  | .injArm t a w counts => Sys2Proof.Machine.execInjArm t a w counts s
  | .injDoneClear t a w => Sys2Proof.Machine.execInjDoneClear t a w s
  | .snapNow t a w => Sys2Proof.Machine.execSnapNow t a w s
  | .periodic t => Sys2Proof.Machine.execPeriodic t s
  | .snapshotComplete t trace => Sys2Proof.Machine.execSnapshotComplete t trace s
  | .flushHoldoffEnd t => Sys2Proof.Machine.execFlushHoldoffEnd t s
  | .flushRecordCommit t => Sys2Proof.Machine.execFlushRecordCommit t s
  | .flushPause t => Sys2Proof.Machine.execFlushPause t s
  | .flushResume t => Sys2Proof.Machine.execFlushResume t s
  | .hallmarkClearEnd t => Sys2Proof.Machine.execHallmarkClearEnd t s
  | .boot t => Sys2Proof.Machine.execBoot t s
  | .slotCheckEnd t => Sys2Proof.Machine.execSlotCheckEnd t s
  | .componentReady t id => Sys2Proof.Machine.execComponentReady t id s
  | .componentLoadTimeout t => Sys2Proof.Machine.execComponentLoadTimeout t s
  | .confirmation t => Sys2Proof.Machine.execConfirmation t s
  | .trialTimeout t => Sys2Proof.Machine.execTrialTimeout t s
  | .confirm t a w => Sys2Proof.Machine.execConfirm t a w s
  | .reject t a w => Sys2Proof.Machine.execReject t a w s
  | .crucible t a w => Sys2Proof.Machine.execCrucible t a w s
  | .activate t a w => Sys2Proof.Machine.execActivate t a w s
  | .fwStatus t p seq => Sys2Proof.Machine.execFwStatus t p seq s
  | .fwBegin t p seq delta header => Sys2Proof.Machine.execFwBegin t p seq delta header s
  | .fwData t p seq off data => Sys2Proof.Machine.execFwData t p seq off data s
  | .fwEnd t p seq total => Sys2Proof.Machine.execFwEnd t p seq total s
  | .updateVerifyEnd t storeError => Sys2Proof.Machine.execUpdateVerifyEnd t storeError s
  | .updateTimeout t => Sys2Proof.Machine.execUpdateTimeout t s
  | .fwActivate t p seq now_ => Sys2Proof.Machine.execFwActivate t p seq now_ s
  | .fwAbort t p seq => Sys2Proof.Machine.execFwAbort t p seq s
  | .calRead t p seq off len => Sys2Proof.Machine.execCalRead t p seq off len s
  | .calWrite t p seq off data => Sys2Proof.Machine.execCalWrite t p seq off data s
  | .planStage t p seq bank entries digest => Sys2Proof.Machine.execPlanStage t p seq bank entries digest s
  | .planReport t p seq node bank st digest => Sys2Proof.Machine.execPlanReport t p seq node bank st digest s
  | .rackConfirm t p seq rack bank => Sys2Proof.Machine.execRackConfirm t p seq rack bank s
  | .fireTime t p seq bank at_ => Sys2Proof.Machine.execFireTime t p seq bank at_ s
  | .mramRead t p seq off len => Sys2Proof.Machine.execMramRead t p seq off len s
  | .arpRequest t mac ip target => Sys2Proof.Machine.execArpRequest t mac ip target s
  | .icmpEcho t body => Sys2Proof.Machine.execIcmpEcho t body s
  | .powerOnReset t => Sys2Proof.Machine.execPowerOnReset t s
  | .pinReset t lost => Sys2Proof.Machine.execPinReset t lost s
  | .fwReset t a w => Sys2Proof.Machine.execFwReset t a w s
  | .firmwareReset t lost => Sys2Proof.Machine.execFirmwareReset t lost s
  | .refValid t => Sys2Proof.Machine.execRefValid t s
  | .refLost t => Sys2Proof.Machine.execRefLost t s
  | .pwrfailFall t => Sys2Proof.Machine.execPwrfailFall t s
  | .bkpFail t => Sys2Proof.Machine.execBkpFail t s
  | .powerDown t => Sys2Proof.Machine.execPowerDown t s
  | .powerDownStep t => Sys2Proof.Machine.execPowerDownStep t s
  | .computeHbm t => Sys2Proof.Machine.execComputeHbm t s
  | .sideband t => Sys2Proof.Machine.execSideband t s
  | .optics t cal => Sys2Proof.Machine.execOptics t cal s
  | .bringUpPlan t => Sys2Proof.Machine.execBringUpPlan t s
  | .ready t => Sys2Proof.Machine.execReady t s
  | .designationWrite t off w => Sys2Proof.Machine.execDesignationWrite t off w s
  | .registerWrite t a off w counts => Sys2Proof.Machine.execRegisterWrite t a off w counts s
  | .rcRead t a off => Sys2Proof.Machine.execRcRead t a off s
  | .lowWordRead t a off => Sys2Proof.Machine.execLowWordRead t a off s
  | .unalignedAccess t a off write => Sys2Proof.Machine.execUnalignedAccess t a off write s
  | .reAcquisition t p l => Sys2Proof.Machine.execReAcquisition t p l s
  | .refMismatch t p l => Sys2Proof.Machine.execRefMismatch t p l s
  | .completionTimeout t f id => Sys2Proof.Machine.execCompletionTimeout t f id s
  | .numvfsWrite t num enable ari => Sys2Proof.Machine.execNumvfsWrite t num enable ari s
  | .msixEnable t f => Sys2Proof.Machine.execMsixEnable t f s
  | .powerLoss t => Sys2Proof.Machine.execPowerLoss t s
  | .pwrfailRise t => Sys2Proof.Machine.execPwrfailRise t s
  | .resetRelease t sel addr testEn => Sys2Proof.Machine.execResetRelease t sel addr testEn s
  | .transceiverFault t p x dir => Sys2Proof.Machine.execTransceiverFault t p x dir s
  | .stackIdentityRead t k ok rates => Sys2Proof.Machine.execStackIdentityRead t k ok rates s
  | .unknownType t p seq type crcOk => Sys2Proof.Machine.execUnknownType t p seq type crcOk s
  | .sgmiiLinkStatus t up full => Sys2Proof.Machine.execSgmiiLinkStatus t up full s

end Sys2Proof.Machine
end

