-- ==== Sys2Proof/WellFormed.lean ====
section
/-! DEFINITION. Well-formed commands: every operand within the range the spec gives what it names. -/
namespace Sys2Proof

open Sys2Proof.Machine

/-! ### Ranges of operands -/

/-- A port (R15). -/
def isPort (p : Nat) : Bool := decide (p < 6)
/-- A logical link of a port (R232). -/
def isLink (l : Nat) : Bool := decide (l < 16)
/-- A transceiver or fibre pair of a port, the spare among them (R232). -/
def isXcvr (t : Nat) : Bool := decide (t < 17)
/-- A lane of a link (R233). -/
def isLane (i : Nat) : Bool := decide (i < 9)
/-- A direction of a link: 0 receive, 1 transmit. -/
def isDir (d : Nat) : Bool := decide (d < 2)
/-- A plot (R403). -/
def isPlot (n : Nat) : Bool := decide (n < 16)
/-- A submission queue (R382). -/
def isSq (q : Nat) : Bool := decide (q < 4)
/-- A function of the device: the PF and the VFs (R377). -/
def isFunc (f : Nat) : Bool := decide (f < 17)
/-- A tag (R392). -/
def isTag (i : Nat) : Bool := decide (i < 1024)
/-- An HBM stack (R171). -/
def isStack (k : Nat) : Bool := decide (k < 8)
/-- A channel of a stack (R171). -/
def isHbmChannel (c : Nat) : Bool := decide (c < 32)
/-- The rates a stack declares, one bit each (R172). -/
def isRates (r : Nat) : Bool := decide (r < 16)
/-- A stream engine (R182). -/
def isEngine (e : Nat) : Bool := decide (e < 16)
/-- A wait slot (R123). -/
def isWaitSlot (w : Nat) : Bool := decide (w < 64)
/-- A watch entry (R217). -/
def isWatch (e : Nat) : Bool := decide (e < 4096)
/-- A bank of the circuit switch, and an entry of one (R271, R275). -/
def isBank (b : Nat) : Bool := decide (b < 8)
def isEntry (e : Nat) : Bool := decide (e < 256)
/-- A laser of a bank, a grid wavelength, a spare (R299–R302). -/
def isLaser (j : Nat) : Bool := decide (j < 11)
def isGrid (w : Nat) : Bool := decide (w < 9)
def isSpare (i : Nat) : Bool := decide (i < 2)
/-- A monitor channel (R308). -/
def isChannel (i : Nat) : Bool := decide (i < 2106)
/-- A heater loop and a loop class (R321, R322). -/
def isLoop (k : Nat) : Bool := decide (k < 3822)
def isClass (c : Nat) : Bool := decide (c < 4)
/-- A time pin driven, and one read (R369, R370). -/
def isPin (n : Nat) : Bool := decide (n < 4)
def isInPin (n : Nat) : Bool := decide (n < 2)
/-- A component of an image, the manifest apart (R481). -/
def isComponent (i : Nat) : Bool := decide (2 ≤ i) && decide (i < 7)
/-- Numbers of one and of two bytes. -/
def isByte (x : Nat) : Bool := decide (x < 256)
def isHalf (x : Nat) : Bool := decide (x < 65536)
/-- A codeword count (R246). -/
def isCount (c : Nat) : Bool := decide (c < 2 ^ 32)
/-- Codeword counts by 32·port + link. -/
def isCounts (m : Map Nat) : Bool :=
  canon 0 m && m.all fun x => isPort (x.1 / 32) && isLink (x.1 % 32) && isCount x.2
/-- The calibration of the loops and lasers. -/
def isCal (m : Map Int) : Bool := canon 0 m
/-- A time cell of 256 bytes (R355). -/
def isCell (c : List Byte) : Bool := c.length == 256
/-- The codewords that carry a frame (R234): a frame of 2,112 bits meets at most two, of 544 symbols each. -/
def isCodewords (l : List Codeword) : Bool := !l.isEmpty && decide (l.length ≤ 2) && l.all fun c => decide (c.symbols ≤ 544)
/-- A frame of 264 bytes (R234). -/
def isFrame (f : List Byte) : Bool := f.length == 264
/-- Bits lost by a memory: one or two of a word. -/
def isUpset : Upset → Bool
  | .store w n => decide (w < 65536) && decide (1 ≤ n) && decide (n < 3)
  | .sram c w n => decide (c < 1024) && decide (w < 65536) && decide (1 ≤ n) && decide (n < 3)
  | .bridge c w n => decide (c < 32) && decide (w < 32) && decide (1 ≤ n) && decide (n < 3)
  | .hbm w n => decide (w * 32 < hbmBytes) && decide (1 ≤ n) && decide (n < 3)
def isUpsets (us : List Upset) : Bool := us.all isUpset
/-- Links: port and link. -/
def isLinks (l : List (Nat × Nat)) : Bool := l.all fun x => isPort x.1 && isLink x.2
/-- Results of a spare test, by port. -/
def isSpares (l : List (Nat × Bool × Bool)) : Bool := l.all fun x => isPort x.1
/-- The readings of the sixteen sensor groups in °C (R442). -/
def isTemps (l : List Nat) : Bool := l.length == 16 && l.all isByte
/-- Fields of a function's configuration space (R376): sizes of 128 to 4,096 bytes in powers of two, BAR2 of 1 to 64 GiB. -/
def isPci (c : PciConfig) : Bool :=
  [128, 256, 512, 1024, 2048, 4096].contains c.maxRead && [128, 256, 512].contains c.maxPayload && decide (c.timeout < 16)
    && decide (c.bar2 ≤ 6)
/-- Log of an interval of IEEE 1588 in one signed byte. -/
def isLog (x : Int) : Bool := decide (-128 ≤ x) && decide (x < 128)
/-- The fields of an Announce that clause 9.3 compares (R361). -/
def isClock (c : ClockData) : Bool :=
  isByte c.priority1 && isByte c.clockClass && isByte c.accuracy && isHalf c.variance && isByte c.priority2
    && decide (c.grandmaster < 2 ^ 64) && isHalf c.steps
/-- An offset of the largest BAR2 (R376). -/
def isAperture (x n : Nat) : Bool := decide (x + n ≤ 2 ^ 36)
/-- A SEQ of the service protocol (R486). -/
def isSeq (x : Nat) : Bool := decide (x < 2 ^ 32)
/-- A requester of the service protocol (R486). -/
def isPeer (p : Peer) : Bool := decide (p.ip < 2 ^ 32) && isHalf p.port
/-- Staged plan entries with their indices. -/
def isEntries (l : List (Nat × Word × Word)) : Bool := l.all fun x => isEntry x.1
/-- A plan digest (R274). -/
def isDigest (d : List Byte) : Bool := d.length == 16
/-- The header of an image (R480). -/
def isHeader (h : List Byte) : Bool := h.length == 512
/-- A TYPE the service protocol does not give (R486). -/
def isType (x : Nat) : Bool :=
  isByte x && !([0x01, 0x10, 0x11, 0x12, 0x13, 0x14, 0x20, 0x21, 0x30, 0x31, 0x32, 0x33, 0x40].contains x)
/-- Who may send a register access: the host, the sideband, or a VF. -/
def isAccessor : Accessor → Bool
  | .host => true
  | .sideband => true
  | .vf n => isPlot n
  | .device => false
/-- An offset of a BAR0 (R538, R540). -/
def isOffset (o : Nat) : Bool := decide (o < 2 ^ 24)
/-- The offset of a trim register (R348). -/
def isTrim (o : Nat) : Bool := decide (0xE01000 ≤ o) && (regRow o).isSome
/-- The offset of a node or role register (R544, R545). -/
def isDesignation (o : Nat) : Bool := [rGLB_NODE, rGLB_ROLE, rGLB_RACK_MASTER, rGLB_MESH_MASTER].contains o
/-- The offset of a register with a field of type RC (R12). -/
def isRc (o : Nat) : Bool := (regRow o).any fun r => r.rc != 0
/-- The offset of the low word of a 64-bit pair (R9). -/
def isLowWord (o : Nat) : Bool := isLow o
/-- A count of words or entries of a sideband message. -/
def isFifoCount (n : Nat) : Bool := isByte n

/-! ### Commands -/

/-- A well-formed command: its operands lie in their ranges, and a row that is a register write has its command bit. -/
def Instr.wf : Instr → Bool
  | .bundleIssue _ us => isUpsets us
  | .resultVisible _ => true
  | .streamRelease _ => true
  | .wakeDelivery _ k => isWaitSlot k
  | .expiryArrival _ k => isWaitSlot k
  | .matrixOpEnd _ => true
  | .runDone _ => true
  | .circuitOpArrival _ => true
  | .scrubStart _ a w => isAccessor a && (wfld SEQ_CORE_CTRL_SCRUB_START w == 1)
  | .scrubComplete _ => true
  | .loadGo _ a w => isAccessor a && (wfld SEQ_CTRL_LOAD_GO w == 1)
  | .loadEnd _ => true
  | .seqCtrlStart _ a w => isAccessor a && (wfld SEQ_CTRL_START w == 1)
  | .runStart _ => true
  | .accessRetire _ e => isEngine e
  | .pageEntryReturn _ e => isEngine e
  | .segmentDecode _ e => isEngine e
  | .dloadGo _ a w => isAccessor a && (wfld STM_CTRL_DLOAD_GO w == 1)
  | .dloadEnd _ => true
  | .hbmTrainTimeout _ k => isStack k
  | .hbmVerifyEnd _ k _ ch => isStack k && isHbmChannel ch
  | .stackLost _ k => isStack k
  | .refresh _ k us => isStack k && isUpsets us
  | .recalibration _ k => isStack k
  | .recalibrationEnd _ k => isStack k
  | .incrementApply _ => true
  | .watchExpiry _ e => isWatch e
  | .groupRebase _ e => isWatch e
  | .zeroGo _ a w => isAccessor a && (wfld TLY_CTRL_ZERO_GO w == 1)
  | .tlyTrWrite _ a n _ => isAccessor a && isPlot n
  | .tlyWrWrite _ a n _ => isAccessor a && isPlot n
  | .flitSend _ p l => isPort p && isLink l
  | .controlFrameSend _ p l => isPort p && isLink l
  | .flitReceive _ p l words frame => isPort p && isLink l && isCodewords words && isFrame frame
  | .flow _ p l frame => isPort p && isLink l && isFrame frame
  | .hello _ p l frame => isPort p && isLink l && isFrame frame
  | .laneFail _ p l count frame => isPort p && isLink l && isCount count && isFrame frame
  | .laneMap _ p l frame => isPort p && isLink l && isFrame frame
  | .laneMapApply _ p l count => isPort p && isLink l && isCount count
  | .retryTimeout _ p l => isPort p && isLink l
  | .laneGiveUp _ p l dir lane _ count => isPort p && isLink l && isDir dir && isLane lane && isCount count
  | .lossOfLight _ p f => isPort p && isXcvr f
  | .transferStart _ p _ => isPort p
  | .nopostTimeout _ p l => isPort p && isLink l
  | .linkTrainingAdvance _ p l _ => isPort p && isLink l
  | .trainingTimeout _ p l => isPort p && isLink l
  | .rehello _ a p w => isAccessor a && isPort p && (wfld (LNK_PORT_CTRL_REHELLO p) w == 1)
  | .quarantineRehello _ p => isPort p
  | .entryWrite _ a b e _ _ => isAccessor a && isBank b && isEntry e
  | .stageGo _ a w => isAccessor a && (wfld CSC_CTRL_STAGE_GO w == 1)
  | .checkingEnd _ b => isBank b
  | .replanGo _ a w => isAccessor a && (wfld CSC_CTRL_REPLAN_GO w == 1)
  | .replanNow _ a w => isAccessor a && (wfld CSC_CTRL_REPLAN_NOW w == 1)
  | .replanStart _ => true
  | .replanPhase _ spares counts => isSpares spares && isCounts counts
  | .unfence _ a w => isAccessor a && (wfld CSC_CTRL_UNFENCE w == 1)
  | .cscTrigArm _ a w => isAccessor a && (wfld CSC_TRIG_CTRL_ARM w == 1)
  | .cscTrigDisarm _ a w => isAccessor a && (wfld CSC_TRIG_CTRL_DISARM w == 1)
  | .fire _ => true
  | .guardSwitch _ counts => isCounts counts
  | .guardEnd _ unlocked counts => isLinks unlocked && isCounts counts
  | .uncachedAcquireTimeout _ p l => isPort p && isLink l
  | .rerouteDone _ b => isBank b
  | .bankEnable _ a p w => isAccessor a && isPort p && (wfld (OPT_BANK_CTRL_ENABLE p) w == 1)
  | .bankDisable _ a p w => isAccessor a && isPort p && (wfld (OPT_BANK_CTRL_ENABLE p) w == 0)
  | .laserLock _ p w => isPort p && isGrid w
  | .laserStartTimeout _ p w counts => isPort p && isGrid w && isCounts counts
  | .comparatorTrip _ p j counts => isPort p && isLaser j && isCounts counts
  | .driverFault _ p j counts => isPort p && isLaser j && isCounts counts
  | .spareLock _ p sp => isPort p && isSpare sp
  | .spareTuneTimeout _ p sp _ => isPort p && isSpare sp
  | .monitorScan _ ch _ => isChannel ch
  | .measGo _ a w => isAccessor a && (wfld OPT_MEAS_CTRL_GO w == 1)
  | .measDone _ _ => true
  | .ageStep _ p j _ counts => isPort p && isLaser j && isCounts counts
  | .frontEndTick _ k sample => isLoop k && isHalf sample
  | .loopUpdate _ k power _ counts => isLoop k && isHalf power && isCounts counts
  | .windowEnd _ k counts => isLoop k && isCounts counts
  | .loopEnable _ k _ => isLoop k
  | .loopDisable _ k => isLoop k
  | .homingStep _ k _ counts => isLoop k && isCounts counts
  | .loopHold _ k => isLoop k
  | .loopRelease _ k => isLoop k
  | .anlEnable _ a _ => isAccessor a
  | .anlSwap _ a w => isAccessor a && (wfld ANL_CTRL_SWAP w != 0)
  | .coefSwapApply _ c => isClass c
  | .setptWrite _ a _ => isAccessor a
  | .selftest _ a w => isAccessor a && (wfld ANL_CAL_CTRL_GO w == 1 && wfld ANL_CAL_CTRL_KIND w == 0)
  | .gaincal _ a w => isAccessor a && (wfld ANL_CAL_CTRL_GO w == 1 && wfld ANL_CAL_CTRL_KIND w == 1)
  | .calStart _ => true
  | .calDone _ lanes loops => lanes.all (fun i => decide (i < 918)) && loops.all isLoop
  | .trimRequest _ a off _ => isAccessor a && isTrim off
  | .noWork _ => true
  | .sync _ p l cell => isPort p && isLink l && isCell cell
  | .announce _ p l cell => isPort p && isLink l && isCell cell
  | .localSync _ p l cell => isPort p && isLink l && isCell cell
  | .syncSend _ => true
  | .syncTimeout _ => true
  | .skewEvaluation _ => true
  | .stepApply _ => true
  | .setMst _ a w => isAccessor a && (wfld SDL_CTRL_SET_MST w == 1)
  | .mstFromTod _ a w => isAccessor a && (wfld SDL_CTRL_MST_FROM_TOD w == 1)
  | .setTod _ a w => isAccessor a && (wfld SDL_CTRL_SET_TOD w == 1)
  | .vtZero _ a w => isAccessor a && (wfld SDL_CTRL_VT_ZERO w == 1)
  | .svcSync _ domain _ seq log _ _ _ => isByte domain && isHalf seq && isLog log
  | .svcFollowUp _ domain _ seq _ _ => isByte domain && isHalf seq
  | .svcDelayResp _ domain _ seq _ _ _ => isByte domain && isHalf seq
  | .svcAnnounce _ domain _ data _ => isByte domain && isClock data
  | .announceTimeout _ => true
  | .slotStart _ => true
  | .drainStart _ => true
  | .sendStop _ => true
  | .receiveClose _ => true
  | .sliceStart _ counts => isCounts counts
  | .tpOutFire _ n => isPin n
  | .tpOutFall _ n => isPin n
  | .tpoEnable _ a n w => isAccessor a && isPin n && (wfld (SDL_TPO_CTRL_ENABLE n) w == 1)
  | .tpInCapture _ n => isInPin n
  | .sqDoorbell _ n q _ => isPlot n && isSq q
  | .cqDoorbell _ n _ => isPlot n
  | .queueEnable _ n _ => isPlot n
  | .grantStep _ n => isPlot n
  | .commandFetch _ n q => isPlot n && isSq q
  | .commandStart _ n q => isPlot n && isSq q
  | .copyDone _ n q _ => isPlot n && isSq q
  | .readCompletion _ f id _ => isFunc f && isTag id
  | .coalesceTimeout _ n => isPlot n
  | .bmeClear _ f cfg => isFunc f && isPci cfg
  | .bmeSet _ f cfg => isFunc f && isPci cfg
  | .flr _ f => isFunc f
  | .tagTimeout _ f id => isFunc f && isTag id
  | .linkUp _ rate width _ tagBits => isByte rate && isByte width && isByte tagBits
  | .linkRateChange _ rate width _ tagBits => isByte rate && isByte width && isByte tagBits
  | .linkDown _ => true
  | .perstN _ => true
  | .apertureAccess _ x write n => isAperture x ((write.map (·.length)).getD n)
  | .read32 _ off count => isOffset off && isFifoCount count
  | .write32 _ off _ counts => isOffset off && isCounts counts
  | .readFifo _ count => isFifoCount count
  | .getStatus _ => true
  | .setEndpointId _ op eid => isByte op && isByte eid
  | .getEndpointId _ => true
  | .getMctpVersionSupport _ type => isByte type
  | .getMessageTypeSupport _ => true
  | .getVendorDefinedMessageSupport _ sel => isByte sel
  | .entdaa _ addr => isByte addr
  | .openPlot _ a n w => isAccessor a && isPlot n && (wfld (PLOT_CTRL_OPEN n) w == 1)
  | .closePlot _ a n w => isAccessor a && isPlot n && (wfld (PLOT_CTRL_CLOSE n) w == 1)
  | .teardown _ n => isPlot n
  | .isoEn _ a _ => isAccessor a
  | .meteringBoundary _ => true
  | .pendingRecordWrite _ => true
  | .abortComplete _ n => isPlot n
  | .haltAll _ a w => isAccessor a && (wfld GLB_HALT_CTRL_HALT_ALL w == 1)
  | .haltAllComplete _ => true
  | .resume _ a w => isAccessor a && (wfld GLB_HALT_CTRL_RESUME w == 1)
  | .sensorRead _ temps => isTemps temps
  | .tripOpticsOff _ => true
  | .watchdogExpiry _ => true
  | .chousRestart _ => true
  | .injArm _ a w counts => isAccessor a && isCounts counts && (wfld GLB_INJ_CTRL_ARM w == 1)
  | .injDoneClear _ a w => isAccessor a && (wfld GLB_INJ_CTRL_DONE w == 1)
  | .snapNow _ a w => isAccessor a && (wfld HMK_CTRL_SNAP_NOW w == 1)
  | .periodic _ => true
  | .snapshotComplete _ _ => true
  | .flushHoldoffEnd _ => true
  | .flushRecordCommit _ => true
  | .flushPause _ => true
  | .flushResume _ => true
  | .hallmarkClearEnd _ => true
  | .boot _ => true
  | .slotCheckEnd _ => true
  | .componentReady _ id => isComponent id
  | .componentLoadTimeout _ => true
  | .confirmation _ => true
  | .trialTimeout _ => true
  | .confirm _ a w => isAccessor a && (wfld FWU_CTRL_CONFIRM w == 1)
  | .reject _ a w => isAccessor a && (wfld FWU_CTRL_REJECT w == 1)
  | .crucible _ a w => isAccessor a && (wfld FWU_CTRL_CRUCIBLE w == 1)
  | .activate _ a w => isAccessor a && (wfld FWU_CTRL_ACTIVATE w == 1)
  | .fwStatus _ p seq => isPeer p && isSeq seq
  | .fwBegin _ p seq _ header => isPeer p && isSeq seq && isHeader header
  | .fwData _ p seq _ data => isPeer p && isSeq seq && decide (data.length ≤ 1024)
  | .fwEnd _ p seq _ => isPeer p && isSeq seq
  | .updateVerifyEnd _ _ => true
  | .updateTimeout _ => true
  | .fwActivate _ p seq _ => isPeer p && isSeq seq
  | .fwAbort _ p seq => isPeer p && isSeq seq
  | .calRead _ p seq _ _ => isPeer p && isSeq seq
  | .calWrite _ p seq _ _ => isPeer p && isSeq seq
  | .planStage _ p seq bank entries digest => isPeer p && isSeq seq && isBank bank && isEntries entries && isDigest digest
  | .planReport _ p seq _ bank _ digest => isPeer p && isSeq seq && isBank bank && isDigest digest
  | .rackConfirm _ p seq _ bank => isPeer p && isSeq seq && isBank bank
  | .fireTime _ p seq bank _ => isPeer p && isSeq seq && isBank bank
  | .mramRead _ p seq _ _ => isPeer p && isSeq seq
  | .arpRequest _ _ _ _ => true
  | .icmpEcho _ _ => true
  | .powerOnReset _ => true
  | .pinReset _ _ => true
  | .fwReset _ a w => isAccessor a && (wfld GLB_RESET_CTRL_FW_RESET w == 1)
  | .firmwareReset _ _ => true
  | .refValid _ => true
  | .refLost _ => true
  | .pwrfailFall _ => true
  | .bkpFail _ => true
  | .powerDown _ => true
  | .powerDownStep _ => true
  | .computeHbm _ => true
  | .sideband _ => true
  | .optics _ cal => isCal cal
  | .bringUpPlan _ => true
  | .ready _ => true
  | .designationWrite _ off _ => isDesignation off
  | .registerWrite _ a off _ counts => isAccessor a && isOffset off && isCounts counts
  | .rcRead _ a off => isAccessor a && isRc off
  | .lowWordRead _ a off => isAccessor a && isLowWord off
  | .unalignedAccess _ a off _ => isAccessor a && isOffset off
  | .reAcquisition _ p l => isPort p && isLink l
  | .refMismatch _ p l => isPort p && isLink l
  | .completionTimeout _ f id => isFunc f && isTag id
  | .numvfsWrite _ num _ _ => isHalf num
  | .msixEnable _ f => isFunc f
  | .powerLoss _ => true
  | .pwrfailRise _ => true
  | .resetRelease _ _ addr _ => isByte addr
  | .transceiverFault _ p x dir => isPort p && isXcvr x && isDir dir
  | .stackIdentityRead _ k _ rates => isStack k && isRates rates
  | .unknownType _ p seq type _ => isPeer p && isSeq seq && isType type
  | .sgmiiLinkStatus _ _ _ => true

/-- The instant of a command. -/
def Instr.at : Instr → Nat
  | .bundleIssue t _ => t
  | .resultVisible t => t
  | .streamRelease t => t
  | .wakeDelivery t _ => t
  | .expiryArrival t _ => t
  | .matrixOpEnd t => t
  | .runDone t => t
  | .circuitOpArrival t => t
  | .scrubStart t _ _ => t
  | .scrubComplete t => t
  | .loadGo t _ _ => t
  | .loadEnd t => t
  | .seqCtrlStart t _ _ => t
  | .runStart t => t
  | .accessRetire t _ => t
  | .pageEntryReturn t _ => t
  | .segmentDecode t _ => t
  | .dloadGo t _ _ => t
  | .dloadEnd t => t
  | .hbmTrainTimeout t _ => t
  | .hbmVerifyEnd t _ _ _ => t
  | .stackLost t _ => t
  | .refresh t _ _ => t
  | .recalibration t _ => t
  | .recalibrationEnd t _ => t
  | .incrementApply t => t
  | .watchExpiry t _ => t
  | .groupRebase t _ => t
  | .zeroGo t _ _ => t
  | .tlyTrWrite t _ _ _ => t
  | .tlyWrWrite t _ _ _ => t
  | .flitSend t _ _ => t
  | .controlFrameSend t _ _ => t
  | .flitReceive t _ _ _ _ => t
  | .flow t _ _ _ => t
  | .hello t _ _ _ => t
  | .laneFail t _ _ _ _ => t
  | .laneMap t _ _ _ => t
  | .laneMapApply t _ _ _ => t
  | .retryTimeout t _ _ => t
  | .laneGiveUp t _ _ _ _ _ _ => t
  | .lossOfLight t _ _ => t
  | .transferStart t _ _ => t
  | .nopostTimeout t _ _ => t
  | .linkTrainingAdvance t _ _ _ => t
  | .trainingTimeout t _ _ => t
  | .rehello t _ _ _ => t
  | .quarantineRehello t _ => t
  | .entryWrite t _ _ _ _ _ => t
  | .stageGo t _ _ => t
  | .checkingEnd t _ => t
  | .replanGo t _ _ => t
  | .replanNow t _ _ => t
  | .replanStart t => t
  | .replanPhase t _ _ => t
  | .unfence t _ _ => t
  | .cscTrigArm t _ _ => t
  | .cscTrigDisarm t _ _ => t
  | .fire t => t
  | .guardSwitch t _ => t
  | .guardEnd t _ _ => t
  | .uncachedAcquireTimeout t _ _ => t
  | .rerouteDone t _ => t
  | .bankEnable t _ _ _ => t
  | .bankDisable t _ _ _ => t
  | .laserLock t _ _ => t
  | .laserStartTimeout t _ _ _ => t
  | .comparatorTrip t _ _ _ => t
  | .driverFault t _ _ _ => t
  | .spareLock t _ _ => t
  | .spareTuneTimeout t _ _ _ => t
  | .monitorScan t _ _ => t
  | .measGo t _ _ => t
  | .measDone t _ => t
  | .ageStep t _ _ _ _ => t
  | .frontEndTick t _ _ => t
  | .loopUpdate t _ _ _ _ => t
  | .windowEnd t _ _ => t
  | .loopEnable t _ _ => t
  | .loopDisable t _ => t
  | .homingStep t _ _ _ => t
  | .loopHold t _ => t
  | .loopRelease t _ => t
  | .anlEnable t _ _ => t
  | .anlSwap t _ _ => t
  | .coefSwapApply t _ => t
  | .setptWrite t _ _ => t
  | .selftest t _ _ => t
  | .gaincal t _ _ => t
  | .calStart t => t
  | .calDone t _ _ => t
  | .trimRequest t _ _ _ => t
  | .noWork t => t
  | .sync t _ _ _ => t
  | .announce t _ _ _ => t
  | .localSync t _ _ _ => t
  | .syncSend t => t
  | .syncTimeout t => t
  | .skewEvaluation t => t
  | .stepApply t => t
  | .setMst t _ _ => t
  | .mstFromTod t _ _ => t
  | .setTod t _ _ => t
  | .vtZero t _ _ => t
  | .svcSync t _ _ _ _ _ _ _ => t
  | .svcFollowUp t _ _ _ _ _ => t
  | .svcDelayResp t _ _ _ _ _ _ => t
  | .svcAnnounce t _ _ _ _ => t
  | .announceTimeout t => t
  | .slotStart t => t
  | .drainStart t => t
  | .sendStop t => t
  | .receiveClose t => t
  | .sliceStart t _ => t
  | .tpOutFire t _ => t
  | .tpOutFall t _ => t
  | .tpoEnable t _ _ _ => t
  | .tpInCapture t _ => t
  | .sqDoorbell t _ _ _ => t
  | .cqDoorbell t _ _ => t
  | .queueEnable t _ _ => t
  | .grantStep t _ => t
  | .commandFetch t _ _ => t
  | .commandStart t _ _ => t
  | .copyDone t _ _ _ => t
  | .readCompletion t _ _ _ => t
  | .coalesceTimeout t _ => t
  | .bmeClear t _ _ => t
  | .bmeSet t _ _ => t
  | .flr t _ => t
  | .tagTimeout t _ _ => t
  | .linkUp t _ _ _ _ => t
  | .linkRateChange t _ _ _ _ => t
  | .linkDown t => t
  | .perstN t => t
  | .apertureAccess t _ _ _ => t
  | .read32 t _ _ => t
  | .write32 t _ _ _ => t
  | .readFifo t _ => t
  | .getStatus t => t
  | .setEndpointId t _ _ => t
  | .getEndpointId t => t
  | .getMctpVersionSupport t _ => t
  | .getMessageTypeSupport t => t
  | .getVendorDefinedMessageSupport t _ => t
  | .entdaa t _ => t
  | .openPlot t _ _ _ => t
  | .closePlot t _ _ _ => t
  | .teardown t _ => t
  | .isoEn t _ _ => t
  | .meteringBoundary t => t
  | .pendingRecordWrite t => t
  | .abortComplete t _ => t
  | .haltAll t _ _ => t
  | .haltAllComplete t => t
  | .resume t _ _ => t
  | .sensorRead t _ => t
  | .tripOpticsOff t => t
  | .watchdogExpiry t => t
  | .chousRestart t => t
  | .injArm t _ _ _ => t
  | .injDoneClear t _ _ => t
  | .snapNow t _ _ => t
  | .periodic t => t
  | .snapshotComplete t _ => t
  | .flushHoldoffEnd t => t
  | .flushRecordCommit t => t
  | .flushPause t => t
  | .flushResume t => t
  | .hallmarkClearEnd t => t
  | .boot t => t
  | .slotCheckEnd t => t
  | .componentReady t _ => t
  | .componentLoadTimeout t => t
  | .confirmation t => t
  | .trialTimeout t => t
  | .confirm t _ _ => t
  | .reject t _ _ => t
  | .crucible t _ _ => t
  | .activate t _ _ => t
  | .fwStatus t _ _ => t
  | .fwBegin t _ _ _ _ => t
  | .fwData t _ _ _ _ => t
  | .fwEnd t _ _ _ => t
  | .updateVerifyEnd t _ => t
  | .updateTimeout t => t
  | .fwActivate t _ _ _ => t
  | .fwAbort t _ _ => t
  | .calRead t _ _ _ _ => t
  | .calWrite t _ _ _ _ => t
  | .planStage t _ _ _ _ _ => t
  | .planReport t _ _ _ _ _ _ => t
  | .rackConfirm t _ _ _ _ => t
  | .fireTime t _ _ _ _ => t
  | .mramRead t _ _ _ _ => t
  | .arpRequest t _ _ _ => t
  | .icmpEcho t _ => t
  | .powerOnReset t => t
  | .pinReset t _ => t
  | .fwReset t _ _ => t
  | .firmwareReset t _ => t
  | .refValid t => t
  | .refLost t => t
  | .pwrfailFall t => t
  | .bkpFail t => t
  | .powerDown t => t
  | .powerDownStep t => t
  | .computeHbm t => t
  | .sideband t => t
  | .optics t _ => t
  | .bringUpPlan t => t
  | .ready t => t
  | .designationWrite t _ _ => t
  | .registerWrite t _ _ _ _ => t
  | .rcRead t _ _ => t
  | .lowWordRead t _ _ => t
  | .unalignedAccess t _ _ _ => t
  | .reAcquisition t _ _ => t
  | .refMismatch t _ _ => t
  | .completionTimeout t _ _ => t
  | .numvfsWrite t _ _ _ => t
  | .msixEnable t _ => t
  | .powerLoss t => t
  | .pwrfailRise t => t
  | .resetRelease t _ _ _ => t
  | .transceiverFault t _ _ _ => t
  | .stackIdentityRead t _ _ _ => t
  | .unknownType t _ _ _ _ => t
  | .sgmiiLinkStatus t _ _ => t

/-- The mnemonic of a command, as the spec's table spells it. -/
def Instr.mnemonic : Instr → String
  | .bundleIssue _ _ => "BUNDLE_ISSUE"
  | .resultVisible _ => "RESULT_VISIBLE"
  | .streamRelease _ => "STREAM_RELEASE"
  | .wakeDelivery _ _ => "WAKE_DELIVERY"
  | .expiryArrival _ _ => "EXPIRY_ARRIVAL"
  | .matrixOpEnd _ => "MATRIX_OP_END"
  | .runDone _ => "RUN_DONE"
  | .circuitOpArrival _ => "CIRCUIT_OP_ARRIVAL"
  | .scrubStart _ _ _ => "SCRUB_START"
  | .scrubComplete _ => "SCRUB_COMPLETE"
  | .loadGo _ _ _ => "LOAD_GO"
  | .loadEnd _ => "LOAD_END"
  | .seqCtrlStart _ _ _ => "SEQ_CTRL_START"
  | .runStart _ => "RUN_START"
  | .accessRetire _ _ => "ACCESS_RETIRE"
  | .pageEntryReturn _ _ => "PAGE_ENTRY_RETURN"
  | .segmentDecode _ _ => "SEGMENT_DECODE"
  | .dloadGo _ _ _ => "DLOAD_GO"
  | .dloadEnd _ => "DLOAD_END"
  | .hbmTrainTimeout _ _ => "HBM_TRAIN_TIMEOUT"
  | .hbmVerifyEnd _ _ _ _ => "HBM_VERIFY_END"
  | .stackLost _ _ => "STACK_LOST"
  | .refresh _ _ _ => "REFRESH"
  | .recalibration _ _ => "RECALIBRATION"
  | .recalibrationEnd _ _ => "RECALIBRATION_END"
  | .incrementApply _ => "INCREMENT_APPLY"
  | .watchExpiry _ _ => "WATCH_EXPIRY"
  | .groupRebase _ _ => "GROUP_REBASE"
  | .zeroGo _ _ _ => "ZERO_GO"
  | .tlyTrWrite _ _ _ _ => "TLY_TR_WRITE"
  | .tlyWrWrite _ _ _ _ => "TLY_WR_WRITE"
  | .flitSend _ _ _ => "FLIT_SEND"
  | .controlFrameSend _ _ _ => "CONTROL_FRAME_SEND"
  | .flitReceive _ _ _ _ _ => "FLIT_RECEIVE"
  | .flow _ _ _ _ => "FLOW"
  | .hello _ _ _ _ => "HELLO"
  | .laneFail _ _ _ _ _ => "LANE_FAIL"
  | .laneMap _ _ _ _ => "LANE_MAP"
  | .laneMapApply _ _ _ _ => "LANE_MAP_APPLY"
  | .retryTimeout _ _ _ => "RETRY_TIMEOUT"
  | .laneGiveUp _ _ _ _ _ _ _ => "LANE_GIVE_UP"
  | .lossOfLight _ _ _ => "LOSS_OF_LIGHT"
  | .transferStart _ _ _ => "TRANSFER_START"
  | .nopostTimeout _ _ _ => "NOPOST_TIMEOUT"
  | .linkTrainingAdvance _ _ _ _ => "LINK_TRAINING_ADVANCE"
  | .trainingTimeout _ _ _ => "TRAINING_TIMEOUT"
  | .rehello _ _ _ _ => "REHELLO"
  | .quarantineRehello _ _ => "QUARANTINE_REHELLO"
  | .entryWrite _ _ _ _ _ _ => "ENTRY_WRITE"
  | .stageGo _ _ _ => "STAGE_GO"
  | .checkingEnd _ _ => "CHECKING_END"
  | .replanGo _ _ _ => "REPLAN_GO"
  | .replanNow _ _ _ => "REPLAN_NOW"
  | .replanStart _ => "REPLAN_START"
  | .replanPhase _ _ _ => "REPLAN_PHASE"
  | .unfence _ _ _ => "UNFENCE"
  | .cscTrigArm _ _ _ => "CSC_TRIG_ARM"
  | .cscTrigDisarm _ _ _ => "CSC_TRIG_DISARM"
  | .fire _ => "FIRE"
  | .guardSwitch _ _ => "GUARD_SWITCH"
  | .guardEnd _ _ _ => "GUARD_END"
  | .uncachedAcquireTimeout _ _ _ => "UNCACHED_ACQUIRE_TIMEOUT"
  | .rerouteDone _ _ => "REROUTE_DONE"
  | .bankEnable _ _ _ _ => "BANK_ENABLE"
  | .bankDisable _ _ _ _ => "BANK_DISABLE"
  | .laserLock _ _ _ => "LASER_LOCK"
  | .laserStartTimeout _ _ _ _ => "LASER_START_TIMEOUT"
  | .comparatorTrip _ _ _ _ => "COMPARATOR_TRIP"
  | .driverFault _ _ _ _ => "DRIVER_FAULT"
  | .spareLock _ _ _ => "SPARE_LOCK"
  | .spareTuneTimeout _ _ _ _ => "SPARE_TUNE_TIMEOUT"
  | .monitorScan _ _ _ => "MONITOR_SCAN"
  | .measGo _ _ _ => "MEAS_GO"
  | .measDone _ _ => "MEAS_DONE"
  | .ageStep _ _ _ _ _ => "AGE_STEP"
  | .frontEndTick _ _ _ => "FRONT_END_TICK"
  | .loopUpdate _ _ _ _ _ => "LOOP_UPDATE"
  | .windowEnd _ _ _ => "WINDOW_END"
  | .loopEnable _ _ _ => "LOOP_ENABLE"
  | .loopDisable _ _ => "LOOP_DISABLE"
  | .homingStep _ _ _ _ => "HOMING_STEP"
  | .loopHold _ _ => "LOOP_HOLD"
  | .loopRelease _ _ => "LOOP_RELEASE"
  | .anlEnable _ _ _ => "ANL_ENABLE"
  | .anlSwap _ _ _ => "ANL_SWAP"
  | .coefSwapApply _ _ => "COEF_SWAP_APPLY"
  | .setptWrite _ _ _ => "SETPT_WRITE"
  | .selftest _ _ _ => "SELFTEST"
  | .gaincal _ _ _ => "GAINCAL"
  | .calStart _ => "CAL_START"
  | .calDone _ _ _ => "CAL_DONE"
  | .trimRequest _ _ _ _ => "TRIM_REQUEST"
  | .noWork _ => "NO_WORK"
  | .sync _ _ _ _ => "SYNC"
  | .announce _ _ _ _ => "ANNOUNCE"
  | .localSync _ _ _ _ => "LOCAL_SYNC"
  | .syncSend _ => "SYNC_SEND"
  | .syncTimeout _ => "SYNC_TIMEOUT"
  | .skewEvaluation _ => "SKEW_EVALUATION"
  | .stepApply _ => "STEP_APPLY"
  | .setMst _ _ _ => "SET_MST"
  | .mstFromTod _ _ _ => "MST_FROM_TOD"
  | .setTod _ _ _ => "SET_TOD"
  | .vtZero _ _ _ => "VT_ZERO"
  | .svcSync _ _ _ _ _ _ _ _ => "SVC_SYNC"
  | .svcFollowUp _ _ _ _ _ _ => "SVC_FOLLOW_UP"
  | .svcDelayResp _ _ _ _ _ _ _ => "SVC_DELAY_RESP"
  | .svcAnnounce _ _ _ _ _ => "SVC_ANNOUNCE"
  | .announceTimeout _ => "ANNOUNCE_TIMEOUT"
  | .slotStart _ => "SLOT_START"
  | .drainStart _ => "DRAIN_START"
  | .sendStop _ => "SEND_STOP"
  | .receiveClose _ => "RECEIVE_CLOSE"
  | .sliceStart _ _ => "SLICE_START"
  | .tpOutFire _ _ => "TP_OUT_FIRE"
  | .tpOutFall _ _ => "TP_OUT_FALL"
  | .tpoEnable _ _ _ _ => "TPO_ENABLE"
  | .tpInCapture _ _ => "TP_IN_CAPTURE"
  | .sqDoorbell _ _ _ _ => "SQ_DOORBELL"
  | .cqDoorbell _ _ _ => "CQ_DOORBELL"
  | .queueEnable _ _ _ => "QUEUE_ENABLE"
  | .grantStep _ _ => "GRANT_STEP"
  | .commandFetch _ _ _ => "COMMAND_FETCH"
  | .commandStart _ _ _ => "COMMAND_START"
  | .copyDone _ _ _ _ => "COPY_DONE"
  | .readCompletion _ _ _ _ => "READ_COMPLETION"
  | .coalesceTimeout _ _ => "COALESCE_TIMEOUT"
  | .bmeClear _ _ _ => "BME_CLEAR"
  | .bmeSet _ _ _ => "BME_SET"
  | .flr _ _ => "FLR"
  | .tagTimeout _ _ _ => "TAG_TIMEOUT"
  | .linkUp _ _ _ _ _ => "LINK_UP"
  | .linkRateChange _ _ _ _ _ => "LINK_RATE_CHANGE"
  | .linkDown _ => "LINK_DOWN"
  | .perstN _ => "PERST_N"
  | .apertureAccess _ _ _ _ => "APERTURE_ACCESS"
  | .read32 _ _ _ => "READ32"
  | .write32 _ _ _ _ => "WRITE32"
  | .readFifo _ _ => "READ_FIFO"
  | .getStatus _ => "GET_STATUS"
  | .setEndpointId _ _ _ => "SET_ENDPOINT_ID"
  | .getEndpointId _ => "GET_ENDPOINT_ID"
  | .getMctpVersionSupport _ _ => "GET_MCTP_VERSION_SUPPORT"
  | .getMessageTypeSupport _ => "GET_MESSAGE_TYPE_SUPPORT"
  | .getVendorDefinedMessageSupport _ _ => "GET_VENDOR_DEFINED_MESSAGE_SUPPORT"
  | .entdaa _ _ => "ENTDAA"
  | .openPlot _ _ _ _ => "OPEN"
  | .closePlot _ _ _ _ => "CLOSE"
  | .teardown _ _ => "TEARDOWN"
  | .isoEn _ _ _ => "ISO_EN"
  | .meteringBoundary _ => "METERING_BOUNDARY"
  | .pendingRecordWrite _ => "PENDING_RECORD_WRITE"
  | .abortComplete _ _ => "ABORT_COMPLETE"
  | .haltAll _ _ _ => "HALT_ALL"
  | .haltAllComplete _ => "HALT_ALL_COMPLETE"
  | .resume _ _ _ => "RESUME"
  | .sensorRead _ _ => "SENSOR_READ"
  | .tripOpticsOff _ => "TRIP_OPTICS_OFF"
  | .watchdogExpiry _ => "WATCHDOG_EXPIRY"
  | .chousRestart _ => "CHOUS_RESTART"
  | .injArm _ _ _ _ => "INJ_ARM"
  | .injDoneClear _ _ _ => "INJ_DONE_CLEAR"
  | .snapNow _ _ _ => "SNAP_NOW"
  | .periodic _ => "PERIODIC"
  | .snapshotComplete _ _ => "SNAPSHOT_COMPLETE"
  | .flushHoldoffEnd _ => "FLUSH_HOLDOFF_END"
  | .flushRecordCommit _ => "FLUSH_RECORD_COMMIT"
  | .flushPause _ => "FLUSH_PAUSE"
  | .flushResume _ => "FLUSH_RESUME"
  | .hallmarkClearEnd _ => "HALLMARK_CLEAR_END"
  | .boot _ => "BOOT"
  | .slotCheckEnd _ => "SLOT_CHECK_END"
  | .componentReady _ _ => "COMPONENT_READY"
  | .componentLoadTimeout _ => "COMPONENT_LOAD_TIMEOUT"
  | .confirmation _ => "CONFIRMATION"
  | .trialTimeout _ => "TRIAL_TIMEOUT"
  | .confirm _ _ _ => "CONFIRM"
  | .reject _ _ _ => "REJECT"
  | .crucible _ _ _ => "CRUCIBLE"
  | .activate _ _ _ => "ACTIVATE"
  | .fwStatus _ _ _ => "STATUS"
  | .fwBegin _ _ _ _ _ => "FW_BEGIN"
  | .fwData _ _ _ _ _ => "FW_DATA"
  | .fwEnd _ _ _ _ => "FW_END"
  | .updateVerifyEnd _ _ => "UPDATE_VERIFY_END"
  | .updateTimeout _ => "UPDATE_TIMEOUT"
  | .fwActivate _ _ _ _ => "FW_ACTIVATE"
  | .fwAbort _ _ _ => "FW_ABORT"
  | .calRead _ _ _ _ _ => "CAL_READ"
  | .calWrite _ _ _ _ _ => "CAL_WRITE"
  | .planStage _ _ _ _ _ _ => "PLAN_STAGE"
  | .planReport _ _ _ _ _ _ _ => "PLAN_REPORT"
  | .rackConfirm _ _ _ _ _ => "RACK_CONFIRM"
  | .fireTime _ _ _ _ _ => "FIRE_TIME"
  | .mramRead _ _ _ _ _ => "MRAM_READ"
  | .arpRequest _ _ _ _ => "ARP_REQUEST"
  | .icmpEcho _ _ => "ICMP_ECHO"
  | .powerOnReset _ => "POWER_ON_RESET"
  | .pinReset _ _ => "PIN_RESET"
  | .fwReset _ _ _ => "FW_RESET"
  | .firmwareReset _ _ => "FIRMWARE_RESET"
  | .refValid _ => "REF_VALID"
  | .refLost _ => "REF_LOST"
  | .pwrfailFall _ => "PWRFAIL_FALL"
  | .bkpFail _ => "BKP_FAIL"
  | .powerDown _ => "POWER_DOWN"
  | .powerDownStep _ => "POWER_DOWN_STEP"
  | .computeHbm _ => "COMPUTE_HBM"
  | .sideband _ => "SIDEBAND"
  | .optics _ _ => "OPTICS"
  | .bringUpPlan _ => "BRING_UP_PLAN"
  | .ready _ => "READY"
  | .designationWrite _ _ _ => "DESIGNATION_WRITE"
  | .registerWrite _ _ _ _ _ => "REGISTER_WRITE"
  | .rcRead _ _ _ => "RC_READ"
  | .lowWordRead _ _ _ => "LOW_WORD_READ"
  | .unalignedAccess _ _ _ _ => "UNALIGNED_ACCESS"
  | .reAcquisition _ _ _ => "RE_ACQUISITION"
  | .refMismatch _ _ _ => "REF_MISMATCH"
  | .completionTimeout _ _ _ => "COMPLETION_TIMEOUT"
  | .numvfsWrite _ _ _ _ => "NUMVFS_WRITE"
  | .msixEnable _ _ => "MSIX_ENABLE"
  | .powerLoss _ => "POWER_LOSS"
  | .pwrfailRise _ => "PWRFAIL_RISE"
  | .resetRelease _ _ _ _ => "RESET_RELEASE"
  | .transceiverFault _ _ _ _ => "TRANSCEIVER_FAULT"
  | .stackIdentityRead _ _ _ _ => "STACK_IDENTITY_READ"
  | .unknownType _ _ _ _ _ => "UNKNOWN_TYPE"
  | .sgmiiLinkStatus _ _ _ => "SGMII_LINK_STATUS"

end Sys2Proof
end

