-- ==== Sys2Proof/Safety.lean ====
section
/-! DEFINITION. What counts as a sound state: the status registers agree with the units they show, nothing is left of an
earlier command, and the stores are in their canonical form. -/
namespace Sys2Proof.Machine

/-- Every status field shows its unit. -/
def shown (s : State) : Prop := ∀ x ∈ statusFields s, fld x.1 s = x.2

/-- The invariant every step keeps. -/
def Inv (s : State) : Prop := shown s ∧ s.due = []

/-- The memory of the part, byte by byte: its HBM, SRAM, store and registers, each with keys rising, and no pair that holds
its store's default (a byte of HBM unlisted is undefined, so that every listed byte stands). -/
abbrev Memory.wf (s : State) : Prop :=
  rising none s.hbm.byte = true ∧ canon 0 s.hbm.word = true ∧ canon 0 s.cores.sram = true
    ∧ canon 0 s.seq.store = true ∧ canon 0xFF s.nor = true ∧ canon 0 s.mram = true

/-- The part does what commands ask: it is powered and out of reset. -/
abbrev Alive (s : State) : Prop := alive s = true

/-- The state without what reports change: equal parts mean that only reports lie between two states. -/
def unitPart (s : State) : State :=
  { s with
    regs := []
    upds := {}
    out := []
    func := []
    sfifo := []
    sfLost := false
    errAt := none
    due := []
    recFault := {}
    recTrace := {}
    reported := [] }

/-- `u` is `s` at the instant of a command sent at t, and the part does what the command asks. -/
abbrev Awake (t : Nat) (s u : State) : Prop := u = clockTo t s ∧ Alive u

/-- The commands of power and reset, which act on a part in any condition. -/
def isPower : Instr → Bool
  | .powerOnReset .. | .pinReset .. | .firmwareReset .. | .resetRelease .. | .powerLoss .. => true
  | .pwrfailFall .. | .pwrfailRise .. | .bkpFail .. | .flushPause .. | .flushResume .. => true
  | _ => false

/-- Accesses of `a`, not a VF, reach the registers. -/
abbrev Reaches (a : Accessor) (s : State) : Prop := reaches a s = true ∧ ∀ n, a ≠ .vf n

end Sys2Proof.Machine
end

