-- ==== Sys2Proof/Certificates/Slice0/Obligations.lean ====
section
/-! DEFINITION. The statements about the part. -/

open Sys2Proof Sys2Proof.Machine

/-- On a part that is powered and out of reset, MST valid: a BUNDLE_ISSUE in a cycle in which the run is due,
unthrottled, not halted, in no bubble and holding for nothing issues the bundle at pc, after the fetch and the test of
WAIT where the bundle is reached first; a RESULT_VISIBLE lands exactly the results due; a MATRIX_OP_END at the end of
the operation starts the queued one; a STREAM_RELEASE of a bundle that no longer lacks positions lets it issue in the
next cycle. -/
def Obligations.IssueCyclesAnswer : Prop :=
  (∀ (t : Nat) (us : List Upset) (s u w : State) (r : Run), Awake t s u →
    u.seq.run = some r → r.next ≤ cycle u → u.seq.scrubEnd = none → mstValid u = true →
    w = onRun (fun r => { r with next := cycle u + 1 }) (forAll upset us u) →
    (flag GLB_THERM_STATUS_THROTTLE u = false ∨ cycle u % 2 = 0) → replaying r.plot w = false →
    r.halted = false → r.bubble = false → r.stream = false →
    ((r.reached = true ∨ r.rep ≠ 0) → (r.waitSlot = none ∨ r.waitEnd.isSome = true) →
      ∀ b, b = (get 0 (((storeRegion r.plot w).getD (0, 0)).1 + r.pc) w.seq.store).toNat →
        (r.waitSlot.isSome = true ∨ (ctlSlot b).op ≠ 0x22 ∨ r.waited = true ∨ wslot ((ctlSlot b).imm % 64) w = .empty) →
        stmHolds (fun e => heldNow e w) r.plot (smSlot b 0) (smSlot b 1) w = false →
        exec (.bundleIssue t us) s = .next (after u (issueBundle r.plot b w)))
    ∧ (r.reached = false → r.rep = 0 →
      ∀ b f, b = (get 0 (((storeRegion r.plot w).getD (0, 0)).1 + r.pc) w.seq.store).toNat →
        f = fetch r ((storeRegion r.plot w).getD (0, 0)).1 w → f.seq.run.isSome = true →
        exec (.bundleIssue t us) s
          = .next (after u (tryIssue b (onRun (fun r => { r with reached := true }) f)))))
  ∧ (∀ (t : Nat) (s u : State), Awake t s u →
    ∃ v, exec (.resultVisible t) s = .next (after u v)
      ∧ v = forAll landPend (u.cores.pend.filter fun p => decide (p.due ≤ u.seq.ic))
        { u with cores := { u.cores with pend := u.cores.pend.filter fun p => decide (u.seq.ic < p.due) } }
      ∧ v.cores.pend = u.cores.pend.filter fun p => decide (u.seq.ic < p.due))
  ∧ (∀ (t : Nat) (s u : State) (o : MOp), Awake t s u → u.cores.mxDone ≤ u.seq.ic → u.cores.mxRun = some o →
    opD o ≤ u.seq.ic - o.start →
    ∃ v, exec (.matrixOpEnd t) s = .next (after u v) ∧ v.cores.mxQueue = none
      ∧ v.cores.mxRun = u.cores.mxQueue.map fun q => { q with start := u.seq.ic })
  ∧ (∀ (t : Nat) (s u : State) (r : Run) (b : Nat), Awake t s u → u.seq.run = some r → r.stream = true →
    b = (get 0 (((storeRegion r.plot u).getD (0, 0)).1 + r.pc) u.seq.store).toNat →
    stmHolds (fun e => occ e u) r.plot (smSlot b 0) (smSlot b 1) u = false →
    exec (.streamRelease t) s
      = .next (after u (onRun (fun r => { r with
          stream := false, streamEnd := some (cycle u + 1), next := max r.next (cycle u + 1) }) u)))

/-- On a part that is powered and out of reset, with a run in progress that is not a replay: WAKE_DELIVERY of a wake
of the slot's generation to an Armed slot takes the wake away after its capture, makes the slot Woken, changes no
other slot, and lets a bundle that WAITs on it issue two cycles later; EXPIRY_ARRIVAL at an Armed slot makes it
Expired, but where the run WAITs on the slot the run ends with END_CAUSE 3 and the slot is Empty. -/
def Obligations.WaitSlotsAnswer : Prop :=
  (∀ (t k : Nat) (s u w z : State) (r : Run) (x : Wake), Awake t s u → w = tallyRun u → w.seq.run = some r →
    replaying r.plot w = false → wakeFor k false w = some x → z = capEvent 3 r.plot k x.rel x.value [] w →
    get false k z.tally.gen = x.gen → wslot k z = .armed →
    ∃ v, exec (.wakeDelivery t k) s = .next (after u v)
      ∧ v = onRun (fun r => if r.waitSlot = some k ∧ r.waitEnd = none then
          { r with waitEnd := some (cycle z + 2), next := max r.next (cycle z + 2) } else r)
        (setWslot k .woken (dropWake x z))
      ∧ wslot k v = .woken ∧ (∀ j, j ≠ k → wslot j v = wslot j z))
  ∧ (∀ (t k : Nat) (s u : State) (r : Run) (x : Wake), Awake t s u → u.seq.run = some r → wakeFor k true u = some x →
    get false k u.tally.gen = x.gen → wslot k u = .armed →
    (r.waitSlot ≠ some k →
      exec (.expiryArrival t k) s = .next (after u (setWslot k .expired (dropWake x u))))
    ∧ (r.waitSlot = some k →
      exec (.expiryArrival t k) s = .next (after u (runEnd 3 (setWslot k .empty (dropWake x u))))))

/-- On a part that is powered and out of reset, each of LOAD_GO, LOAD_END, SEQ_CTRL_START, RUN_START, RUN_DONE,
SCRUB_START and SCRUB_COMPLETE, under the conditions its rule names, answers a state with exactly its effect: the load
begun or the image in place with DONE, the plot made runnable, the run begun at the image's entry, the run ended with
END_CAUSE 1, the scrub begun for 320 cycles or ended. -/
def Obligations.RunLifeAnswers : Prop :=
  (∀ (t : Nat) (a : Accessor) (w : Word) (s u z : State), Awake t s u → Reaches a u →
    z = setFld SEQ_CTRL_PLOT (wfld SEQ_CTRL_PLOT w) (writeLatches a rSEQ_CTRL u) →
    wfld SEQ_CTRL_LOAD_GO w = 1 → wfld SEQ_CTRL_START w = 0 → z.seq.load = none → runOf (wfld SEQ_CTRL_PLOT w) z = false →
    plotOpen (wfld SEQ_CTRL_PLOT w) z = true → halted z = false → loadsOpen z = true →
    ∃ v, exec (.loadGo t a w) s = .next (after u v)
      ∧ v = hostFirst a rSEQ_CTRL (loadStart (wfld SEQ_CTRL_PLOT w) (reg64 rSEQ_LOAD_SRC_LO rSEQ_LOAD_SRC_HI z) none z)
      ∧ imageOf (wfld SEQ_CTRL_PLOT w) v = none
      ∧ v.seq.load = some ⟨wfld SEQ_CTRL_PLOT w, reg64 rSEQ_LOAD_SRC_LO rSEQ_LOAD_SRC_HI z, none,
          earlyReason (wfld SEQ_CTRL_PLOT w) (reg64 rSEQ_LOAD_SRC_LO rSEQ_LOAD_SRC_HI z) z⟩)
  ∧ (∀ (t : Nat) (s u : State) (l : Load) (img : Image), Awake t s u → u.seq.load = some l →
    isoWindow l.plot u = true → loadPaused l u = false → l.early = 0 → judgeLoad l.plot l.addr (onSeq (fun q => { q with load := none }) u) = .full 0 0 (some img) →
    ∃ v, exec (.loadEnd t) s = .next (after u v) ∧ v.seq.load = none ∧ imageOf l.plot v = some img
      ∧ (∀ m, m ≠ l.plot → imageOf m v = imageOf m u) ∧ v.seq.run = u.seq.run ∧ v.seq.wslot = u.seq.wslot)
  ∧ (∀ (t : Nat) (a : Accessor) (w : Word) (s u z : State), Awake t s u → Reaches a u →
    z = setFld SEQ_CTRL_PLOT (wfld SEQ_CTRL_PLOT w) (writeLatches a rSEQ_CTRL u) →
    wfld SEQ_CTRL_START w = 1 → wfld SEQ_CTRL_LOAD_GO w = 0 → startRefused (wfld SEQ_CTRL_PLOT w) z = none →
    ∃ v, exec (.seqCtrlStart t a w) s = .next (after u v) ∧ v = hostFirst a rSEQ_CTRL (makeRunnable (wfld SEQ_CTRL_PLOT w) none z)
      ∧ isRunnable (wfld SEQ_CTRL_PLOT w) v = true)
  ∧ (∀ (t n : Nat) (s u : State) (img : Image), Awake t s u → u.slice.owner = some n → mayBegin n u = true →
    u.seq.issuedInSlice = false → imageOf n u = some img →
    ∃ v r, exec (.runStart t) s = .next (after u v) ∧ v.seq.run = some r ∧ r.plot = n ∧ r.pc = img.entry ∧ r.idx = 0
      ∧ r.depth = 0 ∧ r.flags = 0 ∧ r.begun = false ∧ cycleAt (u.slice.start + 4400) ≤ r.next ∧ v.seq.wslot = []
      ∧ isRunnable n v = false ∧ v.linkPlot = some n)
  ∧ (∀ (t : Nat) (s u w : State) (r : Run), Awake t s u → w = tallyRun u → w.seq.run = some r → r.halted = true →
    w.cores.pend = [] → w.cores.mxRun = none → openRequests r.plot w = [] → plotTransfers r.plot w = false →
    tallyBusy r.plot w = false →
    exec (.runDone t) s = .next (after u (runEnd 1 w)))
  ∧ (∀ (t : Nat) (a : Accessor) (w : Word) (s u : State), Awake t s u → Reaches a u →
    wfld SEQ_CORE_CTRL_SCRUB_START w = 1 → u.seq.run = none → u.seq.scrubEnd = none → portsIdle u = true →
    ∃ v, exec (.scrubStart t a w) s = .next (after u v)
      ∧ v = hostFirst a rSEQ_CORE_CTRL (scrubBegin (writeLatches a rSEQ_CORE_CTRL u))
      ∧ v.seq.scrubEnd = some (u.now + 3200))
  ∧ (∀ (t e : Nat) (s u : State), Awake t s u → u.seq.scrubEnd = some e → e ≤ u.now → u.slice.owner = none →
    ∃ v, exec (.scrubComplete t) s = .next (after u v) ∧ v = loop engSettle 16 (scrubEnd u) ∧ v.seq.scrubEnd = none)

/-- On a part that is powered and out of reset, in no scrub, on an engine whose stack does not pause: ACCESS_RETIRE moves
the next piece of the engine's first request, a piece outside its window being faulted first, and frees one position; of
a KC4 read it retires one access; PAGE_ENTRY_RETURN gives the first request, where it waits for its page, the page its
entry names, and frees one position; SEGMENT_DECODE decodes the next segment of a KC4 read; each then completes what the
engine has finished. -/
def Obligations.StreamAccessesAnswer : Prop :=
  ∀ (t e : Nat) (s u : State) (r : StmReq) (rs : List StmReq), Awake t s u → u.seq.scrubEnd = none →
    engReqs e u = r :: rs →
    (reqOver r = false → isKc r = false → r.page ≠ .wanted → engPaused e u = false →
      exec (.accessRetire t e) s = .next (after u (engSettle e (freePos e 1 (setFront e
        { r with next := r.next + 1, held := r.held - 1, reported := r.reported || pieceOut e r r.next u }
        (movePiece e r r.next (if pieceOut e r r.next u then reqFault 7 e r u else u)))))))
    ∧ (reqOver r = false → isKc r = true → r.waiting ≠ 0 →
      exec (.accessRetire t e) s = .next (after u (engSettle e (freePos e 1 (setFront e
        { r with waiting := r.waiting - 1, held := r.held - 1 } u)))))
    ∧ (engPaused e u = false → isKc r = true → r.faulted = false → r.decoded < r.len →
      exec (.segmentDecode t e) s = .next (after u (engSettle e (decodeSegment e r u))))
    ∧ (∀ a, engPaused e u = false → r.page = .wanted → pageEntryAt e r u = some a → hbmBad a 4 u = false →
      0x80000000 ≤ natLE (hbmData a 4 u) →
      exec (.pageEntryReturn t e) s = .next (after u (engSettle e (freePos e 1 (setFront e
        { r with page := .tile (natLE (hbmData a 4 u) % 0x80000000), held := r.held - 1 }
        (meterAccess 2 r.plot (hbmCheck ⟨some r.plot, e, false⟩ a 4 u)))))))

/-- On a part that is powered and out of reset: DLOAD_GO for an OPEN plot with no run, while no descriptor load is in
progress, the device is not halted and loads are accepted, starts the load of that plot from STM_DLOAD_SRC; DLOAD_END of a load that no
reason of R186 refuses leaves no load in progress and the plot's region of the descriptor store holding exactly the
table read, every other descriptor standing. -/
def Obligations.DescriptorLoadsAnswer : Prop :=
  (∀ (t : Nat) (a : Accessor) (w : Word) (s u z : State), Awake t s u → Reaches a u →
    z = setFld STM_CTRL_PLOT (wfld STM_CTRL_PLOT w) (writeLatches a rSTM_CTRL u) → wfld STM_CTRL_DLOAD_GO w = 1 →
    z.dload = none → runOf (wfld STM_CTRL_PLOT w) z = false → plotOpen (wfld STM_CTRL_PLOT w) z = true →
    halted z = false → loadsOpen z = true →
    ∃ v, exec (.dloadGo t a w) s = .next (after u v)
      ∧ v = hostFirst a rSTM_CTRL (dloadStart (wfld STM_CTRL_PLOT w) (reg64 rSTM_DLOAD_SRC_LO rSTM_DLOAD_SRC_HI z) none z)
      ∧ v.dload = some ⟨wfld STM_CTRL_PLOT w, reg64 rSTM_DLOAD_SRC_LO rSTM_DLOAD_SRC_HI z, none,
          earlyDload (wfld STM_CTRL_PLOT w) (reg64 rSTM_DLOAD_SRC_LO rSTM_DLOAD_SRC_HI z) z⟩)
  ∧ (∀ (t base k : Nat) (s u : State) (l : Load), Awake t s u → u.dload = some l → isoWindow l.plot u = true →
    loadPaused l u = false → judgeDload l u = (0, 0) → descRegion l.plot u = some (base, k) →
    ∃ v, exec (.dloadEnd t) s = .next (after u v) ∧ v.dload = none
      ∧ v.desc = putRange 0 base (dloadTable l.plot l.addr k u) (clearRange base k u.desc)
      ∧ v.seq = u.seq ∧ v.hbm = u.hbm ∧ v.eng = u.eng)

/-- On a part that is powered and out of reset, for a stack k of 0 to 7: an identity that matches, read within 2 ms,
starts training at the highest declared rate at or below the ceiling; a training that passes within 20 ms is verified,
one that fails or times out goes to the next lower rate; a verify of 8 ms that passes makes the stack DONE at its
rate, one that fails records the channel and goes lower; 2 ms without identity, and the loss of a DONE stack, make it
FAILED with CAUSE 1 and 4; a refresh chooses the interval by the temperature; a recalibration pauses the stack and its
end, 2.2 µs later, releases it. -/
def Obligations.HbmStacksAnswer : Prop :=
  ∀ (t k : Nat) (s u : State), Awake t s u → k < 8 →
    (∀ rates r, (stackOf k u).phase = .init → u.now ≤ (stackOf k u).since + 22000000 →
      bestRate rates (fld HBM_CTRL_RATE_CEIL u) = some r →
      exec (.stackIdentityRead t k true rates) s
        = .next (after u (onStack k (fun x => { x with rate := r, rates := rates }) (setStack k .train u))))
    ∧ ((stackOf k u).phase = .init → (stackOf k u).since + 22000000 ≤ u.now →
      exec (.hbmTrainTimeout t k) s = .next (after u (equalize (failStack k 1 u))))
    ∧ ((stackOf k u).phase = .train → (stackOf k u).since + 220000000 ≤ u.now →
      exec (.hbmTrainTimeout t k) s = .next (after u (lowerRate k 2 u)))
    ∧ (∀ ch, (stackOf k u).phase = .train → u.now ≤ (stackOf k u).since + 220000000 →
      exec (.hbmVerifyEnd t k true ch) s = .next (after u (setStack k .verify u))
      ∧ exec (.hbmVerifyEnd t k false ch) s = .next (after u (lowerRate k 2 u)))
    ∧ (∀ ch, (stackOf k u).phase = .verify → (stackOf k u).since + 88000000 ≤ u.now →
      exec (.hbmVerifyEnd t k true ch) s = .next (after u (equalize (setFlds
        [(HBM_STACK_STATUS_DONE k, 1), (HBM_STACK_STATUS_RATE k, (stackOf k u).rate)] (setStack k .done u))))
      ∧ exec (.hbmVerifyEnd t k false ch) s
          = .next (after u (lowerRate k 3 (setFld (HBM_STACK_STATUS_FAILED_CH k) ch u))))
    ∧ ((stackOf k u).phase = .done →
      (∃ v, exec (.stackLost t k) s = .next (after u v) ∧ v = failStack k 4 u ∧ fld (HBM_STACK_STATUS_FAILED k) v = 1
        ∧ fld (HBM_STACK_STATUS_DONE k) v = 0 ∧ fld (HBM_STACK_STATUS_CAUSE k) v = 4 ∧ (stackOf k v).phase = .failed)
      ∧ (∀ us, exec (.refresh t k us) s = .next (after u (showHot (forAll upset us (onStack k (fun x => { x with
          hot := if 85 ≤ fld (HBM_STACK_STATUS_TEMP k) u then true
            else if fld (HBM_STACK_STATUS_TEMP k) u ≤ 82 then false else x.hot }) u)))))
      ∧ (recalTime u % 1000000 = 125000 * k → (∀ j, j < 8 → flag (HBM_STACK_STATUS_RECAL j) u = false) →
        ∃ v, exec (.recalibration t k) s = .next (after u v) ∧ fld (HBM_STACK_STATUS_RECAL k) v = 1
          ∧ (stackOf k v).since = u.now ∧ v.hbm.byte = u.hbm.byte))
    ∧ (flag (HBM_STACK_STATUS_RECAL k) u = true → (stackOf k u).since + 24200 ≤ u.now →
      exec (.recalibrationEnd t k) s
        = .next (after u (capResume (apertureResume (setFld (HBM_STACK_STATUS_RECAL k) 0 u)))))

/-- On a part that is powered and out of reset: INCREMENT_APPLY and a GROUP_REBASE that is owed run the Tally unit up
to the present cycle, the earliest cycle first; WATCH_EXPIRY of a watch whose time is over and which is not being
rebased frees its entry and, for a wait slot, sends the Expired wake four cycles later; ZERO_GO for a plot without a
run zeroes its tallies; an accepted write of TLY_TR zeroes the region it names, and one of TLY_WR cancels the plot's
watches. -/
def Obligations.TallyCommandsAnswer : Prop :=
  (∀ (t : Nat) (s u : State), Awake t s u →
    exec (.incrementApply t) s = .next (after u (tallyRun u))
    ∧ (∀ c, tallyNext u.tally.ops = some c → c ≤ cycle u →
      tallyRun u = tallyAdvance (3 * u.tally.ops.length + u.tally.watch.length) (tallyCycle c u))
    ∧ (∀ c, tallyNext u.tally.ops = some c → cycle u < c → tallyRun u = u)
    ∧ (∀ e c w, (c, TOp.rebase e w) ∈ u.tally.ops → c ≤ cycle u →
      exec (.groupRebase t e) s = .next (after u (tallyRun u))))
  ∧ (∀ (t e : Nat) (s u w : State) (x : Watch), Awake t s u → w = tallyRun u → look e w.tally.watch = some x →
    rebasing e w = false → tmoReached x w = true → watchHolds x w = false →
    ∃ v, exec (.watchExpiry t e) s = .next (after u v) ∧ look e v.tally.watch = none
      ∧ v.tally.value = w.tally.value
      ∧ ∀ k g, x.waiter = .slot k g →
        v.tally.wakes = w.tally.wakes ++ [⟨cycle w + 4, k, g, true, x.rel, tallyVal x.tally w⟩])
  ∧ (∀ (t : Nat) (a : Accessor) (w : Word) (s u z : State), Awake t s u → Reaches a u → wfld TLY_CTRL_ZERO_GO w = 1 →
    z = setFld TLY_CTRL_PLOT (wfld TLY_CTRL_PLOT w) (writeLatches a rTLY_CTRL u) →
    runOf (wfld TLY_CTRL_PLOT w) z = false →
    exec (.zeroGo t a w) s
      = .next (after u (hostFirst a rTLY_CTRL (touchWatches (zeroPlot (wfld TLY_CTRL_PLOT w) (tallyRun z))))))
  ∧ (∀ (t n : Nat) (a : Accessor) (w : Word) (s u z : State), Awake t s u → Reaches a u → n < 16 →
    runOf n u = false → loadsProgram n u = false →
    wfld (TLY_TR_BASE n) w ≤ wfld (TLY_TR_LIMIT n) w →
    (z = writeLatches a (rTLY_TR n) u →
      (wfld (TLY_TR_VALID n) w = 1 → regionOverlaps TLY_TR_VALID TLY_TR_BASE TLY_TR_LIMIT n (wfld (TLY_TR_BASE n) w) (wfld (TLY_TR_LIMIT n) w) z = false) →
      exec (.tlyTrWrite t a n w) s 
        = .next (after u (hostFirst a (rTLY_TR n) (touchWatches (zeroTallies n (plainWrite (rTLY_TR n) w (tallyRun z)))))))
    ∧ (z = writeLatches a (rTLY_WR n) u →
      (wfld (TLY_TR_VALID n) w = 1 → regionOverlaps TLY_WR_VALID TLY_WR_BASE TLY_WR_LIMIT n (wfld (TLY_TR_BASE n) w) (wfld (TLY_TR_LIMIT n) w) z = false) →
      exec (.tlyWrWrite t a n w) s
        = .next (after u (hostFirst a (rTLY_WR n) (cancelHost n (some stCancelled)
          (cancelSeq n (plainWrite (rTLY_WR n) w (tallyRun z))))))))

/-- On a part that is powered and out of reset: FLIT_SEND on a link that may transmit sends one flit of its first
SEND, one credit and one SEQ taken, or replays the flit its replay stands at, or an idle frame where nothing is to be
sent; a link on which frames run but which may not transmit sends an idle frame; TRANSFER_START sends the first flit on
the one link at whose head the SEND waits; FLIT_RECEIVE of a good frame in order goes to the link's buffer and is taken
as far as it can be, one in codewords of which the decoder cannot correct some counts those that begin in it and is
refused; FLOW adds its credits up to 512 and its ACK empties the retry buffer; on a link not fenced a LANE_FAIL or
LANE_MAP owed goes ahead of FLOW; a retry time-out starts a replay, counted; the NOPOST time-out drops the waiting
transfer, returns its credits and faults. -/
def Obligations.LinkTransfersAnswer : Prop :=
  (∀ (t p l : Nat) (s u : State), Awake t s u →
    (mayTransmit p l u = true →
      (∀ x rest, (linkOf p l u).replay = none → (linkOf p l u).sends = x :: rest → sendWaits p l x u = false →
        ∃ v, exec (.flitSend t p l) s = .next (after u v) ∧ (linkOf p l v).credits = (linkOf p l u).credits - 1
          ∧ (linkOf p l v).txSeq = ((linkOf p l u).txSeq + 1) % 4096
          ∧ (linkOf p l v).retry.length = (linkOf p l u).retry.length + 1
          ∧ (linkOf p l v).sends = if x.sent + 1 = x.flits then rest else { x with sent := x.sent + 1 } :: rest)
      ∧ (∀ i f, (linkOf p l u).replay = some i → (linkOf p l u).retry[i]? = some f →
        exec (.flitSend t p l) s = .next (after u (onLink p l (fun k => { k with
          retry := (k.retry.take i) ++ { f with replays := f.replays + 1 } :: k.retry.drop (i + 1)
          replay := if i + 1 < k.retry.length then some (i + 1) else none }) (emit (.frame p l f.frame) u))))
      ∧ ((linkOf p l u).replay = none →
        ((linkOf p l u).sends = [] ∨ ∃ x rest, (linkOf p l u).sends = x :: rest ∧ sendWaits p l x u = true) →
        exec (.flitSend t p l) s = .next (after u (emit (.frame p l (idleFrame u)) u)))
      ∧ (∀ id x rest, l < 17 → (linkOf p l u).replay = none → (linkOf p l u).sends = x :: rest → x.id = id → x.sent = 0 →
        (∀ m, m ≠ l → ∀ y ∈ (linkOf p m u).sends.head?, y.id ≠ id) →
        exec (.transferStart t p id) s = .next (after u (flitSend p l u))))
    ∧ (framesRun p l u = true → mayTransmit p l u = false →
      exec (.flitSend t p l) s = .next (after u (emit (.frame p l (idleFrame u)) u))))
  ∧ (∀ (t p l : Nat) (frame : List Byte) (s u : State), Awake t s u → inService p l u = true →
    (∀ words bad, quarantined p u = false →
      bad = words.filter (fun w => darkGap p l u || uncorrectable (linkOf p l u).detect w) →
      (bad ≠ [] → exec (.flitReceive t p l words frame) s
        = .next (after u (rejectFlit p l (bump (LNK_LINK_CNT_UNCORR p l) (bad.filter (·.first)).length u))))
      ∧ (bad = [] → flitOk frame = true → (fcwOf frame).kind = 1 ∨ (fcwOf frame).kind = 2 →
        (fcwOf frame).seq = (linkOf p l u).rxSeq →
        ∃ z, exec (.flitReceive t p l words frame) s = .next (after u (drainLink p l ((linkOf p l u).rxBuf.length + 1) z))
          ∧ (linkOf p l z).rxBuf = (linkOf p l u).rxBuf ++ [frame]
          ∧ (linkOf p l z).rxSeq = ((linkOf p l u).rxSeq + 1) % 4096))
    ∧ (ctlFrameOk 1 frame = true → leAt frame 6 2 < 2 ^ 15 →
      ∃ v, exec (.flow t p l frame) s = .next (after u v)
        ∧ (linkOf p l v).credits = min ((linkOf p l u).credits + leAt frame 2 2) 512
        ∧ (leAt frame 4 2 < 2 ^ 15 → (linkOf p l v).retry = (linkOf p l u).retry)
        ∧ (∀ i, 2 ^ 15 ≤ leAt frame 4 2 → retryPos (leAt frame 4 2 % 4096) (linkOf p l u) = some i →
          (linkOf p l v).retry = (linkOf p l u).retry.drop (i + 1)))
    ∧ (∀ lane, linkFenced p l u = false → (linkOf p l u).mapFirst = false → (linkOf p l u).failDue = some lane →
      exec (.controlFrameSend t p l) s = .next (after u (emit (.frame p l (ctlFrame 3 ([0] ++ bytesLE 1 lane)))
        (onLink p l (fun k => { k with failDue := none }) u))))
    ∧ (∀ lane count, linkFenced p l u = false → (linkOf p l u).mapFirst = false → (linkOf p l u).failDue = none →
      (linkOf p l u).mapDue = some (lane, count) →
      ∃ v, exec (.controlFrameSend t p l) s = .next (after u v)
        ∧ v.out = .frame p l (ctlFrame 4 ([0] ++ bytesLE 1 lane ++ [0] ++ bytesLE 4 count)) :: u.out
        ∧ (linkOf p l v).mapDue = none ∧ (linkOf p l v).txMap = some (lane, count))
    ∧ (linkFenced p l u = true ∨ ((linkOf p l u).failDue = none ∧ (linkOf p l u).mapDue = none) →
      ∃ v, exec (.controlFrameSend t p l) s = .next (after u v) ∧ v = sendFlow p l u ∧ (linkOf p l v).nakDue = false
        ∧ (linkOf p l v).owed = (linkOf p l u).owed - min (linkOf p l u).owed 512)
    ∧ (∀ f fs, (linkOf p l u).retry = f :: fs → f.replays < 8 → cscMode u ≠ 3 →
      (linkOf p l u).ackAt + 44000 ≤ u.now →
      exec (.retryTimeout t p l) s = .next (after u (onLink p l (fun k => { k with replay := some 0 })
        (bump (LNK_LINK_CNT_RETRY p l) 1 (onLink p l (fun k => { k with ackAt := u.now }) u))))))
  ∧ (∀ (t p l n : Nat) (b : Bool) (f : List Byte) (fs rest : List (List Byte)) (s u : State), Awake t s u →
    (linkOf p l u).rxBuf = f :: fs → (linkOf p l u).skip = false → (linkOf p l u).posts = [] →
    plotPasses (fcwOf f).plot u = true → (linkOf p l u).waitAt + 2 ^ fld LNK_CTRL_NOPOST_TMO u * 11000 ≤ u.now →
    dropTransfer (f :: fs) = (n, b, rest) →
    exec (.nopostTimeout t p l) s = .next (after u (linkFault 5 (fcwOf f).plot p l 0 (onLink p l (fun k => { k with
      rxBuf := rest, skip := !b, owed := k.owed + n, waitAt := u.now }) u))))

/-- On a part that is powered and out of reset, on a link in service whose sender has stated its map: a LANE_FAIL of a
lane, and a lane given up by its transmitter for its ring's failed loop, begin a failover, owe the partner a LANE_MAP of
the lane at its count and hold the transmitter, while wavelength 8 is free; a lane given up by its receiver owes a
LANE_FAIL; a LANE_MAP is kept until its count, and the first of a new circuit states the map in force; LANE_MAP_APPLY at
the count a direction's map names moves that direction's lane; RE_ACQUISITION brings the link UP with its NAK due;
TRANSCEIVER_FAULT with a spare makes the substitution and lets the link recover, without one fails the link;
LOSS_OF_LIGHT on the ingress fibre of a DROP moves the fibre pair to its spare. -/
def Obligations.LaneFailoversAnswer : Prop :=
  ∀ (t p l : Nat) (s u : State), Awake t s u →
    (inService p l u = true →
      (∀ lane count frame, lane < 8 → txLane p l u ≠ lane → txSpareGone p l u = false →
          (linkOf p l u).mapFirst = false →
          ∀ v, v = onLink p l (fun k => { k with gaveUp := some lane })
            (onLink p l (fun k => { k with mapDue := some (lane, count), txHold := true, txOver := true })
              (beginFailover 1 p l lane 1 u)) →
          (ctlFrameOk 3 frame = true → lane = leAt frame 2 1 → exec (.laneFail t p l count frame) s = .next (after u v))
          ∧ (∀ why, cscMode u ≠ 3 → givesUp p l 1 lane why u = true →
            exec (.laneGiveUp t p l 1 lane why count) s = .next (after u v)))
      ∧ (∀ lane count why, cscMode u ≠ 3 → givesUp p l 0 lane why u = true → lane < 8 → rxLane p l u = 15 →
          exec (.laneGiveUp t p l 0 lane why count) s = .next (after u (onLink p l (fun k => { k with
            failDue := some lane, rxGiven := some lane, rxOver := true }) (beginFailover 1 p l lane 0 u))))
      ∧ (∀ frame, ctlFrameOk 4 frame = true →
          ((linkOf p l u).newRx = false → exec (.laneMap t p l frame) s = .next (after u (onLink p l (fun k => { k with
            rxMap := some (leAt frame 2 1 % 16, leAt frame 4 4) }) u)))
          ∧ ((linkOf p l u).newRx = true → exec (.laneMap t p l frame) s
            = .next (after u (setFld (LNK_LINK_STATUS_RX_SPARE_FOR p l) (leAt frame 2 1 % 16)
              (onLink p l (fun k => { k with newRx := false }) u)))))
      ∧ (∀ dir, l ≠ 16 → (flag (CSC_SUBST_XCVR_VALID p) u = true → fld (CSC_SUBST_XCVR_FOR p) u ≠ l) → cscMode u ≠ 3 →
        (flag (CSC_SUBST_XCVR_VALID p) u = false → flag (CSC_SUBST_XCVR_SPARE_BAD p) u = false →
          exec (.transceiverFault t p l dir) s = .next (after u (rerouteAll (toSpare p l (setFlds
            [(CSC_SUBST_XCVR_VALID p, 1), (CSC_SUBST_XCVR_FOR p, l)] (beginFailover 2 p l 0 dir u))))))
        ∧ (flag (CSC_SUBST_XCVR_VALID p) u = true →
          exec (.transceiverFault t p l dir) s = .next (after u (failLink p l u)))))
    ∧ (∀ lane count, (linkOf p l u).txMap = some (lane, count) → (linkOf p l u).rxMap = none →
      exec (.laneMapApply t p l count) s = .next (after u (setFld (LNK_LINK_STATUS_TX_SPARE_FOR p l) lane
        (onLink p l (fun k => { k with txMap := none }) u))))
    ∧ (∀ lane count, (linkOf p l u).txMap = none → (linkOf p l u).rxMap = some (lane, count) →
      exec (.laneMapApply t p l count) s = .next (after u (setFld (LNK_LINK_STATUS_RX_SPARE_FOR p l) lane
        (onLink p l (fun k => { k with rxMap := none, rxGiven := none }) u))))
    ∧ (phaseOf p l u = .recovering → rerouteDark p l u = false →
      ∃ v, exec (.reAcquisition t p l) s = .next (after u v) ∧ phaseOf p l v = .up ∧ (linkOf p l v).nakDue = true
        ∧ (linkOf p l v).discard = true ∧ (linkOf p l v).rxOver = false)
    ∧ (∀ f b e y, activeBank u = some b → cscMode u ≠ 3 → flag (CSC_SUBST_FIBRE_VALID p) u = false →
      flag (CSC_SUBST_FIBRE_SPARE_BAD p) u = false →
      (entriesOf b u).find? (fun q => (q.2.kind == 1 || q.2.kind == 2) && q.2.inPort == p && q.2.inIdx == f) = some (e, y) →
      y.kind = 2 → inService p y.llink u = true →
      exec (.lossOfLight t p f) s = .next (after u (rerouteAll (fibreMoves b p f (setFlds
        [(CSC_SUBST_FIBRE_VALID p, 1), (CSC_SUBST_FIBRE_FOR p, f)] (beginFailover 3 p y.llink 0 0
          (onCsc (fun c => { c with blocked := ins (17 * p + f) true c.blocked }) u)))))))

/-- On a part that is powered and out of reset, for a link of a port that trains on a circuit of the plan in force: light
on at least eight wavelengths moves SIGNAL to ACQUIRE, lock moves ACQUIRE to NEGOTIATE, and NEGOTIATE goes to VERIFY in
the highest common mode at or below the ceiling; a state that outlasts its limit of 4 ms, 1 ms or 200 µs returns the link
to DOWN until the next phase; a VERIFY above the bit error limit tries the next lower mode; a home HELLO whose items
agree is recorded with ITEM 0 and brings the link UP; REHELLO, and a quarantined port by itself, repeat the hello on
every home circuit of the port. -/
def Obligations.LinkTrainingAnswer : Prop :=
  ∀ (t p l b : Nat) (s u : State) (x : Entry), Awake t s u → circuitBank u = some b → dropEntry b p l u = some x →
    (portTrains p u = true → ∀ i : TrainInfo,
      (phaseOf p l u = .signal → 8 ≤ (i.powers.filter fun x => decide (-1800 < x)).length →
        exec (.linkTrainingAdvance t p l i) s = .next (after u (setPhase p l .acquire u)))
      ∧ (phaseOf p l u = .acquire → i.locked = true →
        exec (.linkTrainingAdvance t p l i) s = .next (after u (setPhase p l .negotiate u)))
      ∧ (∀ m, phaseOf p l u = .negotiate → commonMode i.caps i.lanes8 (fld (LNK_PORT_CTRL_MODE_CEIL p) u) = some m →
        exec (.linkTrainingAdvance t p l i) s = .next (after u (setPhase p l .verify
          (setMode p l m (m < 2 && bit i.caps 4 && flag LNK_CTRL_GEN1_DETECT u) u))))
      ∧ (phaseOf p l u = .verify → verifyPass i = false → (linkOf p l u).mode ≠ 0 →
        exec (.linkTrainingAdvance t p l i) s = .next (after u (setPhase p l .verify (setMode p l ((linkOf p l u).mode - 1)
          ((linkOf p l u).detect && (linkOf p l u).mode - 1 < 2) u)))))
    ∧ (∀ d, (phaseOf p l u, d) ∈ [(LinkPhase.signal, 44000000), (.acquire, 11000000), (.negotiate, 2200000)] →
      (linkOf p l u).since + d ≤ u.now →
      ∃ v, exec (.trainingTimeout t p l) s = .next (after u v) ∧ v = trainOver p l u ∧ phaseOf p l v = .down
        ∧ (linkOf p l v).tried = true)
    ∧ (∀ f, ctlFrameOk 2 f = true → phaseOf p l u = .hello → isHome b p l u = true → helloItem b p l f u = 0 →
      quarantined p u = false → p < 6 →
      ∃ v, exec (.hello t p l f) s = .next (after u v) ∧ phaseOf p l v = .up ∧ (linkOf p l v).credits = 512
        ∧ (linkOf p l v).txSeq = 0 ∧ (linkOf p l v).rxSeq = 0 ∧ fld (LNK_PORT_STATUS_ITEM p) v = 0
        ∧ fld (LNK_HELLO_PEER_VALID p) v = 1)
    ∧ (quarantined p u = true →
      exec (.quarantineRehello t p) s = .next (after u (resendHello p u)))
    ∧ (∀ (a : Accessor) (w : Word) (z : State), p < 6 → Reaches a u → wfld (LNK_PORT_CTRL_REHELLO p) w = 1 →
      z = plainWrite (rLNK_PORT_CTRL p) w (writeLatches a (rLNK_PORT_CTRL p) u) → flag (LNK_PORT_CTRL_ENABLE p) z = true →
      exec (.rehello t a p w) s = .next (after u (hostFirst a (rLNK_PORT_CTRL p) (resendHello p z))))

/-- On a part that is powered and out of reset: an entry write to a bank that is not protected leaves the bank WRITTEN
and not READY; STAGE_GO for such a bank leaves it CHECKING with REASON and ENTRY 0; the end of the check leaves the
bank REJECTED with the first reason and entry, MISMATCH where its digest is not the one expected, else STAGED, and
reports it where a plan message staged the bank; REROUTE_DONE for the first bank to be re-routed, not the active one,
moves the bank's paths and ends its re-route. -/
def Obligations.CircuitBanksAnswer : Prop :=
  (∀ (t b e off : Nat) (a : Accessor) (hi : Bool) (w : Word) (s u z : State), Awake t s u → Reaches a u → b < 8 → e < 256 →
    off = (if hi then rCSC_ENTRY_HI b e else rCSC_ENTRY_LO b e) → bankProtected b u = false →
    z = plainWrite off w (writeLatches a off u) →
    ∃ v, exec (.entryWrite t a b e hi w) s = .next (after u v) ∧ v = hostFirst a off (entryWritten b z)
      ∧ bankState b v = 1 ∧ bankReady b v = false)
  ∧ (∀ (t b : Nat) (a : Accessor) (w : Word) (s u z : State), Awake t s u → Reaches a u → wfld CSC_CTRL_STAGE_GO w = 1 →
    wfld CSC_CTRL_UNFENCE w = 0 → wfld CSC_CTRL_REPLAN_GO w = 0 → wfld CSC_CTRL_REPLAN_NOW w = 0 →
    z = plainWrite rCSC_CTRL w (writeLatches a rCSC_CTRL u) → b = wfld CSC_CTRL_STAGE_BANK w → bankProtected b z = false →
    ∃ v, exec (.stageGo t a w) s = .next (after u v) ∧ v = hostFirst a rCSC_CTRL (stageGo b z)
      ∧ bankState b v = 2 ∧ bankReady b v = false ∧ fld (CSC_BANK_STATUS_REASON b) v = 0
      ∧ v.csc.checking = ins b z.now z.csc.checking)
  ∧ (∀ (t b : Nat) (s u w : State), Awake t s u → bankState b u = 2 → w = checkingOver b u →
    (∀ r e, refusal b w = some (r, e) →
      exec (.checkingEnd t b) s = .next (after u (planReported b (setFlds [(CSC_BANK_STATUS_STATE b, 4),
        (CSC_BANK_STATUS_REASON b, r), (CSC_BANK_STATUS_ENTRY b, e)] w))))
    ∧ (refusal b w = none → digestDiffers b w = true →
      exec (.checkingEnd t b) s = .next (after u (planReported b (setFld (CSC_BANK_STATUS_STATE b) 5 w))))
    ∧ (refusal b w = none → digestDiffers b w = false →
      exec (.checkingEnd t b) s = .next (after u (planReported b (setFld (CSC_BANK_STATUS_STATE b) 3 w))))
    ∧ (∀ x, u.fw.planned.contains b = false → x.fw.planned = u.fw.planned → planReported b x = x))
  ∧ (∀ (t b : Nat) (s u : State), Awake t s u → u.csc.reroute.testBit b = true → u.csc.reroute % 2 ^ b = 0 →
    activeBank u ≠ some b →
    exec (.rerouteDone t b) s
      = .next (after u (onCsc (fun c => { c with reroute := c.reroute - 2 ^ b }) (rerouteBank b u))))

/-- On a part that is powered and out of reset: an operation of the circuit slot that arrives 60 ns after issue, its
run still in progress, arms at the slice start plus TOFS or disarms the plot's own trigger, and is dropped where its
run has ended; ARM of CSC_TRIG_CTRL that no check of R279 refuses arms the bank at CSC_TRIG_TIME; DISARM disarms a
register trigger whose time has not come; at its time a trigger fires: the guard begins where its bank is READY, the mode RUN and the bank not
the active one; at T + 200 ns the elements switch, the shutters to open 60 ns later and the kept phases to load 240 ns later, with the boundary for trims and lanes; at T + 2.0 µs the bank
becomes the active one, the mode is RUN and the altered links enter their circuits, what failed meanwhile fails now and every sender's map is checked; a receiver not locked by its limit
falls back to acquisition; UNFENCE clears the missed-staging fences. -/
def Obligations.CircuitTriggersAnswer : Prop :=
  (∀ (t : Nat) (s u w : State) (o : CscOp) (os : List CscOp), Awake t s u → u.csc.ops = o :: os → o.at_ ≤ u.now →
    w = onCsc (fun c => { c with ops := os }) u →
    (runOf o.plot u = false → exec (.circuitOpArrival t) s = .next (after u w))
    ∧ (runOf o.plot u = true → u.seq.runNo = o.run → o.op = 1 →
      exec (.circuitOpArrival t) s
        = .next (after u (cscArm 1 o.plot o.bank o.pc (w.slice.number * sliceNs w + o.tofs) w)))
    ∧ (runOf o.plot u = true → u.seq.runNo = o.run → o.op = 3 →
      exec (.circuitOpArrival t) s = .next (after u (slotDisarm o.plot w)))
    ∧ (runOf o.plot u = true → u.seq.runNo = o.run → o.op = 2 →
      exec (.circuitOpArrival t) s
        = .next (after u (cscArm 1 o.plot o.bank o.pc ((mstM w + 1016 * nsM - 1) / (16 * nsM) * 16) w))))
  ∧ (∀ (t : Nat) (a : Accessor) (w : Word) (s u z : State), Awake t s u → Reaches a u →
    z = plainWrite rCSC_TRIG_CTRL w (writeLatches a rCSC_TRIG_CTRL u) →
    (wfld CSC_TRIG_CTRL_ARM w = 1 → wfld CSC_TRIG_CTRL_DISARM w = 0 →
      armRefused 0 0 (wfld CSC_TRIG_CTRL_BANK w) (reg64 rCSC_TRIG_TIME_LO rCSC_TRIG_TIME_HI z) z = none →
      ∃ v, exec (.cscTrigArm t a w) s = .next (after u v)
        ∧ v.csc.trig = some ⟨wfld CSC_TRIG_CTRL_BANK w, reg64 rCSC_TRIG_TIME_LO rCSC_TRIG_TIME_HI z, 0, 0, 0⟩
        ∧ fld CSC_STATUS_ARMED v = 1 ∧ fld CSC_STATUS_ARMED_BANK v = wfld CSC_TRIG_CTRL_BANK w)
    ∧ (∀ x, wfld CSC_TRIG_CTRL_ARM w = 0 → wfld CSC_TRIG_CTRL_DISARM w = 1 → z.csc.trig = some x → x.src = 0 → fireDue x z = false →
      ∃ v, exec (.cscTrigDisarm t a w) s = .next (after u v) ∧ v = hostFirst a rCSC_TRIG_CTRL (setTrig none z) ∧ v.csc.trig = none
        ∧ fld CSC_STATUS_ARMED v = 0))
  ∧ (∀ (t : Nat) (s u w : State) (x : Trig), Awake t s u → u.csc.trig = some x → x.at_ * nsM ≤ mstM u →
    w = setTrig none u →
    (bankReady x.bank w = true → cscMode w = 2 → activeBank w ≠ some x.bank →
      exec (.fire t) s = .next (after u (beginGuard x.bank x.at_ w)))
    ∧ (bankReady x.bank w = true → cscMode w = 2 → activeBank w = some x.bank →
      exec (.fire t) s = .next (after u (setFld CSC_STATUS_MISS_FENCE 0 w)))
    ∧ (bankReady x.bank w = false →
      exec (.fire t) s = .next (after u (missFire 7 x.src x.plot x.bank x.pc w))))
  ∧ (∀ (t : Nat) (counts : Map Nat) (s u : State) (g : Guard), Awake t s u → u.csc.guard = some g →
    (g.switched = false → (g.at_ + 200) * nsM ≤ mstM u →
      ∃ z, exec (.guardSwitch t counts) s = .next (after u (boundary 1 counts z)) ∧ z = (guardSwitched u).1
        ∧ z.csc.guard = some { g with switched := true } ∧ z.csc.elem = (driveBank g.bank u).csc.elem
        ∧ z.csc.fabDue = u.csc.fabDue ++ [(u.now + 660, .open_ (bankOuts g.bank u)),
          (u.now + 2640, .load g.bank (alteredLinks g.old g.bank u))] ∧ z.regs = u.regs)
    ∧ (∀ unlocked, (g.at_ + 2000) * nsM ≤ mstM u →
      exec (.guardEnd t unlocked counts) s = .next (after u (forAll (fun (x : Nat × Nat) =>
          checkMap x.1 x.2 (get 0 (32 * x.1 + x.2) counts)) allLinks (lateFailures (forAll (fun (x : Nat × Nat) =>
        enterCircuit g.bank x.1 x.2 (u.now - 22000) (!unlocked.contains x)) (alteredLinks g.old g.bank u)
        (setFld CSC_STATUS_MODE 2 (makeActive g.bank (onCsc (fun c => { c with guard := none }) u)))))))))
  ∧ (∀ (t p l : Nat) (s u : State), Awake t s u → phaseOf p l u = .recovering → (linkOf p l u).sendFrom ≠ 0 →
    (linkOf p l u).sendFrom ≤ u.now + 660 → (linkOf p l u).since < (linkOf p l u).sendFrom →
    exec (.uncachedAcquireTimeout t p l) s = .next (after u (setPhase p l .recovering u)))
  ∧ (∀ (t : Nat) (a : Accessor) (w : Word) (s u z : State), Awake t s u → Reaches a u → wfld CSC_CTRL_UNFENCE w = 1 →
    wfld CSC_CTRL_STAGE_GO w = 0 → wfld CSC_CTRL_REPLAN_GO w = 0 → wfld CSC_CTRL_REPLAN_NOW w = 0 →
    z = plainWrite rCSC_CTRL w (writeLatches a rCSC_CTRL u) →
    ∃ v, exec (.unfence t a w) s = .next (after u v) ∧ v = hostFirst a rCSC_CTRL (setFld CSC_STATUS_MISS_FENCE 0 z)
      ∧ fld CSC_STATUS_MISS_FENCE v = 0)

/-- On a part that is powered and out of reset, no re-plan in progress: REPLAN_GO with a time still to come makes the
re-plan pending; REPLAN_NOW from stage REPLAN on, with a target that is STAGED or ACTIVE, and a pending start whose
time has come with a valid MST, start it: mode SLOW, no trigger armed, no guard, and the phases to come are the other
trainable banks of REPLAN_MASK, the spare test and the target; the next phase begins when the present one has run its
17.4 ms, with the boundary at which trims apply, lanes return and elements move, the first one re-homing failed
elements; after the last one the mode is RUN. -/
def Obligations.ReplansAnswer : Prop :=
  (∀ (t : Nat) (a : Accessor) (w : Word) (s u z : State), Awake t s u → Reaches a u →
    wfld CSC_CTRL_STAGE_GO w = 0 → wfld CSC_CTRL_UNFENCE w = 0 →
    z = plainWrite rCSC_CTRL w (writeLatches a rCSC_CTRL u) → z.csc.replan = none →
    (wfld CSC_CTRL_REPLAN_GO w = 1 → wfld CSC_CTRL_REPLAN_NOW w = 0 →
      mstM z < reg64 rCSC_REPLAN_TIME_LO rCSC_REPLAN_TIME_HI z * nsM →
      ∃ v, exec (.replanGo t a w) s = .next (after u v)
        ∧ v.csc = { z.csc with replanAt := some (reg64 rCSC_REPLAN_TIME_LO rCSC_REPLAN_TIME_HI z) }
        ∧ fld CSC_STATUS_REPLAN_PENDING v = 1)
    ∧ (wfld CSC_CTRL_REPLAN_NOW w = 1 → 6 ≤ fld GLB_STARTUP_STATUS_STAGE z →
      trainable (fld CSC_CTRL_REPLAN_TARGET z) z = true →
      ∃ v r, exec (.replanNow t a w) s = .next (after u v) ∧ v.csc.replan = some r
        ∧ r.target = fld CSC_CTRL_REPLAN_TARGET z ∧ r.phase = none ∧ r.phaseAt = u.now
        ∧ r.todo = replanTodo z
        ∧ v.csc.trig = none ∧ v.csc.guard = none ∧ cscMode v = 1 ∧ fld CSC_STATUS_MISS_FENCE v = 0))
  ∧ (∀ (t x : Nat) (s u : State), Awake t s u → u.csc.replanAt = some x → x * nsM ≤ mstM u → mstValid u = true →
    trainable (fld CSC_CTRL_REPLAN_TARGET u) u = true →
    ∃ v r, exec (.replanStart t) s = .next (after u v) ∧ v = replanStart none false u ∧ v.csc.replan = some r
      ∧ r.target = fld CSC_CTRL_REPLAN_TARGET u ∧ r.todo = replanTodo u ∧ r.phase = none ∧ v.csc.replanAt = none ∧ v.csc.trig = none
      ∧ v.csc.guard = none ∧ cscMode v = 1)
  ∧ (∀ (t : Nat) (spares : List (Nat × Bool × Bool)) (counts : Map Nat) (s u z : State) (r : Replan)
      (m : Option (List (Nat × Bool))), Awake t s u → u.csc.replan = some r →
    (r.phase = none ∨ r.phaseAt + 191400000 ≤ u.now) → replanNext spares u = (z, m) →
    (phasesLeft (phaseClose r spares u) r.todo = [] → m = none ∧ exec (.replanPhase t spares counts) s = .next (after u z)
      ∧ z.csc.replan = none ∧ cscMode z = 2)
    ∧ (∀ ph rest, phasesLeft (phaseClose r spares u) r.todo = ph :: rest → ∃ moves q, m = some moves
      ∧ z.csc.replan = some q ∧ q.phase = some ph ∧ q.todo = rest ∧ q.phaseAt = u.now ∧ q.target = r.target
      ∧ exec (.replanPhase t spares counts) s = .next (after u (moveElements moves
        (if r.phase.isNone then rehomeFailed (boundary 3 counts z) else boundary 3 counts z)))))

/-- On a part that is powered and out of reset, for a bank p of 0 to 5: a write that sets ENABLE starts the grid
lasers that have not failed and retunes the spares in use; one that clears it turns the bank off; a STARTING laser
that locks within 30 ms is LOCKED and its rings home, one that does not is lost with CAUSE 5; a LOCKED grid laser or spare is lost with
CAUSE 1 at a comparator trip and 3 at a driver fault; a TUNING spare that locks in time lights its wavelength, which
is LOST no more, and its rings are released, or home where they are OFF; one that stays dark for 3 ms or does not lock in 30 ms is BAD, and the
other spare is called. -/
def Obligations.LasersAnswer : Prop :=
  ∀ (t p : Nat) (s u : State), Awake t s u → p < 6 →
    (∀ (a : Accessor) (w : Word) (z : State), Reaches a u →
      z = plainWrite (rOPT_BANK_CTRL p) w (writeLatches a (rOPT_BANK_CTRL p) u) →
      (flag (OPT_BANK_CTRL_ENABLE p) u = false → flag (OPT_BANK_CTRL_ENABLE p) z = true →
        ∃ v, exec (.bankEnable t a p w) s = .next (after u v) 
          ∧ v = hostFirst a (rOPT_BANK_CTRL p) (bankEnable p false z) ∧ v.link = z.link ∧ v.csc = z.csc
          ∧ ∀ j, j < 9 → laserState p j z ≠ 3 → laserState p j v = 1)
      ∧ (flag (OPT_BANK_CTRL_ENABLE p) u = true → flag (OPT_BANK_CTRL_ENABLE p) z = false →
        ∃ v, exec (.bankDisable t a p w) s = .next (after u v) 
          ∧ v = hostFirst a (rOPT_BANK_CTRL p) (bankEnable p true z) ∧ v.link = z.link ∧ v.csc = z.csc
          ∧ ∀ j, j < 9 → laserState p j z ≠ 3 → laserState p j v = 0))
    ∧ (∀ w, laserState p w u = 1 → w < 9 →
      (u.now ≤ (get {} (11 * p + w) u.opt.laser).at_ + 330000000 →
        ∃ v, exec (.laserLock t p w) s = .next (after u v) ∧ v = homeRings p w (setLaser p w 2 u) ∧ laserState p w v = 2)
      ∧ (∀ counts, (get {} (11 * p + w) u.opt.laser).at_ + 330000000 ≤ u.now →
        exec (.laserStartTimeout t p w counts) s = .next (after u (loseLaser p w 5 counts u))))
    ∧ (∀ j counts, (j < 9 ∧ laserState p j u = 2) ∨ (9 ≤ j ∧ laserState p j u = 6) →
      exec (.comparatorTrip t p j counts) s = .next (after u (loseLaser p j 1 counts u))
      ∧ exec (.driverFault t p j counts) s = .next (after u (loseLaser p j 3 counts u)))
    ∧ (∀ i x, x = get {} (11 * p + 9 + i) u.opt.laser → spareState p i u = 1 → x.held = false →
      (x.at_ + 330000000 ≥ u.now → (fld (OPT_BANK_STATUS_LOST p) u).testBit (spareFor p i u) = true →
        exec (.spareLock t p i) s = .next (after u (homeRings p (spareFor p i u) (holdLoops false (ringLoops p (spareFor p i u))
          (setFld (OPT_BANK_STATUS_LOST p) (fld (OPT_BANK_STATUS_LOST p) u - 2 ^ spareFor p i u)
            (setLaser p (9 + i) 6 u))))))
      ∧ (∀ dark, x.at_ + 330000000 ≤ u.now ∨ (dark = true ∧ x.at_ + 33000000 ≤ u.now) →
        exec (.spareTuneTimeout t p i dark) s = .next (after u (callSpare p (spareFor p i u)
          (devFault 9 6 (2 ^ 11 * p + 9 + i) (raise OPT_WARN_STATUS_SPARE_BAD (2 ^ p)
            (stopLoop (laserLoop p (9 + i)) (powerOff p (9 + i) (setLaser p (9 + i) 7 u)))))).2)))

/-- On a part that is powered and out of reset: MONITOR_SCAN of a channel of 0 to 2105 leaves its reading with VALID
and the averaging in use; GO of OPT_MEAS_CTRL for a channel that exists makes the measurement BUSY, and MEAS_DONE ends
it with the reading and VALID; an ageing step of a LOCKED laser more than 0.20 dB under its target asks for 160 µA
more where the ceiling allows it, one more than 0.50 dB over for 160 µA less; a trim request that is accepted is
pending with its REQ and PEND; with no run in progress every pending trim applies. -/
def Obligations.MonitorsAnswer : Prop :=
  ∀ (t : Nat) (s u : State), Awake t s u →
    (∀ (i : Nat) (x : Int), i ≤ 2105 →
      ∃ v, exec (.monitorScan t i x) s = .next (after u v) ∧ fld (OPT_MON_VALUE_VALID i) v = 1
        ∧ fld (OPT_MON_VALUE_INT i) v = fld OPT_CTRL_MON_INT u % 8
        ∧ fld (OPT_MON_VALUE_POWER i) v = reading x % 2 ^ 16)
    ∧ (∀ (a : Accessor) (w : Word) (z : State), Reaches a u → wfld OPT_MEAS_CTRL_GO w = 1 → wfld OPT_MEAS_CTRL_INT w ≤ 4 →
      wfld OPT_MEAS_CTRL_CHANNEL w ≤ 2105 → flag OPT_MEAS_CTRL_BUSY u = false →
      z = plainWrite rOPT_MEAS_CTRL w (writeLatches a rOPT_MEAS_CTRL u) → flag OPT_MEAS_CTRL_BUSY z = false →
      ∃ v, exec (.measGo t a w) s = .next (after u v) 
        ∧ v = hostFirst a rOPT_MEAS_CTRL (onOpt (fun o => { o with meas := wfld OPT_MEAS_CTRL_CHANNEL w })
          (setFlds [(OPT_MEAS_CTRL_BUSY, 1), (OPT_MEAS_RESULT_VALID, 0)] z))
        ∧ fld OPT_MEAS_CTRL_BUSY v = 1 ∧ fld OPT_MEAS_RESULT_VALID v = 0)
    ∧ (∀ x : Int, flag OPT_MEAS_CTRL_BUSY u = true →
      ∃ v, exec (.measDone t x) s = .next (after u v) ∧ fld OPT_MEAS_CTRL_BUSY v = 0 ∧ fld OPT_MEAS_RESULT_VALID v = 1
        ∧ fld OPT_MEAS_RESULT_POWER v = reading x % 2 ^ 16)
    ∧ (∀ (p j : Nat) (power : Int) (counts : Map Nat), p < 6 → j < 11 → flag OPT_CTRL_AGE_PERIOD u = true →
      laserState p j u = 2 ∨ laserState p j u = 6 →
      (power < calOf 4 (11 * p + j) u - 20 → biasOf p j u + 160 ≤ 40 * fld (OPT_EOL_CEIL_CEIL p) u →
        exec (.ageStep t p j power counts) s = .next (after u (onLaser p j (fun x => { x with strikes := 0 })
          (requestBias p j ((biasOf p j u + 160) / 20)
            (setFld (OPT_LASER_STATUS_POWER p j) (reading power) u)))))
      ∧ (calOf 4 (11 * p + j) u + 50 < power →
        exec (.ageStep t p j power counts) s = .next (after u (onLaser p j (fun x => { x with strikes := 0 })
          (requestBias p j ((biasOf p j u - 160) / 20)
            (setFld (OPT_LASER_STATUS_POWER p j) (reading power) u))))))
    ∧ (∀ (a : Accessor) (w : Word), Reaches a u →
      (∀ p j, p < 6 → j < 11 → wfld (TRM_LASER_REQ p j) w ≤ 8190 → flag OPT_CTRL_AGE_PERIOD u = false →
        ∃ v, exec (.trimRequest t a (rTRM_LASER p j) w) s = .next (after u v)
          ∧ v = hostFirst a (rTRM_LASER p j) (noteWrite (rTRM_LASER p j) 0x1FFF0000 (trimPend (rTRM_LASER p j) (setFlds
            [(TRM_LASER_REQ p j, wfld (TRM_LASER_REQ p j) w), (TRM_LASER_PEND p j, 1)] (writeLatches a (rTRM_LASER p j) u))))
          ∧ fld (TRM_LASER_PEND p j) v = 1
          ∧ (look (rTRM_LASER p j) (updates u).sideband = none → fld (TRM_LASER_REQ p j) v = wfld (TRM_LASER_REQ p j) w))
      ∧ (∀ i, i < 918 →
        exec (.trimRequest t a (rTRM_RING i) w) s = .next (after u (hostFirst a (rTRM_RING i) (trimPend (rTRM_RING i) (setFlds
          [(TRM_RING_REQ i, wfld (TRM_RING_REQ i) w), (TRM_RING_PEND i, 1)] (writeLatches a (rTRM_RING i) u))))))
      ∧ (∀ i, i < 918 →
        exec (.trimRequest t a (rTRM_SWING i) w) s = .next (after u (hostFirst a (rTRM_SWING i) (trimPend (rTRM_SWING i) (setFlds
          [(TRM_SWING_REQ i, wfld (TRM_SWING_REQ i) w), (TRM_SWING_PEND i, 1)] (writeLatches a (rTRM_SWING i) u)))))))
    ∧ (runOn u = false → exec (.noWork t) s = .next (after u (applyTrims 5 (fun _ => true) u)))

/-- On a part that is powered and out of reset, with the Anneal engine on, for every loop: FRONT_END_TICK adds the
sample to the period's sum, moves the demodulator and puts the pilot on the heater DAC of a running loop; LOOP_UPDATE
clears the sum and the number of samples; it does no more for a loop whose update SELFTEST skips; it leaves a HOMING or FAILED loop
and an OFF loop with no heater to lower otherwise as it is, lowers the heater of a disabled one in its ramp, moves a
held RAMP or LOCKED loop to HOLD, and for a LOCKED ring or laser applies the control law and the plausibility model to
the period's mean, staying LOCKED within LOCK_TOL and failing at LOST_N updates beyond it; WINDOW_END of an unspoiled
window of a RAMP loop holds the estimate of s that the demodulators give. -/
def Obligations.LoopUpdatesAnswer : Prop :=
  ∀ (t k : Nat) (s u : State), Awake t s u → k ≤ 3821 → flag ANL_CTRL_ENABLE u = true →
    (∀ sample, ∃ v, exec (.frontEndTick t k sample) s = .next (after u v)
      ∧ (loopOf k v).sum = (loopOf k u).sum + sample % 65536 ∧ (loopOf k v).count = (loopOf k u).count + 1
      ∧ (loopOf k v).code = (loopOf k u).code
      ∧ (loopOf k v).lowPass = (demodulate k (freeNs u / 2000) (sample % 65536) (loopOf k u)).lowPass
      ∧ ((loopOf k u).st = .ramp ∨ (loopOf k u).st = .locked ∨ (loopOf k u).st = .hold → (loopOf k v).dac = (clamp 0 65535
        (((loopOf k u).code : Int) + pilot (ampOf k (loopOf k u) u) (toneOf k) (freeNs u / 2000))).toNat))
    ∧ (∀ power lit counts z, z = onLoop k (fun l => { l with sum := 0, count := 0, skip := false }) u →
      ((loopOf k u).skip = true → exec (.loopUpdate t k power lit counts) s = .next (after u z))
      ∧ ((loopOf k u).skip = false → (loopOf k u).st = .homing ∨ (loopOf k u).st = .failed ∨ ((loopOf k u).st = .off ∧ (loopOf k u).down = none) →
        exec (.loopUpdate t k power lit counts) s = .next (after u z))
      ∧ (∀ a n, (loopOf k u).skip = false → (loopOf k u).st = .off → (loopOf k u).down = some (a, n) →
        exec (.loopUpdate t k power lit counts) s = .next (after u (onLoop k (fun l => { l with
          code := (frac (a * (rampLen (loopClass k) u - (n + 1))) (rampLen (loopClass k) u)).round.toNat
          down := if n + 1 < rampLen (loopClass k) u then some (a, n + 1) else none }) z)))
      ∧ ((loopOf k u).skip = false → (loopOf k u).st = .ramp ∨ (loopOf k u).st = .locked → (loopOf k u).held = true →
        exec (.loopUpdate t k power lit counts) s
          = .next (after u (onLoop k (fun l => { l with st := .hold, spoiled := true, s := none, gaincal := 0 }) z)))
      ∧ (∀ m dd law phys, (loopClass k = 0 ∨ loopClass k = 3) → (loopOf k u).skip = false →
        (loopOf k u).st = .locked → (loopOf k u).held = false →
        (loopOf k u).start = false → (loopOf k u).fresh = false → (loopOf k u).move = none → injArmed 10 u = false →
        m = measFrac (meanPower (loopOf k u)) →
        dd = (if loopClass k = 0 then measFrac ((power : Int) - calOf 2 k u) else {}) →
        law = controlLaw k m dd (loopOf k z) z → phys = plausible (loopClass k) m law.1 z → phys.2 = false →
        phys.1.st = .locked ∧
        (law.2.abs.le (coef (loopClass k) 10 z) = true → lostN (loopClass k) z ≠ 0 →
          exec (.loopUpdate t k power lit counts) s
            = .next (after u (onLoop k (fun _ => { phys.1 with bad := 0 }) z)))
        ∧ (law.2.abs.le (coef (loopClass k) 10 z) = false → lostN (loopClass k) z ≤ phys.1.bad + 1 →
          ∃ y, exec (.loopUpdate t k power lit counts) s = .next (after u (loopFails k 4 counts y))
            ∧ loopOf k y = { phys.1 with bad := phys.1.bad + 1 } ∧ y.regs = u.regs ∧ y.link = u.link)))
    ∧ (∀ counts, (loopOf k u).spoiled = false → (loopOf k u).st = .ramp →
      ∃ v, exec (.windowEnd t k counts) s = .next (after u v) ∧ (loopOf k v).s = windowGain k (loopOf k u) u
        ∧ (loopOf k v).spoiled = false ∧ (loopOf k v).win1 = 0 ∧ (loopOf k v).win2 = 0
        ∧ (loopOf k v).code = (loopOf k u).code)
    ∧ (∀ counts, (loopOf k u).spoiled = true →
      ∃ v, exec (.windowEnd t k counts) s = .next (after u v) ∧ (loopOf k v).s = (loopOf k u).s
        ∧ (loopOf k v).spoiled = false)

/-- On a part that is powered and out of reset: LOOP_ENABLE of an OFF loop starts the coarse sweep at code 128 for a
lit ring and, with the CSC off, for an element that is not stuck, in the state it is to home in, and a ramp for a laser;
LOOP_DISABLE and the hold and
release of a loop act as R332 and R336 say; a coarse HOMING_STEP goes on by 256 codes, and the fine step that finds
the second edge ramps from the mean of the edges; writes of ENABLE (which cleared leaves every loop OFF at code 0),
SWAP and SETPT, COEF_SWAP_APPLY at a period in which no loop of the class homes, SELFTEST and GAINCAL with no run in
progress, CAL_START at its boundary and CAL_DONE have the effects their rules give. -/
def Obligations.LoopOwnersAnswer : Prop :=
  (∀ (t k : Nat) (s u : State), Awake t s u → k ≤ 3821 →
    (∀ cross, flag ANL_CTRL_ENABLE u = true → (loopOf k u).st = .off →
      (loopClass k = 0 ∨ loopClass k = 1 → wlLit (k % 918 / 153) (k % 9) u = true →
        exec (.loopEnable t k cross) s = .next (after u (homeStart k false u)))
      ∧ (loopClass k = 2 → cscMode u = 0 → look (k - 1836) u.csc.stuck = none →
        ∃ v, exec (.loopEnable t k cross) s = .next (after u v) ∧ (loopOf k v).st = .homing
        ∧ (loopOf k v).code = 128 ∧ (loopOf k v).cross = cross)
      ∧ (loopClass k = 3 → ∃ v, exec (.loopEnable t k cross) s = .next (after u v) ∧ (loopOf k v).st = .ramp
        ∧ (loopOf k v).start = true ∧ (loopOf k v).code = (loopOf k u).code))
    ∧ (loopClass k = 2 → (loopOf k u).st = .failed → exec (.loopDisable t k) s = .next (after u u))
    ∧ (¬(loopClass k = 2 ∧ (loopOf k u).st = .failed) →
      ∃ v, exec (.loopDisable t k) s = .next (after u v) ∧ (loopOf k v).st = .off
      ∧ ((loopOf k u).st ≠ .off → flag ANL_CTRL_ENABLE u = true →
        (loopOf k v).down = some ((loopOf k u).code, 0) ∧ (loopOf k v).code = (loopOf k u).code)
      ∧ ((loopOf k u).st ≠ .off → flag ANL_CTRL_ENABLE u = false → (loopOf k v).code = 0))
    ∧ exec (.loopHold t k) s = .next (after u (onLoop k (fun l => { l with held := true }) u))
    ∧ exec (.loopRelease t k) s = .next (after u (onLoop k (fun l => { l with held := false }) u))
    ∧ (∀ h m counts, (loopOf k u).st = .homing → (loopOf k u).sweep = some h →
      (h.coarse = true → h.code + 256 < 65536 → h.code ≠ 128 → h.lo ≤ m → m ≤ h.hi →
        exec (.homingStep t k m counts) s = .next (after u (onLoop k (fun l => { l with
          sweep := some { h with code := h.code + 256 }, code := h.code + 256 }) u)))
      ∧ (h.coarse = false → h.inside = true →
        beyondEdge (loopClass k == 0) m (loopOf k u).thr true (2 * homeHyst (loopClass k) u) = true →
        h.run + 1 = homeDeb (loopClass k) u →
        exec (.homingStep t k m counts) s = .next (after u (onLoop k (fun l => { l with
          st := .ramp, start := true, sweep := none, spoiled := true
          home := some ((h.h1.getD 0 + (h.code - 16 * (homeDeb (loopClass k) u - 1))) / 2)
          code := (h.h1.getD 0 + (h.code - 16 * (homeDeb (loopClass k) u - 1))) / 2 }) u)))))
  ∧ (∀ (t : Nat) (a : Accessor) (w : Word) (s u z : State), Awake t s u → Reaches a u →
    (z = plainWrite rANL_CTRL w (writeLatches a rANL_CTRL u) → flag ANL_CTRL_ENABLE z = true →
      (wfld ANL_CTRL_SWAP w = 0 → exec (.anlEnable t a w) s = .next (after u (hostFirst a rANL_CTRL z)))
      ∧ (∀ c, c < 4 → wfld ANL_CTRL_SWAP w = 2 ^ c → (fld ANL_STATUS_SWAP_PENDING u).testBit c = false →
        fld ANL_STATUS_SWAP_PENDING z = fld ANL_STATUS_SWAP_PENDING u →
        exec (.anlSwap t a w) s
          = .next (after u (hostFirst a rANL_CTRL
            (setFld ANL_STATUS_SWAP_PENDING (fld ANL_STATUS_SWAP_PENDING u ||| 2 ^ c) z)))))
    ∧ (z = plainWrite rANL_CTRL w (writeLatches a rANL_CTRL u) → flag ANL_CTRL_ENABLE z = false → wfld ANL_CTRL_SWAP w = 0 →
      ∃ v, exec (.anlEnable t a w) s = .next (after u v)
        ∧ ∀ k, (loopOf k v).st = .off ∧ (loopOf k v).code = 0)
    ∧ (∀ k, z = writeLatches a rANL_LOOP_SETPT u → k = fld ANL_LOOP_SEL_LOOP u → k ≤ 3821 → loopClass k = 0 ∨ loopClass k = 3 →
      ∃ v, exec (.setptWrite t a w) s = .next (after u v) ∧ (loopOf k v).setpt = bits w.toNat 17 0
        ∧ (loopOf k v).code = (loopOf k u).code ∧ ∀ o, o ≠ rANL_LOOP_SETPT → reg o v = reg o u)
    ∧ (z = plainWrite rANL_CAL_CTRL w (writeLatches a rANL_CAL_CTRL u) → wfld ANL_CAL_CTRL_GO w = 1 →
      wfld ANL_CAL_CTRL_PORT w ≤ 5 → flag ANL_CAL_STATUS_PENDING z = false → flag ANL_CAL_STATUS_RUNNING z = false →
      runOn z = false →
      (wfld ANL_CAL_CTRL_KIND w = 0 → ∃ v, exec (.selftest t a w) s = .next (after u v) ∧ v.anl.cal = some ⟨0, wfld ANL_CAL_CTRL_PORT w⟩
        ∧ fld ANL_CAL_STATUS_RUNNING v = 1 ∧ fld ANL_CAL_STATUS_AT_ONCE v = 1)
      ∧ (wfld ANL_CAL_CTRL_KIND w = 1 → ∃ y, exec (.gaincal t a w) s = .next (after u (hostFirst a rANL_CAL_CTRL (calBegin y)))
        ∧ y.anl.cal = some ⟨1, wfld ANL_CAL_CTRL_PORT w⟩ ∧ y.anl.loop = u.anl.loop ∧ fld ANL_CAL_STATUS_AT_ONCE y = 1)))
  ∧ (∀ (t c : Nat) (s u : State), Awake t s u →
    (c < 4 → (fld ANL_STATUS_SWAP_PENDING u).testBit c = true → classHoming c u = false →
      ∃ v, exec (.coefSwapApply t c) s = .next (after u v)
        ∧ fld ANL_STATUS_ACTIVE_BANK v = (fld ANL_STATUS_ACTIVE_BANK u ^^^ 2 ^ c) % 16
        ∧ fld ANL_STATUS_SWAP_PENDING v = (fld ANL_STATUS_SWAP_PENDING u ^^^ 2 ^ c) % 16 ∧ v.anl = u.anl)
    ∧ (flag ANL_CAL_STATUS_PENDING u = true → fld ANL_CAL_STATUS_BOUNDARY u = 2 →
      reg64 rANL_CAL_TIME_LO rANL_CAL_TIME_HI u ≤ mstNs u → exec (.calStart t) s = .next (after u (calBegin u)))
    ∧ (∀ r, u.anl.cal = some r → flag ANL_CAL_STATUS_RUNNING u = true → calWaits r u = false →
      (∃ v, exec (.calDone t [] []) s = .next (after u (irq 24 v)) ∧ fld ANL_CAL_STATUS_RUNNING v = 0
        ∧ fld ANL_CAL_STATUS_DONE v = 1 ∧ v.anl = { u.anl with cal := none })
      ∧ (∀ lanes loops, r.kind = 0 → lanes ++ loops ≠ [] →
        ∃ v, exec (.calDone t lanes loops) s = .next (after u (irq 24 v)) ∧ fld ANL_CAL_STATUS_ST_FAIL v = 1
          ∧ fld ANL_CAL_STATUS_DONE v = 1)))

/-- On a part that is powered and out of reset: a good Sync of a relayed domain marks its link, from the package's own
origin and upstream sets SDL_OFFSET and moves MST by the servo or the state table, and is relayed when its link is the
domain's upstream; a cell with a bad CRC is dropped; Announces and local Syncs are kept; SYNC_SEND counts and
sends; a missing Sync for 1 ms takes ACQUIRING or LOCKED to HOLDOVER with its entry, rate = fi; eight offsets make an
evaluation; a deferred step is made once no run holds it; a mesh master's SET_MST and MST_FROM_TOD give MST the value
and MASTER; a REF_MISMATCH on an UP mesochronous link is marked. -/
def Obligations.MeshTimeAnswers : Prop :=
  (∀ (t p l : Nat) (cell : List Byte) (s u : State), Awake t s u →
    (readCell cell = none → exec (.sync t p l cell) s = .next (after u u)
      ∧ exec (.announce t p l cell) s = .next (after u u) ∧ exec (.localSync t p l cell) s = .next (after u u))
    ∧ (∀ m z y, readCell cell = some m → m.type = 0 → cellLink p l u = true → relays m u = true →
      z = onSdl (fun d => { d with link := (upd ⟨0, none, 0⟩ (linkKey m.domain p l)
        (fun x => { x with relays := m.relays, syncAt := some u.now }) d.link) }) u →
      (originOf z ≠ some (m.domain, m.origin) → y = z) →
      (∀ x o, originOf z = some (m.domain, m.origin) →
        x = chooseUpstream m.domain (onSdl (fun d => { d with lastSync := some z.now }) z) →
        upstream m.domain x = some (p, l) → o = syncOffset p l m x →
        y = syncState o (onSdl (fun d => { d with skewOs := d.skewOs ++ [o] }) (setReg rSDL_OFFSET (offsetReg o) x))) →
      (∀ x, originOf z = some (m.domain, m.origin) →
        x = chooseUpstream m.domain (onSdl (fun d => { d with lastSync := some z.now }) z) →
        upstream m.domain x ≠ some (p, l) → y = x) →
      exec (.sync t p l cell) s = .next (after u
        (if upstream m.domain z = some (p, l) then relayCell p l (timestamp u) cell m y else y)))
    ∧ (∀ m z y, readCell cell = some m → m.type = 0xB → m.domain ≤ 1 → cellLink p l u = true →
      z = onSdl (fun d => { d with peer := (upd ⟨none, 0, false⟩ (32 * p + l)
        (fun x => { x with locked := m.state == 2 || m.state == 4 }) d.peer) }) u →
      y = onSdl (fun d => { d with link := (upd ⟨m.relays, none, 0⟩ (linkKey m.domain p l)
        (fun x => { x with annState := m.state }) d.link) }) z →
      (relays m z = false → exec (.announce t p l cell) s = .next (after u z))
      ∧ (relays m z = true → exec (.announce t p l cell) s = .next (after u
        (if upstream m.domain y = some (p, l) then relayCell p l (timestamp z) cell m y else y))))
    ∧ (∀ m, readCell cell = some m → m.type = 0 → m.domain = 2 → cellLink p l u = true →
      ∃ v, exec (.localSync t p l cell) s = .next (after u v)
        ∧ (look (32 * p + l) v.sdl.peer).map (·.skew) = some (-syncOffset p l m u)
        ∧ (look (32 * p + l) v.sdl.peer).map (·.at_) = some (some u.now)))
  ∧ (∀ (t : Nat) (s u : State), Awake t s u →
    (flag SDL_CTRL_ENABLE u = true → ∃ v, exec (.syncSend t) s = .next (after u v) ∧ v.sdl.sends = u.sdl.sends + 1)
    ∧ (∀ r, u.sdl.lastSync = some r → r + 11000000 ≤ u.now → mstState u = 1 ∨ mstState u = 2 →
      ∃ v, exec (.syncTimeout t) s = .next (after u v) ∧ mstState v = 3 ∧ v.sdl.rate = u.sdl.fi ∧ fld SDL_EVENT_HOLDOVER v = 1)
    ∧ (mstState u ≠ 3 → mstState u ≠ 4 → 8 ≤ u.sdl.skewOs.length →
      exec (.skewEvaluation t) s = .next (after u (skewMove (u.sdl.skewOs.take 8)
        (onSdl (fun d => { d with skewOs := d.skewOs.drop 8 }) u))))
    ∧ (∀ o, u.sdl.step = some o → runOn u = false → exec (.stepApply t) s = .next (after u (stepMst o u)))
    ∧ (∀ p l b, activeBank u = some b → phaseOf p l u = .up → ((dropEntry b p l u).any (·.plesio)) = false →
      exec (.refMismatch t p l) s = .next (after u (devFault 13 3 p (raise SDL_EVENT_REF_MISMATCH 1
        (setFld (SDL_PEER_REF_MISMATCH p) 1 u))))))
  ∧ (∀ (t : Nat) (a : Accessor) (w : Word) (s u z : State), Awake t s u → Reaches a u →
    wfld SDL_CTRL_TOD_SRC w ≠ 3 → wfld SDL_CTRL_TOD_SRC w ≠ 0 → wfld SDL_CTRL_SET_TOD w = 0 → wfld SDL_CTRL_VT_ZERO w = 0 →
    z = setFlds [(SDL_CTRL_VT_PLOT, wfld SDL_CTRL_VT_PLOT w), (SDL_CTRL_TOD_SRC, wfld SDL_CTRL_TOD_SRC w),
      (SDL_CTRL_ENABLE, wfld SDL_CTRL_ENABLE w)] (rebaseClocks (writeLatches a rSDL_CTRL u)) →
    isMesh z = true → runOn z = false → mstState z = 0 ∨ mstState z = 4 →
    (wfld SDL_CTRL_SET_MST w = 1 → wfld SDL_CTRL_MST_FROM_TOD w = 0 →
      ∃ y, exec (.setMst t a w) s = .next (after u (hostFirst a rSDL_CTRL (setMst 4 y)))
        ∧ y = stepMst ((mstM (onSdl (fun d => { d with rate := 0, fi := 0 }) (rebaseClocks z)) : Int)
          - (reg64 rSDL_SET_LO rSDL_SET_HI z * nsM : Nat)) (onSdl (fun d => { d with rate := 0, fi := 0 }) (rebaseClocks z)))
    ∧ (wfld SDL_CTRL_SET_MST w = 0 → wfld SDL_CTRL_MST_FROM_TOD w = 1 → todState z ≠ 0 →
      ∃ y, exec (.mstFromTod t a w) s = .next (after u (hostFirst a rSDL_CTRL (setMst 4 y)))
        ∧ y = stepMst ((mstM (onSdl (fun d => { d with rate := 0, fi := 0 }) (rebaseClocks z)) : Int) - todM z)
          (onSdl (fun d => { d with rate := 0, fi := 0 }) (rebaseClocks z))))

/-- On a part that is powered and out of reset: SET_TOD from the host gives TOD the value and HOST; VT_ZERO of a plot
with no run makes its virtual time 0; a Sync of the master makes a delay request and an offset, its Follow_Up
completes a two-step one; the Delay_Resp to the device's request gives the path delay; an Announce is kept and the best
of the masters that qualify is followed, three intervals without one give the master up, TOD in HOLDOVER; SLOT_START
counts the slot and applies trims of idle ports where enabled; a due pin fires, falls after its width, and arms on
ENABLE; a rising edge on a free capture input keeps both times. -/
def Obligations.ServiceTimeAnswers : Prop :=
  (∀ (t : Nat) (a : Accessor) (w : Word) (s u z : State), Awake t s u → Reaches a u → wfld SDL_CTRL_TOD_SRC w = 2 →
    wfld SDL_CTRL_SET_MST w = 0 → wfld SDL_CTRL_MST_FROM_TOD w = 0 →
    z = setFlds [(SDL_CTRL_VT_PLOT, wfld SDL_CTRL_VT_PLOT w), (SDL_CTRL_TOD_SRC, wfld SDL_CTRL_TOD_SRC w),
      (SDL_CTRL_ENABLE, wfld SDL_CTRL_ENABLE w)] (rebaseClocks (writeLatches a rSDL_CTRL u)) →
    (wfld SDL_CTRL_SET_TOD w = 1 → wfld SDL_CTRL_VT_ZERO w = 0 →
      exec (.setTod t a w) s = .next (after u (hostFirst a rSDL_CTRL (setTod (reg64 rSDL_SET_LO rSDL_SET_HI z * nsM) 3 z))))
    ∧ (wfld SDL_CTRL_SET_TOD w = 0 → wfld SDL_CTRL_VT_ZERO w = 1 → runOf (wfld SDL_CTRL_VT_PLOT w) z = false →
      ∃ v, exec (.vtZero t a w) s = .next (after u (hostFirst a rSDL_CTRL v))
        ∧ vtNs (wfld SDL_CTRL_VT_PLOT w) v = 0 ∧ v.regs = z.regs))
  ∧ (∀ (t domain src seq ns : Nat) (corr : Int) (s u : State), Awake t s u → svcOn domain u = true →
    (u.sdl.svcMaster = some src →
      (∀ log, -4 ≤ log → log ≤ 0 →
        exec (.svcSync t domain src seq log ns corr true) s
          = .next (after u (onSdl (fun d => { d with svcWait := some (seq, todM u) }) u))
        ∧ exec (.svcSync t domain src seq log ns corr false) s
          = .next (after u (delayRequest (svcOffset (todM u) ((ns : Int) * nsM + corr * (nsM / 2 ^ 16 : Nat)) u))))
      ∧ (∀ rx, u.sdl.svcWait = some (seq, rx) → exec (.svcFollowUp t domain src seq ns corr) s
        = .next (after u (delayRequest (svcOffset rx ((ns : Int) * nsM + corr * (nsM / 2 ^ 16 : Nat))
          (onSdl (fun d => { d with svcWait := none }) u)))))
      ∧ (∀ t3, u.sdl.svcReq = some (seq, t3) → exec (.svcDelayResp t domain src seq Config.svcIdentity ns corr) s
        = .next (after u (onSdl (fun d => { d with svcReq := none, svcDelay := (u.sdl.svcT21 + ((ns : Int) * nsM
          - corr * (nsM / 2 ^ 16 : Nat) - t3)) / 2 }) u))))
    ∧ (∀ data interval, exec (.svcAnnounce t domain src data interval) s
        = .next (after u (chooseMaster (onSdl (fun d => { d with svcSeen :=
          (⟨src, data, u.now, (u.sdl.svcSeen.find? fun m => m.src == src).map (·.at_), interval⟩
            :: u.sdl.svcSeen.filter fun m => m.src != src) }) u))))
    ∧ (∀ data interval m, u.sdl.svcSeen = [m] → m.src = src → data.steps < 255 → u.now ≤ m.at_ + 4 * interval →
      ∃ v, exec (.svcAnnounce t domain src data interval) s = .next (after u v) ∧ v.sdl.svcMaster = some src))
  ∧ (∀ (t : Nat) (s u : State), Awake t s u →
    (∀ src, u.sdl.svcMaster = some src → (∀ m ∈ u.sdl.svcSeen, m.src = src → m.at_ + 3 * m.interval ≤ u.now) →
      fld SDL_CTRL_TOD_SRC u = 1 → todState u ≠ 0 →
      ∃ v, exec (.announceTimeout t) s = .next (after u v) ∧ v.sdl.svcMaster = none ∧ todState v = 2)
    ∧ (slotNs u ≠ 0 → u.sdl.nextSlot * slotNs u ≤ mstNs u → flag TRM_CTRL_IDLE_EN u = false →
      exec (.slotStart t) s = .next (after u (onSdl (fun d => { d with nextSlot := mstNs u / slotNs u + 1 }) u)))
    ∧ (∀ z, slotNs u ≠ 0 → u.sdl.nextSlot * slotNs u ≤ mstNs u → flag TRM_CTRL_IDLE_EN u = true →
      z = onSdl (fun d => { d with nextSlot := mstNs u / slotNs u + 1 }) u →
      exec (.slotStart t) s = .next (after u (applyTrims 4 (fun p => portIdle p z) z))))
  ∧ (∀ (t n : Nat) (s u : State), Awake t s u → n < 4 →
    (flag (SDL_TPO_CTRL_ENABLE n) u = true → pinStill n u = false → (pinOf n u).next ≤ pinBase n u →
      flag (SDL_TPO_CTRL_PERIODIC n) u = false →
      ∃ v, exec (.tpOutFire t n) s = .next (after u v) ∧ fld (SDL_TPO_CTRL_FIRED n) v = 1
        ∧ (pinOf n v).fall = some ⟨flag (SDL_TPO_CTRL_BASE n) u,
          (baseM (flag (SDL_TPO_CTRL_BASE n) u) u : Int) + (fld (SDL_TPO_CTRL_WIDTH n) u * 16 * nsM : Nat),
          u.now + fld (SDL_TPO_CTRL_WIDTH n) u * 16 * nsT⟩
        ∧ v.out = .pin (.tpOut n) true :: u.out)
    ∧ (∀ f, (pinOf n u).fall = some f → (f.tod = false ∨ todStill u = false → f.value ≤ baseM f.tod u) →
      (f.tod = true → todStill u = true → f.at_ ≤ u.now) →
      exec (.tpOutFall t n) s = .next (after u (emit (.pin (.tpOut n) false) (onPin n (fun p => { p with fall := none }) u))))
    ∧ (∀ (a : Accessor) (w : Word) (z : State), Reaches a u → wfld (SDL_TPO_CTRL_WIDTH n) w ≠ 0 →
      z = plainWrite (rSDL_TPO_CTRL n) w (writeLatches a (rSDL_TPO_CTRL n) u) → flag (SDL_TPO_CTRL_ENABLE n) u = false →
      flag (SDL_TPO_CTRL_ENABLE n) z = true →
      exec (.tpoEnable t a n w) s = .next (after u (hostFirst a (rSDL_TPO_CTRL n) (pinArm n z))))
    ∧ (n < 2 → bit (fld SDL_TPI_STATUS_CAPTURED u) n = false →
      ∃ v, exec (.tpInCapture t n) s = .next (after u (trigger 4 0 none v))
        ∧ reg64 (rSDL_TPI_MST_LO n) (rSDL_TPI_MST_HI n) v = mstNs u ∧ reg64 (rSDL_TPI_TOD_LO n) (rSDL_TPI_TOD_HI n) v = todNs u))

/-- On a part that is powered and out of reset, for every plot n whose VF reaches its registers: an SQ doorbell within
the ring and the credit moves tail and submitted count, one beyond the ring or the credit is a queue error; a CQ
doorbell frees posted entries; QUEUE_ENABLE leaves the enables the write names, SQs without the CQ being an error;
GRANT_STEP grants at most one command to each SQ and one to the SQ whose turn it is where R383 allows; COMMAND_FETCH
stages a good entry in order, starts an ABORT at once and answers a bad entry or a gap; COMMAND_START runs the oldest
staged command where the limits allow, a NOP completing OK; COPY_DONE and COALESCE_TIMEOUT act as R390 and R386 say. -/
def Obligations.QueueCommandsAnswer : Prop :=
  (∀ (t n : Nat) (w : Word) (s u : State), Awake t s u → reaches (.vf n) u = true → n < 16 →
    (∀ q tail size k, q < 4 → plotAccepts n u = true → sqOn n q u = true → tail = w.toNat % 4096 → size = sqSize n q u →
      k = (tail + size - get 0 q (queueOf n u).tail) % size →
      (tail < size → k ≤ (grantOf n q u + 2 ^ 32 - get 0 q (queueOf n u).submitted) % 2 ^ 32 →
        exec (.sqDoorbell t n q w) s = .next (after u (onQueue n (fun x => { x with
          tail := put 0 q tail x.tail, submitted := upd 0 q (fun v => (v + k) % 2 ^ 32) x.submitted }) u)))
      ∧ (tail < size → (grantOf n q u + 2 ^ 32 - get 0 q (queueOf n u).submitted) % 2 ^ 32 < k →
        exec (.sqDoorbell t n q w) s = .next (after u (queueErr n 2 q u)))
      ∧ (size ≤ tail → exec (.sqDoorbell t n q w) s = .next (after u (queueErr n 1 q u))))
    ∧ (∀ h size, plotAccepts n u = true → flag (PLOT_Q_CTRL_CQ_EN n) u = true → h = w.toNat % 4096 → size = cqSize n u → h < size →
      (h + size - fld (PLOT_CQ_STATE_HEAD n) u) % size ≤ cqPosted n u →
      exec (.cqDoorbell t n w) s = .next (after u (setFld (PLOT_CQ_STATE_HEAD n) h u)))
    ∧ (∀ h size, plotAccepts n u = true → flag (PLOT_Q_CTRL_CQ_EN n) u = true → h = w.toNat % 4096 → size = cqSize n u →
      size ≤ h ∨ cqPosted n u < (h + size - fld (PLOT_CQ_STATE_HEAD n) u) % size →
      exec (.cqDoorbell t n w) s = .next (after u (queueErr n 3 0 u)))
    ∧ (∀ z, z = writeLatches (.vf n) (rPLOT_Q_CTRL n) u →
      (wfld (PLOT_Q_CTRL_SQ_EN n) w ≠ 0 → wfld (PLOT_Q_CTRL_CQ_EN n) w = 0 →
        exec (.queueEnable t n w) s = .next (after u (hostFirst (.vf n) (rPLOT_Q_CTRL n) (queueErr n 5 0 z))))
      ∧ (wfld (PLOT_Q_CTRL_SQ_EN n) w = 0 ∨ wfld (PLOT_Q_CTRL_CQ_EN n) w = 1 →
        ∃ v, exec (.queueEnable t n w) s = .next (after u (hostFirst (.vf n) (rPLOT_Q_CTRL n) v)) ∧ fld (PLOT_Q_CTRL_CQ_EN n) v = wfld (PLOT_Q_CTRL_CQ_EN n) w
          ∧ fld (PLOT_Q_CTRL_SQ_EN n) v = wfld (PLOT_Q_CTRL_SQ_EN n) w)))
  ∧ (∀ (t n : Nat) (s u : State), Awake t s u →
    (flag (PLOT_Q_CTRL_CQ_EN n) u = true → ∃ v, exec (.grantStep t n) s = .next (after u v)
      ∧ (∀ q, q < 4 → grantOf n q v = grantOf n q u ∨ grantOf n q v = (grantOf n q u + 1) % 2 ^ 32)
      ∧ (∀ q, q = (queueOf n u).turn % 4 → mayGrant n q u = true → grantOf n q v = (grantOf n q u + 1) % 2 ^ 32)
      ∧ (queueOf n v).tail = (queueOf n u).tail ∧ v.regs = u.regs)
    ∧ (∀ q e, q < 4 → get none (4096 * q + sqHead n q u) (queueOf n u).arrived = some e → sqOn n q u = true → vfOn n u = true →
      (arg e 4 4 = fld (PLOT_SQ_SEQ_EXP n q) u →
        (arg e 0 1 ≤ 8 → entryOk e = true → ∃ v, exec (.commandFetch t n q) s = .next (after u v)
          ∧ (queueOf n v).staged = (queueOf n u).staged ++ [⟨(queueOf n u).fetchNo, q, arg e 4 4, e⟩]
          ∧ fld (PLOT_SQ_SEQ_EXP n q) v = (arg e 4 4 + 1) % 2 ^ 32)
        ∧ (arg e 0 1 = 9 → entryOk e = true → startRoom n u = true → ∃ z, exec (.commandFetch t n q) s
          = .next (after u (abortStart n 1 (some (q, arg e 4 4)) z)) ∧ (queueOf n z).staged
            = (queueOf n u).staged.filter (fun d => d.no != (queueOf n u).fetchNo))
        ∧ (9 < arg e 0 1 → ∃ z, exec (.commandFetch t n q) s
          = .next (after u (complete n q (arg e 4 4) stBadOpcode 0 0 z)) ∧ (queueOf n z).staged = (queueOf n u).staged)
        ∧ (arg e 0 1 ≤ 9 → entryOk e = false → ∃ z, exec (.commandFetch t n q) s
          = .next (after u (complete n q (arg e 4 4) stBadField 0 0 z)) ∧ (queueOf n z).staged = (queueOf n u).staged))
      ∧ (∀ d, d = (arg e 4 4 + 2 ^ 32 - fld (PLOT_SQ_SEQ_EXP n q) u) % 2 ^ 32 → 0 < d → d < 2 ^ 31 →
        ∃ z, exec (.commandFetch t n q) s = .next (after u (post n ⟨q, arg e 4 4, entryTag e, false, false, stSeqGap, 0, 0⟩ (passed n q z)))
          ∧ (queueOf n z).staged = (queueOf n u).staged))
    ∧ (∀ q c, stagedAbort n q u = none → (queueOf n u).staged.find? (fun c => c.sq == q) = some c → mayStart n c u = true →
      exec (.commandStart t n q) s = .next (after u (runCmd n c (startCmd n c u)))
      ∧ (arg c.entry 0 1 = 0 → exec (.commandStart t n q) s = .next (after u (complete n q c.seq stOK 0 0 (startCmd n c u)))))
    ∧ (∀ q c, stagedAbort n q u = some c → startRoom n u = true → vfOn n u = true →
      exec (.commandStart t n q) s = .next (after u (abortStart n 1 (some (q, c.seq)) (startCmd n c u))))
    ∧ (∀ q seq c, (queueOf n u).copies.find? (fun c => c.sq == q && c.seq == seq) = some c →
      (c.toHbm = true → (∀ j ∈ pieces c, get [] j c.got ≠ []) → runOf n u = false →
        exec (.copyDone t n q seq) s = .next (after u (complete n q seq stOK 0 c.len u)))
      ∧ (c.toHbm = false → paused n u = false → isoWindow n u = true →
        ∃ z, exec (.copyDone t n q seq) s
          = .next (after u (complete n q seq (if hbmBad c.addr c.len u then stHbmUe else stOK) 0 c.len z)) ∧ z.queue = u.queue))
    ∧ (flag (PLOT_CQ_CFG_IRQ_EN n) u = true → fld (PLOT_CQ_COAL_TIME n) u ≠ 0 → (queueOf n u).unsig ≠ 0 →
      (queueOf n u).unsigAt + fld (PLOT_CQ_COAL_TIME n) u * 11000 ≤ u.now →
      exec (.coalesceTimeout t n) s = .next (after u (cqSignal n u))))

/-- On a part that is powered and out of reset: a completion of a fetch keeps its 64 bytes for its ring entry, an
error on one stops the SQ; one on a fenced tag is discarded; a request or a fenced tag times out after the completion
timeout; clearing Bus Master Enable fences the function's tags, with its entry; setting it, out of D3hot, and MSI-X Enable
send what was held; FLR of a function, LINK_UP, LINK_RATE_CHANGE and LINK_DOWN, NUMVFS_WRITE and APERTURE_ACCESS have the
effects their rules give. -/
def Obligations.HostFunctionsAnswer : Prop :=
  (∀ (t f id : Nat) (g : Tag) (s u : State), Awake t s u → (func f u).tags.find? (fun x => x.id == id) = some g →
    (g.fenced = true → ∀ data, exec (.readCompletion t f id data) s = .next (after u u))
    ∧ (∀ bs, g.fenced = false → g.copy = false → f ≠ 0 → sqOn (f - 1) g.sq u = true → (ringOpen (f - 1) g.sq u).contains g.piece = true →
      ∃ v, exec (.readCompletion t f id (some bs)) s = .next (after u v)
        ∧ get none (4096 * g.sq + g.piece) (queueOf (f - 1) v).arrived = some (BitVec.ofNat 512 (natLE (bs.take 64)))
        ∧ (func f v).tags = (func f u).tags.filter (fun x => x.id != id))
    ∧ (g.fenced = false → exec (.readCompletion t f id none) s = .next (after u (requestFails (f - 1) g (freeTag f id u))))
    ∧ (g.fenced = false → g.at_ + tagLife f u ≤ u.now →
      exec (.completionTimeout t f id) s = .next (after u (requestFails (f - 1) g (freeTag f id u))))
    ∧ (g.fenced = true → g.at_ + tagLife f u ≤ u.now →
      exec (.tagTimeout t f id) s = .next (after u (flrOver f (freeTag f id u)))))
  ∧ (∀ (t f : Nat) (s u : State), Awake t s u →
    (∀ cfg, (func f u).bme = true → ∃ v, exec (.bmeClear t f cfg) s = .next (after u (devFault 0 5 f v)) ∧ (func f v).bme = false
      ∧ (∀ x ∈ (func f v).tags, x.fenced = true) ∧ v.regs = u.regs)
    ∧ (∀ cfg, ∃ z, exec (.bmeSet t f cfg) s = .next (after u (sendPending f z)) ∧ (func f z).bme = true
      ∧ (func f z).cfg.d3 = cfg.d3 ∧ (f ≠ 0 → (func f u).flr = false → cfg.d3 = false → (queueOf (f - 1) z).hold = [] ∧ fld (PLOT_Q_STATUS_HELD (f - 1)) z = 0))
    ∧ exec (.msixEnable t f) s = .next (after u (sendPending f (onFunc f (fun g => { g with msixEn := true }) u)))
    ∧ (f ≠ 0 → f ≤ u.vfs → exec (.flr t f) s = .next (after u (flrVf (f - 1) u)))
    ∧ (f = 0 → exec (.flr t f) s = .next (after u (flrFunc 0 u))))
  ∧ (∀ (t rate width tagBits num x n : Nat) (flit enable ari : Bool) (s u : State), Awake t s u →
    exec (.linkUp t rate width flit tagBits) s
      = .next (after u (devFault 0 1 (2 ^ 11 * rate + 2 ^ 6 * width) (setLink rate width flit tagBits u)))
    ∧ (flag GLB_PCIE_STATUS_LINK_UP u = true → ¬(fld GLB_PCIE_STATUS_RATE u = rate ∧ fld GLB_PCIE_STATUS_WIDTH u = width) →
      exec (.linkRateChange t rate width flit tagBits) s
        = .next (after u (devFault 0 3 (2 ^ 11 * rate + 2 ^ 6 * width) (setLink rate width flit tagBits u))))
    ∧ exec (.linkDown t) s = .next (after u (flrFunc 0 (devFault 0 2 0 (bump GLB_PCIE_STATUS_DOWN_COUNT 1
      (setFld GLB_PCIE_STATUS_LINK_UP 0 u)))))
    ∧ (∃ v, exec (.numvfsWrite t num enable ari) s = .next (after u v) ∧ v.ari = ari ∧ v.regs = u.regs ∧ v.queue = u.queue
      ∧ v.vfs = if enable then min num (if ari then 16 else 7) else 0)
    ∧ (reaches .host u = true → ∀ l, l = fld GLB_APER_BASE_BASE u * 2 ^ 30 + x →
      (∀ bs, x + bs.length ≤ 2 ^ (30 + (func 0 u).cfg.bar2) → l + bs.length ≤ hbmBytes → hbmPaused l bs.length u = false →
        exec (.apertureAccess t x (some bs) n) s = .next (after u (hbmWriteAll ⟨none, 0, false⟩ l bs u)))
      ∧ (x + n ≤ 2 ^ (30 + (func 0 u).cfg.bar2) → l + n ≤ hbmBytes → hbmPaused l n u = false → exec (.apertureAccess t x none n) s
        = .next (after u (emit (.aperture (hbmData l n u) (hbmBad l n u)) (hbmCheckAll ⟨none, 0, false⟩ l n u))))
      ∧ (∀ v, x + n ≤ 2 ^ (30 + (func 0 u).cfg.bar2) → l + n ≤ hbmBytes → hbmPaused l n u = true →
        v = onHbm (fun h => { h with wait := h.wait ++ [(l, none, n)] }) u → exec (.apertureAccess t x none n) s = .next (after u v))
      ∧ (x + n ≤ 2 ^ (30 + (func 0 u).cfg.bar2) → hbmBytes < l + n →
        exec (.apertureAccess t x none n) s = .next (after u (emit (.aperture (List.replicate n 0xFF) false) u)))))

/-- On a part that is powered and out of reset whose registers the sideband reaches: READ32 of 1 to 8 words at a
multiple of 4 answers each word in turn, another count an error; WRITE32 answers success after the write; READ_FIFO
of 1 to 14 entries takes them, oldest first, and of an empty FIFO answers the last entry read and sets UNDERRUN;
GET_STATUS answers GLB_SFIFO_STATUS and GLB_PCIE_STATUS. -/
def Obligations.SidebandAnswers : Prop :=
  ∀ (t : Nat) (s u : State), Awake t s u → reaches .sideband u = true →
    (∀ off count, 1 ≤ count → count ≤ 8 → off % 4 = 0 → exec (.read32 t off count) s
      = .next (after u (emit (.mctp (0 :: (readWords off count u).1)) (readWords off count u).2)))
    ∧ (∀ off count, count = 0 ∨ 8 < count → exec (.read32 t off count) s = .next (after u (emit (.mctp [2]) u)))
    ∧ (∀ off w counts, exec (.write32 t off w counts) s
      = .next (after u (emit (.mctp [0]) (regWrite .sideband off w counts u))))
    ∧ (∀ a b, a = readReg .sideband rGLB_SFIFO_STATUS u → b = readReg .sideband rGLB_PCIE_STATUS a.2 →
      exec (.getStatus t) s = .next (after u (emit (.mctp (bytesLE 4 a.1.toNat ++ bytesLE 4 b.1.toNat)) b.2)))
    ∧ (∀ count, 1 ≤ count → count ≤ 14 →
      (u.sfifo ≠ [] → ∃ v, exec (.readFifo t count) s = .next (after u (sfHold v)) ∧ v.sfifo = u.sfifo.drop count
        ∧ v.out = .mctp ([0, BitVec.ofNat 8 (u.sfifo.take count).length, 0]
          ++ (u.sfifo.take count).flatMap fun e => bytesLE 4 e.toNat) :: u.out
        ∧ reg rGLB_SFIFO_LAST v = (u.sfifo.take count).getLastD 0)
      ∧ (u.sfifo = [] → exec (.readFifo t count) s = .next (after u (emit (.mctp ([0, 1, 1]
        ++ bytesLE 4 (fld GLB_SFIFO_LAST_ENTRY (raise GLB_SFIFO_STATUS_UNDERRUN 1 u))))
          (raise GLB_SFIFO_STATUS_UNDERRUN 1 u)))))
    ∧ (∀ count, count = 0 ∨ 14 < count → exec (.readFifo t count) s = .next (after u (emit (.mctp [2]) u)))

/-- On a part that is powered and out of reset: DRAIN_START, SEND_STOP and RECEIVE_CLOSE at their instants before a
slice start do their step and those before it; SLICE_START in stage READY with MST valid gives the slice its number,
start, owner and entry and clears what was drained; OPEN of a FREE plot with its regions makes it OPEN; CLOSE of an
OPEN plot aborts it with CODE 5 and clears its queue enables; TEARDOWN of a CLOSING plot frees it with a final record;
ISO_EN turns the mode on where nothing refuses it, keeps a refusal's REASON, and off; METERING_BOUNDARY closes a
record of each plot that is not FREE; PENDING_RECORD_WRITE writes what may be written. -/
def Obligations.PlotCommandsAnswer : Prop :=
  (∀ (t : Nat) (s u : State), Awake t s u →
    (mstValid u = true → sliceNs u ≠ 0 →
      (nextStart u ≤ mstNs u + fld SEQ_SLICE_CTRL_DRAIN u * 1000 → u.slice.drained = false →
        ∃ v, exec (.drainStart t) s = .next (after u v) ∧ v.slice.drained = true ∧ fld SEQ_SLICE_STATUS_DRAINING v = 1
          ∧ v.link = (runEnd 2 u).link)
      ∧ (nextStart u ≤ mstNs u + 2000 → exec (.sendStop t) s = .next (after u (stopSends (beginDrain u))))
      ∧ (nextStart u ≤ mstNs u + 1000 →
        ∃ v, exec (.receiveClose t) s = .next (after u (closeReceives v)) ∧ v = stopSends (beginDrain u))
      ∧ (∀ counts z N, nextStart u ≤ mstNs u → stage u = 8 → z = forceRequests (closeReceives (stopSends (beginDrain u))) →
        N = mstNs z / sliceNs z →
        ∃ v, exec (.sliceStart t counts) s = .next (after u (trigger 3 0 none (boundary 2 counts v)))
          ∧ ((sliceOwner N z).1 = none → v.slice.number = N ∧ v.slice.owner = none ∧ v.slice.start = z.now
            ∧ v.slice.drained = false ∧ v.slice.sendStop = false ∧ v.slice.recvClose = false ∧ v.reported = []
            ∧ v.sdl.nextSlice = N + 1)
          ∧ (∀ q, (sliceOwner N z).1 = some q → ∃ y, v = homeSwap q (N * sliceNs y) y ∧ y.slice.number = N
            ∧ y.slice.owner = some q ∧ y.slice.start = z.now ∧ y.slice.drained = false)))
    ∧ (∀ p, p = fld MTR_CTRL_PERIOD u * 1000000 → flag MTR_CTRL_ENABLE u = true → p ≠ 0 → meterTime u % p = 0 →
      u.mtrNext ≠ meterTime u + 1 → ∀ z, z = writeRecords (forAll (fun n s => if plotState n s = 0 then s else closeRecord n false s)
        (List.range 16) { u with mtrNext := meterTime u + 1 }) →
      exec (.meteringBoundary t) s = .next (after u (if chousUp u then meterCheckpoint z else z)))
    ∧ exec (.pendingRecordWrite t) s = .next (after u (writeRecords u))
    ∧ (∀ n, plotState n u = 2 → aborting n u = false → (func (n + 1) u).tags = [] →
      exec (.teardown t n) s = .next (after u (writeRecords (closeRecord n true (clearPlot n (setFld (PLOT_STATUS_STATE n) 0 u)))))))
  ∧ (∀ (t n : Nat) (a : Accessor) (w : Word) (s u z : State), Awake t s u → Reaches a u → n < 16 →
    z = writeLatches a (rPLOT_CTRL n) u →
    (wfld (PLOT_CTRL_OPEN n) w = 1 → wfld (PLOT_CTRL_CLOSE n) w = 0 → plotState n u = 0 → flag (SEQ_ISR_VALID n) u = true →
      flag (TLY_TR_VALID n) u = true → flag (TLY_WR_VALID n) u = true → isoOn u = false ∨ flag (CSC_PLOT_HOME_VALID n) u = true →
      ∃ v, exec (.openPlot t a n w) s = .next (after u (hostFirst a (rPLOT_CTRL n) v)) ∧ v = setFld (PLOT_STATUS_STATE n) 1 z ∧ plotState n v = 1)
    ∧ (wfld (PLOT_CTRL_OPEN n) w = 0 → wfld (PLOT_CTRL_CLOSE n) w = 1 → plotState n u = 1 →
      exec (.closePlot t a n w) s = .next (after u (hostFirst a (rPLOT_CTRL n)
        (queueEnable n 0 (abortStart n 5 none (setFld (PLOT_STATUS_STATE n) 2 z)))))))
  ∧ (∀ (t : Nat) (a : Accessor) (w : Word) (s u z : State), Awake t s u → Reaches a u → z = writeLatches a rSEQ_ISO_CTRL u →
    (wfld SEQ_ISO_CTRL_ISO_EN w = 0 → runOn u = false → exec (.isoEn t a w) s
      = .next (after u (hostFirst a rSEQ_ISO_CTRL
        (thermIso (showHot (setFlds [(SEQ_ISO_CTRL_ISO_EN, 0), (SEQ_ISO_CTRL_ISO_ON, 0)] z))))))
    ∧ (wfld SEQ_ISO_CTRL_ISO_EN w = 1 → isoOn u = false → ∀ y, y = setFld SEQ_ISO_CTRL_ISO_EN 1 z →
      (∀ r, isoRefused y = some r → exec (.isoEn t a w) s
        = .next (after u (hostFirst a rSEQ_ISO_CTRL (setFld SEQ_ISO_CTRL_REASON r y))))
      ∧ (isoRefused y = none → flag HMK_CAP_CFG_CAP_EN u = false →
        exec (.isoEn t a w) s
        = .next (after u (hostFirst a rSEQ_ISO_CTRL (thermIso (showHot (setFld SEQ_ISO_CTRL_ISO_ON 1 y))))))))

/-- On a part that is powered and out of reset: ABORT_COMPLETE of a plot whose scrub, requests and transfers are over
clears ABORTING, enters the abort with its duration in the FIFO unless HALT_ALL started it, completes its ABORT
commands OK and ends an FLR; HALT_ALL with no halt in progress sets HALTING and CAUSE and starts an abort of every
plot that is not FREE, and during one it changes nothing; HALT_ALL_COMPLETE with no abort left clears HALTING, sets
HALTED and LAST_DUR and enters the halt in the FIFO; RESUME clears HALTED, but is discarded while HALTING, while
TRIPPED, and in isolation mode while a die or stack is in ACT. -/
def Obligations.AbortsAndHaltsAnswer : Prop :=
  (∀ (t : Nat) (s u : State), Awake t s u →
    (∀ n a x y z, abortOf n u = some a → u.seq.scrubEnd = none → openRequests n u = [] → plotTransfers n u = false →
      z = setFld (PLOT_FAULT_STATUS_ABORTING n) 0 { u with aborts := u.aborts.filter fun b => b.plot != n } →
      y = (if a.code = 4 then z else plotFault n 8 a.code (min ((u.now - a.at_) / usT) 0x3FFF) 0 z) →
      x = forAll (fun (c : Nat × Nat) => complete n c.1 c.2 stOK 0 0) a.cmds y →
      aborting n z = false ∧ exec (.abortComplete t n) s = .next (after u (if (func (n + 1) x).flr then flrEnd n x else x)))
    ∧ (∀ h, u.haltAt = some h → u.aborts = [] → ∃ v, exec (.haltAllComplete t) s = .next (after u v) ∧ v.haltAt = none
      ∧ fld GLB_HALT_STATUS_HALTED v = 1 ∧ fld GLB_HALT_STATUS_HALTING v = 0
      ∧ fld GLB_HALT_STATUS_LAST_DUR v = min ((u.now - h) / usT) 0xFFFF
      ∧ ∃ y, v = devFault 8 4 (min ((u.now - h) / usT) 0x3FFF) y))
  ∧ (∀ (t : Nat) (a : Accessor) (w : Word) (s u z : State), Awake t s u → Reaches a u → z = writeLatches a rGLB_HALT_CTRL u →
    (wfld GLB_HALT_CTRL_HALT_ALL w = 1 → wfld GLB_HALT_CTRL_RESUME w = 0 →
      (halted u = false → exec (.haltAll t a w) s = .next (after u (hostFirst a rGLB_HALT_CTRL
        (forAll (fun n s => if plotState n s = 0 then s else abortStart n 4 none s) (List.range 16)
          (setFlds [(GLB_HALT_STATUS_HALTING, 1), (GLB_HALT_STATUS_CAUSE, 1)] { z with haltAt := some u.now })))))
      ∧ (halted u = true → exec (.haltAll t a w) s = .next (after u (hostFirst a rGLB_HALT_CTRL z))))
    ∧ (wfld GLB_HALT_CTRL_HALT_ALL w = 0 → wfld GLB_HALT_CTRL_RESUME w = 1 →
      (flag GLB_HALT_STATUS_HALTING u = false → flag GLB_THERM_STATUS_TRIPPED u = false → isoOn u = false ∨ dieAct u = false →
        exec (.resume t a w) s = .next (after u (hostFirst a rGLB_HALT_CTRL (setFld GLB_HALT_STATUS_HALTED 0 z))))
      ∧ (flag GLB_HALT_STATUS_HALTING u = true ∨ flag GLB_THERM_STATUS_TRIPPED u = true ∨ isoOn u = true ∧ dieAct u = true →
        exec (.resume t a w) s = .next (after u (hostFirst a rGLB_HALT_CTRL (discard a rGLB_HALT_CTRL z))))))

/-- On a part that is powered and out of reset: SENSOR_READ takes the readings of the sixteen groups in order, then
shows the three STATE fields and THROTTLE; TRIP_OPTICS_OFF 260 us after a trip turns the six banks and the CSC off;
WATCHDOG_EXPIRY counts the expiry and holds the management core in reset; CHOUS_RESTART 1 ms later ends that and
enters the expiry in the FIFO; INJ_ARM arms one injection with its kind, target and address and sets BUSY, and is
discarded and recorded while ISO_ON, while BUSY or with a reserved KIND; INJ_DONE_CLEAR clears DONE and lights what an
injection had darkened. -/
def Obligations.HeatWatchdogInjectionAnswer : Prop :=
  (∀ (t : Nat) (s u : State), Awake t s u →
    (∀ temps z, z = forAll (fun (x : Nat × Nat) => thermRead x.1 x.2) (enum 0 (temps.take 16)) u →
      exec (.sensorRead t temps) s = .next (after u (throttle (setFlds [(GLB_THERM_STATUS_STATE_A, get 0 0 z.therm),
        (GLB_THERM_STATUS_STATE_B, get 0 1 z.therm), (GLB_THERM_STATUS_STATE_HBM, hbmTherm z)] z))))
    ∧ (∀ at_, u.tripAt = some at_ → at_ + 260 * usT ≤ u.now →
      exec (.tripOpticsOff t) s = .next (after u (cscOff (loop bankOff 6 u))))
    ∧ (u.wdogAt = none → ∃ v, exec (.watchdogExpiry t) s = .next (after u v) ∧ v.wdogAt = some u.now ∧ v.fw.wdog = true
      ∧ fld GLB_WDOG_STATUS_EXPIRIES v = min (fld GLB_WDOG_STATUS_EXPIRIES u + 1) 0xFFFF)
    ∧ (∀ at_, u.wdogAt = some at_ → at_ + msT ≤ u.now → ∃ v, exec (.chousRestart t) s = .next (after u v) ∧ v.wdogAt = none
      ∧ v = devFault 14 1 (min (fld GLB_WDOG_STATUS_EXPIRIES u) 0x3FFF) { u with wdogAt := none }))
  ∧ (∀ (t : Nat) (a : Accessor) (w : Word) (counts : Map Nat) (kind target : Nat) (s u z : State), Awake t s u → Reaches a u →
    kind = wfld GLB_INJ_CTRL_KIND w → target = wfld GLB_INJ_CTRL_TARGET w →
    z = setFlds [(GLB_INJ_CTRL_KIND, kind), (GLB_INJ_CTRL_TARGET, target)] (writeLatches a rGLB_INJ_CTRL u) →
    (wfld GLB_INJ_CTRL_ARM w = 1 → wfld GLB_INJ_CTRL_DONE w = 0 →
      (isoOn u = false → flag GLB_INJ_CTRL_BUSY u = false → 1 ≤ kind → kind ≤ 10 →
        exec (.injArm t a w counts) s = .next (after u (hostFirst a rGLB_INJ_CTRL (injAtOnce kind target counts
          (setFld GLB_INJ_CTRL_BUSY 1 { z with inj := some (kind, target, reg64 rGLB_INJ_ADDR_LO rGLB_INJ_ADDR_HI u) })))))
      ∧ (isoOn u = true ∨ flag GLB_INJ_CTRL_BUSY u = true ∨ kind = 0 ∨ 10 < kind →
        exec (.injArm t a w counts) s = .next (after u (hostFirst a rGLB_INJ_CTRL (discard a rGLB_INJ_CTRL z)))))
    ∧ (wfld GLB_INJ_CTRL_ARM w = 0 → wfld GLB_INJ_CTRL_DONE w = 1 → ∃ v, exec (.injDoneClear t a w) s = .next (after u (hostFirst a rGLB_INJ_CTRL v))
      ∧ v.dark = [] ∧ (get 0 rGLB_INJ_CTRL (updates u).sets = 0 → fld GLB_INJ_CTRL_DONE v = 0)
      ∧ fld GLB_INJ_CTRL_KIND v = kind ∧ fld GLB_INJ_CTRL_TARGET v = target))

/-- On a part that is powered and out of reset: SNAP_NOW stores the write and triggers source 5; PERIODIC at a
multiple of PERIOD us of valid MST triggers source 2 once; SNAPSHOT_COMPLETE of a class whose snapshot runs writes its
record, takes the trigger that waits, and leaves the flush the snapshot is the cause of, and with no trigger waiting
the class is idle again; HALLMARK_CLEAR_END 120 us after the release of a power-on reset clears CLEARING. -/
def Obligations.SnapshotsAnswer : Prop :=
  (∀ (t : Nat) (a : Accessor) (w : Word) (s u z : State), Awake t s u → Reaches a u → z = writeLatches a rHMK_CTRL u →
    wfld HMK_CTRL_SNAP_NOW w = 1 → exec (.snapNow t a w) s
      = .next (after u (hostFirst a rHMK_CTRL (trigger 5 0 none (plainWrite rHMK_CTRL w z)))))
  ∧ (∀ (t : Nat) (s u : State), Awake t s u →
    (∀ p, p = 1000 * fld HMK_PERIOD_PERIOD u → p ≠ 0 → mstValid u = true → mstNs u % p = 0 → u.hmkAt ≠ mstNs u + 1 →
      exec (.periodic t) s = .next (after u (trigger 2 0 none { u with hmkAt := mstNs u + 1 })))
    ∧ (∀ x, u.recTrace.busy = some x →
      exec (.snapshotComplete t true) s = .next (after u (leaveFlush x.flush (nextSnap true (writeTrace x u)))))
    ∧ (∀ x, u.recFault.busy = some x →
      exec (.snapshotComplete t false) s = .next (after u (leaveFlush x.flush (nextSnap false (writeFault x u)))))
    ∧ (∀ z, (z.recTrace.pending = none → (nextSnap true z).recTrace.busy = none ∧ (nextSnap true z).recFault = z.recFault)
      ∧ (z.recFault.pending = none → (nextSnap false z).recFault.busy = none ∧ (nextSnap false z).recTrace = z.recTrace))
    ∧ (flag HMK_STATUS_CLEARING u = true → u.releaseAt + 120 * usT ≤ u.now → ∃ v,
      exec (.hallmarkClearEnd t) s = .next (after u v) ∧ v = setFld HMK_STATUS_CLEARING 0 u ∧ flag HMK_STATUS_CLEARING v = false))

/-- FLUSH_HOLDOFF_END with a fault flush waiting, none running and the hold-off over begins it; FLUSH_RECORD_COMMIT of
a flush that is not paused and whose header is written copies the next record of parts 1, 2 and 3 in that order;
FLUSH_PAUSE and BKP_FAIL report the rails failing and pause the flush that runs, on a part in any condition;
FLUSH_RESUME with PWRFAIL_N high for 1 ms ends that, and a paused flush goes on with its header or its next record. -/
def Obligations.FlushesAnswer : Prop :=
  (∀ (t : Nat) (s u : State), Awake t s u →
    (u.flushWait = true → u.flush = none → holdoffOver u = true →
      exec (.flushHoldoffEnd t) s = .next (after u (flushBegin 0 (setFld HMK_FLUSH_STATUS_WAITING 0 { u with flushWait := false }))))
    ∧ (∀ f, u.flush = some f → f.paused = false → f.head = [] →
      (∀ k ks, f.part1 = k :: ks → exec (.flushRecordCommit t) s = .next (after u (commitRecord k { f with part1 := ks } u)))
      ∧ (∀ k ks, f.part1 = [] → f.part2 = k :: ks →
        exec (.flushRecordCommit t) s = .next (after u (commitRecord k { f with part2 := ks } u)))
      ∧ (∀ k ks, f.part1 = [] → f.part2 = [] → f.part3 = k :: ks →
        exec (.flushRecordCommit t) s = .next (after u (commitRecord k { f with part3 := ks, later := f.later + 1 } u)))))
  ∧ (∀ (t : Nat) (s u : State), u = clockTo t s →
    (∃ v, exec (.flushPause t) s = .next (afterPower u v) ∧ exec (.bkpFail t) s = .next (afterPower u v) ∧ v.bkpFail = true
      ∧ (u.flush = none → v.flush = none) ∧ (∀ f, u.flush = some f → v.flush = some { f with paused := true }
        ∧ flag HMK_FLUSH_STATUS_PAUSED v = true ∧ v.mram = u.mram))
    ∧ (pwrSteady u = true →
      (u.flush = none → exec (.flushResume t) s = .next (afterPower u { u with bkpFail := false }))
      ∧ (∀ f, u.flush = some f → f.paused = true → exec (.flushResume t) s = .next (afterPower u (flushAdvance (flushHead
        (setFld HMK_FLUSH_STATUS_PAUSED 0 { u with bkpFail := false, flush := some { f with paused := false } })))))))

/-- Whatever triggers reach an idle class one after another before its snapshot completes: the first is the snapshot
that runs, all others are one pending record whose SRC is the OR of their sources and whose MERGED counts all but the
first of them, and RNUM does not move. -/
def Obligations.BurstMakesTwoRecords : Prop :=
  ∀ (n : Nat) (a b : Snap) (ts : List Snap), b.merged = 0 →
    let c := (a :: b :: ts).foldl (fun c t => recTrigger t c) { busy := none, pending := none, rnum := n }
    c.busy = some a ∧ c.rnum = n ∧ ∃ p, c.pending = some p ∧ p.merged = ts.length
      ∧ p.src = ts.foldl (fun m t => m ||| t.src) b.src
      ∧ ((∃ t ∈ b :: ts, t.flush.isSome) ↔ p.flush.isSome)

/-- On a part that is powered and out of reset: BOOT in stage BOOT checks slot 0 with no boot record, enters Crucible
on request, falls back from a trial that was decided against or has had three boots, counts a further trial boot, and
else checks the active slot; SLOT_CHECK_END starts the slot that passes with the records its reason gives, and of one
that fails goes to the slot or to Crucible as its reason gives; COMPONENT_READY within 50 ms of a component that still
matches its hash marks it ready, and the sixth ends the load, one that does not match fails the load;
COMPONENT_LOAD_TIMEOUT after 50 ms fails the load. -/
def Obligations.BootsAnswer : Prop :=
  ∀ (t : Nat) (s u : State), Awake t s u →
    (u.fw.phase = .rom → stage u = 2 →
      (bootRec u = none → exec (.boot t) s = .next (after u (checkSlot 0 .blank u)))
      ∧ (∀ r, bootRec u = some r →
        (r.state = 2 → exec (.boot t) s = .next (after u (enterCrucible u)))
        ∧ (r.state = 1 → u.fw.fall = 2 ∨ u.fw.fall = 4 → exec (.boot t) s = .next (after u (fallBack u.fw.fall u)))
        ∧ (r.state = 1 → u.fw.fall ≠ 2 → u.fw.fall ≠ 4 → 3 ≤ trialBoots u →
          exec (.boot t) s = .next (after u (fallBack 1 u)))
        ∧ (r.state = 1 → u.fw.fall ≠ 2 → u.fw.fall ≠ 4 → trialBoots u < 3 → exec (.boot t) s
          = .next (after u (checkSlot r.active .active (setTrialBoots (trialBoots u + 1) u))))
        ∧ (r.state ≠ 1 → r.state ≠ 2 → exec (.boot t) s = .next (after u (checkSlot r.active .active u)))))
    ∧ (∀ slot why pass r, u.fw.phase = .check slot why → pass = (imageOk slot u && !(u.fw.fall == 5 && slot == u.fw.slot)) →
      r = (bootRec u).getD {} →
      (pass = true →
        (why = .blank ∨ why = .active → exec (.slotCheckEnd t) s = .next (after u (startSlot slot 0 u)))
        ∧ (why = .other → exec (.slotCheckEnd t) s
          = .next (after u (startSlot slot 0 (writeBoot { r with bad := r.bad ||| 2 ^ r.active } u))))
        ∧ (∀ c, why = .fall c → exec (.slotCheckEnd t) s = .next (after u (startSlot slot c
          (writeBoot { r with active := slot, state := 0, bad := r.bad ||| 2 ^ r.active } u)))))
      ∧ (pass = false →
        (why = .blank → slot = 0 → exec (.slotCheckEnd t) s = .next (after u (checkSlot 1 .blank u)))
        ∧ (why = .active → r.state = 1 → exec (.slotCheckEnd t) s
          = .next (after u (fallBack (if u.fw.fall = 5 then 5 else 3) u)))
        ∧ (why = .active → r.state ≠ 1 → exec (.slotCheckEnd t) s = .next (after u (checkSlot (1 - slot) .other u)))
        ∧ ((why = .blank ∧ slot ≠ 0) ∨ why = .other ∨ (∃ c, why = .fall c) →
          exec (.slotCheckEnd t) s = .next (after u (enterCrucible u)))))
    ∧ (u.fw.phase = .load →
      (∀ id, 2 ≤ id → id ≤ 6 → u.now ≤ u.fw.loadAt + 50 * msT →
        (componentHolds id u = false → exec (.componentReady t id) s = .next (after u (loadFails u)))
        ∧ (componentHolds id u = true → ∃ v, exec (.componentReady t id) s = .next (after u v)
          ∧ v.fw.ready = u.fw.ready ||| 2 ^ id ∧ v.fw.loadAt = u.now
          ∧ v.fw.phase = (if u.fw.ready ||| 2 ^ id = 0x7E then .run else .load) ∧ v.regs = u.regs))
      ∧ (u.fw.loadAt + 50 * msT ≤ u.now → exec (.componentLoadTimeout t) s = .next (after u (loadFails u))))

/-- On a part that is powered and out of reset: CONFIRMATION once every condition holds ends the trial, makes the boot
record CONFIRMED, raises the fused floor where the image asks, and signals source 21; TRIAL_TIMEOUT after 600 s, where
one of them fails, falls back with cause 2; CONFIRM, REJECT, CRUCIBLE and ACTIVATE are one register: ACTIVATE activates a READY update and is
discarded otherwise, CONFIRM notes the host's word, REJECT fails a trial with cause 4 and is discarded otherwise,
CRUCIBLE marks the boot record and resets after a halt, in this order. -/
def Obligations.TrialsAnswer : Prop :=
  (∀ (t : Nat) (s u : State), Awake t s u →
    (∀ z, onTrial u = true → 4 ≤ stage u → stage u ≤ 8 → u.fw.wdog = false → (List.range 6).all (fun p => portConfirms p u) = true →
      chousUp u = true → flag FWU_SVC_CFG_LINK_UP u = true →
      Config.holdConfirm ((areaBody (settingsArea u.fw.slot) u).getD []) = false ∨ u.fw.pfConfirm = true →
      z = setFld FWU_STATUS_TRIAL 0 (onBoot (fun r => { r with state := 0 }) (onFw (fun f => { f with trial := false }) u)) →
      z.fw.trial = false ∧ flag FWU_STATUS_TRIAL z = false
      ∧ (slotRaise u.fw.slot z = true → u.fuses.floor < slotSec u.fw.slot z → exec (.confirmation t) s
        = .next (after u (irq 21 (showAlt { z with fuses := { u.fuses with floor := slotSec u.fw.slot z } }))))
      ∧ (slotRaise u.fw.slot z = false ∨ slotSec u.fw.slot z ≤ u.fuses.floor →
        exec (.confirmation t) s = .next (after u (irq 21 (showAlt z)))))
    ∧ (onTrial u = true → u.fw.bootAt + trialT ≤ u.now →
      (stage u < 4 ∨ 8 < stage u ∨ u.fw.wdog = true ∨ (List.range 6).all (fun p => portConfirms p u) = false ∨ chousUp u = false
        ∨ flag FWU_SVC_CFG_LINK_UP u = false
        ∨ (Config.holdConfirm ((areaBody (settingsArea u.fw.slot) u).getD []) = true ∧ u.fw.pfConfirm = false)) → ∃ v, exec (.trialTimeout t) s = .next (after u v)
      ∧ v = resetAfterHalt (onFw (fun f => { f with fall := 2 }) u)))
  ∧ (∀ (t : Nat) (a : Accessor) (w : Word) (s u z z1 z2 z3 z4 : State), Awake t s u → Reaches a u →
    z = writeLatches a rFWU_CTRL u →
    z1 = (if wfld FWU_CTRL_ACTIVATE w = 1 then (if fld FWU_UPD_STATUS_STATE u = 4 then activate (wfld FWU_CTRL_RESET_NOW w == 1) z
      else discard a rFWU_CTRL z) else z) →
    z2 = (if wfld FWU_CTRL_CONFIRM w = 1 then onFw (fun f => { f with pfConfirm := true }) z1 else z1) →
    z3 = (if wfld FWU_CTRL_REJECT w = 1 then (if onTrial z2 then resetAfterHalt (onFw (fun f => { f with fall := 4 }) z2)
      else discard a rFWU_CTRL z2) else z2) →
    z4 = (if wfld FWU_CTRL_CRUCIBLE w = 1 then resetAfterHalt (onBoot (fun r => { r with state := 2 }) z3) else z3) →
    exec (.confirm t a w) s = .next (after u (hostFirst a rFWU_CTRL z4)) ∧ exec (.reject t a w) s = .next (after u (hostFirst a rFWU_CTRL z4))
      ∧ exec (.crucible t a w) s = .next (after u (hostFirst a rFWU_CTRL z4)) ∧ exec (.activate t a w) s = .next (after u (hostFirst a rFWU_CTRL z4)))

/-- On a part that is powered and out of reset whose service port is up, for a requester and SEQ not answered before:
STATUS answers four registers; FW_BEGIN, FW_DATA, FW_ACTIVATE and FW_ABORT act and answer their STATUS; FW_END of a
stream being received starts verification, else it answers 8; ARP and ICMP answer for the device's own address. The
link status is shown whether it is up or not. -/
def Obligations.ServiceMessagesAnswer : Prop :=
  (∀ (t seq : Nat) (p : Peer) (s u : State), Awake t s u →
    u.fw.answered.find? (fun x => x.1 == p && x.2.1 == seq) = none →
    (serviceUp u = true →
      exec (.fwStatus t p seq) s = .next (after u (answer p 1 seq 0 ([rFWU_STATUS, rFWU_UPD_STATUS, rFWU_RUN_VER,
        rFWU_ALT_VER].flatMap fun r => bytesLE 4 (reg r u).toNat) u))
      ∧ (∀ delta h st v, fwBegin delta h u = (st, v) →
        exec (.fwBegin t p seq delta h) s = .next (after u (answer p 0x10 seq st [] v)))
      ∧ (∀ off data st v, fwData off data u = (st, v) →
        exec (.fwData t p seq off data) s = .next (after u (answer p 0x11 seq st [] v)))
      ∧ (∀ n, fld FWU_UPD_STATUS_STATE u = 4 →
        exec (.fwActivate t p seq n) s = .next (after u (answer p 0x13 seq 0 [] (activate n u))))
      ∧ (∀ n, fld FWU_UPD_STATUS_STATE u ≠ 4 → exec (.fwActivate t p seq n) s = .next (after u (answer p 0x13 seq 8 [] u)))
      ∧ (fld FWU_UPD_STATUS_STATE u = 0 → exec (.fwAbort t p seq) s = .next (after u (answer p 0x14 seq 0 [] u)))
      ∧ (fld FWU_UPD_STATUS_STATE u ≠ 0 →
        exec (.fwAbort t p seq) s = .next (after u (answer p 0x14 seq 0 [] (updAbandon 0xC u))))
      ∧ (∀ n, u.fw.upd.waits ≠ some (p, seq) →
        (fld FWU_UPD_STATUS_STATE u = 2 → exec (.fwEnd t p seq n) s
          = .next (after u (updState 3 0 (onUpd (fun x => { x with total := n, waits := some (p, seq) }) u))))
        ∧ (fld FWU_UPD_STATUS_STATE u ≠ 2 → exec (.fwEnd t p seq n) s = .next (after u (answer p 0x12 seq 8 [] u))))))
  ∧ (∀ (t : Nat) (s u : State), Awake t s u →
    (∀ mac ip n, serviceUp u = true → n = (reg rFWU_SVC_ADDR u).toNat → exec (.arpRequest t mac ip n) s
      = .next (after u (emit (.service (bytesBE 2 1 ++ bytesBE 2 0x0800 ++ [6, 4] ++ bytesBE 2 2
        ++ bytesBE 6 Config.macAddress ++ bytesBE 4 n ++ bytesBE 6 mac ++ bytesBE 4 ip)) u)))
    ∧ (∀ body, serviceUp u = true → exec (.icmpEcho t body) s
      = .next (after u (emit (.service ([0, 0] ++ bytesBE 2 (inetSum body) ++ body)) u)))
    ∧ (∀ up full, ∃ v, exec (.sgmiiLinkStatus t up full) s = .next (after u v) ∧ v = setFld FWU_SVC_CFG_LINK_UP (b2n (up && full)) u
      ∧ (flag FWU_SVC_CFG_LINK_UP v = true ↔ up = true ∧ full = true)))

/-- While the service port is up, a message of any TYPE whose requester and SEQ are among the answers kept gets the
kept answer again, byte for byte, and changes nothing else. -/
def Obligations.ServiceRepeatsAnswer : Prop :=
  ∀ (t seq : Nat) (p : Peer) (x : Peer × Nat × List Byte) (s u : State), Awake t s u →
    u.fw.answered.find? (fun x => x.1 == p && x.2.1 == seq) = some x →
    (serviceUp u = true →
      exec (.fwStatus t p seq) s = .next (after u (emit (.service x.2.2) u))
      ∧ (∀ delta h, exec (.fwBegin t p seq delta h) s = .next (after u (emit (.service x.2.2) u)))
      ∧ (∀ off data, exec (.fwData t p seq off data) s = .next (after u (emit (.service x.2.2) u)))
      ∧ (∀ n, exec (.fwEnd t p seq n) s = .next (after u (emit (.service x.2.2) u)))
      ∧ (∀ n, exec (.fwActivate t p seq n) s = .next (after u (emit (.service x.2.2) u)))
      ∧ exec (.fwAbort t p seq) s = .next (after u (emit (.service x.2.2) u))
      ∧ (∀ off n, exec (.mramRead t p seq off n) s = .next (after u (emit (.service x.2.2) u)))
      ∧ (∀ type, exec (.unknownType t p seq type true) s = .next (after u (emit (.service x.2.2) u)))
      ∧ (∀ off n, exec (.calRead t p seq off n) s = .next (after u (emit (.service x.2.2) u)))
      ∧ (∀ off data, exec (.calWrite t p seq off data) s = .next (after u (emit (.service x.2.2) u)))
      ∧ (∀ bank es d, exec (.planStage t p seq bank es d) s = .next (after u (emit (.service x.2.2) u)))
      ∧ (∀ n bank st d, exec (.planReport t p seq n bank st d) s = .next (after u (emit (.service x.2.2) u)))
      ∧ (∀ rack bank, exec (.rackConfirm t p seq rack bank) s = .next (after u (emit (.service x.2.2) u)))
      ∧ (∀ bank at_, exec (.fireTime t p seq bank at_) s = .next (after u (emit (.service x.2.2) u))))

/-- FW_BEGIN while data is received or checked, and of a delta in Crucible, answers 8 and changes nothing; on trial it
answers 6; a header that fails a check answers its REASON; otherwise the target slot is marked bad and erased, its
header is written, and the update receives data. FW_DATA out of order changes the deadline alone; in order, a full
image's bytes are appended. UPDATE_VERIFY_END enters READY with REASON 0 when no check fails and clears the slot's bad
mark, and otherwise FAILED with the first REASON; both answer the waiting FW_END. UPDATE_TIMEOUT after 30 s without
data abandons with REASON 0xB; of a READY update it marks the slot bad again, which is the model's choice (log entry 30). -/
def Obligations.UpdatesAnswer : Prop :=
  (∀ (delta : Bool) (h : List Byte) (u : State),
    (fld FWU_UPD_STATUS_STATE u = 2 ∨ fld FWU_UPD_STATUS_STATE u = 3 ∨ (inCrucible u = true ∧ delta = true) →
      fwBegin delta h u = (8, u))
    ∧ (fld FWU_UPD_STATUS_STATE u ≠ 2 → fld FWU_UPD_STATUS_STATE u ≠ 3 → inCrucible u = false ∨ delta = false →
      (inCrucible u = false → u.fw.trial = true → fwBegin delta h u = (6, updState 0 6 u))
      ∧ (inCrucible u = true ∨ u.fw.trial = false →
        (∀ r, headerReason h u.fuses = some r → fwBegin delta h u = (r, updState 0 r u))
        ∧ (headerReason h u.fuses = none → (fwBegin delta h u).1 = 0
          ∧ fld FWU_UPD_STATUS_STATE (fwBegin delta h u).2 = 2 ∧ fld FWU_UPD_STATUS_REASON (fwBegin delta h u).2 = 0
          ∧ fld FWU_UPD_STATUS_KIB (fwBegin delta h u).2 = 0
          ∧ (fwBegin delta h u).2.fw.upd = { slot := targetSlot u, delta := delta, header := h, next := 512, at_ := u.now }
          ∧ (fwBegin delta h u).2.fuses = u.fuses ∧ (fwBegin delta h u).2.mram = u.mram))))
  ∧ (∀ (off : Nat) (data : List Byte) (u : State),
    (fld FWU_UPD_STATUS_STATE u ≠ 2 → fwData off data u = (8, u))
    ∧ (fld FWU_UPD_STATUS_STATE u = 2 → off ≠ u.fw.upd.next → fwData off data u = (8, onUpd (fun x => { x with at_ := u.now }) u))
    ∧ (fld FWU_UPD_STATUS_STATE u = 2 → off = u.fw.upd.next → u.fw.upd.delta = false →
      u.fw.upd.written + data.length ≤ leAt u.fw.upd.header 0x10 4 → u.fw.upd.written + data.length < 2 ^ 26 →
      ∃ v, fwData off data u = (0, v) ∧ v.fw.upd = { u.fw.upd with
          at_ := u.now, next := off + data.length, written := u.fw.upd.written + data.length }
        ∧ v.nor = writeRun 0xFF (slotAt u.fw.upd.slot + 512 + u.fw.upd.written) data u.nor ∧ v.mram = u.mram
        ∧ fld FWU_UPD_STATUS_KIB v = (u.fw.upd.written + data.length) / 1024))
  ∧ (∀ (t : Nat) (s u : State), Awake t s u →
    (∀ e r, fld FWU_UPD_STATUS_STATE u = 3 → updReason e u = some r →
      exec (.updateVerifyEnd t e) s = .next (after u (answerEnd r (updState 5 r u))))
    ∧ (∀ e z, fld FWU_UPD_STATUS_STATE u = 3 → updReason e u = none →
      z = onBoot (fun r => { r with bad := r.bad &&& (3 - 2 ^ u.fw.upd.slot) }) u →
      exec (.updateVerifyEnd t e) s = .next (after u (answerEnd 0 (updState 4 0 (if inCrucible z then z else showAlt z)))))
    ∧ (u.fw.upd.at_ + 30000 * msT ≤ u.now →
      (fld FWU_UPD_STATUS_STATE u ≠ 0 → fld FWU_UPD_STATUS_STATE u ≠ 4 →
        exec (.updateTimeout t) s = .next (after u (answerEnd 0xB (updState 0 0xB u))))
      ∧ (fld FWU_UPD_STATUS_STATE u = 4 → exec (.updateTimeout t) s
        = .next (after u (answerEnd 0xB (updState 0 0xB (onBoot (fun r => { r with bad := r.bad ||| 2 ^ u.fw.upd.slot }) u)))))))

/-- At any instant, on a part in any condition: POWER_ON_RESET leaves every register but GLB_RESET_CAUSE at its reset
value, no HBM, core, recorder or tally contents, in reset, and keeps the store and the fuses; POWER_LOSS ends
everything volatile and keeps the store and fuses; PIN_RESET while VAON holds keeps the recorder, the HBM words named
kept and the straps, sets PRESERVED, counts itself in PIN_COUNT and clears ENABLE of the recorder; FIRMWARE_RESET that
is due acts as one and starts up again; RESET_RELEASE samples the straps and begins the REF stage; PWRFAIL_FALL
triggers source 6 on a part out of reset; PWRFAIL_RISE notes its instant, after a low of
20 us the power-down having begun. -/
def Obligations.ResetsAnswer : Prop :=
  ∀ (t : Nat) (s u : State), u = clockTo t s →
    (∃ v, exec (.powerOnReset t) s = .next (afterPower u v) ∧ reg rGLB_RESET_CAUSE v = 0x80000000
      ∧ (∀ o, o ≠ rGLB_RESET_CAUSE → reg o v = reg o State.reset) ∧ v.powered = true ∧ v.inReset = true
      ∧ v.hbm.byte = [] ∧ v.cores.sram = [] ∧ v.tally = State.reset.tally ∧ v.recs = [] ∧ v.sfifo = [] ∧ v.meter = []
      ∧ v.nor = u.nor ∧ v.mram = u.mram ∧ v.fuses = u.fuses)
    ∧ (∃ v, exec (.powerLoss t) s = .next (afterPower u v) ∧ v.powered = false ∧ v.regs = State.reset.regs ∧ v.flush = none
      ∧ v.nor = u.nor ∧ v.mram = u.mram ∧ v.fuses = u.fuses)
    ∧ (∀ lost, u.powered = true → ∃ v, exec (.pinReset t lost) s = .next (afterPower u v) ∧ v.inReset = true
      ∧ fld GLB_RESET_CAUSE_PIN_COUNT v = min (fld GLB_RESET_CAUSE_PIN_COUNT u + 1) 0xFFFF
      ∧ fld HMK_STATUS_PRESERVED v = 1 ∧ flag HMK_CTRL_ENABLE v = false
      ∧ reg rHMK_FAULT_STATUS v = reg rHMK_FAULT_STATUS u ∧ fld HBM_CTRL_RATE_CEIL v = fld HBM_CTRL_RATE_CEIL u
      ∧ v.recs = u.recs ∧ v.recFault.rnum = u.recFault.rnum ∧ v.recTrace.rnum = u.recTrace.rnum
      ∧ v.hbm.byte = u.hbm.byte.filter (fun x => !lost.contains (x.1 / 32))
      ∧ v.hbm.word = u.hbm.word.filter (fun x => !lost.contains x.1)
      ∧ v.nor = u.nor ∧ v.mram = u.mram ∧ v.fuses = u.fuses ∧ v.strapI3c = u.strapI3c ∧ v.cores.sram = [] ∧ v.sfifo = [])
    ∧ (∀ lost, u.powered = false → exec (.pinReset t lost) s = .next (afterPower u u))
    ∧ (∀ lost, u.powered = true → u.inReset = false → u.fw.resetDue = true → flag GLB_HALT_STATUS_HALTING u = false →
      exec (.firmwareReset t lost) s = .next (afterPower u (startUp (pinReset true lost u))))
    ∧ (∀ sel addr te, u.powered = true → u.inReset = true → ∃ v, exec (.resetRelease t sel addr te) s = .next (afterPower u v)
      ∧ v.inReset = false ∧ stage v = 1 ∧ v.releaseAt = u.now ∧ v.strapI3c = sel ∧ v.strapAddr = addr % 8 ∧ v.testEn = te)
    ∧ (u.pwrHigh = true →
      (u.inReset = true ∨ u.powered = false →
        exec (.pwrfailFall t) s = .next (afterPower u { u with pwrHigh := false, pwrLowAt := u.now }))
      ∧ (u.inReset = false → u.powered = true → exec (.pwrfailFall t) s
        = .next (afterPower u (trigger 6 0 (some 1) { u with pwrHigh := false, pwrLowAt := u.now }))))
    ∧ (u.pwrHigh = false →
      (u.inReset = true ∨ u.powered = false ∨ u.down ≠ none ∨ u.now < u.pwrLowAt + 20 * usT →
        exec (.pwrfailRise t) s = .next (afterPower u { u with pwrHigh := true, pwrHighAt := some u.now }))
      ∧ (u.inReset = false → u.powered = true → u.down = none → u.pwrLowAt + 20 * usT ≤ u.now →
        exec (.pwrfailRise t) s
          = .next (afterPower u { downBegin u.pwrLowAt u with pwrHigh := true, pwrHighAt := some u.now })))

/-- On a part that is powered and out of reset: REF_VALID in stage REF steers AON, locks the clocks and enters BOOT;
COMPUTE_HBM once the components run maps the rows, starts the first scrub and the training; SIDEBAND once both are
over sets BRIDGE_READY; OPTICS once the roles and extents are set takes the stored calibration and enables the Anneal engine
and every bank;
BRING_UP_PLAN once every loop is settled turns the banks of EDGE ports off and stages the plan in bank 0; READY with
MST locked or master enters READY; PERST_N is an FLR of every function; FW_RESET with its KEY, not while powering down
or halting, halts and resets, and otherwise is discarded. -/
def Obligations.StartUpAnswers : Prop :=
  (∀ (t : Nat) (s u : State), Awake t s u →
    (stage u = 1 → u.testEn = false → ∃ v, exec (.refValid t) s = .next (after u v) ∧ stage v = 2
      ∧ reg rGLB_CLK_STATUS v = 0xFFFC0000 ∧ v.fw.phase = .rom ∧ v.fw.bootAt = u.now ∧ v.sdl.refAt = some u.now
      ∧ fld GLB_STARTUP_STATUS_STAGE_MS v = min ((u.now - u.releaseAt) / msT) 0xFFFF)
    ∧ (stage u = 2 → u.fw.phase = .run → exec (.computeHbm t) s
      = .next (after u (trainBegin (scrubBegin (setFld SEQ_CORE_STATUS_REMAP_DONE 1 (loop remapRow 32 (enterStage 3 u)))))))
    ∧ (stage u = 3 → u.seq.scrubEnd = none → allTrained u = true → ∃ v, exec (.sideband t) s = .next (after u v)
      ∧ v = setFld SEQ_CORE_STATUS_BRIDGE_READY 1 (enterStage 4 u) ∧ stage v = 4)
    ∧ (∀ cal, stage u = 4 → flag GLB_ROLE_STATUS_SET u = true → u.extents = true → exec (.optics t cal) s
      = .next (after u (loop (fun p s => bankEnable p (flag (OPT_BANK_CTRL_ENABLE p) s) (setFld (OPT_BANK_CTRL_ENABLE p) 1 s)) 6
        (setFld ANL_CTRL_ENABLE 1 (onAnl (fun x => { x with rxBegun := false }) (loadCal cal (enterStage 5 u)))))))
    ∧ (stage u = 5 → loopsSettled u = true → ∃ z y v, exec (.bringUpPlan t) s = .next (after u v)
      ∧ z = loop (fun p s => if portState p s = 1 then bankOff p s else s) 6 (enterStage 6 u)
      ∧ y = writeEntries 0 (bringUpEntries z) z
      ∧ v = setFlds [(CSC_CTRL_REPLAN_MASK, 1), (CSC_CTRL_REPLAN_TARGET, 0)] (stageGo 0 (loop (fun i =>
        setReg (rCSC_BANK_EXP 0 i) (BitVec.ofNat 32 (leAt (planDigest 0 y) (4 * i) 4))) 4 y)))
    ∧ (stage u = 7 → mstState u = 2 ∨ mstState u = 4 → exec (.ready t) s = .next (after u (renumber (enterStage 8 u))))
    ∧ exec (.perstN t) s = .next (after u (flrFunc 0 u)))
  ∧ (∀ (t : Nat) (a : Accessor) (w : Word) (s u z : State), Awake t s u → Reaches a u → z = writeLatches a rGLB_RESET_CTRL u →
    (wfld GLB_RESET_CTRL_FW_RESET w = 0 → exec (.fwReset t a w) s = .next (after u (hostFirst a rGLB_RESET_CTRL z)))
    ∧ (wfld GLB_RESET_CTRL_FW_RESET w = 1 → wfld GLB_RESET_CTRL_KEY w = 0x0A5A → stage u ≠ 9 →
      flag GLB_HALT_STATUS_HALTING u = false → exec (.fwReset t a w) s
        = .next (after u (hostFirst a rGLB_RESET_CTRL (resetAfterHalt z))))
    ∧ (wfld GLB_RESET_CTRL_FW_RESET w = 1 → wfld GLB_RESET_CTRL_KEY w ≠ 0x0A5A ∨ stage u = 9 ∨
      flag GLB_HALT_STATUS_HALTING u = true → exec (.fwReset t a w) s
        = .next (after u (hostFirst a rGLB_RESET_CTRL (discard a rGLB_RESET_CTRL z)))))

/-- On a part that is powered and out of reset: POWER_DOWN with PWRFAIL_N low for 20 us and none in progress enters
stage 9 with time 0 at the fall, aborts every plot and turns the CSC off; REF_LOST with REF valid clears the clock
status, notes the loss and begins power-down unless one is in progress; POWER_DOWN_STEP at or after the time of the
next step takes it and no other, and before that time none. -/
def Obligations.PowerDownAnswers : Prop :=
  ∀ (t : Nat) (s u : State), Awake t s u →
    (u.pwrHigh = false → u.down = none → u.pwrLowAt + 20 * usT ≤ u.now → ∃ z, exec (.powerDown t) s
      = .next (after u (cscOff (forAll (fun n s => if plotState n s = 0 then s else abortStart n 1 none s) (List.range 16) z)))
      ∧ z.down = some (u.pwrLowAt, 0) ∧ stage z = 9 ∧ z.hbm = u.hbm ∧ z.link = u.link)
    ∧ (flag GLB_CLK_STATUS_REF_VALID u = true → ∀ z, z = setReg rGLB_CLK_STATUS 0 { u with refLost := true } →
      (u.down = none → exec (.refLost t) s = .next (after u (downBegin (u.now - 20 * usT) z)))
      ∧ (u.down ≠ none → exec (.refLost t) s = .next (after u z)))
    ∧ (∀ t0 k, u.down = some (t0, k) → k < 4 →
      (t0 + downTime k ≤ u.now → ∃ v, exec (.powerDownStep t) s = .next (after u v) ∧ v = downAct k { u with down := some (t0, k + 1) }
        ∧ (k = 0 ∨ k = 3 → v.regs = u.regs) ∧ (k = 2 → fld GLB_CLK_STATUS_PLL_C_LOCK v = 0 ∧ fld GLB_PCIE_STATUS_LINK_UP v = 0))
      ∧ (u.now < t0 + downTime k → exec (.powerDownStep t) s = .next (after u u)))

/-- On a part that is powered and out of reset: a register write that does not reach the registers changes nothing;
one that is not aligned is discarded and recorded; one to a register is that register's write, to an MSI-X table entry
or a doorbell that unit's write, and to a pending array, a reserved offset or no register nothing. A designation write
is the sideband's. A read that reaches nothing is not answered, or as unsupported before BOOT ends; one that is not
aligned reads 0; another answers the word read and has the read's effects. -/
def Obligations.RegisterAccessesAnswer : Prop :=
  ∀ (t off : Nat) (a : Accessor) (s u : State), Awake t s u →
    (∀ w counts, reaches a u = false → exec (.registerWrite t a off w counts) s = .next (after u u))
    ∧ (reaches a u = true → ∀ w counts,
      (off % 4 ≠ 0 → exec (.registerWrite t a off w counts) s = .next (after u (unalignedAccess a off true u)))
      ∧ (off % 4 = 0 →
        (∀ o, target a off = .reg o → (regRow o).isSome = true →
          exec (.registerWrite t a off w counts) s = .next (after u (writeReg a o w counts u))
          ∧ (a = .sideband → exec (.designationWrite t off w) s = .next (after u (writeReg .sideband o w [] u))))
        ∧ (∀ f o, target a off = .table f o → exec (.registerWrite t a off w counts) s = .next (after u (tableWrite f o w u)))
        ∧ (∀ n o, target a off = .door n o → exec (.registerWrite t a off w counts) s = .next (after u (doorWrite n o w u)))
        ∧ ((∃ o, target a off = .reg o ∧ (regRow o).isNone = true) ∨ (∃ f o, target a off = .pba f o) ∨ target a off = .none →
          exec (.registerWrite t a off w counts) s = .next (after u u))))
    ∧ (reaches a u = false → gated u = true →
      exec (.rcRead t a off) s = .next (after u u) ∧ exec (.lowWordRead t a off) s = .next (after u u))
    ∧ (reaches a u = false → gated u = false → exec (.rcRead t a off) s = .next (after u (emit .unsupported u))
      ∧ exec (.lowWordRead t a off) s = .next (after u (emit .unsupported u)))
    ∧ (reaches a u = true → off % 4 ≠ 0 → exec (.rcRead t a off) s = .next (after u (unalignedAccess a off false u))
      ∧ exec (.lowWordRead t a off) s = .next (after u (unalignedAccess a off false u)))
    ∧ (reaches a u = true → off % 4 = 0 →
      exec (.rcRead t a off) s = .next (after u (emit (.regData (readAt a off u).1) (readAt a off u).2))
      ∧ exec (.lowWordRead t a off) s = .next (after u (emit (.regData (readAt a off u).1) (readAt a off u).2)))

/-- On a part that is powered and out of reset, an unaligned access by anyone whose accesses reach the registers: as a
read answers 0x0000_0000, and as a write changes no register but those that record it; either is counted in
GLB_ERR_COUNT and, with no event held, held in GLB_ERR_LOC with KIND ACCESS, its SRC and FUNC, and in GLB_ERR_OFFSET.
One that does not reach them changes nothing. -/
def Obligations.UnalignedAccessesAnswer : Prop :=
  ∀ (t off : Nat) (a : Accessor) (s u : State), Awake t s u →
    (reaches a u = false → ∀ write, exec (.unalignedAccess t a off write) s = .next (after u u))
    ∧ (reaches a u = true → ∀ write, ∃ v, exec (.unalignedAccess t a off write) s = .next (after u v)
      ∧ (write = false → v.out.head? = some (.regData 0))
      ∧ (∀ o, o ∉ [rGLB_ERR_LOC, rGLB_ERR_OFFSET, rGLB_ERR_COUNT, rGLB_IRQ_PEND] → reg o v = reg o u)
      ∧ unitPart v = unitPart u
      ∧ fld GLB_ERR_COUNT_COUNT v = min (fld GLB_ERR_COUNT_COUNT u + 1) 0xFFFFFFFF
      ∧ fld GLB_ERR_LOC_VALID v = 1
      ∧ (flag GLB_ERR_LOC_VALID u = false → fld GLB_ERR_LOC_KIND v = 1 ∧ fld GLB_ERR_LOC_SRC v = accSrc a % 4
        ∧ fld GLB_ERR_LOC_FUNC v = accFunc a % 32 ∧ fld GLB_ERR_OFFSET_OFFSET v = off % 2 ^ 28))

/-- In every state each bit of GLB_STATUS is the present value of the condition its Effect column gives, the reserved
bits are 0, and a read of it by anyone changes no register and latches no word. -/
def Obligations.GlobalStatusShows : Prop :=
  ∀ (u : State) (w : Nat), w = (regValue rGLB_STATUS u).toNat →
    bits w 31 31 = b2n (stage u == 8)
    ∧ bits w 30 30 = b2n (flag SEQ_CORE_STATUS_DEGRADED u || anyFailed u)
    ∧ bits w 29 29 = b2n (flag GLB_HALT_STATUS_HALTED u)
    ∧ bits w 28 28 = b2n (flag GLB_THERM_STATUS_TRIPPED u)
    ∧ bits w 27 27 = b2n (flag SEQ_ISO_CTRL_ISO_ON u)
    ∧ bits w 26 26 = b2n (flag FWU_STATUS_AUTHENTIC u)
    ∧ bits w 25 25 = b2n (flag FWU_STATUS_TRIAL u)
    ∧ bits w 24 24 = b2n (mstState u == 2 || mstState u == 3 || mstState u == 4)
    ∧ bits w 23 23 = b2n ((List.range 6).any fun p => portState p u == 4)
    ∧ bits w 22 22 = b2n ((List.range 6).any fun p => portState p u == 5)
    ∧ (∀ p, p < 6 → bits w (16 + p) (16 + p) = b2n (portState p u == 3))
    ∧ (∀ n, n < 16 → bits w n n = b2n (plotState n u == 1 || plotState n u == 2))
    ∧ (∀ a, (get 0 (latchKey a rGLB_STATUS) u.latch = 0 → (readReg a rGLB_STATUS u).1 = BitVec.ofNat 32 w)
      ∧ (∀ o, reg o (readReg a rGLB_STATUS u).2 = reg o u)
      ∧ ∀ k, get 0 k (readReg a rGLB_STATUS u).2.latch = get 0 k u.latch ∨ get 0 k (readReg a rGLB_STATUS u).2.latch = 0)

/-- After a read of the low word of a 64-bit quantity, the next read of its high word by the same reader, with no
access to the pair between, returns the value the high word had at the read of the low one; that read and every write
of either word end the latch, so that a further read returns the current value; no access by one reader changes what
is latched for another. -/
def Obligations.HighWordsLatch : Prop :=
  ∀ (a : Accessor) (off : Nat) (u v : State), isLow off = true → v = (readReg a off u).2 →
    (∀ z, get 0 (latchKey a (off + 4)) z.latch = get 0 (latchKey a (off + 4)) v.latch →
      (readReg a (off + 4) z).1 = regValue (off + 4) u
      ∧ get 0 (latchKey a (off + 4)) (readReg a (off + 4) z).2.latch = 0)
    ∧ (∀ z, get 0 (latchKey a (off + 4)) z.latch = 0 →
      (readReg a (off + 4) z).1 = regValue (off + 4) (beforeCounts (off + 4) z))
    ∧ (∀ z, get 0 (latchKey a (off + 4)) (writeLatches a off z).latch = 0
      ∧ get 0 (latchKey a (off + 4)) (writeLatches a (off + 4) z).latch = 0)
    ∧ (∀ b o, b ≠ a → o < 2 ^ 28 → get 0 (latchKey b o) v.latch = get 0 (latchKey b o) u.latch)

/-- Of a register with no act of its own, a write gives each RW bit the bit written, clears a W1C bit written 1 unless
hardware sets it in the same cycle, leaves every other bit of the register, every other register, and everything that
is not a register. -/
def Obligations.PlainWritesStore : Prop :=
  ∀ (off i : Nat) (w : Word) (r : RegRow) (u : State), regRow off = some r → i < 32 → r.rw &&& r.w1c = 0 →
    (r.rw.testBit i = true → (reg off (plainWrite off w u)).getLsbD i = w.getLsbD i)
    ∧ (r.w1c.testBit i = true → (reg off (plainWrite off w u)).getLsbD i
      = ((reg off u).getLsbD i && (!w.getLsbD i || (get 0 off (updates u).sets).testBit i)))
    ∧ (r.rw.testBit i = false → r.w1c.testBit i = false →
      (reg off (plainWrite off w u)).getLsbD i = (reg off u).getLsbD i)
    ∧ (∀ o, o ≠ off → reg o (plainWrite off w u) = reg o u) ∧ unitPart (plainWrite off w u) = unitPart u

/-- An offset of BAR0 of VF n + 1 names a register only within the three ranges of plot n, a doorbell of plot n, or an
MSI-X word of that VF; any other offset reads 0 and a write of it changes nothing; PLOT_CTRL and PLOT_STATUS are read
only there, and doorbells read 0; and two VFs never name the same register. -/
def Obligations.VfsReachTheirPlotAlone : Prop :=
  (∀ n off o, target (.vf n) off = .reg o → o = plotBase n + off
    ∧ (off < 0x1008 ∨ 0x1010 ≤ off ∧ off < 0x1020))
  ∧ (∀ n off m o, target (.vf n) off = .door m o → m = n ∧ off = 0x10000 + o ∧ o < 0x14)
  ∧ (∀ n off f o, target (.vf n) off = .table f o → f = n + 1 ∧ off = 0x200000 + o ∧ o < 0x80)
  ∧ (∀ n off f o, target (.vf n) off = .pba f o → f = n + 1 ∧ off = 0x201000 + o ∧ o < 8)
  ∧ (∀ n m off off' o, target (.vf n) off = .reg o → target (.vf m) off' = .reg o → m = n ∧ off' = off)
  ∧ (∀ n off w counts (u : State), off % 4 = 0 → target (.vf n) off = .none ∨ (∃ m o, target (.vf n) off = .door m o) →
    readAt (.vf n) off u = (0, u) ∧ (target (.vf n) off = .none → regWrite (.vf n) off w counts u = u))
  ∧ (∀ n off w counts (u : State), n < 16 → off = 0x1000 ∨ off = 0x1004 →
    (∀ o, reg o (regWrite (.vf n) off w counts u) = reg o u) ∧ unitPart { regWrite (.vf n) off w counts u with latch := [] }
      = unitPart { u with latch := [] })

/-- For every command c, state s and queue cs: the step of s with c in front of cs is exec of c on s with the queue
cs. -/
def Obligations.StepRunsFrontCommand : Prop :=
  ∀ (c : Instr) (cs : List Instr) (s : State), step { s with pending := c :: cs } = exec c { s with pending := cs }

/-- On an empty queue a step answers a next state: the clock moves one SEQ cycle on, what the part does by itself
follows, and the queue is empty still. That an empty queue passes one SEQ cycle is the model's choice (log entry 2).
-/
def Obligations.EmptyQueueTicks : Prop :=
  ∀ s : State, s.pending = [] → ∃ v, step s = .next v ∧ v.now = s.now + 10 ∧ v.pending = []
    ∧ (alive s = true → ∀ u, u = clockTo (s.now + 10) s → v = after u u)
    ∧ (alive s = false → v = { s with now := s.now + 10 })

/-- For every command c and state s, exec answers a next state; its queue is that of s, its clock is the later of that
of s and the command's instant, and no consequence is left unsettled that s did not hold. -/
def Obligations.CommandsKeepQueueAndClock : Prop :=
  ∀ (c : Instr) (s : State), ∃ v, exec c s = .next v ∧ v.pending = s.pending ∧ v.now = max s.now c.at
    ∧ (s.due = [] → v.due = [])

/-- In reset or without power, every command but those of power and reset moves the clock to its instant and changes
nothing else. -/
def Obligations.AsleepPartIgnoresCommands : Prop :=
  ∀ (c : Instr) (s : State), isPower c = false → alive s = false → exec c s = .next { s with now := max s.now c.at }

/-- If in s every status field shows the unit it stands for and no consequence waits, the same holds after any step of
s: whatever command is in front, and whatever it does to the units. -/
def Obligations.StepKeepsInvariant : Prop := ∀ s t : State, Inv s → step s = .next t → Inv t

/-- Right after reset every status field shows its unit, nothing waits, the memory is in its canonical form, the part
is powered and in reset, and no command is queued. -/
def Obligations.ResetMeetsInvariant : Prop :=
  Inv State.reset ∧ Memory.wf State.reset ∧ State.reset.pending = [] ∧ State.reset.powered = true ∧ State.reset.inReset = true

/-- On a part that is powered and out of reset, while Chous does not restart: the MCTP control commands
answer the endpoint ID, versions, types and vendor message sets, an operation or selector they do not know an error;
SET_ENDPOINT_ID takes an ID of 8 to 254; ENTDAA on I3C takes the address it is given. -/
def Obligations.ControlMessagesAnswer : Prop :=
  ∀ (t : Nat) (s u : State), Awake t s u →
    (mctpUp u = true →
      (∀ op eid, op ≤ 1 → 8 ≤ eid → eid ≤ 254 → exec (.setEndpointId t op eid) s
        = .next (after u (emit (.mctp [0, 0, BitVec.ofNat 8 eid, 0]) { u with eid := eid })))
      ∧ (∀ op eid, 1 < op ∨ eid < 8 ∨ 254 < eid → exec (.setEndpointId t op eid) s = .next (after u (emit (.mctp [2]) u)))
      ∧ exec (.getEndpointId t) s = .next (after u (emit (.mctp [0, BitVec.ofNat 8 u.eid, 0, 0]) u))
      ∧ (∀ type, exec (.getMctpVersionSupport t type) s
        = .next (after u (emit (.mctp (if type = 0xFF ∨ type = 0 then [0, 1, 0xF1, 0xF3, 0xF1, 0x00] else [0x80])) u)))
      ∧ exec (.getMessageTypeSupport t) s = .next (after u (emit (.mctp [0, 2, 0x00, 0x7F]) u))
      ∧ (∀ sel, exec (.getVendorDefinedMessageSupport t sel) s = .next (after u (emit (.mctp (if sel = 0 then
        [0, 0xFF, 1] ++ (bytesLE 4 (reg rGLB_IANA u).toNat).reverse ++ [0, 0] else [2])) u))))
    ∧ (∀ addr, u.strapI3c = true → exec (.entdaa t addr) s = .next (after u { u with i3cAddr := some (addr % 128) }))

/-- On a part that is powered and out of reset where Chous runs and the service port is up, for a requester and SEQ not
answered before: PLAN_STAGE stages entries in a bank that is not protected, and a rack master sends it on; PLAN_REPORT
is kept by a rack master, whose last missing report confirms the rack to the mesh master; RACK_CONFIRM is kept by the
mesh master; FIRE_TIME arms the register trigger. That a mesh master answers ORDER to a FIRE_TIME before every rack has
confirmed the bank is the model's reading (log entry 31). In Crucible each answers 0xFFFF. -/
def Obligations.PlanMessagesAnswer : Prop :=
  ∀ (t seq : Nat) (p : Peer) (s u : State), Awake t s u →
    u.fw.answered.find? (fun x => x.1 == p && x.2.1 == seq) = none → serviceUp u = true →
    (inCrucible u = false →
      (∀ bank es digest, bankProtected bank u = true →
        exec (.planStage t p seq bank es digest) s = .next (after u (answer p 0x30 seq 8 [] u)))
      ∧ (∀ bank es digest, bankProtected bank u = false → exec (.planStage t p seq bank es digest) s
        = .next (after u (answer p 0x30 seq 0 [] (forward 0x30 (bytesLE 1 bank ++ digest ++ es.flatMap fun x =>
          bytesLE 2 x.1 ++ bytesLE 4 x.2.1.toNat ++ bytesLE 4 x.2.2.toNat) (stagePlan bank es digest (planBegun bank u))))))
      ∧ (∀ n bank st digest, flag GLB_ROLE_STATUS_RACK_MASTER u = false →
        exec (.planReport t p seq n bank st digest) s = .next (after u (answer p 0x31 seq 0 [] u)))
      ∧ (∀ n bank (st : Word) digest, flag GLB_ROLE_STATUS_RACK_MASTER u = true →
        ∃ v, exec (.planReport t p seq n bank st digest) s = .next (after u (answer p 0x31 seq 0 [] v)) ∧ v.regs = u.regs
          ∧ ((n, bank) ∈ v.fw.reports ↔ bit st.toNat 28 = true ∧ ∀ i, i < 4 →
            reg (rCSC_BANK_EXP bank i) u = BitVec.ofNat 32 (leAt digest (4 * i) 4))
          ∧ (rackReady bank u = false → rackReady bank v = true →
            (flag GLB_ROLE_STATUS_MESH_MASTER u = true → (fld GLB_ROLE_RACK u, bank) ∈ v.fw.racks ∧ v.out = u.out)
            ∧ (flag GLB_ROLE_STATUS_MESH_MASTER u = false →
              v.out = .forward 0x32 (bytesLE 1 (fld GLB_ROLE_RACK u) ++ bytesLE 1 bank) :: u.out ∧ v.fw.racks = u.fw.racks)))
      ∧ (∀ rack bank, ∃ v, exec (.rackConfirm t p seq rack bank) s = .next (after u (answer p 0x32 seq 0 [] v))
        ∧ (flag GLB_ROLE_STATUS_MESH_MASTER u = false → v = u)
        ∧ (flag GLB_ROLE_STATUS_MESH_MASTER u = true → (rack, bank) ∈ v.fw.racks ∧ v.regs = u.regs))
      ∧ (∀ bank at_, flag GLB_ROLE_STATUS_MESH_MASTER u = false ∨ meshReady bank u = true →
        exec (.fireTime t p seq bank at_) s = .next (after u (answer p 0x33 seq 0 [] (forward 0x33
          (bytesLE 1 bank ++ bytesLE 8 at_) (planSpent bank (registerArm .device bank
            (setReg64 rCSC_TRIG_TIME_LO rCSC_TRIG_TIME_HI (at_ % 2 ^ 64) u)))))))
      ∧ (∀ bank at_, flag GLB_ROLE_STATUS_MESH_MASTER u = true → meshReady bank u = false →
        exec (.fireTime t p seq bank at_) s = .next (after u (answer p 0x33 seq 8 [] u))))
    ∧ (inCrucible u = true →
      (∀ bank es digest, exec (.planStage t p seq bank es digest) s = .next (after u (answer p 0x30 seq 0xFFFF [] u)))
      ∧ (∀ n bank st digest, exec (.planReport t p seq n bank st digest) s = .next (after u (answer p 0x31 seq 0xFFFF [] u)))
      ∧ (∀ rack bank, exec (.rackConfirm t p seq rack bank) s = .next (after u (answer p 0x32 seq 0xFFFF [] u)))
      ∧ (∀ bank at_, exec (.fireTime t p seq bank at_) s = .next (after u (answer p 0x33 seq 0xFFFF [] u))))

/-- On a part that is powered and out of reset whose service port is up, for a requester and SEQ not answered before:
MRAM_READ answers at most 1,024 bytes of the MRAM; where Chous runs CAL_READ answers bytes of the calibration body and
CAL_WRITE writes the whole body as one new generation, or answers 5 where it does not fit; in Crucible both answer
0xFFFF; a TYPE not known answers 0xFFFF, and one whose CRC fails is dropped. -/
def Obligations.StoreMessagesAnswer : Prop :=
  ∀ (t seq : Nat) (p : Peer) (s u : State), Awake t s u →
    u.fw.answered.find? (fun x => x.1 == p && x.2.1 == seq) = none → serviceUp u = true →
    (∀ off n, exec (.mramRead t p seq off n) s
      = .next (after u (answer p 0x40 seq 0 (storeRead true off (min (min n 1024) (2 ^ 23 - off)) u) u)))
    ∧ (∀ type, exec (.unknownType t p seq type true) s = .next (after u (answer p type seq 0xFFFF [] u))
      ∧ exec (.unknownType t p seq type false) s = .next (after u u))
    ∧ (inCrucible u = false →
      (∀ off n d, d = (((areaBody calArea u).getD []).drop off).take (min n 1392) →
        exec (.calRead t p seq off n) s = .next (after u (answer p 0x20 seq 0 (bytesLE 4 off ++ bytesLE 4 d.length ++ d) u)))
      ∧ (∀ off data b c, b = (areaBody calArea u).getD [] → c = b ++ List.replicate (off - b.length) 0 →
        off + data.length + 32 ≤ calArea.size → exec (.calWrite t p seq off data) s
          = .next (after u (answer p 0x21 seq 0 [] (writeArea calArea 1 (c.take off ++ data ++ c.drop (off + data.length)) u))))
      ∧ (∀ off data, calArea.size < off + data.length + 32 →
        exec (.calWrite t p seq off data) s = .next (after u (answer p 0x21 seq 5 [] u))))
    ∧ (inCrucible u = true →
      (∀ off n, exec (.calRead t p seq off n) s = .next (after u (answer p 0x20 seq 0xFFFF [] u)))
      ∧ (∀ off data, exec (.calWrite t p seq off data) s = .next (after u (answer p 0x21 seq 0xFFFF [] u))))
end

