-- ==== Sys2Proof/Laws/Maps.lean ====
section
/-! SUPPORT. The laws of the sparse stores: a read after a write, and the canonical form every operation keeps. -/
namespace Sys2Proof.Machine

/-! ### A read after a write -/

@[simp] theorem get_nil {α : Type} (d : α) (k : Nat) : get d k [] = d := rfl

@[simp] theorem get_ins_same {α : Type} (d : α) (k : Nat) (v : α) (m : Map α) : get d k (ins k v m) = v := by
  induction m with
  | nil => simp [ins, get]
  | cons p m ih =>
    unfold ins
    split
    · simp [get]
    · split <;> simp_all [get]

theorem get_ins_other {α : Type} (d : α) {j k : Nat} (h : j ≠ k) (v : α) (m : Map α) :
    get d j (ins k v m) = get d j m := by
  induction m with
  | nil => simp [ins, get, h]
  | cons p m ih =>
    unfold ins
    split
    · simp_all [get]
    · split <;> simp_all [get]

@[simp] theorem get_del_same {α : Type} (d : α) (k : Nat) (m : Map α) : get d k (del k m) = d := by
  induction m with
  | nil => rfl
  | cons p m ih =>
    unfold del
    split <;> simp_all [get]

theorem get_del_other {α : Type} (d : α) {j k : Nat} (h : j ≠ k) (m : Map α) : get d j (del k m) = get d j m := by
  induction m with
  | nil => rfl
  | cons p m ih =>
    unfold del
    split <;> simp_all [get]

@[simp] theorem get_put_same {α : Type} [DecidableEq α] (d : α) (k : Nat) (v : α) (m : Map α) :
    get d k (put d k v m) = v := by
  unfold put
  split <;> simp_all

/-- A write leaves every other key alone, whatever default it is read with. -/
theorem get_put_other {α : Type} [DecidableEq α] (d : α) {e : α} {j k : Nat} (h : j ≠ k) (v : α) (m : Map α) :
    get d j (put e k v m) = get d j m := by
  unfold put
  split
  · exact get_del_other d h m
  · exact get_ins_other d h v m

@[simp] theorem get_upd_same {α : Type} [DecidableEq α] (d : α) (k : Nat) (f : α → α) (m : Map α) :
    get d k (upd d k f m) = f (get d k m) := get_put_same ..

theorem get_upd_other {α : Type} [DecidableEq α] (d : α) {j k : Nat} (h : j ≠ k) (f : α → α) (m : Map α) :
    get d j (upd d k f m) = get d j m := get_put_other d h _ m

/-- A range write leaves every other key alone. -/
theorem get_putRange_other {α : Type} [DecidableEq α] (d : α) {j : Nat} (bs : List α) :
    ∀ (k : Nat) (m : Map α), ¬(k ≤ j ∧ j < k + bs.length) → get d j (putRange d k bs m) = get d j m := by
  induction bs with
  | nil => intro k m _; rfl
  | cons b bs ih =>
    intro k m h
    rw [List.length_cons] at h
    rw [putRange, ih (k + 1) _ (by omega), get_put_other d (by omega)]

/-- A range write sets its keys. -/
theorem get_putRange_same {α : Type} [DecidableEq α] (d : α) (bs : List α) :
    ∀ (k : Nat) (m : Map α) (i : Nat) (h : i < bs.length), get d (k + i) (putRange d k bs m) = bs[i] := by
  induction bs with
  | nil => intro k m i h; exact absurd h (by simp)
  | cons b bs ih =>
    intro k m i h
    rw [putRange]
    cases i with
    | zero => rw [get_putRange_other d bs (k + 1) _ (by omega)]; simp
    | succ i =>
      have := ih (k + 1) (put d k b m) i (by simpa using h)
      rw [show k + (i + 1) = k + 1 + i by omega]
      simpa using this

/-- Clearing a range leaves every other key alone. -/
theorem get_clearRange_other {α : Type} (d : α) {j lo n : Nat} (h : ¬(lo ≤ j ∧ j < lo + n)) (m : Map α) :
    get d j (clearRange lo n m) = get d j m := by
  induction m with
  | nil => rfl
  | cons p m ih =>
    simp only [clearRange, List.filter] at ih ⊢
    split <;> simp_all [get]
    intro e; subst e; omega

/-- A cleared range reads as the default. -/
theorem get_clearRange_same {α : Type} (d : α) {j lo n : Nat} (h : lo ≤ j ∧ j < lo + n) (m : Map α) :
    get d j (clearRange lo n m) = d := by
  induction m with
  | nil => rfl
  | cons p m ih =>
    simp only [clearRange, List.filter] at ih ⊢
    split
    · rename_i q
      rw [get]
      have : j ≠ p.1 := by rintro rfl; simp [h.1, h.2] at q
      simpa [this] using ih
    · exact ih

/-! ### Repeated changes -/

/-- What every change of a list keeps, all of them keep. -/
theorem forAll_keeps {α σ β : Type} {g : σ → β} {f : α → σ → σ} (h : ∀ a s, g (f a s) = g s) (l : List α) :
    ∀ s, g (forAll f l s) = g s := by
  induction l with
  | nil => intro s; rfl
  | cons a l ih => intro s; rw [forAll, ih, h]

/-- What every round of a loop keeps, the loop keeps. -/
theorem loop_keeps {σ β : Type} {g : σ → β} {f : Nat → σ → σ} (h : ∀ i s, g (f i s) = g s) (n : Nat) (s : σ) :
    g (loop f n s) = g s := by
  induction n with
  | zero => rfl
  | succ n ih => rw [loop, h, ih]

/-- A property every change of a list keeps. -/
theorem forAll_induct {α σ : Type} {P : σ → Prop} {f : α → σ → σ} (h : ∀ a s, P s → P (f a s)) (l : List α) :
    ∀ s, P s → P (forAll f l s) := by
  induction l with
  | nil => intro s hs; exact hs
  | cons a l ih => intro s hs; exact ih _ (h a s hs)

/-- A property every round of a loop keeps. -/
theorem loop_induct {σ : Type} {P : σ → Prop} {f : Nat → σ → σ} (h : ∀ i s, P s → P (f i s)) (n : Nat) (s : σ) (hs : P s) :
    P (loop f n s) := by
  induction n with
  | zero => exact hs
  | succ n ih => exact h _ _ ih

/-! ### The canonical form -/

/-- Every key lies above a bound. -/
theorem rising_above {α : Type} (m : Map α) : ∀ {b : Nat}, rising (some b) m = true → ∀ p ∈ m, b < p.1 := by
  induction m with
  | nil => intro b _ p hp; cases hp
  | cons q m ih =>
    intro b h p hp
    simp only [rising, Bool.and_eq_true, decide_eq_true_eq] at h
    rcases List.mem_cons.mp hp with rfl | hp
    · exact h.1
    · exact Nat.lt_trans h.1 (ih h.2 p hp)

/-- A lower bound may fall. -/
theorem rising_weaken {α : Type} {b : Nat} {m : Map α} (lo : Option Nat) (hl : ∀ a, lo = some a → a ≤ b)
    (h : rising (some b) m = true) : rising lo m = true := by
  cases m with
  | nil => rfl
  | cons p m =>
    simp only [rising, Bool.and_eq_true, decide_eq_true_eq] at h ⊢
    refine ⟨?_, h.2⟩
    cases lo with
    | none => rfl
    | some a => simp only [decide_eq_true_eq]; exact Nat.lt_of_le_of_lt (hl a rfl) h.1

/-- Bound and tail of a rising store. -/
theorem rising_cons {α : Type} {lo : Option Nat} {p : Nat × α} {m : Map α} :
    rising lo (p :: m) = true ↔ (∀ a, lo = some a → a < p.1) ∧ rising (some p.1) m = true := by
  cases lo <;> simp [rising]

theorem rising_filter {α : Type} (f : Nat × α → Bool) (m : Map α) :
    ∀ lo, rising lo m = true → rising lo (m.filter f) = true := by
  induction m with
  | nil => intro lo _; rfl
  | cons p m ih =>
    intro lo h
    obtain ⟨h1, h2⟩ := rising_cons.mp h
    rw [List.filter]
    split
    · exact rising_cons.mpr ⟨h1, ih _ h2⟩
    · exact rising_weaken lo (fun a e => Nat.le_of_lt (h1 a e)) (ih _ h2)

theorem del_eq_filter {α : Type} (k : Nat) (m : Map α) : del k m = m.filter fun p => decide (k ≠ p.1) := by
  induction m with
  | nil => rfl
  | cons p m ih =>
    unfold del
    split <;> simp_all

theorem rising_ins {α : Type} (k : Nat) (v : α) (m : Map α) :
    ∀ lo, (∀ a, lo = some a → a < k) → rising lo m = true → rising lo (ins k v m) = true := by
  induction m with
  | nil => intro lo hl _; exact rising_cons.mpr ⟨hl, rfl⟩
  | cons p m ih =>
    intro lo hl h
    obtain ⟨h1, h2⟩ := rising_cons.mp h
    unfold ins
    split
    · rename_i e; subst e; exact rising_cons.mpr ⟨hl, h2⟩
    · split
      · rename_i h3
        exact rising_cons.mpr ⟨hl, rising_cons.mpr ⟨fun a e => by cases e; exact h3, h2⟩⟩
      · refine rising_cons.mpr ⟨h1, ih _ (fun a e => ?_) h2⟩
        cases e
        simp_all
        omega

theorem mem_ins {α : Type} {k : Nat} {v : α} {m : Map α} {p : Nat × α} (h : p ∈ ins k v m) : p = (k, v) ∨ p ∈ m := by
  induction m with
  | nil => simpa [ins] using h
  | cons q m ih =>
    unfold ins at h
    split at h
    · rcases List.mem_cons.mp h with h | h
      · simp_all
      · exact .inr (List.mem_cons_of_mem _ h)
    · split at h
      · exact (List.mem_cons.mp h).imp id id
      · rcases List.mem_cons.mp h with h | h
        · exact .inr (h ▸ List.mem_cons_self)
        · exact (ih h).imp id (List.mem_cons_of_mem _)

/-- A store in canonical form: keys rising, and no pair that holds the default. -/
theorem canon_iff {α : Type} [DecidableEq α] {d : α} {m : Map α} :
    canon d m = true ↔ rising none m = true ∧ ∀ p ∈ m, p.2 ≠ d := by
  simp [canon, List.all_eq_true]

theorem rising_put {α : Type} [DecidableEq α] (d : α) (k : Nat) (v : α) {m : Map α} (h : rising none m = true) :
    rising none (put d k v m) = true := by
  unfold put
  split
  · rw [del_eq_filter]; exact rising_filter _ m none h
  · exact rising_ins k v m none (fun a e => by cases e) h

theorem canon_put {α : Type} [DecidableEq α] {d : α} (k : Nat) (v : α) {m : Map α} (h : canon d m = true) :
    canon d (put d k v m) = true := by
  rw [canon_iff] at h ⊢
  refine ⟨rising_put d k v h.1, fun p hp => ?_⟩
  unfold put at hp
  split at hp
  · rw [del_eq_filter] at hp; exact h.2 p (List.mem_filter.mp hp).1
  · rename_i hv
    rcases mem_ins hp with rfl | hp
    · exact hv
    · exact h.2 p hp

theorem canon_upd {α : Type} [DecidableEq α] {d : α} (k : Nat) (f : α → α) {m : Map α} (h : canon d m = true) :
    canon d (upd d k f m) = true := canon_put k _ h

theorem canon_putRange {α : Type} [DecidableEq α] {d : α} (bs : List α) :
    ∀ (k : Nat) {m : Map α}, canon d m = true → canon d (putRange d k bs m) = true := by
  induction bs with
  | nil => intro k m h; exact h
  | cons b bs ih => intro k m h; exact ih (k + 1) (canon_put k b h)

theorem canon_filter {α : Type} [DecidableEq α] {d : α} (f : Nat × α → Bool) {m : Map α} (h : canon d m = true) :
    canon d (m.filter f) = true := by
  rw [canon_iff] at h ⊢
  exact ⟨rising_filter f m none h.1, fun p hp => h.2 p (List.mem_filter.mp hp).1⟩

theorem canon_clearRange {α : Type} [DecidableEq α] {d : α} (lo n : Nat) {m : Map α} (h : canon d m = true) :
    canon d (clearRange lo n m) = true := canon_filter _ h

theorem canon_del {α : Type} [DecidableEq α] {d : α} (k : Nat) {m : Map α} (h : canon d m = true) :
    canon d (del k m) = true := del_eq_filter k m ▸ canon_filter _ h

/-- The keys of a rising store rise pair by pair. -/
theorem rising_iff_pairwise {α : Type} (m : Map α) :
    ∀ lo, rising lo m = true ↔ (∀ a, lo = some a → ∀ p ∈ m, a < p.1) ∧ m.Pairwise fun p q => p.1 < q.1 := by
  induction m with
  | nil => intro lo; simp [rising]
  | cons p m ih =>
    intro lo
    rw [rising_cons, ih, List.pairwise_cons]
    constructor
    · rintro ⟨h1, h2, h3⟩
      refine ⟨fun a e q hq => ?_, h2 _ rfl, h3⟩
      rcases List.mem_cons.mp hq with rfl | hq
      · exact h1 a e
      · exact Nat.lt_trans (h1 a e) (h2 _ rfl q hq)
    · rintro ⟨h1, h2, h3⟩
      exact ⟨fun a e => h1 a e p List.mem_cons_self, fun b e q hq => by cases e; exact h2 q hq, h3⟩

theorem mem_enum {α : Type} (vs : List α) : ∀ {i : Nat} {p : Nat × α}, p ∈ enum i vs → i ≤ p.1 ∧ p.1 < i + vs.length := by
  induction vs with
  | nil => intro i p h; cases h
  | cons v vs ih =>
    intro i p h
    rcases List.mem_cons.mp h with rfl | h
    · simp
    · have := ih h
      rw [List.length_cons]; omega

theorem pairwise_enum {α : Type} (vs : List α) : ∀ i, (enum i vs).Pairwise fun p q => p.1 < q.1 := by
  induction vs with
  | nil => intro i; exact .nil
  | cons v vs ih => intro i; exact .cons (fun q hq => by have := mem_enum vs hq; simp; omega) (ih _)

theorem mem_takeWhile_key {α : Type} {m : Map α} {k : Nat} {p : Nat × α} (h : p ∈ m.takeWhile fun p => decide (p.1 < k)) :
    p.1 < k := by
  induction m with
  | nil => cases h
  | cons q m ih =>
    rw [List.takeWhile_cons] at h
    split at h
    · rename_i hq
      rcases List.mem_cons.mp h with rfl | h
      · simpa using hq
      · exact ih h
    · cases h

theorem mem_dropWhile_key {α : Type} {m : Map α} {k : Nat} {p : Nat × α} (hm : m.Pairwise fun p q => p.1 < q.1)
    (h : p ∈ m.dropWhile fun p => decide (p.1 < k)) : k ≤ p.1 := by
  induction m with
  | nil => cases h
  | cons q m ih =>
    rw [List.pairwise_cons] at hm
    rw [List.dropWhile_cons] at h
    split at h
    · exact ih hm.2 h
    · rename_i hq
      simp only [decide_eq_true_eq, Nat.not_lt] at hq
      rcases List.mem_cons.mp h with rfl | h
      · exact hq
      · exact Nat.le_trans hq (Nat.le_of_lt (hm.1 p h))

/-- A run write keeps the canonical form. -/
theorem canon_writeRun {α : Type} [DecidableEq α] {d : α} (lo : Nat) (vs : List α) {m : Map α} (h : canon d m = true) :
    canon d (writeRun d lo vs m) = true := by
  rw [canon_iff, rising_iff_pairwise] at h ⊢
  obtain ⟨⟨-, hp⟩, hd⟩ := h
  unfold writeRun
  refine ⟨⟨nofun, ?_⟩, ?_⟩
  · refine List.pairwise_append.mpr ⟨List.pairwise_append.mpr ⟨?_, ?_, ?_⟩, ?_, ?_⟩
    · exact hp.sublist (List.takeWhile_sublist _)
    · exact (pairwise_enum vs lo).filter _
    · intro p h1 q h2
      have := mem_takeWhile_key h1
      have := mem_enum vs (List.mem_filter.mp h2).1
      omega
    · exact hp.sublist (List.dropWhile_sublist _)
    · intro p h1 q h2
      have := mem_dropWhile_key hp h2
      rcases List.mem_append.mp h1 with h1 | h1
      · have := mem_takeWhile_key h1; omega
      · have := mem_enum vs (List.mem_filter.mp h1).1; omega
  · intro p h1
    rcases List.mem_append.mp h1 with h1 | h1
    · rcases List.mem_append.mp h1 with h1 | h1
      · exact hd p ((List.takeWhile_sublist _).subset h1)
      · simpa using (List.mem_filter.mp h1).2
    · exact hd p ((List.dropWhile_sublist _).subset h1)

/-- A loop all of whose turns but number c leave the state alone is that turn. -/
theorem loop_only {σ : Type} {f : Nat → σ → σ} {c : Nat} (h : ∀ i s, i ≠ c → f i s = s) (n : Nat) (s : σ) :
    loop f n s = if c < n then f c s else s := by
  induction n with
  | zero => rfl
  | succ n ih =>
    show f n (loop f n s) = _
    rw [ih]
    by_cases e : n = c
    · subst e; rw [if_neg (by omega), if_pos (by omega)]
    · rw [h n _ e]
      by_cases e2 : c < n
      · rw [if_pos e2, if_pos (by omega)]
      · rw [if_neg e2, if_neg (by omega)]

/-- A key that no pair lists reads as the default. -/
theorem get_default_or_listed {α : Type} (d : α) (k : Nat) (m : Map α) : get d k m = d ∨ ∃ x ∈ m, x.1 = k := by
  induction m with
  | nil => exact .inl rfl
  | cons x m ih =>
    unfold get
    split
    · rename_i e; exact .inr ⟨x, List.mem_cons_self, e.symm⟩
    · rcases ih with e | ⟨y, hy, e⟩
      · exact .inl e
      · exact .inr ⟨y, List.mem_cons_of_mem _ hy, e⟩

end Sys2Proof.Machine
end

