-- ==== Sys2Proof/Laws/Fields.lean ====
section
/-! SUPPORT. The laws of registers and their fields: a field written reads back modulo its width, and every other
register and every other field of the register stands. -/
namespace Sys2Proof.Machine

/-! ### Bit ranges of numbers -/

/-- `putBits` by the parts of the number: what lies above the range, the value, what lies below. -/
theorem putBits_eq (x hi lo v : Nat) :
    putBits x hi lo v
      = 2 ^ lo * (2 ^ (hi + 1 - lo) * (x / 2 ^ lo / 2 ^ (hi + 1 - lo)) + v % 2 ^ (hi + 1 - lo)) + x % 2 ^ lo := by
  unfold putBits bits
  rw [Nat.shiftRight_eq_div_pow]
  have h1 := Nat.div_add_mod x (2 ^ lo)
  have h2 := Nat.div_add_mod (x / 2 ^ lo) (2 ^ (hi + 1 - lo))
  rw [Nat.mul_comm _ (2 ^ lo), Nat.mul_comm _ (2 ^ lo), Nat.mul_add]
  have h3 : 2 ^ lo * (x / 2 ^ lo) = 2 ^ lo * (2 ^ (hi + 1 - lo) * (x / 2 ^ lo / 2 ^ (hi + 1 - lo)))
      + 2 ^ lo * (x / 2 ^ lo % 2 ^ (hi + 1 - lo)) := by rw [← Nat.mul_add, h2]
  omega

theorem bits_putBits_same (x hi lo v : Nat) : bits (putBits x hi lo v) hi lo = v % 2 ^ (hi + 1 - lo) := by
  rw [putBits_eq]
  unfold bits
  rw [Nat.shiftRight_eq_div_pow, Nat.mul_add_div (Nat.two_pow_pos lo), Nat.div_eq_of_lt (Nat.mod_lt _ (Nat.two_pow_pos lo)),
    Nat.add_zero, Nat.mul_add_mod, Nat.mod_mod]

theorem bits_putBits_above (x hi lo v h l : Nat) (hl : lo ≤ hi) (h1 : hi < l) :
    bits (putBits x hi lo v) h l = bits x h l := by
  unfold bits
  simp only [Nat.shiftRight_eq_div_pow]
  have e : 2 ^ l = 2 ^ lo * (2 ^ (hi + 1 - lo) * 2 ^ (l - (hi + 1))) := by
    rw [← Nat.pow_add, ← Nat.pow_add]; congr 1; omega
  rw [e, ← Nat.div_div_eq_div_mul, ← Nat.div_div_eq_div_mul, ← Nat.div_div_eq_div_mul, ← Nat.div_div_eq_div_mul, putBits_eq,
    Nat.mul_add_div (Nat.two_pow_pos lo), Nat.div_eq_of_lt (Nat.mod_lt _ (Nat.two_pow_pos lo)), Nat.add_zero,
    Nat.mul_add_div (Nat.two_pow_pos _), Nat.div_eq_of_lt (Nat.mod_lt _ (Nat.two_pow_pos _)), Nat.add_zero]

theorem putBits_mod_low (x hi lo v : Nat) : putBits x hi lo v % 2 ^ lo = x % 2 ^ lo := by
  rw [putBits_eq, Nat.mul_add_mod, Nat.mod_mod]

theorem bits_of_mod (x h l k : Nat) (hk : h < k) (hl : l ≤ h) : bits (x % 2 ^ k) h l = bits x h l := by
  unfold bits
  rw [Nat.shiftRight_eq_div_pow, Nat.shiftRight_eq_div_pow]
  have e : 2 ^ k = 2 ^ l * 2 ^ (k - l) := by rw [← Nat.pow_add]; congr 1; omega
  rw [e, Nat.mod_mul_right_div_self, Nat.mod_mod_of_dvd _ (Nat.pow_dvd_pow 2 (by omega))]

theorem bits_putBits_below (x hi lo v h l : Nat) (h1 : h < lo) (hl : l ≤ h) :
    bits (putBits x hi lo v) h l = bits x h l := by
  rw [← bits_of_mod _ h l lo h1 hl, putBits_mod_low, bits_of_mod _ h l lo h1 hl]

theorem putBits_lt {x hi lo v : Nat} (hx : x < 2 ^ 32) (hh : hi < 32) (hl : lo ≤ hi) : putBits x hi lo v < 2 ^ 32 := by
  have hw := Nat.mod_lt v (Nat.two_pow_pos (hi + 1 - lo))
  have ha := Nat.mod_lt x (Nat.two_pow_pos lo)
  have hc : x / 2 ^ lo / 2 ^ (hi + 1 - lo) < 2 ^ (31 - hi) := by
    rw [Nat.div_div_eq_div_mul, ← Nat.pow_add, show lo + (hi + 1 - lo) = hi + 1 by omega]
    rw [Nat.div_lt_iff_lt_mul (Nat.two_pow_pos _), ← Nat.pow_add, show 31 - hi + (hi + 1) = 32 by omega]
    exact hx
  rw [putBits_eq]
  generalize x / 2 ^ lo / 2 ^ (hi + 1 - lo) = c at hc ⊢
  generalize v % 2 ^ (hi + 1 - lo) = y at hw ⊢
  generalize x % 2 ^ lo = a at ha ⊢
  have e : 2 ^ 32 = 2 ^ lo * (2 ^ (hi + 1 - lo) * 2 ^ (31 - hi)) := by
    rw [← Nat.pow_add, ← Nat.pow_add]; congr 1; omega
  have h1 : 2 ^ (hi + 1 - lo) * c + y + 1 ≤ 2 ^ (hi + 1 - lo) * 2 ^ (31 - hi) := by
    calc 2 ^ (hi + 1 - lo) * c + y + 1 ≤ 2 ^ (hi + 1 - lo) * c + 2 ^ (hi + 1 - lo) := by omega
      _ = 2 ^ (hi + 1 - lo) * (c + 1) := by rw [Nat.mul_add, Nat.mul_one]
      _ ≤ _ := Nat.mul_le_mul_left _ hc
  rw [e]
  calc 2 ^ lo * (2 ^ (hi + 1 - lo) * c + y) + a < 2 ^ lo * (2 ^ (hi + 1 - lo) * c + y) + 2 ^ lo := by omega
    _ = 2 ^ lo * (2 ^ (hi + 1 - lo) * c + y + 1) := by rw [Nat.mul_add _ _ 1, Nat.mul_one]
    _ ≤ _ := Nat.mul_le_mul_left _ h1

theorem bits_lt (x hi lo : Nat) : bits x hi lo < 2 ^ (hi + 1 - lo) := Nat.mod_lt _ (Nat.two_pow_pos _)

/-! ### Registers -/

@[simp] theorem reg_setReg_same (off : Nat) (w : Word) (s : State) : reg off (setReg off w s) = w := by
  simp [reg, setReg]

theorem reg_setReg_other {o off : Nat} (h : o ≠ off) (w : Word) (s : State) : reg o (setReg off w s) = reg o s := by
  unfold reg setReg
  exact get_put_other _ h w s.regs

/-- A register is what its store holds: equal stores read alike. -/
theorem reg_congr {s t : State} (h : s.regs = t.regs) (off : Nat) : reg off s = reg off t := by simp [reg, h]

theorem fld_congr {s t : State} (h : s.regs = t.regs) (f : Fld) : fld f s = fld f t := by simp [fld, reg_congr h]

/-! ### Fields -/

/-- A field lies in its register. -/
abbrev fieldOk (f : Fld) : Prop := f.lo ≤ f.hi ∧ f.hi < 32

/-- Two fields share no bit. -/
abbrev fieldsApart (f g : Fld) : Prop := f.off ≠ g.off ∨ f.hi < g.lo ∨ g.hi < f.lo

/-- A field lies in its register, by evaluation. -/
theorem fieldOk_of {f : Fld} (h : (Nat.ble f.lo f.hi && Nat.blt f.hi 32) = true) : fieldOk f := by
  rw [Bool.and_eq_true] at h
  exact ⟨Nat.le_of_ble_eq_true h.1, Nat.le_of_ble_eq_true h.2⟩

/-- Two fields of one register lie apart, by evaluation. -/
theorem fieldsApart_of {f g : Fld} (h : (Nat.blt f.hi g.lo || Nat.blt g.hi f.lo) = true) : fieldsApart f g := by
  rw [Bool.or_eq_true] at h
  rcases h with h | h
  · exact .inr (.inl (Nat.le_of_ble_eq_true h))
  · exact .inr (.inr (Nat.le_of_ble_eq_true h))

theorem toNat_putBits (f : Fld) (h : fieldOk f) (v : Nat) (s : State) :
    (BitVec.ofNat 32 (putBits (reg f.off s).toNat f.hi f.lo v)).toNat = putBits (reg f.off s).toNat f.hi f.lo v := by
  rw [BitVec.toNat_ofNat, Nat.mod_eq_of_lt (putBits_lt (reg f.off s).isLt h.2 h.1)]

theorem fld_setFld_same (f : Fld) (h : fieldOk f) (v : Nat) (s : State) : fld f (setFld f v s) = v % 2 ^ (f.hi + 1 - f.lo) := by
  unfold fld setFld
  rw [reg_setReg_same, toNat_putBits f h, bits_putBits_same]

theorem fld_setFld_other {f g : Fld} (hf : fieldOk f) (hg : fieldOk g) (h : fieldsApart g f) (v : Nat) (s : State) :
    fld g (setFld f v s) = fld g s := by
  unfold fld setFld
  by_cases e : g.off = f.off
  · rw [e, reg_setReg_same, toNat_putBits f hf]
    rcases h with h | h | h
    · exact absurd e h
    · exact bits_putBits_below _ _ _ _ _ _ h hg.1
    · exact bits_putBits_above _ _ _ _ _ _ hf.1 h
  · rw [reg_setReg_other e]

theorem fld_lt (f : Fld) (s : State) : fld f s < 2 ^ (f.hi + 1 - f.lo) := bits_lt ..

/-- A register none of the fields lies in stands. -/
theorem reg_setFlds_other {off : Nat} (fs : List (Fld × Nat)) :
    ∀ s, (∀ x ∈ fs, off ≠ x.1.off) → reg off (setFlds fs s) = reg off s := by
  induction fs with
  | nil => intro s _; rfl
  | cons x fs ih =>
    intro s h
    rw [setFlds, ih _ fun y hy => h y (List.mem_cons_of_mem _ hy)]
    exact reg_setReg_other (h x List.mem_cons_self) _ _

/-- A field apart from all those set stands. -/
theorem fld_setFlds_other {g : Fld} (hg : fieldOk g) (fs : List (Fld × Nat)) :
    ∀ s, (∀ x ∈ fs, fieldOk x.1 ∧ fieldsApart g x.1) → fld g (setFlds fs s) = fld g s := by
  induction fs with
  | nil => intro s _; rfl
  | cons x fs ih =>
    intro s h
    rw [setFlds, ih _ fun y hy => h y (List.mem_cons_of_mem _ hy)]
    exact fld_setFld_other (h x List.mem_cons_self).1 hg (h x List.mem_cons_self).2 _ _

/-- Fields apart from one another, set together, each read what they were given, modulo the width. -/
theorem fld_setFlds_mem (fs : List (Fld × Nat)) :
    ∀ s, (∀ x ∈ fs, fieldOk x.1) → fs.Pairwise (fun x y => fieldsApart x.1 y.1) →
      ∀ x ∈ fs, fld x.1 (setFlds fs s) = x.2 % 2 ^ (x.1.hi + 1 - x.1.lo) := by
  induction fs with
  | nil => intro s _ _ x hx; cases hx
  | cons y fs ih =>
    intro s ho hp x hx
    rw [List.pairwise_cons] at hp
    rw [setFlds]
    rcases List.mem_cons.mp hx with rfl | hx
    · rw [fld_setFlds_other (ho x List.mem_cons_self) fs _
        fun y hy => ⟨ho y (List.mem_cons_of_mem _ hy), hp.1 y hy⟩]
      exact fld_setFld_same _ (ho x List.mem_cons_self) _ _
    · exact ih _ (fun y hy => ho y (List.mem_cons_of_mem _ hy)) hp.2 x hx

theorem reg_setFld_other {f : Fld} {off : Nat} (h : off ≠ f.off) (v : Nat) (s : State) :
    reg off (setFld f v s) = reg off s := reg_setReg_other h _ _

end Sys2Proof.Machine
end

