-- ==== Sys2Proof/Laws/State.lean ====
section
/-! SUPPORT. What each update of the state leaves alone: one lemma per field per update. -/
namespace Sys2Proof.Machine

variable (s : State)

/-! ### `setReg` changes `regs` alone -/

section
variable (off : Nat) (w : Word)

@[simp] theorem setReg_now : (setReg off w s).now = s.now := (rfl)
@[simp] theorem setReg_fresh : (setReg off w s).fresh = s.fresh := (rfl)
@[simp] theorem setReg_latch : (setReg off w s).latch = s.latch := (rfl)
@[simp] theorem setReg_upds : (setReg off w s).upds = s.upds := (rfl)
@[simp] theorem setReg_out : (setReg off w s).out = s.out := (rfl)
@[simp] theorem setReg_due : (setReg off w s).due = s.due := (rfl)
@[simp] theorem setReg_sfifo : (setReg off w s).sfifo = s.sfifo := (rfl)
@[simp] theorem setReg_sfLost : (setReg off w s).sfLost = s.sfLost := (rfl)
@[simp] theorem setReg_errAt : (setReg off w s).errAt = s.errAt := (rfl)
@[simp] theorem setReg_reported : (setReg off w s).reported = s.reported := (rfl)
@[simp] theorem setReg_func : (setReg off w s).func = s.func := (rfl)
@[simp] theorem setReg_vfs : (setReg off w s).vfs = s.vfs := (rfl)
@[simp] theorem setReg_ari : (setReg off w s).ari = s.ari := (rfl)
@[simp] theorem setReg_eid : (setReg off w s).eid = s.eid := (rfl)
@[simp] theorem setReg_i3cAddr : (setReg off w s).i3cAddr = s.i3cAddr := (rfl)
@[simp] theorem setReg_recFault : (setReg off w s).recFault = s.recFault := (rfl)
@[simp] theorem setReg_recTrace : (setReg off w s).recTrace = s.recTrace := (rfl)
@[simp] theorem setReg_cores : (setReg off w s).cores = s.cores := (rfl)
@[simp] theorem setReg_seq : (setReg off w s).seq = s.seq := (rfl)
@[simp] theorem setReg_traceStop : (setReg off w s).traceStop = s.traceStop := (rfl)
@[simp] theorem setReg_strapI3c : (setReg off w s).strapI3c = s.strapI3c := (rfl)
@[simp] theorem setReg_hbm : (setReg off w s).hbm = s.hbm := (rfl)
@[simp] theorem setReg_eng : (setReg off w s).eng = s.eng := (rfl)
@[simp] theorem setReg_desc : (setReg off w s).desc = s.desc := (rfl)
@[simp] theorem setReg_dload : (setReg off w s).dload = s.dload := (rfl)
@[simp] theorem setReg_tally : (setReg off w s).tally = s.tally := (rfl)
@[simp] theorem setReg_sdl : (setReg off w s).sdl = s.sdl := (rfl)
@[simp] theorem setReg_queue : (setReg off w s).queue = s.queue := (rfl)
@[simp] theorem setReg_meter : (setReg off w s).meter = s.meter := (rfl)
@[simp] theorem setReg_mrec : (setReg off w s).mrec = s.mrec := (rfl)
@[simp] theorem setReg_mtrNext : (setReg off w s).mtrNext = s.mtrNext := (rfl)
@[simp] theorem setReg_slice : (setReg off w s).slice = s.slice := (rfl)
@[simp] theorem setReg_aborts : (setReg off w s).aborts = s.aborts := (rfl)
@[simp] theorem setReg_haltAt : (setReg off w s).haltAt = s.haltAt := (rfl)
@[simp] theorem setReg_therm : (setReg off w s).therm = s.therm := (rfl)
@[simp] theorem setReg_tripAt : (setReg off w s).tripAt = s.tripAt := (rfl)
@[simp] theorem setReg_thermtrip : (setReg off w s).thermtrip = s.thermtrip := (rfl)
@[simp] theorem setReg_inj : (setReg off w s).inj = s.inj := (rfl)
@[simp] theorem setReg_dark : (setReg off w s).dark = s.dark := (rfl)
@[simp] theorem setReg_wdogAt : (setReg off w s).wdogAt = s.wdogAt := (rfl)
@[simp] theorem setReg_recs : (setReg off w s).recs = s.recs := (rfl)
@[simp] theorem setReg_recEpoch : (setReg off w s).recEpoch = s.recEpoch := (rfl)
@[simp] theorem setReg_flush : (setReg off w s).flush = s.flush := (rfl)
@[simp] theorem setReg_flushWait : (setReg off w s).flushWait = s.flushWait := (rfl)
@[simp] theorem setReg_flushEnd : (setReg off w s).flushEnd = s.flushEnd := (rfl)
@[simp] theorem setReg_hmkAt : (setReg off w s).hmkAt = s.hmkAt := (rfl)
@[simp] theorem setReg_replay : (setReg off w s).replay = s.replay := (rfl)
@[simp] theorem setReg_replayNo : (setReg off w s).replayNo = s.replayNo := (rfl)
@[simp] theorem setReg_pwrHigh : (setReg off w s).pwrHigh = s.pwrHigh := (rfl)
@[simp] theorem setReg_pwrHighAt : (setReg off w s).pwrHighAt = s.pwrHighAt := (rfl)
@[simp] theorem setReg_bkpFail : (setReg off w s).bkpFail = s.bkpFail := (rfl)
@[simp] theorem setReg_link : (setReg off w s).link = s.link := (rfl)
@[simp] theorem setReg_post : (setReg off w s).post = s.post := (rfl)
@[simp] theorem setReg_sendData : (setReg off w s).sendData = s.sendData := (rfl)
@[simp] theorem setReg_linkPlot : (setReg off w s).linkPlot = s.linkPlot := (rfl)
@[simp] theorem setReg_xferNo : (setReg off w s).xferNo = s.xferNo := (rfl)
@[simp] theorem setReg_extents : (setReg off w s).extents = s.extents := (rfl)
@[simp] theorem setReg_csc : (setReg off w s).csc = s.csc := (rfl)
@[simp] theorem setReg_opt : (setReg off w s).opt = s.opt := (rfl)
@[simp] theorem setReg_anl : (setReg off w s).anl = s.anl := (rfl)
@[simp] theorem setReg_fuses : (setReg off w s).fuses = s.fuses := (rfl)
@[simp] theorem setReg_nor : (setReg off w s).nor = s.nor := (rfl)
@[simp] theorem setReg_mram : (setReg off w s).mram = s.mram := (rfl)
@[simp] theorem setReg_fw : (setReg off w s).fw = s.fw := (rfl)
@[simp] theorem setReg_powered : (setReg off w s).powered = s.powered := (rfl)
@[simp] theorem setReg_inReset : (setReg off w s).inReset = s.inReset := (rfl)
@[simp] theorem setReg_testEn : (setReg off w s).testEn = s.testEn := (rfl)
@[simp] theorem setReg_strapAddr : (setReg off w s).strapAddr = s.strapAddr := (rfl)
@[simp] theorem setReg_releaseAt : (setReg off w s).releaseAt = s.releaseAt := (rfl)
@[simp] theorem setReg_pwrLowAt : (setReg off w s).pwrLowAt = s.pwrLowAt := (rfl)
@[simp] theorem setReg_down : (setReg off w s).down = s.down := (rfl)
@[simp] theorem setReg_refLost : (setReg off w s).refLost = s.refLost := (rfl)
@[simp] theorem setReg_pending : (setReg off w s).pending = s.pending := (rfl)
@[simp] theorem setReg_engFreed : (setReg off w s).engFreed = s.engFreed := (rfl)
@[simp] theorem setReg_tagTurn : (setReg off w s).tagTurn = s.tagTurn := (rfl)
@[simp] theorem setReg_capWait : (setReg off w s).capWait = s.capWait := (rfl)

end

/-! ### `setFld` changes `regs` alone -/

section
variable (g : Fld) (v : Nat)

@[simp] theorem setFld_now : (setFld g v s).now = s.now := (rfl)
@[simp] theorem setFld_fresh : (setFld g v s).fresh = s.fresh := (rfl)
@[simp] theorem setFld_latch : (setFld g v s).latch = s.latch := (rfl)
@[simp] theorem setFld_upds : (setFld g v s).upds = s.upds := (rfl)
@[simp] theorem setFld_out : (setFld g v s).out = s.out := (rfl)
@[simp] theorem setFld_due : (setFld g v s).due = s.due := (rfl)
@[simp] theorem setFld_sfifo : (setFld g v s).sfifo = s.sfifo := (rfl)
@[simp] theorem setFld_sfLost : (setFld g v s).sfLost = s.sfLost := (rfl)
@[simp] theorem setFld_errAt : (setFld g v s).errAt = s.errAt := (rfl)
@[simp] theorem setFld_reported : (setFld g v s).reported = s.reported := (rfl)
@[simp] theorem setFld_func : (setFld g v s).func = s.func := (rfl)
@[simp] theorem setFld_vfs : (setFld g v s).vfs = s.vfs := (rfl)
@[simp] theorem setFld_ari : (setFld g v s).ari = s.ari := (rfl)
@[simp] theorem setFld_eid : (setFld g v s).eid = s.eid := (rfl)
@[simp] theorem setFld_i3cAddr : (setFld g v s).i3cAddr = s.i3cAddr := (rfl)
@[simp] theorem setFld_recFault : (setFld g v s).recFault = s.recFault := (rfl)
@[simp] theorem setFld_recTrace : (setFld g v s).recTrace = s.recTrace := (rfl)
@[simp] theorem setFld_cores : (setFld g v s).cores = s.cores := (rfl)
@[simp] theorem setFld_seq : (setFld g v s).seq = s.seq := (rfl)
@[simp] theorem setFld_traceStop : (setFld g v s).traceStop = s.traceStop := (rfl)
@[simp] theorem setFld_strapI3c : (setFld g v s).strapI3c = s.strapI3c := (rfl)
@[simp] theorem setFld_hbm : (setFld g v s).hbm = s.hbm := (rfl)
@[simp] theorem setFld_eng : (setFld g v s).eng = s.eng := (rfl)
@[simp] theorem setFld_desc : (setFld g v s).desc = s.desc := (rfl)
@[simp] theorem setFld_dload : (setFld g v s).dload = s.dload := (rfl)
@[simp] theorem setFld_tally : (setFld g v s).tally = s.tally := (rfl)
@[simp] theorem setFld_sdl : (setFld g v s).sdl = s.sdl := (rfl)
@[simp] theorem setFld_queue : (setFld g v s).queue = s.queue := (rfl)
@[simp] theorem setFld_meter : (setFld g v s).meter = s.meter := (rfl)
@[simp] theorem setFld_mrec : (setFld g v s).mrec = s.mrec := (rfl)
@[simp] theorem setFld_mtrNext : (setFld g v s).mtrNext = s.mtrNext := (rfl)
@[simp] theorem setFld_slice : (setFld g v s).slice = s.slice := (rfl)
@[simp] theorem setFld_aborts : (setFld g v s).aborts = s.aborts := (rfl)
@[simp] theorem setFld_haltAt : (setFld g v s).haltAt = s.haltAt := (rfl)
@[simp] theorem setFld_therm : (setFld g v s).therm = s.therm := (rfl)
@[simp] theorem setFld_tripAt : (setFld g v s).tripAt = s.tripAt := (rfl)
@[simp] theorem setFld_thermtrip : (setFld g v s).thermtrip = s.thermtrip := (rfl)
@[simp] theorem setFld_inj : (setFld g v s).inj = s.inj := (rfl)
@[simp] theorem setFld_dark : (setFld g v s).dark = s.dark := (rfl)
@[simp] theorem setFld_wdogAt : (setFld g v s).wdogAt = s.wdogAt := (rfl)
@[simp] theorem setFld_recs : (setFld g v s).recs = s.recs := (rfl)
@[simp] theorem setFld_recEpoch : (setFld g v s).recEpoch = s.recEpoch := (rfl)
@[simp] theorem setFld_flush : (setFld g v s).flush = s.flush := (rfl)
@[simp] theorem setFld_flushWait : (setFld g v s).flushWait = s.flushWait := (rfl)
@[simp] theorem setFld_flushEnd : (setFld g v s).flushEnd = s.flushEnd := (rfl)
@[simp] theorem setFld_hmkAt : (setFld g v s).hmkAt = s.hmkAt := (rfl)
@[simp] theorem setFld_replay : (setFld g v s).replay = s.replay := (rfl)
@[simp] theorem setFld_replayNo : (setFld g v s).replayNo = s.replayNo := (rfl)
@[simp] theorem setFld_pwrHigh : (setFld g v s).pwrHigh = s.pwrHigh := (rfl)
@[simp] theorem setFld_pwrHighAt : (setFld g v s).pwrHighAt = s.pwrHighAt := (rfl)
@[simp] theorem setFld_bkpFail : (setFld g v s).bkpFail = s.bkpFail := (rfl)
@[simp] theorem setFld_link : (setFld g v s).link = s.link := (rfl)
@[simp] theorem setFld_post : (setFld g v s).post = s.post := (rfl)
@[simp] theorem setFld_sendData : (setFld g v s).sendData = s.sendData := (rfl)
@[simp] theorem setFld_linkPlot : (setFld g v s).linkPlot = s.linkPlot := (rfl)
@[simp] theorem setFld_xferNo : (setFld g v s).xferNo = s.xferNo := (rfl)
@[simp] theorem setFld_extents : (setFld g v s).extents = s.extents := (rfl)
@[simp] theorem setFld_csc : (setFld g v s).csc = s.csc := (rfl)
@[simp] theorem setFld_opt : (setFld g v s).opt = s.opt := (rfl)
@[simp] theorem setFld_anl : (setFld g v s).anl = s.anl := (rfl)
@[simp] theorem setFld_fuses : (setFld g v s).fuses = s.fuses := (rfl)
@[simp] theorem setFld_nor : (setFld g v s).nor = s.nor := (rfl)
@[simp] theorem setFld_mram : (setFld g v s).mram = s.mram := (rfl)
@[simp] theorem setFld_fw : (setFld g v s).fw = s.fw := (rfl)
@[simp] theorem setFld_powered : (setFld g v s).powered = s.powered := (rfl)
@[simp] theorem setFld_inReset : (setFld g v s).inReset = s.inReset := (rfl)
@[simp] theorem setFld_testEn : (setFld g v s).testEn = s.testEn := (rfl)
@[simp] theorem setFld_strapAddr : (setFld g v s).strapAddr = s.strapAddr := (rfl)
@[simp] theorem setFld_releaseAt : (setFld g v s).releaseAt = s.releaseAt := (rfl)
@[simp] theorem setFld_pwrLowAt : (setFld g v s).pwrLowAt = s.pwrLowAt := (rfl)
@[simp] theorem setFld_down : (setFld g v s).down = s.down := (rfl)
@[simp] theorem setFld_refLost : (setFld g v s).refLost = s.refLost := (rfl)
@[simp] theorem setFld_pending : (setFld g v s).pending = s.pending := (rfl)
@[simp] theorem setFld_engFreed : (setFld g v s).engFreed = s.engFreed := (rfl)
@[simp] theorem setFld_tagTurn : (setFld g v s).tagTurn = s.tagTurn := (rfl)
@[simp] theorem setFld_capWait : (setFld g v s).capWait = s.capWait := (rfl)

end

/-! ### `emit` changes `out` alone -/

section
variable (o : Out)

@[simp] theorem emit_now : (emit o s).now = s.now := (rfl)
@[simp] theorem emit_fresh : (emit o s).fresh = s.fresh := (rfl)
@[simp] theorem emit_regs : (emit o s).regs = s.regs := (rfl)
@[simp] theorem emit_latch : (emit o s).latch = s.latch := (rfl)
@[simp] theorem emit_upds : (emit o s).upds = s.upds := (rfl)
@[simp] theorem emit_due : (emit o s).due = s.due := (rfl)
@[simp] theorem emit_sfifo : (emit o s).sfifo = s.sfifo := (rfl)
@[simp] theorem emit_sfLost : (emit o s).sfLost = s.sfLost := (rfl)
@[simp] theorem emit_errAt : (emit o s).errAt = s.errAt := (rfl)
@[simp] theorem emit_reported : (emit o s).reported = s.reported := (rfl)
@[simp] theorem emit_func : (emit o s).func = s.func := (rfl)
@[simp] theorem emit_vfs : (emit o s).vfs = s.vfs := (rfl)
@[simp] theorem emit_ari : (emit o s).ari = s.ari := (rfl)
@[simp] theorem emit_eid : (emit o s).eid = s.eid := (rfl)
@[simp] theorem emit_i3cAddr : (emit o s).i3cAddr = s.i3cAddr := (rfl)
@[simp] theorem emit_recFault : (emit o s).recFault = s.recFault := (rfl)
@[simp] theorem emit_recTrace : (emit o s).recTrace = s.recTrace := (rfl)
@[simp] theorem emit_cores : (emit o s).cores = s.cores := (rfl)
@[simp] theorem emit_seq : (emit o s).seq = s.seq := (rfl)
@[simp] theorem emit_traceStop : (emit o s).traceStop = s.traceStop := (rfl)
@[simp] theorem emit_strapI3c : (emit o s).strapI3c = s.strapI3c := (rfl)
@[simp] theorem emit_hbm : (emit o s).hbm = s.hbm := (rfl)
@[simp] theorem emit_eng : (emit o s).eng = s.eng := (rfl)
@[simp] theorem emit_desc : (emit o s).desc = s.desc := (rfl)
@[simp] theorem emit_dload : (emit o s).dload = s.dload := (rfl)
@[simp] theorem emit_tally : (emit o s).tally = s.tally := (rfl)
@[simp] theorem emit_sdl : (emit o s).sdl = s.sdl := (rfl)
@[simp] theorem emit_queue : (emit o s).queue = s.queue := (rfl)
@[simp] theorem emit_meter : (emit o s).meter = s.meter := (rfl)
@[simp] theorem emit_mrec : (emit o s).mrec = s.mrec := (rfl)
@[simp] theorem emit_mtrNext : (emit o s).mtrNext = s.mtrNext := (rfl)
@[simp] theorem emit_slice : (emit o s).slice = s.slice := (rfl)
@[simp] theorem emit_aborts : (emit o s).aborts = s.aborts := (rfl)
@[simp] theorem emit_haltAt : (emit o s).haltAt = s.haltAt := (rfl)
@[simp] theorem emit_therm : (emit o s).therm = s.therm := (rfl)
@[simp] theorem emit_tripAt : (emit o s).tripAt = s.tripAt := (rfl)
@[simp] theorem emit_thermtrip : (emit o s).thermtrip = s.thermtrip := (rfl)
@[simp] theorem emit_inj : (emit o s).inj = s.inj := (rfl)
@[simp] theorem emit_dark : (emit o s).dark = s.dark := (rfl)
@[simp] theorem emit_wdogAt : (emit o s).wdogAt = s.wdogAt := (rfl)
@[simp] theorem emit_recs : (emit o s).recs = s.recs := (rfl)
@[simp] theorem emit_recEpoch : (emit o s).recEpoch = s.recEpoch := (rfl)
@[simp] theorem emit_flush : (emit o s).flush = s.flush := (rfl)
@[simp] theorem emit_flushWait : (emit o s).flushWait = s.flushWait := (rfl)
@[simp] theorem emit_flushEnd : (emit o s).flushEnd = s.flushEnd := (rfl)
@[simp] theorem emit_hmkAt : (emit o s).hmkAt = s.hmkAt := (rfl)
@[simp] theorem emit_replay : (emit o s).replay = s.replay := (rfl)
@[simp] theorem emit_replayNo : (emit o s).replayNo = s.replayNo := (rfl)
@[simp] theorem emit_pwrHigh : (emit o s).pwrHigh = s.pwrHigh := (rfl)
@[simp] theorem emit_pwrHighAt : (emit o s).pwrHighAt = s.pwrHighAt := (rfl)
@[simp] theorem emit_bkpFail : (emit o s).bkpFail = s.bkpFail := (rfl)
@[simp] theorem emit_link : (emit o s).link = s.link := (rfl)
@[simp] theorem emit_post : (emit o s).post = s.post := (rfl)
@[simp] theorem emit_sendData : (emit o s).sendData = s.sendData := (rfl)
@[simp] theorem emit_linkPlot : (emit o s).linkPlot = s.linkPlot := (rfl)
@[simp] theorem emit_xferNo : (emit o s).xferNo = s.xferNo := (rfl)
@[simp] theorem emit_extents : (emit o s).extents = s.extents := (rfl)
@[simp] theorem emit_csc : (emit o s).csc = s.csc := (rfl)
@[simp] theorem emit_opt : (emit o s).opt = s.opt := (rfl)
@[simp] theorem emit_anl : (emit o s).anl = s.anl := (rfl)
@[simp] theorem emit_fuses : (emit o s).fuses = s.fuses := (rfl)
@[simp] theorem emit_nor : (emit o s).nor = s.nor := (rfl)
@[simp] theorem emit_mram : (emit o s).mram = s.mram := (rfl)
@[simp] theorem emit_fw : (emit o s).fw = s.fw := (rfl)
@[simp] theorem emit_powered : (emit o s).powered = s.powered := (rfl)
@[simp] theorem emit_inReset : (emit o s).inReset = s.inReset := (rfl)
@[simp] theorem emit_testEn : (emit o s).testEn = s.testEn := (rfl)
@[simp] theorem emit_strapAddr : (emit o s).strapAddr = s.strapAddr := (rfl)
@[simp] theorem emit_releaseAt : (emit o s).releaseAt = s.releaseAt := (rfl)
@[simp] theorem emit_pwrLowAt : (emit o s).pwrLowAt = s.pwrLowAt := (rfl)
@[simp] theorem emit_down : (emit o s).down = s.down := (rfl)
@[simp] theorem emit_refLost : (emit o s).refLost = s.refLost := (rfl)
@[simp] theorem emit_pending : (emit o s).pending = s.pending := (rfl)
@[simp] theorem emit_engFreed : (emit o s).engFreed = s.engFreed := (rfl)
@[simp] theorem emit_tagTurn : (emit o s).tagTurn = s.tagTurn := (rfl)
@[simp] theorem emit_capWait : (emit o s).capWait = s.capWait := (rfl)
@[simp] theorem fld_emit (h : Fld) : fld h (emit o s) = fld h s := (rfl)
@[simp] theorem flag_emit (h : Fld) : flag h (emit o s) = flag h s := (rfl)

end

/-! ### `leave` changes `due` alone -/

section
variable (d : Due)

@[simp] theorem leave_now : (leave d s).now = s.now := (rfl)
@[simp] theorem leave_fresh : (leave d s).fresh = s.fresh := (rfl)
@[simp] theorem leave_regs : (leave d s).regs = s.regs := (rfl)
@[simp] theorem leave_latch : (leave d s).latch = s.latch := (rfl)
@[simp] theorem leave_upds : (leave d s).upds = s.upds := (rfl)
@[simp] theorem leave_out : (leave d s).out = s.out := (rfl)
@[simp] theorem leave_sfifo : (leave d s).sfifo = s.sfifo := (rfl)
@[simp] theorem leave_sfLost : (leave d s).sfLost = s.sfLost := (rfl)
@[simp] theorem leave_errAt : (leave d s).errAt = s.errAt := (rfl)
@[simp] theorem leave_reported : (leave d s).reported = s.reported := (rfl)
@[simp] theorem leave_func : (leave d s).func = s.func := (rfl)
@[simp] theorem leave_vfs : (leave d s).vfs = s.vfs := (rfl)
@[simp] theorem leave_ari : (leave d s).ari = s.ari := (rfl)
@[simp] theorem leave_eid : (leave d s).eid = s.eid := (rfl)
@[simp] theorem leave_i3cAddr : (leave d s).i3cAddr = s.i3cAddr := (rfl)
@[simp] theorem leave_recFault : (leave d s).recFault = s.recFault := (rfl)
@[simp] theorem leave_recTrace : (leave d s).recTrace = s.recTrace := (rfl)
@[simp] theorem leave_cores : (leave d s).cores = s.cores := (rfl)
@[simp] theorem leave_seq : (leave d s).seq = s.seq := (rfl)
@[simp] theorem leave_traceStop : (leave d s).traceStop = s.traceStop := (rfl)
@[simp] theorem leave_strapI3c : (leave d s).strapI3c = s.strapI3c := (rfl)
@[simp] theorem leave_hbm : (leave d s).hbm = s.hbm := (rfl)
@[simp] theorem leave_eng : (leave d s).eng = s.eng := (rfl)
@[simp] theorem leave_desc : (leave d s).desc = s.desc := (rfl)
@[simp] theorem leave_dload : (leave d s).dload = s.dload := (rfl)
@[simp] theorem leave_tally : (leave d s).tally = s.tally := (rfl)
@[simp] theorem leave_sdl : (leave d s).sdl = s.sdl := (rfl)
@[simp] theorem leave_queue : (leave d s).queue = s.queue := (rfl)
@[simp] theorem leave_meter : (leave d s).meter = s.meter := (rfl)
@[simp] theorem leave_mrec : (leave d s).mrec = s.mrec := (rfl)
@[simp] theorem leave_mtrNext : (leave d s).mtrNext = s.mtrNext := (rfl)
@[simp] theorem leave_slice : (leave d s).slice = s.slice := (rfl)
@[simp] theorem leave_aborts : (leave d s).aborts = s.aborts := (rfl)
@[simp] theorem leave_haltAt : (leave d s).haltAt = s.haltAt := (rfl)
@[simp] theorem leave_therm : (leave d s).therm = s.therm := (rfl)
@[simp] theorem leave_tripAt : (leave d s).tripAt = s.tripAt := (rfl)
@[simp] theorem leave_thermtrip : (leave d s).thermtrip = s.thermtrip := (rfl)
@[simp] theorem leave_inj : (leave d s).inj = s.inj := (rfl)
@[simp] theorem leave_dark : (leave d s).dark = s.dark := (rfl)
@[simp] theorem leave_wdogAt : (leave d s).wdogAt = s.wdogAt := (rfl)
@[simp] theorem leave_recs : (leave d s).recs = s.recs := (rfl)
@[simp] theorem leave_recEpoch : (leave d s).recEpoch = s.recEpoch := (rfl)
@[simp] theorem leave_flush : (leave d s).flush = s.flush := (rfl)
@[simp] theorem leave_flushWait : (leave d s).flushWait = s.flushWait := (rfl)
@[simp] theorem leave_flushEnd : (leave d s).flushEnd = s.flushEnd := (rfl)
@[simp] theorem leave_hmkAt : (leave d s).hmkAt = s.hmkAt := (rfl)
@[simp] theorem leave_replay : (leave d s).replay = s.replay := (rfl)
@[simp] theorem leave_replayNo : (leave d s).replayNo = s.replayNo := (rfl)
@[simp] theorem leave_pwrHigh : (leave d s).pwrHigh = s.pwrHigh := (rfl)
@[simp] theorem leave_pwrHighAt : (leave d s).pwrHighAt = s.pwrHighAt := (rfl)
@[simp] theorem leave_bkpFail : (leave d s).bkpFail = s.bkpFail := (rfl)
@[simp] theorem leave_link : (leave d s).link = s.link := (rfl)
@[simp] theorem leave_post : (leave d s).post = s.post := (rfl)
@[simp] theorem leave_sendData : (leave d s).sendData = s.sendData := (rfl)
@[simp] theorem leave_linkPlot : (leave d s).linkPlot = s.linkPlot := (rfl)
@[simp] theorem leave_xferNo : (leave d s).xferNo = s.xferNo := (rfl)
@[simp] theorem leave_extents : (leave d s).extents = s.extents := (rfl)
@[simp] theorem leave_csc : (leave d s).csc = s.csc := (rfl)
@[simp] theorem leave_opt : (leave d s).opt = s.opt := (rfl)
@[simp] theorem leave_anl : (leave d s).anl = s.anl := (rfl)
@[simp] theorem leave_fuses : (leave d s).fuses = s.fuses := (rfl)
@[simp] theorem leave_nor : (leave d s).nor = s.nor := (rfl)
@[simp] theorem leave_mram : (leave d s).mram = s.mram := (rfl)
@[simp] theorem leave_fw : (leave d s).fw = s.fw := (rfl)
@[simp] theorem leave_powered : (leave d s).powered = s.powered := (rfl)
@[simp] theorem leave_inReset : (leave d s).inReset = s.inReset := (rfl)
@[simp] theorem leave_testEn : (leave d s).testEn = s.testEn := (rfl)
@[simp] theorem leave_strapAddr : (leave d s).strapAddr = s.strapAddr := (rfl)
@[simp] theorem leave_releaseAt : (leave d s).releaseAt = s.releaseAt := (rfl)
@[simp] theorem leave_pwrLowAt : (leave d s).pwrLowAt = s.pwrLowAt := (rfl)
@[simp] theorem leave_down : (leave d s).down = s.down := (rfl)
@[simp] theorem leave_refLost : (leave d s).refLost = s.refLost := (rfl)
@[simp] theorem leave_pending : (leave d s).pending = s.pending := (rfl)
@[simp] theorem leave_engFreed : (leave d s).engFreed = s.engFreed := (rfl)
@[simp] theorem leave_tagTurn : (leave d s).tagTurn = s.tagTurn := (rfl)
@[simp] theorem leave_capWait : (leave d s).capWait = s.capWait := (rfl)
@[simp] theorem fld_leave (h : Fld) : fld h (leave d s) = fld h s := (rfl)
@[simp] theorem flag_leave (h : Fld) : flag h (leave d s) = flag h s := (rfl)

end

/-! ### `onFunc` changes `func` alone -/

section
variable (f : Nat) (g : Func → Func)

@[simp] theorem onFunc_now : (onFunc f g s).now = s.now := (rfl)
@[simp] theorem onFunc_fresh : (onFunc f g s).fresh = s.fresh := (rfl)
@[simp] theorem onFunc_regs : (onFunc f g s).regs = s.regs := (rfl)
@[simp] theorem onFunc_latch : (onFunc f g s).latch = s.latch := (rfl)
@[simp] theorem onFunc_upds : (onFunc f g s).upds = s.upds := (rfl)
@[simp] theorem onFunc_out : (onFunc f g s).out = s.out := (rfl)
@[simp] theorem onFunc_due : (onFunc f g s).due = s.due := (rfl)
@[simp] theorem onFunc_sfifo : (onFunc f g s).sfifo = s.sfifo := (rfl)
@[simp] theorem onFunc_sfLost : (onFunc f g s).sfLost = s.sfLost := (rfl)
@[simp] theorem onFunc_errAt : (onFunc f g s).errAt = s.errAt := (rfl)
@[simp] theorem onFunc_reported : (onFunc f g s).reported = s.reported := (rfl)
@[simp] theorem onFunc_vfs : (onFunc f g s).vfs = s.vfs := (rfl)
@[simp] theorem onFunc_ari : (onFunc f g s).ari = s.ari := (rfl)
@[simp] theorem onFunc_eid : (onFunc f g s).eid = s.eid := (rfl)
@[simp] theorem onFunc_i3cAddr : (onFunc f g s).i3cAddr = s.i3cAddr := (rfl)
@[simp] theorem onFunc_recFault : (onFunc f g s).recFault = s.recFault := (rfl)
@[simp] theorem onFunc_recTrace : (onFunc f g s).recTrace = s.recTrace := (rfl)
@[simp] theorem onFunc_cores : (onFunc f g s).cores = s.cores := (rfl)
@[simp] theorem onFunc_seq : (onFunc f g s).seq = s.seq := (rfl)
@[simp] theorem onFunc_traceStop : (onFunc f g s).traceStop = s.traceStop := (rfl)
@[simp] theorem onFunc_strapI3c : (onFunc f g s).strapI3c = s.strapI3c := (rfl)
@[simp] theorem onFunc_hbm : (onFunc f g s).hbm = s.hbm := (rfl)
@[simp] theorem onFunc_eng : (onFunc f g s).eng = s.eng := (rfl)
@[simp] theorem onFunc_desc : (onFunc f g s).desc = s.desc := (rfl)
@[simp] theorem onFunc_dload : (onFunc f g s).dload = s.dload := (rfl)
@[simp] theorem onFunc_tally : (onFunc f g s).tally = s.tally := (rfl)
@[simp] theorem onFunc_sdl : (onFunc f g s).sdl = s.sdl := (rfl)
@[simp] theorem onFunc_queue : (onFunc f g s).queue = s.queue := (rfl)
@[simp] theorem onFunc_meter : (onFunc f g s).meter = s.meter := (rfl)
@[simp] theorem onFunc_mrec : (onFunc f g s).mrec = s.mrec := (rfl)
@[simp] theorem onFunc_mtrNext : (onFunc f g s).mtrNext = s.mtrNext := (rfl)
@[simp] theorem onFunc_slice : (onFunc f g s).slice = s.slice := (rfl)
@[simp] theorem onFunc_aborts : (onFunc f g s).aborts = s.aborts := (rfl)
@[simp] theorem onFunc_haltAt : (onFunc f g s).haltAt = s.haltAt := (rfl)
@[simp] theorem onFunc_therm : (onFunc f g s).therm = s.therm := (rfl)
@[simp] theorem onFunc_tripAt : (onFunc f g s).tripAt = s.tripAt := (rfl)
@[simp] theorem onFunc_thermtrip : (onFunc f g s).thermtrip = s.thermtrip := (rfl)
@[simp] theorem onFunc_inj : (onFunc f g s).inj = s.inj := (rfl)
@[simp] theorem onFunc_dark : (onFunc f g s).dark = s.dark := (rfl)
@[simp] theorem onFunc_wdogAt : (onFunc f g s).wdogAt = s.wdogAt := (rfl)
@[simp] theorem onFunc_recs : (onFunc f g s).recs = s.recs := (rfl)
@[simp] theorem onFunc_recEpoch : (onFunc f g s).recEpoch = s.recEpoch := (rfl)
@[simp] theorem onFunc_flush : (onFunc f g s).flush = s.flush := (rfl)
@[simp] theorem onFunc_flushWait : (onFunc f g s).flushWait = s.flushWait := (rfl)
@[simp] theorem onFunc_flushEnd : (onFunc f g s).flushEnd = s.flushEnd := (rfl)
@[simp] theorem onFunc_hmkAt : (onFunc f g s).hmkAt = s.hmkAt := (rfl)
@[simp] theorem onFunc_replay : (onFunc f g s).replay = s.replay := (rfl)
@[simp] theorem onFunc_replayNo : (onFunc f g s).replayNo = s.replayNo := (rfl)
@[simp] theorem onFunc_pwrHigh : (onFunc f g s).pwrHigh = s.pwrHigh := (rfl)
@[simp] theorem onFunc_pwrHighAt : (onFunc f g s).pwrHighAt = s.pwrHighAt := (rfl)
@[simp] theorem onFunc_bkpFail : (onFunc f g s).bkpFail = s.bkpFail := (rfl)
@[simp] theorem onFunc_link : (onFunc f g s).link = s.link := (rfl)
@[simp] theorem onFunc_post : (onFunc f g s).post = s.post := (rfl)
@[simp] theorem onFunc_sendData : (onFunc f g s).sendData = s.sendData := (rfl)
@[simp] theorem onFunc_linkPlot : (onFunc f g s).linkPlot = s.linkPlot := (rfl)
@[simp] theorem onFunc_xferNo : (onFunc f g s).xferNo = s.xferNo := (rfl)
@[simp] theorem onFunc_extents : (onFunc f g s).extents = s.extents := (rfl)
@[simp] theorem onFunc_csc : (onFunc f g s).csc = s.csc := (rfl)
@[simp] theorem onFunc_opt : (onFunc f g s).opt = s.opt := (rfl)
@[simp] theorem onFunc_anl : (onFunc f g s).anl = s.anl := (rfl)
@[simp] theorem onFunc_fuses : (onFunc f g s).fuses = s.fuses := (rfl)
@[simp] theorem onFunc_nor : (onFunc f g s).nor = s.nor := (rfl)
@[simp] theorem onFunc_mram : (onFunc f g s).mram = s.mram := (rfl)
@[simp] theorem onFunc_fw : (onFunc f g s).fw = s.fw := (rfl)
@[simp] theorem onFunc_powered : (onFunc f g s).powered = s.powered := (rfl)
@[simp] theorem onFunc_inReset : (onFunc f g s).inReset = s.inReset := (rfl)
@[simp] theorem onFunc_testEn : (onFunc f g s).testEn = s.testEn := (rfl)
@[simp] theorem onFunc_strapAddr : (onFunc f g s).strapAddr = s.strapAddr := (rfl)
@[simp] theorem onFunc_releaseAt : (onFunc f g s).releaseAt = s.releaseAt := (rfl)
@[simp] theorem onFunc_pwrLowAt : (onFunc f g s).pwrLowAt = s.pwrLowAt := (rfl)
@[simp] theorem onFunc_down : (onFunc f g s).down = s.down := (rfl)
@[simp] theorem onFunc_refLost : (onFunc f g s).refLost = s.refLost := (rfl)
@[simp] theorem onFunc_pending : (onFunc f g s).pending = s.pending := (rfl)
@[simp] theorem onFunc_engFreed : (onFunc f g s).engFreed = s.engFreed := (rfl)
@[simp] theorem onFunc_tagTurn : (onFunc f g s).tagTurn = s.tagTurn := (rfl)
@[simp] theorem onFunc_capWait : (onFunc f g s).capWait = s.capWait := (rfl)
@[simp] theorem fld_onFunc (h : Fld) : fld h (onFunc f g s) = fld h s := (rfl)
@[simp] theorem flag_onFunc (h : Fld) : flag h (onFunc f g s) = flag h s := (rfl)

end

/-! ### `onSeq` changes `seq` alone -/

section
variable (f : Seq → Seq)

@[simp] theorem onSeq_now : (onSeq f s).now = s.now := (rfl)
@[simp] theorem onSeq_fresh : (onSeq f s).fresh = s.fresh := (rfl)
@[simp] theorem onSeq_regs : (onSeq f s).regs = s.regs := (rfl)
@[simp] theorem onSeq_latch : (onSeq f s).latch = s.latch := (rfl)
@[simp] theorem onSeq_upds : (onSeq f s).upds = s.upds := (rfl)
@[simp] theorem onSeq_out : (onSeq f s).out = s.out := (rfl)
@[simp] theorem onSeq_due : (onSeq f s).due = s.due := (rfl)
@[simp] theorem onSeq_sfifo : (onSeq f s).sfifo = s.sfifo := (rfl)
@[simp] theorem onSeq_sfLost : (onSeq f s).sfLost = s.sfLost := (rfl)
@[simp] theorem onSeq_errAt : (onSeq f s).errAt = s.errAt := (rfl)
@[simp] theorem onSeq_reported : (onSeq f s).reported = s.reported := (rfl)
@[simp] theorem onSeq_func : (onSeq f s).func = s.func := (rfl)
@[simp] theorem onSeq_vfs : (onSeq f s).vfs = s.vfs := (rfl)
@[simp] theorem onSeq_ari : (onSeq f s).ari = s.ari := (rfl)
@[simp] theorem onSeq_eid : (onSeq f s).eid = s.eid := (rfl)
@[simp] theorem onSeq_i3cAddr : (onSeq f s).i3cAddr = s.i3cAddr := (rfl)
@[simp] theorem onSeq_recFault : (onSeq f s).recFault = s.recFault := (rfl)
@[simp] theorem onSeq_recTrace : (onSeq f s).recTrace = s.recTrace := (rfl)
@[simp] theorem onSeq_cores : (onSeq f s).cores = s.cores := (rfl)
@[simp] theorem onSeq_traceStop : (onSeq f s).traceStop = s.traceStop := (rfl)
@[simp] theorem onSeq_strapI3c : (onSeq f s).strapI3c = s.strapI3c := (rfl)
@[simp] theorem onSeq_hbm : (onSeq f s).hbm = s.hbm := (rfl)
@[simp] theorem onSeq_eng : (onSeq f s).eng = s.eng := (rfl)
@[simp] theorem onSeq_desc : (onSeq f s).desc = s.desc := (rfl)
@[simp] theorem onSeq_dload : (onSeq f s).dload = s.dload := (rfl)
@[simp] theorem onSeq_tally : (onSeq f s).tally = s.tally := (rfl)
@[simp] theorem onSeq_sdl : (onSeq f s).sdl = s.sdl := (rfl)
@[simp] theorem onSeq_queue : (onSeq f s).queue = s.queue := (rfl)
@[simp] theorem onSeq_meter : (onSeq f s).meter = s.meter := (rfl)
@[simp] theorem onSeq_mrec : (onSeq f s).mrec = s.mrec := (rfl)
@[simp] theorem onSeq_mtrNext : (onSeq f s).mtrNext = s.mtrNext := (rfl)
@[simp] theorem onSeq_slice : (onSeq f s).slice = s.slice := (rfl)
@[simp] theorem onSeq_aborts : (onSeq f s).aborts = s.aborts := (rfl)
@[simp] theorem onSeq_haltAt : (onSeq f s).haltAt = s.haltAt := (rfl)
@[simp] theorem onSeq_therm : (onSeq f s).therm = s.therm := (rfl)
@[simp] theorem onSeq_tripAt : (onSeq f s).tripAt = s.tripAt := (rfl)
@[simp] theorem onSeq_thermtrip : (onSeq f s).thermtrip = s.thermtrip := (rfl)
@[simp] theorem onSeq_inj : (onSeq f s).inj = s.inj := (rfl)
@[simp] theorem onSeq_dark : (onSeq f s).dark = s.dark := (rfl)
@[simp] theorem onSeq_wdogAt : (onSeq f s).wdogAt = s.wdogAt := (rfl)
@[simp] theorem onSeq_recs : (onSeq f s).recs = s.recs := (rfl)
@[simp] theorem onSeq_recEpoch : (onSeq f s).recEpoch = s.recEpoch := (rfl)
@[simp] theorem onSeq_flush : (onSeq f s).flush = s.flush := (rfl)
@[simp] theorem onSeq_flushWait : (onSeq f s).flushWait = s.flushWait := (rfl)
@[simp] theorem onSeq_flushEnd : (onSeq f s).flushEnd = s.flushEnd := (rfl)
@[simp] theorem onSeq_hmkAt : (onSeq f s).hmkAt = s.hmkAt := (rfl)
@[simp] theorem onSeq_replay : (onSeq f s).replay = s.replay := (rfl)
@[simp] theorem onSeq_replayNo : (onSeq f s).replayNo = s.replayNo := (rfl)
@[simp] theorem onSeq_pwrHigh : (onSeq f s).pwrHigh = s.pwrHigh := (rfl)
@[simp] theorem onSeq_pwrHighAt : (onSeq f s).pwrHighAt = s.pwrHighAt := (rfl)
@[simp] theorem onSeq_bkpFail : (onSeq f s).bkpFail = s.bkpFail := (rfl)
@[simp] theorem onSeq_link : (onSeq f s).link = s.link := (rfl)
@[simp] theorem onSeq_post : (onSeq f s).post = s.post := (rfl)
@[simp] theorem onSeq_sendData : (onSeq f s).sendData = s.sendData := (rfl)
@[simp] theorem onSeq_linkPlot : (onSeq f s).linkPlot = s.linkPlot := (rfl)
@[simp] theorem onSeq_xferNo : (onSeq f s).xferNo = s.xferNo := (rfl)
@[simp] theorem onSeq_extents : (onSeq f s).extents = s.extents := (rfl)
@[simp] theorem onSeq_csc : (onSeq f s).csc = s.csc := (rfl)
@[simp] theorem onSeq_opt : (onSeq f s).opt = s.opt := (rfl)
@[simp] theorem onSeq_anl : (onSeq f s).anl = s.anl := (rfl)
@[simp] theorem onSeq_fuses : (onSeq f s).fuses = s.fuses := (rfl)
@[simp] theorem onSeq_nor : (onSeq f s).nor = s.nor := (rfl)
@[simp] theorem onSeq_mram : (onSeq f s).mram = s.mram := (rfl)
@[simp] theorem onSeq_fw : (onSeq f s).fw = s.fw := (rfl)
@[simp] theorem onSeq_powered : (onSeq f s).powered = s.powered := (rfl)
@[simp] theorem onSeq_inReset : (onSeq f s).inReset = s.inReset := (rfl)
@[simp] theorem onSeq_testEn : (onSeq f s).testEn = s.testEn := (rfl)
@[simp] theorem onSeq_strapAddr : (onSeq f s).strapAddr = s.strapAddr := (rfl)
@[simp] theorem onSeq_releaseAt : (onSeq f s).releaseAt = s.releaseAt := (rfl)
@[simp] theorem onSeq_pwrLowAt : (onSeq f s).pwrLowAt = s.pwrLowAt := (rfl)
@[simp] theorem onSeq_down : (onSeq f s).down = s.down := (rfl)
@[simp] theorem onSeq_refLost : (onSeq f s).refLost = s.refLost := (rfl)
@[simp] theorem onSeq_pending : (onSeq f s).pending = s.pending := (rfl)
@[simp] theorem onSeq_engFreed : (onSeq f s).engFreed = s.engFreed := (rfl)
@[simp] theorem onSeq_tagTurn : (onSeq f s).tagTurn = s.tagTurn := (rfl)
@[simp] theorem onSeq_capWait : (onSeq f s).capWait = s.capWait := (rfl)
@[simp] theorem reg_onSeq (i : Nat) : reg i (onSeq f s) = reg i s := (rfl)
@[simp] theorem fld_onSeq (h : Fld) : fld h (onSeq f s) = fld h s := (rfl)
@[simp] theorem flag_onSeq (h : Fld) : flag h (onSeq f s) = flag h s := (rfl)

end

/-! ### `onCsc` changes `csc` alone -/

section
variable (f : Csc → Csc)

@[simp] theorem onCsc_now : (onCsc f s).now = s.now := (rfl)
@[simp] theorem onCsc_fresh : (onCsc f s).fresh = s.fresh := (rfl)
@[simp] theorem onCsc_regs : (onCsc f s).regs = s.regs := (rfl)
@[simp] theorem onCsc_latch : (onCsc f s).latch = s.latch := (rfl)
@[simp] theorem onCsc_upds : (onCsc f s).upds = s.upds := (rfl)
@[simp] theorem onCsc_out : (onCsc f s).out = s.out := (rfl)
@[simp] theorem onCsc_due : (onCsc f s).due = s.due := (rfl)
@[simp] theorem onCsc_sfifo : (onCsc f s).sfifo = s.sfifo := (rfl)
@[simp] theorem onCsc_sfLost : (onCsc f s).sfLost = s.sfLost := (rfl)
@[simp] theorem onCsc_errAt : (onCsc f s).errAt = s.errAt := (rfl)
@[simp] theorem onCsc_reported : (onCsc f s).reported = s.reported := (rfl)
@[simp] theorem onCsc_func : (onCsc f s).func = s.func := (rfl)
@[simp] theorem onCsc_vfs : (onCsc f s).vfs = s.vfs := (rfl)
@[simp] theorem onCsc_ari : (onCsc f s).ari = s.ari := (rfl)
@[simp] theorem onCsc_eid : (onCsc f s).eid = s.eid := (rfl)
@[simp] theorem onCsc_i3cAddr : (onCsc f s).i3cAddr = s.i3cAddr := (rfl)
@[simp] theorem onCsc_recFault : (onCsc f s).recFault = s.recFault := (rfl)
@[simp] theorem onCsc_recTrace : (onCsc f s).recTrace = s.recTrace := (rfl)
@[simp] theorem onCsc_cores : (onCsc f s).cores = s.cores := (rfl)
@[simp] theorem onCsc_seq : (onCsc f s).seq = s.seq := (rfl)
@[simp] theorem onCsc_traceStop : (onCsc f s).traceStop = s.traceStop := (rfl)
@[simp] theorem onCsc_strapI3c : (onCsc f s).strapI3c = s.strapI3c := (rfl)
@[simp] theorem onCsc_hbm : (onCsc f s).hbm = s.hbm := (rfl)
@[simp] theorem onCsc_eng : (onCsc f s).eng = s.eng := (rfl)
@[simp] theorem onCsc_desc : (onCsc f s).desc = s.desc := (rfl)
@[simp] theorem onCsc_dload : (onCsc f s).dload = s.dload := (rfl)
@[simp] theorem onCsc_tally : (onCsc f s).tally = s.tally := (rfl)
@[simp] theorem onCsc_sdl : (onCsc f s).sdl = s.sdl := (rfl)
@[simp] theorem onCsc_queue : (onCsc f s).queue = s.queue := (rfl)
@[simp] theorem onCsc_meter : (onCsc f s).meter = s.meter := (rfl)
@[simp] theorem onCsc_mrec : (onCsc f s).mrec = s.mrec := (rfl)
@[simp] theorem onCsc_mtrNext : (onCsc f s).mtrNext = s.mtrNext := (rfl)
@[simp] theorem onCsc_slice : (onCsc f s).slice = s.slice := (rfl)
@[simp] theorem onCsc_aborts : (onCsc f s).aborts = s.aborts := (rfl)
@[simp] theorem onCsc_haltAt : (onCsc f s).haltAt = s.haltAt := (rfl)
@[simp] theorem onCsc_therm : (onCsc f s).therm = s.therm := (rfl)
@[simp] theorem onCsc_tripAt : (onCsc f s).tripAt = s.tripAt := (rfl)
@[simp] theorem onCsc_thermtrip : (onCsc f s).thermtrip = s.thermtrip := (rfl)
@[simp] theorem onCsc_inj : (onCsc f s).inj = s.inj := (rfl)
@[simp] theorem onCsc_dark : (onCsc f s).dark = s.dark := (rfl)
@[simp] theorem onCsc_wdogAt : (onCsc f s).wdogAt = s.wdogAt := (rfl)
@[simp] theorem onCsc_recs : (onCsc f s).recs = s.recs := (rfl)
@[simp] theorem onCsc_recEpoch : (onCsc f s).recEpoch = s.recEpoch := (rfl)
@[simp] theorem onCsc_flush : (onCsc f s).flush = s.flush := (rfl)
@[simp] theorem onCsc_flushWait : (onCsc f s).flushWait = s.flushWait := (rfl)
@[simp] theorem onCsc_flushEnd : (onCsc f s).flushEnd = s.flushEnd := (rfl)
@[simp] theorem onCsc_hmkAt : (onCsc f s).hmkAt = s.hmkAt := (rfl)
@[simp] theorem onCsc_replay : (onCsc f s).replay = s.replay := (rfl)
@[simp] theorem onCsc_replayNo : (onCsc f s).replayNo = s.replayNo := (rfl)
@[simp] theorem onCsc_pwrHigh : (onCsc f s).pwrHigh = s.pwrHigh := (rfl)
@[simp] theorem onCsc_pwrHighAt : (onCsc f s).pwrHighAt = s.pwrHighAt := (rfl)
@[simp] theorem onCsc_bkpFail : (onCsc f s).bkpFail = s.bkpFail := (rfl)
@[simp] theorem onCsc_link : (onCsc f s).link = s.link := (rfl)
@[simp] theorem onCsc_post : (onCsc f s).post = s.post := (rfl)
@[simp] theorem onCsc_sendData : (onCsc f s).sendData = s.sendData := (rfl)
@[simp] theorem onCsc_linkPlot : (onCsc f s).linkPlot = s.linkPlot := (rfl)
@[simp] theorem onCsc_xferNo : (onCsc f s).xferNo = s.xferNo := (rfl)
@[simp] theorem onCsc_extents : (onCsc f s).extents = s.extents := (rfl)
@[simp] theorem onCsc_opt : (onCsc f s).opt = s.opt := (rfl)
@[simp] theorem onCsc_anl : (onCsc f s).anl = s.anl := (rfl)
@[simp] theorem onCsc_fuses : (onCsc f s).fuses = s.fuses := (rfl)
@[simp] theorem onCsc_nor : (onCsc f s).nor = s.nor := (rfl)
@[simp] theorem onCsc_mram : (onCsc f s).mram = s.mram := (rfl)
@[simp] theorem onCsc_fw : (onCsc f s).fw = s.fw := (rfl)
@[simp] theorem onCsc_powered : (onCsc f s).powered = s.powered := (rfl)
@[simp] theorem onCsc_inReset : (onCsc f s).inReset = s.inReset := (rfl)
@[simp] theorem onCsc_testEn : (onCsc f s).testEn = s.testEn := (rfl)
@[simp] theorem onCsc_strapAddr : (onCsc f s).strapAddr = s.strapAddr := (rfl)
@[simp] theorem onCsc_releaseAt : (onCsc f s).releaseAt = s.releaseAt := (rfl)
@[simp] theorem onCsc_pwrLowAt : (onCsc f s).pwrLowAt = s.pwrLowAt := (rfl)
@[simp] theorem onCsc_down : (onCsc f s).down = s.down := (rfl)
@[simp] theorem onCsc_refLost : (onCsc f s).refLost = s.refLost := (rfl)
@[simp] theorem onCsc_pending : (onCsc f s).pending = s.pending := (rfl)
@[simp] theorem onCsc_engFreed : (onCsc f s).engFreed = s.engFreed := (rfl)
@[simp] theorem onCsc_tagTurn : (onCsc f s).tagTurn = s.tagTurn := (rfl)
@[simp] theorem onCsc_capWait : (onCsc f s).capWait = s.capWait := (rfl)
@[simp] theorem reg_onCsc (i : Nat) : reg i (onCsc f s) = reg i s := (rfl)
@[simp] theorem fld_onCsc (h : Fld) : fld h (onCsc f s) = fld h s := (rfl)
@[simp] theorem flag_onCsc (h : Fld) : flag h (onCsc f s) = flag h s := (rfl)

end

/-! ### `onTally` changes `tally` alone -/

section
variable (f : Tally → Tally)

@[simp] theorem onTally_now : (onTally f s).now = s.now := (rfl)
@[simp] theorem onTally_fresh : (onTally f s).fresh = s.fresh := (rfl)
@[simp] theorem onTally_regs : (onTally f s).regs = s.regs := (rfl)
@[simp] theorem onTally_latch : (onTally f s).latch = s.latch := (rfl)
@[simp] theorem onTally_upds : (onTally f s).upds = s.upds := (rfl)
@[simp] theorem onTally_out : (onTally f s).out = s.out := (rfl)
@[simp] theorem onTally_due : (onTally f s).due = s.due := (rfl)
@[simp] theorem onTally_sfifo : (onTally f s).sfifo = s.sfifo := (rfl)
@[simp] theorem onTally_sfLost : (onTally f s).sfLost = s.sfLost := (rfl)
@[simp] theorem onTally_errAt : (onTally f s).errAt = s.errAt := (rfl)
@[simp] theorem onTally_reported : (onTally f s).reported = s.reported := (rfl)
@[simp] theorem onTally_func : (onTally f s).func = s.func := (rfl)
@[simp] theorem onTally_vfs : (onTally f s).vfs = s.vfs := (rfl)
@[simp] theorem onTally_ari : (onTally f s).ari = s.ari := (rfl)
@[simp] theorem onTally_eid : (onTally f s).eid = s.eid := (rfl)
@[simp] theorem onTally_i3cAddr : (onTally f s).i3cAddr = s.i3cAddr := (rfl)
@[simp] theorem onTally_recFault : (onTally f s).recFault = s.recFault := (rfl)
@[simp] theorem onTally_recTrace : (onTally f s).recTrace = s.recTrace := (rfl)
@[simp] theorem onTally_cores : (onTally f s).cores = s.cores := (rfl)
@[simp] theorem onTally_seq : (onTally f s).seq = s.seq := (rfl)
@[simp] theorem onTally_traceStop : (onTally f s).traceStop = s.traceStop := (rfl)
@[simp] theorem onTally_strapI3c : (onTally f s).strapI3c = s.strapI3c := (rfl)
@[simp] theorem onTally_hbm : (onTally f s).hbm = s.hbm := (rfl)
@[simp] theorem onTally_eng : (onTally f s).eng = s.eng := (rfl)
@[simp] theorem onTally_desc : (onTally f s).desc = s.desc := (rfl)
@[simp] theorem onTally_dload : (onTally f s).dload = s.dload := (rfl)
@[simp] theorem onTally_sdl : (onTally f s).sdl = s.sdl := (rfl)
@[simp] theorem onTally_queue : (onTally f s).queue = s.queue := (rfl)
@[simp] theorem onTally_meter : (onTally f s).meter = s.meter := (rfl)
@[simp] theorem onTally_mrec : (onTally f s).mrec = s.mrec := (rfl)
@[simp] theorem onTally_mtrNext : (onTally f s).mtrNext = s.mtrNext := (rfl)
@[simp] theorem onTally_slice : (onTally f s).slice = s.slice := (rfl)
@[simp] theorem onTally_aborts : (onTally f s).aborts = s.aborts := (rfl)
@[simp] theorem onTally_haltAt : (onTally f s).haltAt = s.haltAt := (rfl)
@[simp] theorem onTally_therm : (onTally f s).therm = s.therm := (rfl)
@[simp] theorem onTally_tripAt : (onTally f s).tripAt = s.tripAt := (rfl)
@[simp] theorem onTally_thermtrip : (onTally f s).thermtrip = s.thermtrip := (rfl)
@[simp] theorem onTally_inj : (onTally f s).inj = s.inj := (rfl)
@[simp] theorem onTally_dark : (onTally f s).dark = s.dark := (rfl)
@[simp] theorem onTally_wdogAt : (onTally f s).wdogAt = s.wdogAt := (rfl)
@[simp] theorem onTally_recs : (onTally f s).recs = s.recs := (rfl)
@[simp] theorem onTally_recEpoch : (onTally f s).recEpoch = s.recEpoch := (rfl)
@[simp] theorem onTally_flush : (onTally f s).flush = s.flush := (rfl)
@[simp] theorem onTally_flushWait : (onTally f s).flushWait = s.flushWait := (rfl)
@[simp] theorem onTally_flushEnd : (onTally f s).flushEnd = s.flushEnd := (rfl)
@[simp] theorem onTally_hmkAt : (onTally f s).hmkAt = s.hmkAt := (rfl)
@[simp] theorem onTally_replay : (onTally f s).replay = s.replay := (rfl)
@[simp] theorem onTally_replayNo : (onTally f s).replayNo = s.replayNo := (rfl)
@[simp] theorem onTally_pwrHigh : (onTally f s).pwrHigh = s.pwrHigh := (rfl)
@[simp] theorem onTally_pwrHighAt : (onTally f s).pwrHighAt = s.pwrHighAt := (rfl)
@[simp] theorem onTally_bkpFail : (onTally f s).bkpFail = s.bkpFail := (rfl)
@[simp] theorem onTally_link : (onTally f s).link = s.link := (rfl)
@[simp] theorem onTally_post : (onTally f s).post = s.post := (rfl)
@[simp] theorem onTally_sendData : (onTally f s).sendData = s.sendData := (rfl)
@[simp] theorem onTally_linkPlot : (onTally f s).linkPlot = s.linkPlot := (rfl)
@[simp] theorem onTally_xferNo : (onTally f s).xferNo = s.xferNo := (rfl)
@[simp] theorem onTally_extents : (onTally f s).extents = s.extents := (rfl)
@[simp] theorem onTally_csc : (onTally f s).csc = s.csc := (rfl)
@[simp] theorem onTally_opt : (onTally f s).opt = s.opt := (rfl)
@[simp] theorem onTally_anl : (onTally f s).anl = s.anl := (rfl)
@[simp] theorem onTally_fuses : (onTally f s).fuses = s.fuses := (rfl)
@[simp] theorem onTally_nor : (onTally f s).nor = s.nor := (rfl)
@[simp] theorem onTally_mram : (onTally f s).mram = s.mram := (rfl)
@[simp] theorem onTally_fw : (onTally f s).fw = s.fw := (rfl)
@[simp] theorem onTally_powered : (onTally f s).powered = s.powered := (rfl)
@[simp] theorem onTally_inReset : (onTally f s).inReset = s.inReset := (rfl)
@[simp] theorem onTally_testEn : (onTally f s).testEn = s.testEn := (rfl)
@[simp] theorem onTally_strapAddr : (onTally f s).strapAddr = s.strapAddr := (rfl)
@[simp] theorem onTally_releaseAt : (onTally f s).releaseAt = s.releaseAt := (rfl)
@[simp] theorem onTally_pwrLowAt : (onTally f s).pwrLowAt = s.pwrLowAt := (rfl)
@[simp] theorem onTally_down : (onTally f s).down = s.down := (rfl)
@[simp] theorem onTally_refLost : (onTally f s).refLost = s.refLost := (rfl)
@[simp] theorem onTally_pending : (onTally f s).pending = s.pending := (rfl)
@[simp] theorem onTally_engFreed : (onTally f s).engFreed = s.engFreed := (rfl)
@[simp] theorem onTally_tagTurn : (onTally f s).tagTurn = s.tagTurn := (rfl)
@[simp] theorem onTally_capWait : (onTally f s).capWait = s.capWait := (rfl)
@[simp] theorem reg_onTally (i : Nat) : reg i (onTally f s) = reg i s := (rfl)
@[simp] theorem fld_onTally (h : Fld) : fld h (onTally f s) = fld h s := (rfl)
@[simp] theorem flag_onTally (h : Fld) : flag h (onTally f s) = flag h s := (rfl)

end

/-! ### `onSdl` changes `sdl` alone -/

section
variable (f : Sundial → Sundial)

@[simp] theorem onSdl_now : (onSdl f s).now = s.now := (rfl)
@[simp] theorem onSdl_fresh : (onSdl f s).fresh = s.fresh := (rfl)
@[simp] theorem onSdl_regs : (onSdl f s).regs = s.regs := (rfl)
@[simp] theorem onSdl_latch : (onSdl f s).latch = s.latch := (rfl)
@[simp] theorem onSdl_upds : (onSdl f s).upds = s.upds := (rfl)
@[simp] theorem onSdl_out : (onSdl f s).out = s.out := (rfl)
@[simp] theorem onSdl_due : (onSdl f s).due = s.due := (rfl)
@[simp] theorem onSdl_sfifo : (onSdl f s).sfifo = s.sfifo := (rfl)
@[simp] theorem onSdl_sfLost : (onSdl f s).sfLost = s.sfLost := (rfl)
@[simp] theorem onSdl_errAt : (onSdl f s).errAt = s.errAt := (rfl)
@[simp] theorem onSdl_reported : (onSdl f s).reported = s.reported := (rfl)
@[simp] theorem onSdl_func : (onSdl f s).func = s.func := (rfl)
@[simp] theorem onSdl_vfs : (onSdl f s).vfs = s.vfs := (rfl)
@[simp] theorem onSdl_ari : (onSdl f s).ari = s.ari := (rfl)
@[simp] theorem onSdl_eid : (onSdl f s).eid = s.eid := (rfl)
@[simp] theorem onSdl_i3cAddr : (onSdl f s).i3cAddr = s.i3cAddr := (rfl)
@[simp] theorem onSdl_recFault : (onSdl f s).recFault = s.recFault := (rfl)
@[simp] theorem onSdl_recTrace : (onSdl f s).recTrace = s.recTrace := (rfl)
@[simp] theorem onSdl_cores : (onSdl f s).cores = s.cores := (rfl)
@[simp] theorem onSdl_seq : (onSdl f s).seq = s.seq := (rfl)
@[simp] theorem onSdl_traceStop : (onSdl f s).traceStop = s.traceStop := (rfl)
@[simp] theorem onSdl_strapI3c : (onSdl f s).strapI3c = s.strapI3c := (rfl)
@[simp] theorem onSdl_hbm : (onSdl f s).hbm = s.hbm := (rfl)
@[simp] theorem onSdl_eng : (onSdl f s).eng = s.eng := (rfl)
@[simp] theorem onSdl_desc : (onSdl f s).desc = s.desc := (rfl)
@[simp] theorem onSdl_dload : (onSdl f s).dload = s.dload := (rfl)
@[simp] theorem onSdl_tally : (onSdl f s).tally = s.tally := (rfl)
@[simp] theorem onSdl_queue : (onSdl f s).queue = s.queue := (rfl)
@[simp] theorem onSdl_meter : (onSdl f s).meter = s.meter := (rfl)
@[simp] theorem onSdl_mrec : (onSdl f s).mrec = s.mrec := (rfl)
@[simp] theorem onSdl_mtrNext : (onSdl f s).mtrNext = s.mtrNext := (rfl)
@[simp] theorem onSdl_slice : (onSdl f s).slice = s.slice := (rfl)
@[simp] theorem onSdl_aborts : (onSdl f s).aborts = s.aborts := (rfl)
@[simp] theorem onSdl_haltAt : (onSdl f s).haltAt = s.haltAt := (rfl)
@[simp] theorem onSdl_therm : (onSdl f s).therm = s.therm := (rfl)
@[simp] theorem onSdl_tripAt : (onSdl f s).tripAt = s.tripAt := (rfl)
@[simp] theorem onSdl_thermtrip : (onSdl f s).thermtrip = s.thermtrip := (rfl)
@[simp] theorem onSdl_inj : (onSdl f s).inj = s.inj := (rfl)
@[simp] theorem onSdl_dark : (onSdl f s).dark = s.dark := (rfl)
@[simp] theorem onSdl_wdogAt : (onSdl f s).wdogAt = s.wdogAt := (rfl)
@[simp] theorem onSdl_recs : (onSdl f s).recs = s.recs := (rfl)
@[simp] theorem onSdl_recEpoch : (onSdl f s).recEpoch = s.recEpoch := (rfl)
@[simp] theorem onSdl_flush : (onSdl f s).flush = s.flush := (rfl)
@[simp] theorem onSdl_flushWait : (onSdl f s).flushWait = s.flushWait := (rfl)
@[simp] theorem onSdl_flushEnd : (onSdl f s).flushEnd = s.flushEnd := (rfl)
@[simp] theorem onSdl_hmkAt : (onSdl f s).hmkAt = s.hmkAt := (rfl)
@[simp] theorem onSdl_replay : (onSdl f s).replay = s.replay := (rfl)
@[simp] theorem onSdl_replayNo : (onSdl f s).replayNo = s.replayNo := (rfl)
@[simp] theorem onSdl_pwrHigh : (onSdl f s).pwrHigh = s.pwrHigh := (rfl)
@[simp] theorem onSdl_pwrHighAt : (onSdl f s).pwrHighAt = s.pwrHighAt := (rfl)
@[simp] theorem onSdl_bkpFail : (onSdl f s).bkpFail = s.bkpFail := (rfl)
@[simp] theorem onSdl_link : (onSdl f s).link = s.link := (rfl)
@[simp] theorem onSdl_post : (onSdl f s).post = s.post := (rfl)
@[simp] theorem onSdl_sendData : (onSdl f s).sendData = s.sendData := (rfl)
@[simp] theorem onSdl_linkPlot : (onSdl f s).linkPlot = s.linkPlot := (rfl)
@[simp] theorem onSdl_xferNo : (onSdl f s).xferNo = s.xferNo := (rfl)
@[simp] theorem onSdl_extents : (onSdl f s).extents = s.extents := (rfl)
@[simp] theorem onSdl_csc : (onSdl f s).csc = s.csc := (rfl)
@[simp] theorem onSdl_opt : (onSdl f s).opt = s.opt := (rfl)
@[simp] theorem onSdl_anl : (onSdl f s).anl = s.anl := (rfl)
@[simp] theorem onSdl_fuses : (onSdl f s).fuses = s.fuses := (rfl)
@[simp] theorem onSdl_nor : (onSdl f s).nor = s.nor := (rfl)
@[simp] theorem onSdl_mram : (onSdl f s).mram = s.mram := (rfl)
@[simp] theorem onSdl_fw : (onSdl f s).fw = s.fw := (rfl)
@[simp] theorem onSdl_powered : (onSdl f s).powered = s.powered := (rfl)
@[simp] theorem onSdl_inReset : (onSdl f s).inReset = s.inReset := (rfl)
@[simp] theorem onSdl_testEn : (onSdl f s).testEn = s.testEn := (rfl)
@[simp] theorem onSdl_strapAddr : (onSdl f s).strapAddr = s.strapAddr := (rfl)
@[simp] theorem onSdl_releaseAt : (onSdl f s).releaseAt = s.releaseAt := (rfl)
@[simp] theorem onSdl_pwrLowAt : (onSdl f s).pwrLowAt = s.pwrLowAt := (rfl)
@[simp] theorem onSdl_down : (onSdl f s).down = s.down := (rfl)
@[simp] theorem onSdl_refLost : (onSdl f s).refLost = s.refLost := (rfl)
@[simp] theorem onSdl_pending : (onSdl f s).pending = s.pending := (rfl)
@[simp] theorem onSdl_engFreed : (onSdl f s).engFreed = s.engFreed := (rfl)
@[simp] theorem onSdl_tagTurn : (onSdl f s).tagTurn = s.tagTurn := (rfl)
@[simp] theorem onSdl_capWait : (onSdl f s).capWait = s.capWait := (rfl)
@[simp] theorem reg_onSdl (i : Nat) : reg i (onSdl f s) = reg i s := (rfl)
@[simp] theorem fld_onSdl (h : Fld) : fld h (onSdl f s) = fld h s := (rfl)
@[simp] theorem flag_onSdl (h : Fld) : flag h (onSdl f s) = flag h s := (rfl)

end

/-! ### `onOpt` changes `opt` alone -/

section
variable (f : Optics → Optics)

@[simp] theorem onOpt_now : (onOpt f s).now = s.now := (rfl)
@[simp] theorem onOpt_fresh : (onOpt f s).fresh = s.fresh := (rfl)
@[simp] theorem onOpt_regs : (onOpt f s).regs = s.regs := (rfl)
@[simp] theorem onOpt_latch : (onOpt f s).latch = s.latch := (rfl)
@[simp] theorem onOpt_upds : (onOpt f s).upds = s.upds := (rfl)
@[simp] theorem onOpt_out : (onOpt f s).out = s.out := (rfl)
@[simp] theorem onOpt_due : (onOpt f s).due = s.due := (rfl)
@[simp] theorem onOpt_sfifo : (onOpt f s).sfifo = s.sfifo := (rfl)
@[simp] theorem onOpt_sfLost : (onOpt f s).sfLost = s.sfLost := (rfl)
@[simp] theorem onOpt_errAt : (onOpt f s).errAt = s.errAt := (rfl)
@[simp] theorem onOpt_reported : (onOpt f s).reported = s.reported := (rfl)
@[simp] theorem onOpt_func : (onOpt f s).func = s.func := (rfl)
@[simp] theorem onOpt_vfs : (onOpt f s).vfs = s.vfs := (rfl)
@[simp] theorem onOpt_ari : (onOpt f s).ari = s.ari := (rfl)
@[simp] theorem onOpt_eid : (onOpt f s).eid = s.eid := (rfl)
@[simp] theorem onOpt_i3cAddr : (onOpt f s).i3cAddr = s.i3cAddr := (rfl)
@[simp] theorem onOpt_recFault : (onOpt f s).recFault = s.recFault := (rfl)
@[simp] theorem onOpt_recTrace : (onOpt f s).recTrace = s.recTrace := (rfl)
@[simp] theorem onOpt_cores : (onOpt f s).cores = s.cores := (rfl)
@[simp] theorem onOpt_seq : (onOpt f s).seq = s.seq := (rfl)
@[simp] theorem onOpt_traceStop : (onOpt f s).traceStop = s.traceStop := (rfl)
@[simp] theorem onOpt_strapI3c : (onOpt f s).strapI3c = s.strapI3c := (rfl)
@[simp] theorem onOpt_hbm : (onOpt f s).hbm = s.hbm := (rfl)
@[simp] theorem onOpt_eng : (onOpt f s).eng = s.eng := (rfl)
@[simp] theorem onOpt_desc : (onOpt f s).desc = s.desc := (rfl)
@[simp] theorem onOpt_dload : (onOpt f s).dload = s.dload := (rfl)
@[simp] theorem onOpt_tally : (onOpt f s).tally = s.tally := (rfl)
@[simp] theorem onOpt_sdl : (onOpt f s).sdl = s.sdl := (rfl)
@[simp] theorem onOpt_queue : (onOpt f s).queue = s.queue := (rfl)
@[simp] theorem onOpt_meter : (onOpt f s).meter = s.meter := (rfl)
@[simp] theorem onOpt_mrec : (onOpt f s).mrec = s.mrec := (rfl)
@[simp] theorem onOpt_mtrNext : (onOpt f s).mtrNext = s.mtrNext := (rfl)
@[simp] theorem onOpt_slice : (onOpt f s).slice = s.slice := (rfl)
@[simp] theorem onOpt_aborts : (onOpt f s).aborts = s.aborts := (rfl)
@[simp] theorem onOpt_haltAt : (onOpt f s).haltAt = s.haltAt := (rfl)
@[simp] theorem onOpt_therm : (onOpt f s).therm = s.therm := (rfl)
@[simp] theorem onOpt_tripAt : (onOpt f s).tripAt = s.tripAt := (rfl)
@[simp] theorem onOpt_thermtrip : (onOpt f s).thermtrip = s.thermtrip := (rfl)
@[simp] theorem onOpt_inj : (onOpt f s).inj = s.inj := (rfl)
@[simp] theorem onOpt_dark : (onOpt f s).dark = s.dark := (rfl)
@[simp] theorem onOpt_wdogAt : (onOpt f s).wdogAt = s.wdogAt := (rfl)
@[simp] theorem onOpt_recs : (onOpt f s).recs = s.recs := (rfl)
@[simp] theorem onOpt_recEpoch : (onOpt f s).recEpoch = s.recEpoch := (rfl)
@[simp] theorem onOpt_flush : (onOpt f s).flush = s.flush := (rfl)
@[simp] theorem onOpt_flushWait : (onOpt f s).flushWait = s.flushWait := (rfl)
@[simp] theorem onOpt_flushEnd : (onOpt f s).flushEnd = s.flushEnd := (rfl)
@[simp] theorem onOpt_hmkAt : (onOpt f s).hmkAt = s.hmkAt := (rfl)
@[simp] theorem onOpt_replay : (onOpt f s).replay = s.replay := (rfl)
@[simp] theorem onOpt_replayNo : (onOpt f s).replayNo = s.replayNo := (rfl)
@[simp] theorem onOpt_pwrHigh : (onOpt f s).pwrHigh = s.pwrHigh := (rfl)
@[simp] theorem onOpt_pwrHighAt : (onOpt f s).pwrHighAt = s.pwrHighAt := (rfl)
@[simp] theorem onOpt_bkpFail : (onOpt f s).bkpFail = s.bkpFail := (rfl)
@[simp] theorem onOpt_link : (onOpt f s).link = s.link := (rfl)
@[simp] theorem onOpt_post : (onOpt f s).post = s.post := (rfl)
@[simp] theorem onOpt_sendData : (onOpt f s).sendData = s.sendData := (rfl)
@[simp] theorem onOpt_linkPlot : (onOpt f s).linkPlot = s.linkPlot := (rfl)
@[simp] theorem onOpt_xferNo : (onOpt f s).xferNo = s.xferNo := (rfl)
@[simp] theorem onOpt_extents : (onOpt f s).extents = s.extents := (rfl)
@[simp] theorem onOpt_csc : (onOpt f s).csc = s.csc := (rfl)
@[simp] theorem onOpt_anl : (onOpt f s).anl = s.anl := (rfl)
@[simp] theorem onOpt_fuses : (onOpt f s).fuses = s.fuses := (rfl)
@[simp] theorem onOpt_nor : (onOpt f s).nor = s.nor := (rfl)
@[simp] theorem onOpt_mram : (onOpt f s).mram = s.mram := (rfl)
@[simp] theorem onOpt_fw : (onOpt f s).fw = s.fw := (rfl)
@[simp] theorem onOpt_powered : (onOpt f s).powered = s.powered := (rfl)
@[simp] theorem onOpt_inReset : (onOpt f s).inReset = s.inReset := (rfl)
@[simp] theorem onOpt_testEn : (onOpt f s).testEn = s.testEn := (rfl)
@[simp] theorem onOpt_strapAddr : (onOpt f s).strapAddr = s.strapAddr := (rfl)
@[simp] theorem onOpt_releaseAt : (onOpt f s).releaseAt = s.releaseAt := (rfl)
@[simp] theorem onOpt_pwrLowAt : (onOpt f s).pwrLowAt = s.pwrLowAt := (rfl)
@[simp] theorem onOpt_down : (onOpt f s).down = s.down := (rfl)
@[simp] theorem onOpt_refLost : (onOpt f s).refLost = s.refLost := (rfl)
@[simp] theorem onOpt_pending : (onOpt f s).pending = s.pending := (rfl)
@[simp] theorem onOpt_engFreed : (onOpt f s).engFreed = s.engFreed := (rfl)
@[simp] theorem onOpt_tagTurn : (onOpt f s).tagTurn = s.tagTurn := (rfl)
@[simp] theorem onOpt_capWait : (onOpt f s).capWait = s.capWait := (rfl)
@[simp] theorem reg_onOpt (i : Nat) : reg i (onOpt f s) = reg i s := (rfl)
@[simp] theorem fld_onOpt (h : Fld) : fld h (onOpt f s) = fld h s := (rfl)
@[simp] theorem flag_onOpt (h : Fld) : flag h (onOpt f s) = flag h s := (rfl)

end

/-! ### `onAnl` changes `anl` alone -/

section
variable (f : Anneal → Anneal)

@[simp] theorem onAnl_now : (onAnl f s).now = s.now := (rfl)
@[simp] theorem onAnl_fresh : (onAnl f s).fresh = s.fresh := (rfl)
@[simp] theorem onAnl_regs : (onAnl f s).regs = s.regs := (rfl)
@[simp] theorem onAnl_latch : (onAnl f s).latch = s.latch := (rfl)
@[simp] theorem onAnl_upds : (onAnl f s).upds = s.upds := (rfl)
@[simp] theorem onAnl_out : (onAnl f s).out = s.out := (rfl)
@[simp] theorem onAnl_due : (onAnl f s).due = s.due := (rfl)
@[simp] theorem onAnl_sfifo : (onAnl f s).sfifo = s.sfifo := (rfl)
@[simp] theorem onAnl_sfLost : (onAnl f s).sfLost = s.sfLost := (rfl)
@[simp] theorem onAnl_errAt : (onAnl f s).errAt = s.errAt := (rfl)
@[simp] theorem onAnl_reported : (onAnl f s).reported = s.reported := (rfl)
@[simp] theorem onAnl_func : (onAnl f s).func = s.func := (rfl)
@[simp] theorem onAnl_vfs : (onAnl f s).vfs = s.vfs := (rfl)
@[simp] theorem onAnl_ari : (onAnl f s).ari = s.ari := (rfl)
@[simp] theorem onAnl_eid : (onAnl f s).eid = s.eid := (rfl)
@[simp] theorem onAnl_i3cAddr : (onAnl f s).i3cAddr = s.i3cAddr := (rfl)
@[simp] theorem onAnl_recFault : (onAnl f s).recFault = s.recFault := (rfl)
@[simp] theorem onAnl_recTrace : (onAnl f s).recTrace = s.recTrace := (rfl)
@[simp] theorem onAnl_cores : (onAnl f s).cores = s.cores := (rfl)
@[simp] theorem onAnl_seq : (onAnl f s).seq = s.seq := (rfl)
@[simp] theorem onAnl_traceStop : (onAnl f s).traceStop = s.traceStop := (rfl)
@[simp] theorem onAnl_strapI3c : (onAnl f s).strapI3c = s.strapI3c := (rfl)
@[simp] theorem onAnl_hbm : (onAnl f s).hbm = s.hbm := (rfl)
@[simp] theorem onAnl_eng : (onAnl f s).eng = s.eng := (rfl)
@[simp] theorem onAnl_desc : (onAnl f s).desc = s.desc := (rfl)
@[simp] theorem onAnl_dload : (onAnl f s).dload = s.dload := (rfl)
@[simp] theorem onAnl_tally : (onAnl f s).tally = s.tally := (rfl)
@[simp] theorem onAnl_sdl : (onAnl f s).sdl = s.sdl := (rfl)
@[simp] theorem onAnl_queue : (onAnl f s).queue = s.queue := (rfl)
@[simp] theorem onAnl_meter : (onAnl f s).meter = s.meter := (rfl)
@[simp] theorem onAnl_mrec : (onAnl f s).mrec = s.mrec := (rfl)
@[simp] theorem onAnl_mtrNext : (onAnl f s).mtrNext = s.mtrNext := (rfl)
@[simp] theorem onAnl_slice : (onAnl f s).slice = s.slice := (rfl)
@[simp] theorem onAnl_aborts : (onAnl f s).aborts = s.aborts := (rfl)
@[simp] theorem onAnl_haltAt : (onAnl f s).haltAt = s.haltAt := (rfl)
@[simp] theorem onAnl_therm : (onAnl f s).therm = s.therm := (rfl)
@[simp] theorem onAnl_tripAt : (onAnl f s).tripAt = s.tripAt := (rfl)
@[simp] theorem onAnl_thermtrip : (onAnl f s).thermtrip = s.thermtrip := (rfl)
@[simp] theorem onAnl_inj : (onAnl f s).inj = s.inj := (rfl)
@[simp] theorem onAnl_dark : (onAnl f s).dark = s.dark := (rfl)
@[simp] theorem onAnl_wdogAt : (onAnl f s).wdogAt = s.wdogAt := (rfl)
@[simp] theorem onAnl_recs : (onAnl f s).recs = s.recs := (rfl)
@[simp] theorem onAnl_recEpoch : (onAnl f s).recEpoch = s.recEpoch := (rfl)
@[simp] theorem onAnl_flush : (onAnl f s).flush = s.flush := (rfl)
@[simp] theorem onAnl_flushWait : (onAnl f s).flushWait = s.flushWait := (rfl)
@[simp] theorem onAnl_flushEnd : (onAnl f s).flushEnd = s.flushEnd := (rfl)
@[simp] theorem onAnl_hmkAt : (onAnl f s).hmkAt = s.hmkAt := (rfl)
@[simp] theorem onAnl_replay : (onAnl f s).replay = s.replay := (rfl)
@[simp] theorem onAnl_replayNo : (onAnl f s).replayNo = s.replayNo := (rfl)
@[simp] theorem onAnl_pwrHigh : (onAnl f s).pwrHigh = s.pwrHigh := (rfl)
@[simp] theorem onAnl_pwrHighAt : (onAnl f s).pwrHighAt = s.pwrHighAt := (rfl)
@[simp] theorem onAnl_bkpFail : (onAnl f s).bkpFail = s.bkpFail := (rfl)
@[simp] theorem onAnl_link : (onAnl f s).link = s.link := (rfl)
@[simp] theorem onAnl_post : (onAnl f s).post = s.post := (rfl)
@[simp] theorem onAnl_sendData : (onAnl f s).sendData = s.sendData := (rfl)
@[simp] theorem onAnl_linkPlot : (onAnl f s).linkPlot = s.linkPlot := (rfl)
@[simp] theorem onAnl_xferNo : (onAnl f s).xferNo = s.xferNo := (rfl)
@[simp] theorem onAnl_extents : (onAnl f s).extents = s.extents := (rfl)
@[simp] theorem onAnl_csc : (onAnl f s).csc = s.csc := (rfl)
@[simp] theorem onAnl_opt : (onAnl f s).opt = s.opt := (rfl)
@[simp] theorem onAnl_fuses : (onAnl f s).fuses = s.fuses := (rfl)
@[simp] theorem onAnl_nor : (onAnl f s).nor = s.nor := (rfl)
@[simp] theorem onAnl_mram : (onAnl f s).mram = s.mram := (rfl)
@[simp] theorem onAnl_fw : (onAnl f s).fw = s.fw := (rfl)
@[simp] theorem onAnl_powered : (onAnl f s).powered = s.powered := (rfl)
@[simp] theorem onAnl_inReset : (onAnl f s).inReset = s.inReset := (rfl)
@[simp] theorem onAnl_testEn : (onAnl f s).testEn = s.testEn := (rfl)
@[simp] theorem onAnl_strapAddr : (onAnl f s).strapAddr = s.strapAddr := (rfl)
@[simp] theorem onAnl_releaseAt : (onAnl f s).releaseAt = s.releaseAt := (rfl)
@[simp] theorem onAnl_pwrLowAt : (onAnl f s).pwrLowAt = s.pwrLowAt := (rfl)
@[simp] theorem onAnl_down : (onAnl f s).down = s.down := (rfl)
@[simp] theorem onAnl_refLost : (onAnl f s).refLost = s.refLost := (rfl)
@[simp] theorem onAnl_pending : (onAnl f s).pending = s.pending := (rfl)
@[simp] theorem onAnl_engFreed : (onAnl f s).engFreed = s.engFreed := (rfl)
@[simp] theorem onAnl_tagTurn : (onAnl f s).tagTurn = s.tagTurn := (rfl)
@[simp] theorem onAnl_capWait : (onAnl f s).capWait = s.capWait := (rfl)
@[simp] theorem reg_onAnl (i : Nat) : reg i (onAnl f s) = reg i s := (rfl)
@[simp] theorem fld_onAnl (h : Fld) : fld h (onAnl f s) = fld h s := (rfl)
@[simp] theorem flag_onAnl (h : Fld) : flag h (onAnl f s) = flag h s := (rfl)

end

/-! ### `onFw` changes `fw` alone -/

section
variable (f : Fw → Fw)

@[simp] theorem onFw_now : (onFw f s).now = s.now := (rfl)
@[simp] theorem onFw_fresh : (onFw f s).fresh = s.fresh := (rfl)
@[simp] theorem onFw_regs : (onFw f s).regs = s.regs := (rfl)
@[simp] theorem onFw_latch : (onFw f s).latch = s.latch := (rfl)
@[simp] theorem onFw_upds : (onFw f s).upds = s.upds := (rfl)
@[simp] theorem onFw_out : (onFw f s).out = s.out := (rfl)
@[simp] theorem onFw_due : (onFw f s).due = s.due := (rfl)
@[simp] theorem onFw_sfifo : (onFw f s).sfifo = s.sfifo := (rfl)
@[simp] theorem onFw_sfLost : (onFw f s).sfLost = s.sfLost := (rfl)
@[simp] theorem onFw_errAt : (onFw f s).errAt = s.errAt := (rfl)
@[simp] theorem onFw_reported : (onFw f s).reported = s.reported := (rfl)
@[simp] theorem onFw_func : (onFw f s).func = s.func := (rfl)
@[simp] theorem onFw_vfs : (onFw f s).vfs = s.vfs := (rfl)
@[simp] theorem onFw_ari : (onFw f s).ari = s.ari := (rfl)
@[simp] theorem onFw_eid : (onFw f s).eid = s.eid := (rfl)
@[simp] theorem onFw_i3cAddr : (onFw f s).i3cAddr = s.i3cAddr := (rfl)
@[simp] theorem onFw_recFault : (onFw f s).recFault = s.recFault := (rfl)
@[simp] theorem onFw_recTrace : (onFw f s).recTrace = s.recTrace := (rfl)
@[simp] theorem onFw_cores : (onFw f s).cores = s.cores := (rfl)
@[simp] theorem onFw_seq : (onFw f s).seq = s.seq := (rfl)
@[simp] theorem onFw_traceStop : (onFw f s).traceStop = s.traceStop := (rfl)
@[simp] theorem onFw_strapI3c : (onFw f s).strapI3c = s.strapI3c := (rfl)
@[simp] theorem onFw_hbm : (onFw f s).hbm = s.hbm := (rfl)
@[simp] theorem onFw_eng : (onFw f s).eng = s.eng := (rfl)
@[simp] theorem onFw_desc : (onFw f s).desc = s.desc := (rfl)
@[simp] theorem onFw_dload : (onFw f s).dload = s.dload := (rfl)
@[simp] theorem onFw_tally : (onFw f s).tally = s.tally := (rfl)
@[simp] theorem onFw_sdl : (onFw f s).sdl = s.sdl := (rfl)
@[simp] theorem onFw_queue : (onFw f s).queue = s.queue := (rfl)
@[simp] theorem onFw_meter : (onFw f s).meter = s.meter := (rfl)
@[simp] theorem onFw_mrec : (onFw f s).mrec = s.mrec := (rfl)
@[simp] theorem onFw_mtrNext : (onFw f s).mtrNext = s.mtrNext := (rfl)
@[simp] theorem onFw_slice : (onFw f s).slice = s.slice := (rfl)
@[simp] theorem onFw_aborts : (onFw f s).aborts = s.aborts := (rfl)
@[simp] theorem onFw_haltAt : (onFw f s).haltAt = s.haltAt := (rfl)
@[simp] theorem onFw_therm : (onFw f s).therm = s.therm := (rfl)
@[simp] theorem onFw_tripAt : (onFw f s).tripAt = s.tripAt := (rfl)
@[simp] theorem onFw_thermtrip : (onFw f s).thermtrip = s.thermtrip := (rfl)
@[simp] theorem onFw_inj : (onFw f s).inj = s.inj := (rfl)
@[simp] theorem onFw_dark : (onFw f s).dark = s.dark := (rfl)
@[simp] theorem onFw_wdogAt : (onFw f s).wdogAt = s.wdogAt := (rfl)
@[simp] theorem onFw_recs : (onFw f s).recs = s.recs := (rfl)
@[simp] theorem onFw_recEpoch : (onFw f s).recEpoch = s.recEpoch := (rfl)
@[simp] theorem onFw_flush : (onFw f s).flush = s.flush := (rfl)
@[simp] theorem onFw_flushWait : (onFw f s).flushWait = s.flushWait := (rfl)
@[simp] theorem onFw_flushEnd : (onFw f s).flushEnd = s.flushEnd := (rfl)
@[simp] theorem onFw_hmkAt : (onFw f s).hmkAt = s.hmkAt := (rfl)
@[simp] theorem onFw_replay : (onFw f s).replay = s.replay := (rfl)
@[simp] theorem onFw_replayNo : (onFw f s).replayNo = s.replayNo := (rfl)
@[simp] theorem onFw_pwrHigh : (onFw f s).pwrHigh = s.pwrHigh := (rfl)
@[simp] theorem onFw_pwrHighAt : (onFw f s).pwrHighAt = s.pwrHighAt := (rfl)
@[simp] theorem onFw_bkpFail : (onFw f s).bkpFail = s.bkpFail := (rfl)
@[simp] theorem onFw_link : (onFw f s).link = s.link := (rfl)
@[simp] theorem onFw_post : (onFw f s).post = s.post := (rfl)
@[simp] theorem onFw_sendData : (onFw f s).sendData = s.sendData := (rfl)
@[simp] theorem onFw_linkPlot : (onFw f s).linkPlot = s.linkPlot := (rfl)
@[simp] theorem onFw_xferNo : (onFw f s).xferNo = s.xferNo := (rfl)
@[simp] theorem onFw_extents : (onFw f s).extents = s.extents := (rfl)
@[simp] theorem onFw_csc : (onFw f s).csc = s.csc := (rfl)
@[simp] theorem onFw_opt : (onFw f s).opt = s.opt := (rfl)
@[simp] theorem onFw_anl : (onFw f s).anl = s.anl := (rfl)
@[simp] theorem onFw_fuses : (onFw f s).fuses = s.fuses := (rfl)
@[simp] theorem onFw_nor : (onFw f s).nor = s.nor := (rfl)
@[simp] theorem onFw_mram : (onFw f s).mram = s.mram := (rfl)
@[simp] theorem onFw_powered : (onFw f s).powered = s.powered := (rfl)
@[simp] theorem onFw_inReset : (onFw f s).inReset = s.inReset := (rfl)
@[simp] theorem onFw_testEn : (onFw f s).testEn = s.testEn := (rfl)
@[simp] theorem onFw_strapAddr : (onFw f s).strapAddr = s.strapAddr := (rfl)
@[simp] theorem onFw_releaseAt : (onFw f s).releaseAt = s.releaseAt := (rfl)
@[simp] theorem onFw_pwrLowAt : (onFw f s).pwrLowAt = s.pwrLowAt := (rfl)
@[simp] theorem onFw_down : (onFw f s).down = s.down := (rfl)
@[simp] theorem onFw_refLost : (onFw f s).refLost = s.refLost := (rfl)
@[simp] theorem onFw_pending : (onFw f s).pending = s.pending := (rfl)
@[simp] theorem onFw_engFreed : (onFw f s).engFreed = s.engFreed := (rfl)
@[simp] theorem onFw_tagTurn : (onFw f s).tagTurn = s.tagTurn := (rfl)
@[simp] theorem onFw_capWait : (onFw f s).capWait = s.capWait := (rfl)
@[simp] theorem reg_onFw (i : Nat) : reg i (onFw f s) = reg i s := (rfl)
@[simp] theorem fld_onFw (h : Fld) : fld h (onFw f s) = fld h s := (rfl)
@[simp] theorem flag_onFw (h : Fld) : flag h (onFw f s) = flag h s := (rfl)

end

/-! ### `onLink` changes `link` alone -/

section
variable (p l : Nat) (f : Link → Link)

@[simp] theorem onLink_now : (onLink p l f s).now = s.now := (rfl)
@[simp] theorem onLink_fresh : (onLink p l f s).fresh = s.fresh := (rfl)
@[simp] theorem onLink_regs : (onLink p l f s).regs = s.regs := (rfl)
@[simp] theorem onLink_latch : (onLink p l f s).latch = s.latch := (rfl)
@[simp] theorem onLink_upds : (onLink p l f s).upds = s.upds := (rfl)
@[simp] theorem onLink_out : (onLink p l f s).out = s.out := (rfl)
@[simp] theorem onLink_due : (onLink p l f s).due = s.due := (rfl)
@[simp] theorem onLink_sfifo : (onLink p l f s).sfifo = s.sfifo := (rfl)
@[simp] theorem onLink_sfLost : (onLink p l f s).sfLost = s.sfLost := (rfl)
@[simp] theorem onLink_errAt : (onLink p l f s).errAt = s.errAt := (rfl)
@[simp] theorem onLink_reported : (onLink p l f s).reported = s.reported := (rfl)
@[simp] theorem onLink_func : (onLink p l f s).func = s.func := (rfl)
@[simp] theorem onLink_vfs : (onLink p l f s).vfs = s.vfs := (rfl)
@[simp] theorem onLink_ari : (onLink p l f s).ari = s.ari := (rfl)
@[simp] theorem onLink_eid : (onLink p l f s).eid = s.eid := (rfl)
@[simp] theorem onLink_i3cAddr : (onLink p l f s).i3cAddr = s.i3cAddr := (rfl)
@[simp] theorem onLink_recFault : (onLink p l f s).recFault = s.recFault := (rfl)
@[simp] theorem onLink_recTrace : (onLink p l f s).recTrace = s.recTrace := (rfl)
@[simp] theorem onLink_cores : (onLink p l f s).cores = s.cores := (rfl)
@[simp] theorem onLink_seq : (onLink p l f s).seq = s.seq := (rfl)
@[simp] theorem onLink_traceStop : (onLink p l f s).traceStop = s.traceStop := (rfl)
@[simp] theorem onLink_strapI3c : (onLink p l f s).strapI3c = s.strapI3c := (rfl)
@[simp] theorem onLink_hbm : (onLink p l f s).hbm = s.hbm := (rfl)
@[simp] theorem onLink_eng : (onLink p l f s).eng = s.eng := (rfl)
@[simp] theorem onLink_desc : (onLink p l f s).desc = s.desc := (rfl)
@[simp] theorem onLink_dload : (onLink p l f s).dload = s.dload := (rfl)
@[simp] theorem onLink_tally : (onLink p l f s).tally = s.tally := (rfl)
@[simp] theorem onLink_sdl : (onLink p l f s).sdl = s.sdl := (rfl)
@[simp] theorem onLink_queue : (onLink p l f s).queue = s.queue := (rfl)
@[simp] theorem onLink_meter : (onLink p l f s).meter = s.meter := (rfl)
@[simp] theorem onLink_mrec : (onLink p l f s).mrec = s.mrec := (rfl)
@[simp] theorem onLink_mtrNext : (onLink p l f s).mtrNext = s.mtrNext := (rfl)
@[simp] theorem onLink_slice : (onLink p l f s).slice = s.slice := (rfl)
@[simp] theorem onLink_aborts : (onLink p l f s).aborts = s.aborts := (rfl)
@[simp] theorem onLink_haltAt : (onLink p l f s).haltAt = s.haltAt := (rfl)
@[simp] theorem onLink_therm : (onLink p l f s).therm = s.therm := (rfl)
@[simp] theorem onLink_tripAt : (onLink p l f s).tripAt = s.tripAt := (rfl)
@[simp] theorem onLink_thermtrip : (onLink p l f s).thermtrip = s.thermtrip := (rfl)
@[simp] theorem onLink_inj : (onLink p l f s).inj = s.inj := (rfl)
@[simp] theorem onLink_dark : (onLink p l f s).dark = s.dark := (rfl)
@[simp] theorem onLink_wdogAt : (onLink p l f s).wdogAt = s.wdogAt := (rfl)
@[simp] theorem onLink_recs : (onLink p l f s).recs = s.recs := (rfl)
@[simp] theorem onLink_recEpoch : (onLink p l f s).recEpoch = s.recEpoch := (rfl)
@[simp] theorem onLink_flush : (onLink p l f s).flush = s.flush := (rfl)
@[simp] theorem onLink_flushWait : (onLink p l f s).flushWait = s.flushWait := (rfl)
@[simp] theorem onLink_flushEnd : (onLink p l f s).flushEnd = s.flushEnd := (rfl)
@[simp] theorem onLink_hmkAt : (onLink p l f s).hmkAt = s.hmkAt := (rfl)
@[simp] theorem onLink_replay : (onLink p l f s).replay = s.replay := (rfl)
@[simp] theorem onLink_replayNo : (onLink p l f s).replayNo = s.replayNo := (rfl)
@[simp] theorem onLink_pwrHigh : (onLink p l f s).pwrHigh = s.pwrHigh := (rfl)
@[simp] theorem onLink_pwrHighAt : (onLink p l f s).pwrHighAt = s.pwrHighAt := (rfl)
@[simp] theorem onLink_bkpFail : (onLink p l f s).bkpFail = s.bkpFail := (rfl)
@[simp] theorem onLink_post : (onLink p l f s).post = s.post := (rfl)
@[simp] theorem onLink_sendData : (onLink p l f s).sendData = s.sendData := (rfl)
@[simp] theorem onLink_linkPlot : (onLink p l f s).linkPlot = s.linkPlot := (rfl)
@[simp] theorem onLink_xferNo : (onLink p l f s).xferNo = s.xferNo := (rfl)
@[simp] theorem onLink_extents : (onLink p l f s).extents = s.extents := (rfl)
@[simp] theorem onLink_csc : (onLink p l f s).csc = s.csc := (rfl)
@[simp] theorem onLink_opt : (onLink p l f s).opt = s.opt := (rfl)
@[simp] theorem onLink_anl : (onLink p l f s).anl = s.anl := (rfl)
@[simp] theorem onLink_fuses : (onLink p l f s).fuses = s.fuses := (rfl)
@[simp] theorem onLink_nor : (onLink p l f s).nor = s.nor := (rfl)
@[simp] theorem onLink_mram : (onLink p l f s).mram = s.mram := (rfl)
@[simp] theorem onLink_fw : (onLink p l f s).fw = s.fw := (rfl)
@[simp] theorem onLink_powered : (onLink p l f s).powered = s.powered := (rfl)
@[simp] theorem onLink_inReset : (onLink p l f s).inReset = s.inReset := (rfl)
@[simp] theorem onLink_testEn : (onLink p l f s).testEn = s.testEn := (rfl)
@[simp] theorem onLink_strapAddr : (onLink p l f s).strapAddr = s.strapAddr := (rfl)
@[simp] theorem onLink_releaseAt : (onLink p l f s).releaseAt = s.releaseAt := (rfl)
@[simp] theorem onLink_pwrLowAt : (onLink p l f s).pwrLowAt = s.pwrLowAt := (rfl)
@[simp] theorem onLink_down : (onLink p l f s).down = s.down := (rfl)
@[simp] theorem onLink_refLost : (onLink p l f s).refLost = s.refLost := (rfl)
@[simp] theorem onLink_pending : (onLink p l f s).pending = s.pending := (rfl)
@[simp] theorem onLink_engFreed : (onLink p l f s).engFreed = s.engFreed := (rfl)
@[simp] theorem onLink_tagTurn : (onLink p l f s).tagTurn = s.tagTurn := (rfl)
@[simp] theorem onLink_capWait : (onLink p l f s).capWait = s.capWait := (rfl)
@[simp] theorem reg_onLink (i : Nat) : reg i (onLink p l f s) = reg i s := (rfl)
@[simp] theorem fld_onLink (h : Fld) : fld h (onLink p l f s) = fld h s := (rfl)
@[simp] theorem flag_onLink (h : Fld) : flag h (onLink p l f s) = flag h s := (rfl)

end

/-! ### `onQueue` changes `queue` alone -/

section
variable (n : Nat) (f : Queue → Queue)

@[simp] theorem onQueue_now : (onQueue n f s).now = s.now := (rfl)
@[simp] theorem onQueue_fresh : (onQueue n f s).fresh = s.fresh := (rfl)
@[simp] theorem onQueue_regs : (onQueue n f s).regs = s.regs := (rfl)
@[simp] theorem onQueue_latch : (onQueue n f s).latch = s.latch := (rfl)
@[simp] theorem onQueue_upds : (onQueue n f s).upds = s.upds := (rfl)
@[simp] theorem onQueue_out : (onQueue n f s).out = s.out := (rfl)
@[simp] theorem onQueue_due : (onQueue n f s).due = s.due := (rfl)
@[simp] theorem onQueue_sfifo : (onQueue n f s).sfifo = s.sfifo := (rfl)
@[simp] theorem onQueue_sfLost : (onQueue n f s).sfLost = s.sfLost := (rfl)
@[simp] theorem onQueue_errAt : (onQueue n f s).errAt = s.errAt := (rfl)
@[simp] theorem onQueue_reported : (onQueue n f s).reported = s.reported := (rfl)
@[simp] theorem onQueue_func : (onQueue n f s).func = s.func := (rfl)
@[simp] theorem onQueue_vfs : (onQueue n f s).vfs = s.vfs := (rfl)
@[simp] theorem onQueue_ari : (onQueue n f s).ari = s.ari := (rfl)
@[simp] theorem onQueue_eid : (onQueue n f s).eid = s.eid := (rfl)
@[simp] theorem onQueue_i3cAddr : (onQueue n f s).i3cAddr = s.i3cAddr := (rfl)
@[simp] theorem onQueue_recFault : (onQueue n f s).recFault = s.recFault := (rfl)
@[simp] theorem onQueue_recTrace : (onQueue n f s).recTrace = s.recTrace := (rfl)
@[simp] theorem onQueue_cores : (onQueue n f s).cores = s.cores := (rfl)
@[simp] theorem onQueue_seq : (onQueue n f s).seq = s.seq := (rfl)
@[simp] theorem onQueue_traceStop : (onQueue n f s).traceStop = s.traceStop := (rfl)
@[simp] theorem onQueue_strapI3c : (onQueue n f s).strapI3c = s.strapI3c := (rfl)
@[simp] theorem onQueue_hbm : (onQueue n f s).hbm = s.hbm := (rfl)
@[simp] theorem onQueue_eng : (onQueue n f s).eng = s.eng := (rfl)
@[simp] theorem onQueue_desc : (onQueue n f s).desc = s.desc := (rfl)
@[simp] theorem onQueue_dload : (onQueue n f s).dload = s.dload := (rfl)
@[simp] theorem onQueue_tally : (onQueue n f s).tally = s.tally := (rfl)
@[simp] theorem onQueue_sdl : (onQueue n f s).sdl = s.sdl := (rfl)
@[simp] theorem onQueue_meter : (onQueue n f s).meter = s.meter := (rfl)
@[simp] theorem onQueue_mrec : (onQueue n f s).mrec = s.mrec := (rfl)
@[simp] theorem onQueue_mtrNext : (onQueue n f s).mtrNext = s.mtrNext := (rfl)
@[simp] theorem onQueue_slice : (onQueue n f s).slice = s.slice := (rfl)
@[simp] theorem onQueue_aborts : (onQueue n f s).aborts = s.aborts := (rfl)
@[simp] theorem onQueue_haltAt : (onQueue n f s).haltAt = s.haltAt := (rfl)
@[simp] theorem onQueue_therm : (onQueue n f s).therm = s.therm := (rfl)
@[simp] theorem onQueue_tripAt : (onQueue n f s).tripAt = s.tripAt := (rfl)
@[simp] theorem onQueue_thermtrip : (onQueue n f s).thermtrip = s.thermtrip := (rfl)
@[simp] theorem onQueue_inj : (onQueue n f s).inj = s.inj := (rfl)
@[simp] theorem onQueue_dark : (onQueue n f s).dark = s.dark := (rfl)
@[simp] theorem onQueue_wdogAt : (onQueue n f s).wdogAt = s.wdogAt := (rfl)
@[simp] theorem onQueue_recs : (onQueue n f s).recs = s.recs := (rfl)
@[simp] theorem onQueue_recEpoch : (onQueue n f s).recEpoch = s.recEpoch := (rfl)
@[simp] theorem onQueue_flush : (onQueue n f s).flush = s.flush := (rfl)
@[simp] theorem onQueue_flushWait : (onQueue n f s).flushWait = s.flushWait := (rfl)
@[simp] theorem onQueue_flushEnd : (onQueue n f s).flushEnd = s.flushEnd := (rfl)
@[simp] theorem onQueue_hmkAt : (onQueue n f s).hmkAt = s.hmkAt := (rfl)
@[simp] theorem onQueue_replay : (onQueue n f s).replay = s.replay := (rfl)
@[simp] theorem onQueue_replayNo : (onQueue n f s).replayNo = s.replayNo := (rfl)
@[simp] theorem onQueue_pwrHigh : (onQueue n f s).pwrHigh = s.pwrHigh := (rfl)
@[simp] theorem onQueue_pwrHighAt : (onQueue n f s).pwrHighAt = s.pwrHighAt := (rfl)
@[simp] theorem onQueue_bkpFail : (onQueue n f s).bkpFail = s.bkpFail := (rfl)
@[simp] theorem onQueue_link : (onQueue n f s).link = s.link := (rfl)
@[simp] theorem onQueue_post : (onQueue n f s).post = s.post := (rfl)
@[simp] theorem onQueue_sendData : (onQueue n f s).sendData = s.sendData := (rfl)
@[simp] theorem onQueue_linkPlot : (onQueue n f s).linkPlot = s.linkPlot := (rfl)
@[simp] theorem onQueue_xferNo : (onQueue n f s).xferNo = s.xferNo := (rfl)
@[simp] theorem onQueue_extents : (onQueue n f s).extents = s.extents := (rfl)
@[simp] theorem onQueue_csc : (onQueue n f s).csc = s.csc := (rfl)
@[simp] theorem onQueue_opt : (onQueue n f s).opt = s.opt := (rfl)
@[simp] theorem onQueue_anl : (onQueue n f s).anl = s.anl := (rfl)
@[simp] theorem onQueue_fuses : (onQueue n f s).fuses = s.fuses := (rfl)
@[simp] theorem onQueue_nor : (onQueue n f s).nor = s.nor := (rfl)
@[simp] theorem onQueue_mram : (onQueue n f s).mram = s.mram := (rfl)
@[simp] theorem onQueue_fw : (onQueue n f s).fw = s.fw := (rfl)
@[simp] theorem onQueue_powered : (onQueue n f s).powered = s.powered := (rfl)
@[simp] theorem onQueue_inReset : (onQueue n f s).inReset = s.inReset := (rfl)
@[simp] theorem onQueue_testEn : (onQueue n f s).testEn = s.testEn := (rfl)
@[simp] theorem onQueue_strapAddr : (onQueue n f s).strapAddr = s.strapAddr := (rfl)
@[simp] theorem onQueue_releaseAt : (onQueue n f s).releaseAt = s.releaseAt := (rfl)
@[simp] theorem onQueue_pwrLowAt : (onQueue n f s).pwrLowAt = s.pwrLowAt := (rfl)
@[simp] theorem onQueue_down : (onQueue n f s).down = s.down := (rfl)
@[simp] theorem onQueue_refLost : (onQueue n f s).refLost = s.refLost := (rfl)
@[simp] theorem onQueue_pending : (onQueue n f s).pending = s.pending := (rfl)
@[simp] theorem onQueue_engFreed : (onQueue n f s).engFreed = s.engFreed := (rfl)
@[simp] theorem onQueue_tagTurn : (onQueue n f s).tagTurn = s.tagTurn := (rfl)
@[simp] theorem onQueue_capWait : (onQueue n f s).capWait = s.capWait := (rfl)
@[simp] theorem reg_onQueue (i : Nat) : reg i (onQueue n f s) = reg i s := (rfl)
@[simp] theorem fld_onQueue (h : Fld) : fld h (onQueue n f s) = fld h s := (rfl)
@[simp] theorem flag_onQueue (h : Fld) : flag h (onQueue n f s) = flag h s := (rfl)

end

/-! ### `meterAdd` changes `meter` alone -/

section
variable (k p n : Nat)

@[simp] theorem meterAdd_now : (meterAdd k p n s).now = s.now := (rfl)
@[simp] theorem meterAdd_fresh : (meterAdd k p n s).fresh = s.fresh := (rfl)
@[simp] theorem meterAdd_regs : (meterAdd k p n s).regs = s.regs := (rfl)
@[simp] theorem meterAdd_latch : (meterAdd k p n s).latch = s.latch := (rfl)
@[simp] theorem meterAdd_upds : (meterAdd k p n s).upds = s.upds := (rfl)
@[simp] theorem meterAdd_out : (meterAdd k p n s).out = s.out := (rfl)
@[simp] theorem meterAdd_due : (meterAdd k p n s).due = s.due := (rfl)
@[simp] theorem meterAdd_sfifo : (meterAdd k p n s).sfifo = s.sfifo := (rfl)
@[simp] theorem meterAdd_sfLost : (meterAdd k p n s).sfLost = s.sfLost := (rfl)
@[simp] theorem meterAdd_errAt : (meterAdd k p n s).errAt = s.errAt := (rfl)
@[simp] theorem meterAdd_reported : (meterAdd k p n s).reported = s.reported := (rfl)
@[simp] theorem meterAdd_func : (meterAdd k p n s).func = s.func := (rfl)
@[simp] theorem meterAdd_vfs : (meterAdd k p n s).vfs = s.vfs := (rfl)
@[simp] theorem meterAdd_ari : (meterAdd k p n s).ari = s.ari := (rfl)
@[simp] theorem meterAdd_eid : (meterAdd k p n s).eid = s.eid := (rfl)
@[simp] theorem meterAdd_i3cAddr : (meterAdd k p n s).i3cAddr = s.i3cAddr := (rfl)
@[simp] theorem meterAdd_recFault : (meterAdd k p n s).recFault = s.recFault := (rfl)
@[simp] theorem meterAdd_recTrace : (meterAdd k p n s).recTrace = s.recTrace := (rfl)
@[simp] theorem meterAdd_cores : (meterAdd k p n s).cores = s.cores := (rfl)
@[simp] theorem meterAdd_seq : (meterAdd k p n s).seq = s.seq := (rfl)
@[simp] theorem meterAdd_traceStop : (meterAdd k p n s).traceStop = s.traceStop := (rfl)
@[simp] theorem meterAdd_strapI3c : (meterAdd k p n s).strapI3c = s.strapI3c := (rfl)
@[simp] theorem meterAdd_hbm : (meterAdd k p n s).hbm = s.hbm := (rfl)
@[simp] theorem meterAdd_eng : (meterAdd k p n s).eng = s.eng := (rfl)
@[simp] theorem meterAdd_desc : (meterAdd k p n s).desc = s.desc := (rfl)
@[simp] theorem meterAdd_dload : (meterAdd k p n s).dload = s.dload := (rfl)
@[simp] theorem meterAdd_tally : (meterAdd k p n s).tally = s.tally := (rfl)
@[simp] theorem meterAdd_sdl : (meterAdd k p n s).sdl = s.sdl := (rfl)
@[simp] theorem meterAdd_queue : (meterAdd k p n s).queue = s.queue := (rfl)
@[simp] theorem meterAdd_mrec : (meterAdd k p n s).mrec = s.mrec := (rfl)
@[simp] theorem meterAdd_mtrNext : (meterAdd k p n s).mtrNext = s.mtrNext := (rfl)
@[simp] theorem meterAdd_slice : (meterAdd k p n s).slice = s.slice := (rfl)
@[simp] theorem meterAdd_aborts : (meterAdd k p n s).aborts = s.aborts := (rfl)
@[simp] theorem meterAdd_haltAt : (meterAdd k p n s).haltAt = s.haltAt := (rfl)
@[simp] theorem meterAdd_therm : (meterAdd k p n s).therm = s.therm := (rfl)
@[simp] theorem meterAdd_tripAt : (meterAdd k p n s).tripAt = s.tripAt := (rfl)
@[simp] theorem meterAdd_thermtrip : (meterAdd k p n s).thermtrip = s.thermtrip := (rfl)
@[simp] theorem meterAdd_inj : (meterAdd k p n s).inj = s.inj := (rfl)
@[simp] theorem meterAdd_dark : (meterAdd k p n s).dark = s.dark := (rfl)
@[simp] theorem meterAdd_wdogAt : (meterAdd k p n s).wdogAt = s.wdogAt := (rfl)
@[simp] theorem meterAdd_recs : (meterAdd k p n s).recs = s.recs := (rfl)
@[simp] theorem meterAdd_recEpoch : (meterAdd k p n s).recEpoch = s.recEpoch := (rfl)
@[simp] theorem meterAdd_flush : (meterAdd k p n s).flush = s.flush := (rfl)
@[simp] theorem meterAdd_flushWait : (meterAdd k p n s).flushWait = s.flushWait := (rfl)
@[simp] theorem meterAdd_flushEnd : (meterAdd k p n s).flushEnd = s.flushEnd := (rfl)
@[simp] theorem meterAdd_hmkAt : (meterAdd k p n s).hmkAt = s.hmkAt := (rfl)
@[simp] theorem meterAdd_replay : (meterAdd k p n s).replay = s.replay := (rfl)
@[simp] theorem meterAdd_replayNo : (meterAdd k p n s).replayNo = s.replayNo := (rfl)
@[simp] theorem meterAdd_pwrHigh : (meterAdd k p n s).pwrHigh = s.pwrHigh := (rfl)
@[simp] theorem meterAdd_pwrHighAt : (meterAdd k p n s).pwrHighAt = s.pwrHighAt := (rfl)
@[simp] theorem meterAdd_bkpFail : (meterAdd k p n s).bkpFail = s.bkpFail := (rfl)
@[simp] theorem meterAdd_link : (meterAdd k p n s).link = s.link := (rfl)
@[simp] theorem meterAdd_post : (meterAdd k p n s).post = s.post := (rfl)
@[simp] theorem meterAdd_sendData : (meterAdd k p n s).sendData = s.sendData := (rfl)
@[simp] theorem meterAdd_linkPlot : (meterAdd k p n s).linkPlot = s.linkPlot := (rfl)
@[simp] theorem meterAdd_xferNo : (meterAdd k p n s).xferNo = s.xferNo := (rfl)
@[simp] theorem meterAdd_extents : (meterAdd k p n s).extents = s.extents := (rfl)
@[simp] theorem meterAdd_csc : (meterAdd k p n s).csc = s.csc := (rfl)
@[simp] theorem meterAdd_opt : (meterAdd k p n s).opt = s.opt := (rfl)
@[simp] theorem meterAdd_anl : (meterAdd k p n s).anl = s.anl := (rfl)
@[simp] theorem meterAdd_fuses : (meterAdd k p n s).fuses = s.fuses := (rfl)
@[simp] theorem meterAdd_nor : (meterAdd k p n s).nor = s.nor := (rfl)
@[simp] theorem meterAdd_mram : (meterAdd k p n s).mram = s.mram := (rfl)
@[simp] theorem meterAdd_fw : (meterAdd k p n s).fw = s.fw := (rfl)
@[simp] theorem meterAdd_powered : (meterAdd k p n s).powered = s.powered := (rfl)
@[simp] theorem meterAdd_inReset : (meterAdd k p n s).inReset = s.inReset := (rfl)
@[simp] theorem meterAdd_testEn : (meterAdd k p n s).testEn = s.testEn := (rfl)
@[simp] theorem meterAdd_strapAddr : (meterAdd k p n s).strapAddr = s.strapAddr := (rfl)
@[simp] theorem meterAdd_releaseAt : (meterAdd k p n s).releaseAt = s.releaseAt := (rfl)
@[simp] theorem meterAdd_pwrLowAt : (meterAdd k p n s).pwrLowAt = s.pwrLowAt := (rfl)
@[simp] theorem meterAdd_down : (meterAdd k p n s).down = s.down := (rfl)
@[simp] theorem meterAdd_refLost : (meterAdd k p n s).refLost = s.refLost := (rfl)
@[simp] theorem meterAdd_pending : (meterAdd k p n s).pending = s.pending := (rfl)
@[simp] theorem meterAdd_engFreed : (meterAdd k p n s).engFreed = s.engFreed := (rfl)
@[simp] theorem meterAdd_tagTurn : (meterAdd k p n s).tagTurn = s.tagTurn := (rfl)
@[simp] theorem meterAdd_capWait : (meterAdd k p n s).capWait = s.capWait := (rfl)
@[simp] theorem reg_meterAdd (i : Nat) : reg i (meterAdd k p n s) = reg i s := (rfl)
@[simp] theorem fld_meterAdd (h : Fld) : fld h (meterAdd k p n s) = fld h s := (rfl)
@[simp] theorem flag_meterAdd (h : Fld) : flag h (meterAdd k p n s) = flag h s := (rfl)

end

/-! ### `onHbm` changes `hbm` alone -/

section
variable (f : Hbm → Hbm)

@[simp] theorem onHbm_now : (onHbm f s).now = s.now := (rfl)
@[simp] theorem onHbm_fresh : (onHbm f s).fresh = s.fresh := (rfl)
@[simp] theorem onHbm_regs : (onHbm f s).regs = s.regs := (rfl)
@[simp] theorem onHbm_latch : (onHbm f s).latch = s.latch := (rfl)
@[simp] theorem onHbm_upds : (onHbm f s).upds = s.upds := (rfl)
@[simp] theorem onHbm_out : (onHbm f s).out = s.out := (rfl)
@[simp] theorem onHbm_due : (onHbm f s).due = s.due := (rfl)
@[simp] theorem onHbm_sfifo : (onHbm f s).sfifo = s.sfifo := (rfl)
@[simp] theorem onHbm_sfLost : (onHbm f s).sfLost = s.sfLost := (rfl)
@[simp] theorem onHbm_errAt : (onHbm f s).errAt = s.errAt := (rfl)
@[simp] theorem onHbm_reported : (onHbm f s).reported = s.reported := (rfl)
@[simp] theorem onHbm_func : (onHbm f s).func = s.func := (rfl)
@[simp] theorem onHbm_vfs : (onHbm f s).vfs = s.vfs := (rfl)
@[simp] theorem onHbm_ari : (onHbm f s).ari = s.ari := (rfl)
@[simp] theorem onHbm_eid : (onHbm f s).eid = s.eid := (rfl)
@[simp] theorem onHbm_i3cAddr : (onHbm f s).i3cAddr = s.i3cAddr := (rfl)
@[simp] theorem onHbm_recFault : (onHbm f s).recFault = s.recFault := (rfl)
@[simp] theorem onHbm_recTrace : (onHbm f s).recTrace = s.recTrace := (rfl)
@[simp] theorem onHbm_cores : (onHbm f s).cores = s.cores := (rfl)
@[simp] theorem onHbm_seq : (onHbm f s).seq = s.seq := (rfl)
@[simp] theorem onHbm_traceStop : (onHbm f s).traceStop = s.traceStop := (rfl)
@[simp] theorem onHbm_strapI3c : (onHbm f s).strapI3c = s.strapI3c := (rfl)
@[simp] theorem onHbm_eng : (onHbm f s).eng = s.eng := (rfl)
@[simp] theorem onHbm_desc : (onHbm f s).desc = s.desc := (rfl)
@[simp] theorem onHbm_dload : (onHbm f s).dload = s.dload := (rfl)
@[simp] theorem onHbm_tally : (onHbm f s).tally = s.tally := (rfl)
@[simp] theorem onHbm_sdl : (onHbm f s).sdl = s.sdl := (rfl)
@[simp] theorem onHbm_queue : (onHbm f s).queue = s.queue := (rfl)
@[simp] theorem onHbm_meter : (onHbm f s).meter = s.meter := (rfl)
@[simp] theorem onHbm_mrec : (onHbm f s).mrec = s.mrec := (rfl)
@[simp] theorem onHbm_mtrNext : (onHbm f s).mtrNext = s.mtrNext := (rfl)
@[simp] theorem onHbm_slice : (onHbm f s).slice = s.slice := (rfl)
@[simp] theorem onHbm_aborts : (onHbm f s).aborts = s.aborts := (rfl)
@[simp] theorem onHbm_haltAt : (onHbm f s).haltAt = s.haltAt := (rfl)
@[simp] theorem onHbm_therm : (onHbm f s).therm = s.therm := (rfl)
@[simp] theorem onHbm_tripAt : (onHbm f s).tripAt = s.tripAt := (rfl)
@[simp] theorem onHbm_thermtrip : (onHbm f s).thermtrip = s.thermtrip := (rfl)
@[simp] theorem onHbm_inj : (onHbm f s).inj = s.inj := (rfl)
@[simp] theorem onHbm_dark : (onHbm f s).dark = s.dark := (rfl)
@[simp] theorem onHbm_wdogAt : (onHbm f s).wdogAt = s.wdogAt := (rfl)
@[simp] theorem onHbm_recs : (onHbm f s).recs = s.recs := (rfl)
@[simp] theorem onHbm_recEpoch : (onHbm f s).recEpoch = s.recEpoch := (rfl)
@[simp] theorem onHbm_flush : (onHbm f s).flush = s.flush := (rfl)
@[simp] theorem onHbm_flushWait : (onHbm f s).flushWait = s.flushWait := (rfl)
@[simp] theorem onHbm_flushEnd : (onHbm f s).flushEnd = s.flushEnd := (rfl)
@[simp] theorem onHbm_hmkAt : (onHbm f s).hmkAt = s.hmkAt := (rfl)
@[simp] theorem onHbm_replay : (onHbm f s).replay = s.replay := (rfl)
@[simp] theorem onHbm_replayNo : (onHbm f s).replayNo = s.replayNo := (rfl)
@[simp] theorem onHbm_pwrHigh : (onHbm f s).pwrHigh = s.pwrHigh := (rfl)
@[simp] theorem onHbm_pwrHighAt : (onHbm f s).pwrHighAt = s.pwrHighAt := (rfl)
@[simp] theorem onHbm_bkpFail : (onHbm f s).bkpFail = s.bkpFail := (rfl)
@[simp] theorem onHbm_link : (onHbm f s).link = s.link := (rfl)
@[simp] theorem onHbm_post : (onHbm f s).post = s.post := (rfl)
@[simp] theorem onHbm_sendData : (onHbm f s).sendData = s.sendData := (rfl)
@[simp] theorem onHbm_linkPlot : (onHbm f s).linkPlot = s.linkPlot := (rfl)
@[simp] theorem onHbm_xferNo : (onHbm f s).xferNo = s.xferNo := (rfl)
@[simp] theorem onHbm_extents : (onHbm f s).extents = s.extents := (rfl)
@[simp] theorem onHbm_csc : (onHbm f s).csc = s.csc := (rfl)
@[simp] theorem onHbm_opt : (onHbm f s).opt = s.opt := (rfl)
@[simp] theorem onHbm_anl : (onHbm f s).anl = s.anl := (rfl)
@[simp] theorem onHbm_fuses : (onHbm f s).fuses = s.fuses := (rfl)
@[simp] theorem onHbm_nor : (onHbm f s).nor = s.nor := (rfl)
@[simp] theorem onHbm_mram : (onHbm f s).mram = s.mram := (rfl)
@[simp] theorem onHbm_fw : (onHbm f s).fw = s.fw := (rfl)
@[simp] theorem onHbm_powered : (onHbm f s).powered = s.powered := (rfl)
@[simp] theorem onHbm_inReset : (onHbm f s).inReset = s.inReset := (rfl)
@[simp] theorem onHbm_testEn : (onHbm f s).testEn = s.testEn := (rfl)
@[simp] theorem onHbm_strapAddr : (onHbm f s).strapAddr = s.strapAddr := (rfl)
@[simp] theorem onHbm_releaseAt : (onHbm f s).releaseAt = s.releaseAt := (rfl)
@[simp] theorem onHbm_pwrLowAt : (onHbm f s).pwrLowAt = s.pwrLowAt := (rfl)
@[simp] theorem onHbm_down : (onHbm f s).down = s.down := (rfl)
@[simp] theorem onHbm_refLost : (onHbm f s).refLost = s.refLost := (rfl)
@[simp] theorem onHbm_pending : (onHbm f s).pending = s.pending := (rfl)
@[simp] theorem onHbm_engFreed : (onHbm f s).engFreed = s.engFreed := (rfl)
@[simp] theorem onHbm_tagTurn : (onHbm f s).tagTurn = s.tagTurn := (rfl)
@[simp] theorem onHbm_capWait : (onHbm f s).capWait = s.capWait := (rfl)
@[simp] theorem reg_onHbm (i : Nat) : reg i (onHbm f s) = reg i s := (rfl)
@[simp] theorem fld_onHbm (h : Fld) : fld h (onHbm f s) = fld h s := (rfl)
@[simp] theorem flag_onHbm (h : Fld) : flag h (onHbm f s) = flag h s := (rfl)

end

end Sys2Proof.Machine
end

