-- ==== Sys2Proof/Laws/Reports.lean ====
section
/-! SUPPORT. What the reporting operations do once for all: registers, outputs, vectors, the status FIFO, recorder
triggers and consequences change, and no unit does. -/
namespace Sys2Proof.Machine

@[simp] theorem unitPart_setReg (off : Nat) (w : Word) (s : State) : unitPart (setReg off w s) = unitPart s := (rfl)

@[simp] theorem unitPart_setFld (f : Fld) (v : Nat) (s : State) : unitPart (setFld f v s) = unitPart s := (rfl)

@[simp] theorem unitPart_setFlds (fs : List (Fld × Nat)) : ∀ s, unitPart (setFlds fs s) = unitPart s := by
  induction fs with
  | nil => intro s; rfl
  | cons x fs ih => intro s; rw [setFlds, ih, unitPart_setFld]

@[simp] theorem unitPart_addSat (f : Fld) (n : Nat) (s : State) : unitPart (addSat f n s) = unitPart s := (rfl)

@[simp] theorem unitPart_bump (f : Fld) (n : Nat) (s : State) : unitPart (bump f n s) = unitPart s := (rfl)

@[simp] theorem unitPart_raise (f : Fld) (v : Nat) (s : State) : unitPart (raise f v s) = unitPart s := (rfl)

@[simp] theorem unitPart_clearW1c (off : Nat) (w : Word) (s : State) : unitPart (clearW1c off w s) = unitPart s := by
  unfold clearW1c; split <;> rfl

@[simp] theorem unitPart_holdFirst (f : Fld) (fs : List (Fld × Nat)) (s : State) :
    unitPart (holdFirst f fs s) = unitPart s := by
  unfold holdFirst; split <;> simp

@[simp] theorem unitPart_emit (o : Out) (s : State) : unitPart (emit o s) = unitPart s := (rfl)

@[simp] theorem unitPart_leave (d : Due) (s : State) : unitPart (leave d s) = unitPart s := (rfl)

@[simp] theorem unitPart_onFunc (f : Nat) (g : Func → Func) (s : State) : unitPart (onFunc f g s) = unitPart s := (rfl)

@[simp] theorem unitPart_msix (f v : Nat) (s : State) : unitPart (msix f v s) = unitPart s := by
  unfold msix
  extract_lets fn e
  split <;> rfl

@[simp] theorem unitPart_irqSend (k : Nat) (s : State) : unitPart (irqSend k s) = unitPart s := by
  unfold irqSend; split <;> simp

@[simp] theorem unitPart_irq (k : Nat) (s : State) : unitPart (irq k s) = unitPart s := by
  unfold irq
  extract_lets f u
  split
  · exact (rfl)
  · rw [unitPart_irqSend, unitPart_raise]

@[simp] theorem unitPart_setUpds (u : Updates) (s : State) : unitPart (setUpds u s) = unitPart s := (rfl)

@[simp] theorem unitPart_setErrAt (c r : Nat) (s : State) : unitPart (setErrAt c r s) = unitPart s := (rfl)

@[simp] theorem unitPart_onTrace (f : RecClass → RecClass) (s : State) : unitPart (onTrace f s) = unitPart s := (rfl)

@[simp] theorem unitPart_onFault (f : RecClass → RecClass) (s : State) : unitPart (onFault f s) = unitPart s := (rfl)

@[simp] theorem unitPart_setFifo (es : List Word) (b : Bool) (s : State) : unitPart (setFifo es b s) = unitPart s := (rfl)

@[simp] theorem unitPart_globalErr (k src fn off : Nat) (s : State) : unitPart (globalErr k src fn off s) = unitPart s := by
  unfold globalErr
  extract_lets r b s1
  have h : unitPart s1 = unitPart s := unitPart_bump _ _ _
  rw [unitPart_irq]
  split
  · rw [unitPart_raise, unitPart_setFlds, unitPart_setErrAt, h]
  · exact h

@[simp] theorem unitPart_discard (a : Accessor) (off : Nat) (s : State) : unitPart (discard a off s) = unitPart s := by
  simp [discard]

@[simp] theorem unitPart_leaveFlush (fl : Option Nat) (s : State) : unitPart (leaveFlush fl s) = unitPart s := by
  cases fl <;> rfl

@[simp] theorem unitPart_traceTrigger (en : Bool) (t : Snap) (s : State) :
    unitPart (traceTrigger en t s) = unitPart s := by unfold traceTrigger; split <;> simp

@[simp] theorem unitPart_faultSnap (en : Bool) (t : Snap) (s : State) : unitPart (faultSnap en t s) = unitPart s := by
  unfold faultSnap; split <;> simp

@[simp] theorem unitPart_trigger (k : Nat) (e : Word) (fl : Option Nat) (s : State) :
    unitPart (trigger k e fl s) = unitPart s := by
  unfold trigger
  extract_lets r en t s1 s2
  have h1 : unitPart s1 = unitPart s := by show unitPart (if _ then _ else _) = _; split <;> simp
  have h2 : unitPart s2 = unitPart s1 := by show unitPart (if _ then _ else _) = _; split <;> simp
  split <;> simp [h1, h2]

@[simp] theorem unitPart_sfHold (s : State) : unitPart (sfHold s) = unitPart s := by
  unfold sfHold
  extract_lets fill s1 s2
  have h1 : unitPart s1 = unitPart s := unitPart_setFld _ _ _
  have h2 : unitPart s2 = unitPart s := by
    show unitPart (irq 16 (emit _ (setFld _ 1 s1))) = _
    simp [h1]
  split
  · split <;> simp [h1]
  · split
    · split <;> simp [h2]
    · exact h1

@[simp] theorem unitPart_sfPush (e : Word) (s : State) : unitPart (sfPush e s) = unitPart s := by
  unfold sfPush
  split <;> simp

@[simp] theorem unitPart_faultTrigger (c : Nat) (e : Word) (s : State) : unitPart (faultTrigger c e s) = unitPart s := by
  unfold faultTrigger
  extract_lets fl
  split <;> simp

@[simp] theorem unitPart_devFault (c k d : Nat) (s : State) : unitPart (devFault c k d s) = unitPart s := by simp [devFault]

@[simp] theorem unitPart_reportOnce (n c k : Nat) (e : Word) (s : State) :
    unitPart (reportOnce n c k e s) = unitPart s := by
  unfold reportOnce
  split
  · rfl
  · rw [unitPart_sfPush]; rfl

@[simp] theorem unitPart_recordFault (n c k pc : Nat) (s : State) : unitPart (recordFault n c k pc s) = unitPart s := by
  unfold recordFault
  extract_lets f b s1
  have h : unitPart s1 = unitPart s := by
    show unitPart (bump _ 1 _) = _
    simp
  split <;> simp [h]

@[simp] theorem unitPart_stopFault (n c : Nat) (s : State) : unitPart (stopFault n c s) = unitPart s := by
  unfold stopFault; split <;> simp

@[simp] theorem unitPart_plotFault (n c k d pc : Nat) (s : State) : unitPart (plotFault n c k d pc s) = unitPart s := by
  simp [plotFault]

end Sys2Proof.Machine
end

