-- ==== Sys2Proof/Laws/Queue.lean ====
section
/-! SUPPORT. What a completion and a read of HBM do once for all. -/
namespace Sys2Proof.Machine

/-- The state without what completions change: reports and the queues. -/
def queuelessPart (s : State) : State := { unitPart s with queue := [] }

theorem queueless_of_unit {s v : State} (h : unitPart v = unitPart s) : queuelessPart v = queuelessPart s := by
  unfold queuelessPart; rw [h]

@[simp] theorem queueless_onQueue (n : Nat) (f : Queue → Queue) (s : State) :
    queuelessPart (onQueue n f s) = queuelessPart s := (rfl)

@[simp] theorem queueless_cqSignal (n : Nat) (s : State) : queuelessPart (cqSignal n s) = queuelessPart s := by
  unfold cqSignal
  rw [queueless_onQueue]
  exact queueless_of_unit (unitPart_msix ..)

@[simp] theorem queueless_cqCoalesce (n : Nat) (s : State) : queuelessPart (cqCoalesce n s) = queuelessPart s := by
  unfold cqCoalesce; split <;> simp

@[simp] theorem queueless_setFld (f : Fld) (v : Nat) (s : State) : queuelessPart (setFld f v s) = queuelessPart s := (rfl)

@[simp] theorem queueless_emit (o : Out) (s : State) : queuelessPart (emit o s) = queuelessPart s := (rfl)

@[simp] theorem queueless_postNow (n : Nat) (c : Cpl) (s : State) : queuelessPart (postNow n c s) = queuelessPart s := by
  unfold postNow
  extract_lets tail phase base s1 wrap s2 s3
  have h2 : queuelessPart s2 = queuelessPart s := by
    show queuelessPart (setFld _ _ (emit _ s)) = _
    simp
  have h3 : queuelessPart s3 = queuelessPart s := by
    show queuelessPart (if _ then _ else _) = _
    split <;> simp [h2]
  rw [queueless_cqCoalesce, queueless_onQueue, h3]

@[simp] theorem queueless_post (n : Nat) (c : Cpl) (s : State) : queuelessPart (post n c s) = queuelessPart s := by
  unfold post
  extract_lets s1 s2
  have h1 : queuelessPart s1 = queuelessPart s := queueless_onQueue ..
  split
  · exact h1
  · split
    · rw [queueless_setFld]
      show queuelessPart (onQueue _ _ s1) = _
      rw [queueless_onQueue, h1]
    · rw [queueless_postNow, h1]

@[simp] theorem queueless_complete (n q k st d x : Nat) (s : State) :
    queuelessPart (complete n q k st d x s) = queuelessPart s := by
  unfold complete
  split
  · rfl
  · extract_lets s1
    rw [queueless_post]
    unfold remember
    rw [queueless_onQueue]
    exact queueless_onQueue ..

@[simp] theorem queueless_completeCmd (c : Option (Nat × Nat × Nat)) (st d x : Nat) (s : State) :
    queuelessPart (completeCmd c st d x s) = queuelessPart s := by
  unfold completeCmd; split <;> simp

/-! ### Reads of HBM -/

@[simp] theorem unitPart_hbmErr (x : HAcc) (w k : Nat) (s : State) : unitPart (hbmErr x w k s) = unitPart s := by
  unfold hbmErr
  extract_lets st s1 s2
  have h1 : unitPart s1 = unitPart s := by
    show unitPart (bump _ 1 s) = _
    simp
  have h2 : unitPart s2 = unitPart s := by
    show unitPart (if _ then _ else _) = _
    split <;> simp [h1]
  split <;> simp [h2]

@[simp] theorem unitPart_hbmCheck (x : HAcc) (a n : Nat) (s : State) : unitPart (hbmCheck x a n s) = unitPart s := by
  unfold hbmCheck
  split
  · simp
  · refine forAll_keeps (g := unitPart) ?_ _ _
    intro w t
    split <;> simp

/-- The state without what reads for a plot change: reports and the meters. -/
def meterlessPart (s : State) : State := { unitPart s with meter := [] }

theorem meterless_of_unit {s v : State} (h : unitPart v = unitPart s) : meterlessPart v = meterlessPart s := by
  unfold meterlessPart; rw [h]

@[simp] theorem meterless_meterAdd (k p n : Nat) (s : State) : meterlessPart (meterAdd k p n s) = meterlessPart s := (rfl)

@[simp] theorem meterless_windowRead (k : Option Nat) (x : HAcc) (p a n : Nat) (s : State) :
    meterlessPart (windowRead k x p a n s) = meterlessPart s := by
  unfold windowRead
  refine forAll_keeps (g := meterlessPart) ?_ _ _
  intro q t
  split
  · unfold meterAccess
    rw [meterless_meterAdd]
    exact meterless_of_unit (unitPart_hbmCheck ..)
  · rfl

end Sys2Proof.Machine
end

