-- ==== Sys2Proof/Laws/Capture.lean ====
section
/-! SUPPORT. What writes of HBM and capture events do once for all: the stores, the injection and the replay's place
change, and reports. -/
namespace Sys2Proof.Machine

/-- The state without what writes of HBM and events of a run change. -/
def eventlessPart (s : State) : State := { unitPart s with hbm := {}, capWait := [], inj := none, replay := 0, replayNo := 0 }

theorem eventless_of_unit {s v : State} (h : unitPart v = unitPart s) : eventlessPart v = eventlessPart s := by
  unfold eventlessPart; rw [h]

@[simp] theorem unitPart_sramCheck (pl : Option Nat) (c : Nat) (n : Nat) :
    ∀ a s, unitPart (sramCheck pl c a n s) = unitPart s := by
  induction n with
  | zero => intro a s; rfl
  | succ n ih =>
    intro a s
    unfold sramCheck
    extract_lets e loc s1 s2
    have hl : ∀ u z, unitPart (loc u z) = unitPart z := fun u z => unitPart_holdFirst ..
    rw [ih]
    show unitPart (if _ then _ else _) = _
    split
    · rw [hl]; simp
    · split
      · have : unitPart s1 = unitPart s := by show unitPart (loc 1 _) = _; rw [hl]; simp
        split <;> simp [this]
      · rfl

@[simp] theorem unitPart_linkFault (k n p l pc : Nat) (s : State) : unitPart (linkFault k n p l pc s) = unitPart s := by
  unfold linkFault; simp

@[simp] theorem unitPart_meshFault (c p l k : Nat) (s : State) : unitPart (meshFault c p l k s) = unitPart s := by
  unfold meshFault; simp

@[simp] theorem eventless_injConsume (s : State) : eventlessPart (injConsume s) = eventlessPart s := by
  unfold injConsume
  rw [eventless_of_unit (unitPart_devFault ..), eventless_of_unit (unitPart_raise ..),
    eventless_of_unit (unitPart_setFld ..)]
  rfl

@[simp] theorem eventless_onHbm (f : Hbm → Hbm) (s : State) : eventlessPart (onHbm f s) = eventlessPart s := (rfl)

@[simp] theorem eventless_injHbm (w : Nat) (s : State) : eventlessPart (injHbm w s) = eventlessPart s := by
  unfold injHbm
  extract_lets
  split <;> simp

@[simp] theorem eventless_hbmErr (x : HAcc) (w k : Nat) (s : State) : eventlessPart (hbmErr x w k s) = eventlessPart s :=
  eventless_of_unit (unitPart_hbmErr ..)

@[simp] theorem eventless_hbmPut (w e a : Nat) (bs : List Byte) (s : State) :
    eventlessPart (hbmPut w e a bs s) = eventlessPart s := by
  unfold hbmPut; simp

@[simp] theorem eventless_hbmPart (x : HAcc) (w e a : Nat) (bs : List Byte) (s : State) :
    eventlessPart (hbmPart x w e a bs s) = eventlessPart s := by
  unfold hbmPart
  simp only [eventless_hbmPut, eventless_onHbm]
  split <;> simp

@[simp] theorem eventless_hbmWriteWord (x : HAcc) (a : Nat) (bs : List Byte) (s : State) :
    eventlessPart (hbmWriteWord x a bs s) = eventlessPart s := by
  unfold hbmWriteWord
  simp only
  split
  · rfl
  · split
    · rfl
    · split
      · simp
      · split <;> simp

@[simp] theorem eventless_hbmWrite (x : HAcc) (a : Nat) (bs : List Byte) (s : State) :
    eventlessPart (hbmWrite x a bs s) = eventlessPart s := by
  unfold hbmWrite
  split
  · rfl
  · split
    · simp
    · simp

@[simp] theorem eventless_hbmWriteAll (x : HAcc) (a : Nat) (bs : List Byte) (s : State) :
    eventlessPart (hbmWriteAll x a bs s) = eventlessPart s := by
  unfold hbmWriteAll
  exact forAll_keeps (g := eventlessPart) (fun _ _ => eventless_hbmWrite _ _ _ _) _ _

@[simp] theorem eventless_setFld (f : Fld) (v : Nat) (s : State) : eventlessPart (setFld f v s) = eventlessPart s :=
  eventless_of_unit (unitPart_setFld ..)

@[simp] theorem eventless_capBytes (a : Nat) (bs : List Byte) (s : State) :
    eventlessPart (capBytes a bs s) = eventlessPart s := by
  unfold capBytes
  split
  · simp
  · split
    · simp
    · rfl

@[simp] theorem eventless_capWrite (r d : List Byte) (s : State) : eventlessPart (capWrite r d s) = eventlessPart s := by
  unfold capWrite
  extract_lets used s1
  have h1 : eventlessPart s1 = eventlessPart s := eventless_capBytes ..
  split
  · simp
  · split <;> simp [h1]

@[simp] theorem eventless_diverge (p k : Nat) (s : State) : eventlessPart (diverge p k s) = eventlessPart s := by
  unfold diverge
  split
  · rfl
  · exact eventless_of_unit (by simp)

@[simp] theorem eventless_replayCompare (p k a b c d : Nat) (s : State) :
    eventlessPart (replayCompare p k a b c d s) = eventlessPart s := by
  unfold replayCompare
  extract_lets r same s1
  split
  · simp
  · have h1 : eventlessPart s1 = eventlessPart s := by show eventlessPart (if _ then _ else _) = _; split <;> simp
    have h2 : ∀ z, eventlessPart (replayNext r z) = eventlessPart z := fun z => by unfold eventlessPart unitPart replayNext; rfl
    rw [h2, h1]

@[simp] theorem eventless_capEvent (k p b c d : Nat) (l : List Byte) (s : State) :
    eventlessPart (capEvent k p b c d l s) = eventlessPart s := by
  unfold capEvent
  split
  · simp
  · split <;> simp

end Sys2Proof.Machine
end

