-- ==== Sys2Proof/Laws/Commands.lean ====
section
/-! SUPPORT. What surrounds every command: where its own effect stands in the next state, and how a register write
reaches its register. -/
namespace Sys2Proof.Machine

/-- A command of a part that does what it is asked: its own effect, at its instant. -/
theorem command_awake {t : Nat} {s u : State} (h : Awake t s u) (f : State → State) : command t f s = after u (f u) := by
  obtain ⟨rfl, h⟩ := h
  unfold command
  exact if_pos h

/-- A command of a part that is not powered or held in reset moves the clock alone. -/
theorem command_asleep {t : Nat} {s : State} (h : alive (clockTo t s) = false) (f : State → State) :
    command t f s = clockTo t s := by
  unfold command
  simp [h]

@[simp] theorem alive_clockTo (t : Nat) (s : State) : alive (clockTo t s) = alive s := by
  unfold clockTo; split <;> rfl

@[simp] theorem clockTo_now (t : Nat) (s : State) : (clockTo t s).now = max s.now t := by
  unfold clockTo; split <;> rfl

/-- No time passes, no record is being read and nothing is to come inside the circuit switch: the clock changes nothing. -/
theorem clockTo_quiet {t : Nat} {s : State} (ht : t ≤ s.now) (hf : s.recFault.busy = none) (hr : s.recTrace.busy = none)
    (hc : s.csc.fabDue = []) : clockTo t s = s := by
  have hm : max s.now t = s.now := Nat.max_eq_left ht
  have hn : setNow t s = s := by simp only [setNow, hm]
  have hp : passTo t s = s := by
    simp [passTo, snapTime, hf, hr, cycle, hm, hn, fabricTime, hc]
  simp only [clockTo, hp, hm, hn, ite_self]

@[simp] theorem clockTo_pending (t : Nat) (s : State) : (clockTo t s).pending = s.pending := by
  unfold clockTo; split <;> rfl

@[simp] theorem after_now (u v : State) : (after u v).now = u.now := rfl
@[simp] theorem after_pending (u v : State) : (after u v).pending = u.pending := rfl
@[simp] theorem after_due (u v : State) : (after u v).due = [] := rfl
@[simp] theorem afterPower_now (u v : State) : (afterPower u v).now = u.now := rfl
@[simp] theorem afterPower_pending (u v : State) : (afterPower u v).pending = u.pending := rfl
@[simp] theorem afterPower_due (u v : State) : (afterPower u v).due = [] := rfl

/-- Offsets outside the plot blocks of VFs and the MSI-X structures name registers of PF BAR0 (R379, R538). -/
theorem target_direct {a : Accessor} {off : Nat} (ha : ∀ n, a ≠ .vf n) (ho : off < 0xF00000) : target a off = .reg off := by
  unfold target
  cases a with
  | vf n => exact absurd rfl (ha n)
  | _ => simp only; rw [if_neg (by omega), if_neg (by omega), if_pos ho]

/-- A write that reaches a register's rule (R10, R13, R510). -/
theorem regWrite_direct {a : Accessor} {off : Nat} {s : State} (h : Reaches a s) (h4 : off % 4 = 0) (ho : off < 0xF00000)
    (hr : (regRow off).isSome = true) (w : Word) (counts : Map Nat) :
    regWrite a off w counts s = writeReg a off w counts s := by
  unfold regWrite
  rw [h.1, target_direct h.2 ho, if_neg (by simp), if_neg (by omega)]
  simp only
  rw [if_neg]
  intro hn
  rw [Option.isNone_iff_eq_none] at hn
  rw [hn] at hr
  exact absurd hr (by simp)

end Sys2Proof.Machine
end

