-- ==== Sys2Proof/Laws/Frames.lean ====
section
/-! SUPPORT. Numbers in bytes, and the checks of the frames this end builds (08_mesh_links.md R236, R237). -/
namespace Sys2Proof.Machine

@[simp] theorem bytesLE_length (n x : Nat) : (bytesLE n x).length = n := by
  induction n generalizing x with
  | zero => rfl
  | succ n ih => simp [bytesLE, ih]

/-- Bytes of a number give it back, modulo what they can hold. -/
theorem natLE_bytesLE (n x : Nat) : natLE (bytesLE n x) = x % 256 ^ n := by
  induction n generalizing x with
  | zero => simp [bytesLE, natLE, Nat.mod_one]
  | succ n ih =>
    have hp : 256 ^ (n + 1) = 256 * 256 ^ n := by rw [Nat.pow_succ, Nat.mul_comm]
    rw [bytesLE, natLE, ih, BitVec.toNat_ofNat, hp, Nat.mod_mul]

theorem natLE_append (a b : List Byte) : natLE (a ++ b) = natLE a + 256 ^ a.length * natLE b := by
  induction a with
  | nil => simp [natLE]
  | cons x a ih =>
    rw [List.cons_append, natLE, ih, natLE, List.length_cons, Nat.pow_succ, Nat.mul_add, Nat.mul_comm (256 ^ a.length) 256,
      Nat.mul_assoc, Nat.add_assoc]

theorem natLE_lt (a : List Byte) : natLE a < 256 ^ a.length := by
  induction a with
  | nil => simp [natLE]
  | cons x a ih => rw [natLE, List.length_cons, Nat.pow_succ]; have := x.isLt; omega

/-- Bytes that stand between others. -/
theorem leAt_middle (a b c : List Byte) : leAt (a ++ (b ++ c)) a.length b.length = natLE b := by
  rw [leAt, List.drop_left, List.take_left]

theorem crc16_lt (bs : List Byte) : crc16 bs < 2 ^ 16 := BitVec.isLt _
theorem crc32_lt (bs : List Byte) : crc32 bs < 2 ^ 32 := BitVec.isLt _
theorem crc32_mod (bs : List Byte) : crc32 bs % 256 ^ 4 = crc32 bs := Nat.mod_eq_of_lt (by have := crc32_lt bs; omega)

/-- A control frame this end builds passes the check of its kind (R237). -/
theorem ctlFrameOk_ctlFrame (kind : Nat) (rest : List Byte) (hk : kind < 256) : ctlFrameOk kind (ctlFrame kind rest) = true := by
  have hb : (((BitVec.ofNat 8 kind :: rest) ++ List.replicate 260 0).take 260).length = 260 := by
    simp only [List.length_take, List.length_append, List.length_cons, List.length_replicate]; omega
  have hh : ((BitVec.ofNat 8 kind :: rest) ++ List.replicate 260 0).take 260
      = BitVec.ofNat 8 kind :: (rest ++ List.replicate 260 0).take 259 := rfl
  rw [ctlFrame]
  generalize hx : ((BitVec.ofNat 8 kind :: rest) ++ List.replicate 260 0).take 260 = body at *
  have hc : leAt (body ++ bytesLE 4 (crc32 body)) 260 4 = crc32 body := by
    have := leAt_middle body (bytesLE 4 (crc32 body)) []
    rw [List.append_nil, hb, bytesLE_length, natLE_bytesLE, crc32_mod] at this
    exact this
  have h0 : leAt (body ++ bytesLE 4 (crc32 body)) 0 1 = kind := by
    rw [hh, List.cons_append, leAt, List.drop_zero, List.take_succ_cons, List.take_zero, natLE, natLE, BitVec.toNat_ofNat]
    exact Nat.mod_eq_of_lt hk
  simp only [ctlFrameOk, List.length_append, hb, bytesLE_length, hc, h0, List.take_left' hb, beq_self_eq_true, Bool.and_self]

/-- The control word of a frame this end builds (R236). -/
theorem fcw_flitFrame (data : List Byte) (hd : data.length = 256) (lmask x y z kind plot seq : Nat) :
    ∃ c, c < 2 ^ 16 ∧ leAt (flitFrame data lmask x y z kind plot seq) 256 8
      = (lmask * 2 ^ 31 + x * 2 ^ 27 + y * 2 ^ 23 + z * 2 ^ 20 + kind * 2 ^ 18 + plot * 2 ^ 12 + seq) % 2 ^ 48 + 2 ^ 48 * c
      ∧ c = crc16 ((flitFrame data lmask x y z kind plot seq).take 262) := by
  rw [flitFrame]
  generalize lmask * 2 ^ 31 + x * 2 ^ 27 + y * 2 ^ 23 + z * 2 ^ 20 + kind * 2 ^ 18 + plot * 2 ^ 12 + seq = w
  refine ⟨crc16 (data ++ bytesLE 6 w), crc16_lt _, ?_, ?_⟩
  · have := leAt_middle data (bytesLE 6 w ++ bytesLE 2 (crc16 (data ++ bytesLE 6 w))) []
    rw [List.append_nil, hd, List.length_append, bytesLE_length, bytesLE_length, natLE_append, natLE_bytesLE, natLE_bytesLE,
      bytesLE_length, Nat.mod_eq_of_lt (show crc16 (data ++ bytesLE 6 w) < 256 ^ 2 from crc16_lt _)] at this
    rw [List.append_assoc]
    exact this
  · rw [List.take_left' (by simp [hd])]

/-- A flit frame this end builds passes its check (R236). -/
theorem flitOk_flitFrame (data : List Byte) (hd : data.length = 256) (lmask x y z kind plot seq : Nat) :
    flitOk (flitFrame data lmask x y z kind plot seq) = true := by
  obtain ⟨c, hc, hw, he⟩ := fcw_flitFrame data hd lmask x y z kind plot seq
  have hl : (flitFrame data lmask x y z kind plot seq).length = 264 := by simp [flitFrame, hd]
  have hm := Nat.mod_lt (lmask * 2 ^ 31 + x * 2 ^ 27 + y * 2 ^ 23 + z * 2 ^ 20 + kind * 2 ^ 18 + plot * 2 ^ 12 + seq)
    (show 0 < 2 ^ 48 by decide)
  simp only [flitOk, hl, fcwOf, hw, ← he, bits, Bool.and_eq_true, beq_iff_eq, true_and]
  omega

/-- The control word a flit frame carries is the one it was built with (R236). -/
theorem fcwOf_flitFrame (data : List Byte) (hd : data.length = 256) {lmask x y z kind plot seq : Nat} (_hm : lmask < 2 ^ 17)
    (_hx : x < 16) (_hy : y < 16) (_hz : z < 8) (_hk : kind < 4) (_hp : plot < 16) (_hs : seq < 4096) :
    let f := fcwOf (flitFrame data lmask x y z kind plot seq)
    f.kind = kind ∧ f.plot = plot ∧ f.seq = seq := by
  obtain ⟨c, hc, hw, -⟩ := fcw_flitFrame data hd lmask x y z kind plot seq
  simp only [fcwOf, hw, bits, Nat.shiftRight_eq_div_pow]
  omega

/-- Bytes within the first of two strings. -/
theorem leAt_append (a b : List Byte) {i n : Nat} (h : i + n ≤ a.length) : leAt (a ++ b) i n = leAt a i n := by
  rw [leAt, leAt, List.drop_append_of_le_length (by omega), List.take_append_of_le_length (by rw [List.length_drop]; omega)]

/-- A control frame begins with its kind and content. -/
theorem ctlFrame_begins (kind : Nat) (rest : List Byte) (h : rest.length ≤ 259) :
    ∃ t, ctlFrame kind rest = (BitVec.ofNat 8 kind :: rest) ++ t := by
  rw [ctlFrame, List.take_append, List.take_of_length_le (by rw [List.length_cons]; omega), List.append_assoc]
  exact ⟨_, rfl⟩

theorem shaRound_length (v : List (BitVec 64)) (kw : BitVec 64) (h : v.length = 8) : (shaRound v kw).length = 8 := by
  match v, h with
  | [_, _, _, _, _, _, _, _], _ => rfl

theorem shaRounds_length (ks v : List (BitVec 64)) (h : v.length = 8) : (ks.foldl shaRound v).length = 8 := by
  induction ks generalizing v with
  | nil => exact h
  | cons k ks ih => exact ih _ (shaRound_length v k h)

theorem shaBlocks_length (n : Nat) (h : List (BitVec 64)) (bs : List Byte) (hl : h.length = 8) : (shaBlocks n h bs).length = 8 := by
  induction n generalizing h bs with
  | zero => exact hl
  | succ n ih => exact ih _ _ (by rw [shaBlock, List.length_zipWith, hl, shaRounds_length _ _ hl]; rfl)

/-- SHA-384 gives 48 bytes. -/
theorem sha384_length (m : List Byte) : (sha384 m).length = 48 := by
  have h := shaBlocks_length ((shaPad m).length / 128) sha384Init (shaPad m) rfl
  rw [sha384]
  generalize shaBlocks ((shaPad m).length / 128) sha384Init (shaPad m) = v at h
  match v, h with
  | [_, _, _, _, _, _, _, _], _ => rfl

/-- The configuration digest has 16 bytes (R243). -/
theorem configDigest_length (s : State) : (configDigest s).length = 16 := by
  rw [configDigest, List.length_take, sha384_length]; rfl

end Sys2Proof.Machine
end

