-- ==== Sys2Proof/Laws/Links.lean ====
section
/-! SUPPORT. What cuts and phases of links do once for all: the links, the POSTs and reports change. -/
namespace Sys2Proof.Machine

/-- The state without what cuts and phases of links change. -/
def linklessPart (s : State) : State := { unitPart s with link := [], post := [] }

theorem linkless_of_unit {s v : State} (h : unitPart v = unitPart s) : linklessPart v = linklessPart s := by
  unfold linklessPart; rw [h]

@[simp] theorem linkless_onLink (p l : Nat) (f : Link → Link) (s : State) :
    linklessPart (onLink p l f s) = linklessPart s := (rfl)

@[simp] theorem linkless_setPhase (p l : Nat) (ph : LinkPhase) (s : State) :
    linklessPart (setPhase p l ph s) = linklessPart s := linkless_onLink ..

@[simp] theorem linkless_setFlds (fs : List (Fld × Nat)) (s : State) : linklessPart (setFlds fs s) = linklessPart s :=
  linkless_of_unit (unitPart_setFlds ..)

@[simp] theorem linkless_linkFault (k n p l pc : Nat) (s : State) :
    linklessPart (linkFault k n p l pc s) = linklessPart s := linkless_of_unit (unitPart_linkFault ..)

@[simp] theorem linkless_cutSends (p l : Nat) (r : Bool) (f : SendPart → Bool) (s : State) :
    linklessPart (cutSends p l r f s) = linklessPart s := by
  unfold cutSends
  simp only
  split
  · rw [forAll_keeps (g := linklessPart) (fun _ _ => linkless_linkFault _ _ _ _ _ _)]
    exact linkless_onLink ..
  · exact linkless_onLink ..

@[simp] theorem linkless_closePart (p l id : Nat) (d : Bool) (s : State) :
    linklessPart (closePart p l id d s) = linklessPart s := by
  unfold closePart
  simp only
  split
  · exact linkless_onLink ..
  · rename_i q _
    have : ∀ (m : Map Post) (t : State), linklessPart { t with post := m } = linklessPart t := fun _ _ => rfl
    rw [this, linkless_onLink]

@[simp] theorem linkless_cutPosts (p l : Nat) (r : Bool) (f : PostPart → Post → Bool) (s : State) :
    linklessPart (cutPosts p l r f s) = linklessPart s := by
  unfold cutPosts
  refine forAll_keeps (g := linklessPart) ?_ _ _
  intro x t
  split
  · rfl
  · split
    · split <;> simp
    · rfl

@[simp] theorem linkless_cutAltered (p l : Nat) (s : State) : linklessPart (cutAltered p l s) = linklessPart s := by
  unfold cutAltered
  simp

end Sys2Proof.Machine
end

