-- ==== Sys2Proof/Laws/Rows.lean ====
section
/-! SUPPORT. When an offset of the register map has a register, by its row; what the write of a register leaves alone. -/
namespace Sys2Proof.Machine

theorem findRow_some {off : Nat} {r : RegRow} {l : List RegRow} (hm : r ∈ l) (hr : (rowIndex r off).isSome = true) :
    (findRow off l).isSome = true := by
  induction l with
  | nil => cases hm
  | cons x l ih =>
    unfold findRow
    split
    · rfl
    · rename_i hx
      rcases List.mem_cons.mp hm with rfl | h
      · rw [hx] at hr; simp at hr
      · exact ih h

/-- An offset of a row of its block has a register. -/
theorem row_of {off : Nat} {l : List RegRow} (r : RegRow) (hb : regBlock off = l) (hm : r ∈ l)
    (hr : (rowIndex r off).isSome = true) : (regRow off).isSome = true := by
  unfold regRow
  rw [hb]
  exact findRow_some hm hr

/-- The register (i, j) of a row of two indices. -/
theorem rowIndex_two {r : RegRow} {i j : Nat} (h1 : r.n1 ≠ 1) (hi : i < r.n1) (hj : j < r.n2) (h2 : r.n2 * r.s2 ≤ r.s1)
    (hs : 0 < r.s2) : (rowIndex r (r.base + i * r.s1 + j * r.s2)).isSome = true := by
  have hb : j * r.s2 < r.s1 := Nat.lt_of_lt_of_le (Nat.mul_lt_mul_of_pos_right hj hs) h2
  have h3 : r.base + i * r.s1 + j * r.s2 - r.base = i * r.s1 + j * r.s2 := by omega
  have h4 : (i * r.s1 + j * r.s2) / r.s1 = i := by
    rw [Nat.mul_comm i, Nat.mul_add_div (by omega), Nat.div_eq_of_lt hb]; rfl
  have h5 : (i * r.s1 + j * r.s2) % r.s1 / r.s2 = j := by
    rw [Nat.mul_comm i, Nat.mul_add_mod, Nat.mod_eq_of_lt hb, Nat.mul_div_cancel _ hs]
  unfold rowIndex
  rw [if_neg (by omega)]
  simp only [h3, h4, h5, h1, if_false]
  rw [if_pos ⟨hi, hj, trivial⟩]
  rfl

/-- The register j of a row of one index. -/
theorem rowIndex_one {r : RegRow} {j : Nat} (h1 : r.n1 = 1) (hj : j < r.n2) (hs : 0 < r.s2) :
    (rowIndex r (r.base + j * r.s2)).isSome = true := by
  have h3 : r.base + j * r.s2 - r.base = j * r.s2 := by omega
  unfold rowIndex
  rw [if_neg (by omega)]
  simp only [h3, h1, if_true]
  rw [if_pos ⟨by decide, by rw [Nat.mul_div_cancel _ hs]; exact hj, by rw [Nat.mul_div_cancel _ hs]; omega⟩]
  rfl

theorem block_link {o : Nat} (h : o / 0x100000 = 6) : regBlock o = regLink := by unfold regBlock; simp only [h]
theorem block_csc {o : Nat} (h : o / 0x100000 = 7) : regBlock o = regCsc := by unfold regBlock; simp only [h]
theorem block_anneal {o : Nat} (h : o / 0x100000 = 8) : regBlock o = regAnneal := by unfold regBlock; simp only [h]
theorem block_optics {o : Nat} (h : o / 0x100000 = 9) : regBlock o = regOptics := by unfold regBlock; simp only [h]
theorem block_sundial {o : Nat} (h : o / 0x100000 = 10) : regBlock o = regSundial := by unfold regBlock; simp only [h]
theorem block_trim {o : Nat} (h : o / 0x100000 = 14) : regBlock o = regTrim := by unfold regBlock; simp only [h]
theorem block_plot {o : Nat} (h : o / 0x100000 = 1) : regBlock o = regPlot := by unfold regBlock; simp only [h]

/-! ### What a write's latches and its plain part leave alone -/

/-- The state without the latches. -/
def latchlessPart (s : State) : State := { s with latch := [] }

@[simp] theorem latchless_writeLatches (a : Accessor) (off : Nat) (s : State) :
    latchlessPart (writeLatches a off s) = latchlessPart s := by
  unfold writeLatches endLatches
  split <;> rfl

@[simp] theorem writeLatches_now (a : Accessor) (off : Nat) (s : State) : (writeLatches a off s).now = s.now := by
  unfold writeLatches; split <;> rfl
@[simp] theorem writeLatches_regs (a : Accessor) (off : Nat) (s : State) : (writeLatches a off s).regs = s.regs := by
  unfold writeLatches; split <;> rfl
@[simp] theorem reg_writeLatches (a : Accessor) (off o : Nat) (s : State) : reg o (writeLatches a off s) = reg o s :=
  reg_congr (writeLatches_regs ..) o
@[simp] theorem fld_writeLatches (a : Accessor) (off : Nat) (f : Fld) (s : State) :
    fld f (writeLatches a off s) = fld f s := fld_congr (writeLatches_regs ..) f
@[simp] theorem flag_writeLatches (a : Accessor) (off : Nat) (f : Fld) (s : State) :
    flag f (writeLatches a off s) = flag f s := by unfold flag; rw [fld_writeLatches]

@[simp] theorem unitPart_noteWrite (off mask : Nat) (s : State) : unitPart (noteWrite off mask s) = unitPart s := (rfl)
@[simp] theorem reg_noteWrite (off mask o : Nat) (s : State) : reg o (noteWrite off mask s) = reg o s := (rfl)

@[simp] theorem unitPart_plainWrite (off : Nat) (w : Word) (s : State) : unitPart (plainWrite off w s) = unitPart s := by
  unfold plainWrite
  split
  · rfl
  · simp

/-- A plain write changes its own register alone. -/
theorem reg_plainWrite {off o : Nat} (h : o ≠ off) (w : Word) (s : State) : reg o (plainWrite off w s) = reg o s := by
  unfold plainWrite
  split
  · rfl
  · unfold clearW1c
    split
    · rw [reg_setReg_other h, reg_noteWrite]
    · simp only
      rw [reg_setReg_other h, reg_setReg_other h, reg_noteWrite]

end Sys2Proof.Machine
end

