-- ==== Sys2Proof/Laws/Optics.lean ====
section
/-! SUPPORT. What lasers, heater loops and trims do once for all: the optics, the loops and reports change. -/
namespace Sys2Proof.Machine

/-- The state without what lasers and loops change. -/
def optlessPart (s : State) : State := { unitPart s with opt := {}, anl := {} }

theorem optless_of_unit {s v : State} (h : unitPart v = unitPart s) : optlessPart v = optlessPart s := by
  unfold optlessPart; rw [h]

@[simp] theorem optless_onOpt (f : Optics → Optics) (s : State) : optlessPart (onOpt f s) = optlessPart s := (rfl)
@[simp] theorem optless_onAnl (f : Anneal → Anneal) (s : State) : optlessPart (onAnl f s) = optlessPart s := (rfl)
@[simp] theorem optless_onLaser (p j : Nat) (f : Laser → Laser) (s : State) :
    optlessPart (onLaser p j f s) = optlessPart s := optless_onOpt ..
@[simp] theorem optless_onLoop (k : Nat) (f : Loop → Loop) (s : State) :
    optlessPart (onLoop k f s) = optlessPart s := optless_onAnl ..
@[simp] theorem optless_setFld (g : Fld) (v : Nat) (s : State) : optlessPart (setFld g v s) = optlessPart s :=
  optless_of_unit (unitPart_setFld ..)
@[simp] theorem optless_setFlds (fs : List (Fld × Nat)) (s : State) : optlessPart (setFlds fs s) = optlessPart s :=
  optless_of_unit (unitPart_setFlds ..)

@[simp] theorem optless_setLaser (p j st : Nat) (s : State) : optlessPart (setLaser p j st s) = optlessPart s := by
  unfold setLaser
  simp only
  split
  · simp
  · split <;> simp

@[simp] theorem optless_setBias (p j r : Nat) (s : State) : optlessPart (setBias p j r s) = optlessPart s := by
  unfold setBias; simp

@[simp] theorem optless_powerOff (p j : Nat) (s : State) : optlessPart (powerOff p j s) = optlessPart s := by
  unfold powerOff; simp

@[simp] theorem optless_startLaserLoop (p j w : Nat) (s : State) :
    optlessPart (startLaserLoop p j w s) = optlessPart s := by
  unfold startLaserLoop; split <;> simp

@[simp] theorem optless_stopLoop (k : Nat) (s : State) : optlessPart (stopLoop k s) = optlessPart s := by
  unfold stopLoop; simp

@[simp] theorem optless_holdLoops (b : Bool) (ks : List Nat) (s : State) : optlessPart (holdLoops b ks s) = optlessPart s :=
  forAll_keeps (g := optlessPart) (fun _ _ => optless_onLoop ..) ks s

@[simp] theorem optless_bankEnable (p : Nat) (b : Bool) (s : State) : optlessPart (bankEnable p b s) = optlessPart s := by
  unfold bankEnable
  extract_lets on_ grid spare off
  split
  · rw [loop_keeps (g := optlessPart), loop_keeps (g := optlessPart)]
    · intro i s; show optlessPart (if _ then _ else _) = _; split <;> simp
    · intro i s; show optlessPart (if _ then _ else _) = _; split <;> simp
  · split
    · apply loop_keeps (g := optlessPart)
      intro i s
      simp only [off]
      repeat' split
      all_goals simp
    · rfl

@[simp] theorem fld_setUpds (f : Fld) (u : Updates) (s : State) : fld f (setUpds u s) = fld f s := (rfl)

@[simp] theorem setUpds_out (v : Updates) (s : State) : (setUpds v s).out = s.out := (rfl)

/-- Raising a W1C field sends nothing. -/
@[simp] theorem raise_out (g : Fld) (v : Nat) (s : State) : (raise g v s).out = s.out := by
  unfold raise
  simp only
  rw [setFld_out, setUpds_out]

/-- A W1C bit raised leaves every other field alone. -/
theorem fld_raise_other {f g : Fld} (hf : fieldOk f) (hg : fieldOk g) (h : fieldsApart g f) (v : Nat) (s : State) :
    fld g (raise f v s) = fld g s := by
  unfold raise
  simp only
  rw [fld_setFld_other hf hg h, fld_setUpds]

/-- Raised, a field holds the bits it held and those it was given. -/
theorem fld_raise_same (f : Fld) (hf : fieldOk f) (v : Nat) (s : State) :
    fld f (raise f v s) = (fld f s ||| v) % 2 ^ (f.hi + 1 - f.lo) := by
  unfold raise
  simp only
  rw [fld_setFld_same f hf]

/-! ### Registers of the lasers, the monitors and the trims, written -/

theorem bankCtrl_write (a : Accessor) {p : Nat} (hp : p < 6) (w : Word) {u : State} (h : Reaches a u) (c : Map Nat) :
    regWrite a (rOPT_BANK_CTRL p) w c u
      = hostFirst a (rOPT_BANK_CTRL p) (bankEnable p (flag (OPT_BANK_CTRL_ENABLE p) u)
          (plainWrite (rOPT_BANK_CTRL p) w (writeLatches a (rOPT_BANK_CTRL p) u))) := by
  have hw : regWrite a (rOPT_BANK_CTRL p) w c u = writeReg a (rOPT_BANK_CTRL p) w c u := by
    match p, hp with
    | 0, _ | 1, _ | 2, _ | 3, _ | 4, _ | 5, _ => exact regWrite_direct h (by decide) (by decide) (by decide) ..
  rw [hw, ← flag_writeLatches a (rOPT_BANK_CTRL p)]
  unfold writeReg
  extract_lets z
  have h1 : rOPT_BANK_CTRL p = 0x900100 + 32 * p := (rfl)
  have h9 : rOPT_BANK_CTRL p / 0x100000 = 9 := by omega
  have hq : (rOPT_BANK_CTRL p - 0x900100) / 32 = p := by omega
  simp only [h9]
  unfold opticsWrite
  rw [if_neg (show rOPT_BANK_CTRL p ≠ 0x900000 by omega), if_neg (show rOPT_BANK_CTRL p ≠ 0x900008 by omega),
    if_neg (show rOPT_BANK_CTRL p ≠ rOPT_LANE_FFE by
      have : rOPT_LANE_FFE < 0x900100 := by decide
      omega), if_pos (by omega)]
  simp only [hq]
  rfl

theorem measCtrl_write (a : Accessor) (w : Word) {u : State} (h : Reaches a u) (c : Map Nat) :
    regWrite a rOPT_MEAS_CTRL w c u
      = hostFirst a rOPT_MEAS_CTRL (opticsWrite a rOPT_MEAS_CTRL w (writeLatches a rOPT_MEAS_CTRL u)) := by
  rw [regWrite_direct h (by decide) (by decide) (by decide)]
  rfl

theorem trim_write (a : Accessor) (w : Word) {u : State} (h : Reaches a u) {off : Nat} (h1 : 0xE01000 ≤ off)
    (h2 : off < 0xF00000) (h4 : off % 4 = 0) (hr : (regRow off).isSome = true) (c : Map Nat) :
    regWrite a off w c u = hostFirst a off (trimWrite a off w (writeLatches a off u)) := by
  rw [regWrite_direct h h4 h2 hr]
  unfold writeReg
  have : off / 0x100000 = 14 := by omega
  simp only [this]
  unfold trimRegWrite
  rw [if_pos ⟨h1, hr⟩]

theorem ring_row {i : Nat} (hi : i < 918) : (regRow (rTRM_RING i)).isSome = true := by
  refine row_of ⟨0xE02000, 1, 1, 918, 4, 0x0, 0x0, 0x3FF0000, 0x0, 0x0, 0x0⟩ (block_trim ?_) (by decide) ?_
  · show (0xE02000 + 4 * i) / 0x100000 = 14; omega
  · have := rowIndex_one (r := ⟨0xE02000, 1, 1, 918, 4, 0x0, 0x0, 0x3FF0000, 0x0, 0x0, 0x0⟩) (j := i) rfl hi (by decide)
    rwa [Nat.mul_comm] at this

theorem swing_row {i : Nat} (hi : i < 918) : (regRow (rTRM_SWING i)).isSome = true := by
  refine row_of ⟨0xE03000, 1, 1, 918, 4, 0x0, 0x0, 0xFF0000, 0x0, 0x0, 0x0⟩ (block_trim ?_) (by decide) ?_
  · show (0xE03000 + 4 * i) / 0x100000 = 14; omega
  · have := rowIndex_one (r := ⟨0xE03000, 1, 1, 918, 4, 0x0, 0x0, 0xFF0000, 0x0, 0x0, 0x0⟩) (j := i) rfl hi (by decide)
    rwa [Nat.mul_comm] at this

theorem laserTrim_row {p j : Nat} (hp : p < 6) (hj : j < 11) : (regRow (rTRM_LASER p j)).isSome = true := by
  refine row_of ⟨0xE01000, 6, 64, 11, 4, 0x0, 0x0, 0x1FFF0000, 0x0, 0x0, 0x0⟩ (block_trim ?_) (by decide) ?_
  · show (0xE01000 + 64 * p + 4 * j) / 0x100000 = 14; omega
  · have := rowIndex_two (r := ⟨0xE01000, 6, 64, 11, 4, 0x0, 0x0, 0x1FFF0000, 0x0, 0x0, 0x0⟩) (i := p) (j := j)
      (by decide) hp hj (by decide) (by decide)
    rwa [Nat.mul_comm p, Nat.mul_comm j] at this

end Sys2Proof.Machine
end

