-- ==== Sys2Proof/Laws/Parts.lean ====
section
/-! SUPPORT. The fields that equal parts of two states share. -/
namespace Sys2Proof.Machine

theorem now_of_unit {s v : State} (h : unitPart v = unitPart s) : v.now = s.now :=
  (congrArg State.now h : (unitPart v).now = (unitPart s).now)
theorem fresh_of_unit {s v : State} (h : unitPart v = unitPart s) : v.fresh = s.fresh :=
  (congrArg State.fresh h : (unitPart v).fresh = (unitPart s).fresh)
theorem latch_of_unit {s v : State} (h : unitPart v = unitPart s) : v.latch = s.latch :=
  (congrArg State.latch h : (unitPart v).latch = (unitPart s).latch)
theorem vfs_of_unit {s v : State} (h : unitPart v = unitPart s) : v.vfs = s.vfs :=
  (congrArg State.vfs h : (unitPart v).vfs = (unitPart s).vfs)
theorem ari_of_unit {s v : State} (h : unitPart v = unitPart s) : v.ari = s.ari :=
  (congrArg State.ari h : (unitPart v).ari = (unitPart s).ari)
theorem eid_of_unit {s v : State} (h : unitPart v = unitPart s) : v.eid = s.eid :=
  (congrArg State.eid h : (unitPart v).eid = (unitPart s).eid)
theorem i3cAddr_of_unit {s v : State} (h : unitPart v = unitPart s) : v.i3cAddr = s.i3cAddr :=
  (congrArg State.i3cAddr h : (unitPart v).i3cAddr = (unitPart s).i3cAddr)
theorem cores_of_unit {s v : State} (h : unitPart v = unitPart s) : v.cores = s.cores :=
  (congrArg State.cores h : (unitPart v).cores = (unitPart s).cores)
theorem seq_of_unit {s v : State} (h : unitPart v = unitPart s) : v.seq = s.seq :=
  (congrArg State.seq h : (unitPart v).seq = (unitPart s).seq)
theorem traceStop_of_unit {s v : State} (h : unitPart v = unitPart s) : v.traceStop = s.traceStop :=
  (congrArg State.traceStop h : (unitPart v).traceStop = (unitPart s).traceStop)
theorem strapI3c_of_unit {s v : State} (h : unitPart v = unitPart s) : v.strapI3c = s.strapI3c :=
  (congrArg State.strapI3c h : (unitPart v).strapI3c = (unitPart s).strapI3c)
theorem hbm_of_unit {s v : State} (h : unitPart v = unitPart s) : v.hbm = s.hbm :=
  (congrArg State.hbm h : (unitPart v).hbm = (unitPart s).hbm)
theorem eng_of_unit {s v : State} (h : unitPart v = unitPart s) : v.eng = s.eng :=
  (congrArg State.eng h : (unitPart v).eng = (unitPart s).eng)
theorem desc_of_unit {s v : State} (h : unitPart v = unitPart s) : v.desc = s.desc :=
  (congrArg State.desc h : (unitPart v).desc = (unitPart s).desc)
theorem dload_of_unit {s v : State} (h : unitPart v = unitPart s) : v.dload = s.dload :=
  (congrArg State.dload h : (unitPart v).dload = (unitPart s).dload)
theorem tally_of_unit {s v : State} (h : unitPart v = unitPart s) : v.tally = s.tally :=
  (congrArg State.tally h : (unitPart v).tally = (unitPart s).tally)
theorem sdl_of_unit {s v : State} (h : unitPart v = unitPart s) : v.sdl = s.sdl :=
  (congrArg State.sdl h : (unitPart v).sdl = (unitPart s).sdl)
theorem queue_of_unit {s v : State} (h : unitPart v = unitPart s) : v.queue = s.queue :=
  (congrArg State.queue h : (unitPart v).queue = (unitPart s).queue)
theorem meter_of_unit {s v : State} (h : unitPart v = unitPart s) : v.meter = s.meter :=
  (congrArg State.meter h : (unitPart v).meter = (unitPart s).meter)
theorem mrec_of_unit {s v : State} (h : unitPart v = unitPart s) : v.mrec = s.mrec :=
  (congrArg State.mrec h : (unitPart v).mrec = (unitPart s).mrec)
theorem mtrNext_of_unit {s v : State} (h : unitPart v = unitPart s) : v.mtrNext = s.mtrNext :=
  (congrArg State.mtrNext h : (unitPart v).mtrNext = (unitPart s).mtrNext)
theorem slice_of_unit {s v : State} (h : unitPart v = unitPart s) : v.slice = s.slice :=
  (congrArg State.slice h : (unitPart v).slice = (unitPart s).slice)
theorem aborts_of_unit {s v : State} (h : unitPart v = unitPart s) : v.aborts = s.aborts :=
  (congrArg State.aborts h : (unitPart v).aborts = (unitPart s).aborts)
theorem haltAt_of_unit {s v : State} (h : unitPart v = unitPart s) : v.haltAt = s.haltAt :=
  (congrArg State.haltAt h : (unitPart v).haltAt = (unitPart s).haltAt)
theorem therm_of_unit {s v : State} (h : unitPart v = unitPart s) : v.therm = s.therm :=
  (congrArg State.therm h : (unitPart v).therm = (unitPart s).therm)
theorem tripAt_of_unit {s v : State} (h : unitPart v = unitPart s) : v.tripAt = s.tripAt :=
  (congrArg State.tripAt h : (unitPart v).tripAt = (unitPart s).tripAt)
theorem thermtrip_of_unit {s v : State} (h : unitPart v = unitPart s) : v.thermtrip = s.thermtrip :=
  (congrArg State.thermtrip h : (unitPart v).thermtrip = (unitPart s).thermtrip)
theorem inj_of_unit {s v : State} (h : unitPart v = unitPart s) : v.inj = s.inj :=
  (congrArg State.inj h : (unitPart v).inj = (unitPart s).inj)
theorem dark_of_unit {s v : State} (h : unitPart v = unitPart s) : v.dark = s.dark :=
  (congrArg State.dark h : (unitPart v).dark = (unitPart s).dark)
theorem wdogAt_of_unit {s v : State} (h : unitPart v = unitPart s) : v.wdogAt = s.wdogAt :=
  (congrArg State.wdogAt h : (unitPart v).wdogAt = (unitPart s).wdogAt)
theorem recs_of_unit {s v : State} (h : unitPart v = unitPart s) : v.recs = s.recs :=
  (congrArg State.recs h : (unitPart v).recs = (unitPart s).recs)
theorem recEpoch_of_unit {s v : State} (h : unitPart v = unitPart s) : v.recEpoch = s.recEpoch :=
  (congrArg State.recEpoch h : (unitPart v).recEpoch = (unitPart s).recEpoch)
theorem flush_of_unit {s v : State} (h : unitPart v = unitPart s) : v.flush = s.flush :=
  (congrArg State.flush h : (unitPart v).flush = (unitPart s).flush)
theorem flushWait_of_unit {s v : State} (h : unitPart v = unitPart s) : v.flushWait = s.flushWait :=
  (congrArg State.flushWait h : (unitPart v).flushWait = (unitPart s).flushWait)
theorem flushEnd_of_unit {s v : State} (h : unitPart v = unitPart s) : v.flushEnd = s.flushEnd :=
  (congrArg State.flushEnd h : (unitPart v).flushEnd = (unitPart s).flushEnd)
theorem hmkAt_of_unit {s v : State} (h : unitPart v = unitPart s) : v.hmkAt = s.hmkAt :=
  (congrArg State.hmkAt h : (unitPart v).hmkAt = (unitPart s).hmkAt)
theorem replay_of_unit {s v : State} (h : unitPart v = unitPart s) : v.replay = s.replay :=
  (congrArg State.replay h : (unitPart v).replay = (unitPart s).replay)
theorem replayNo_of_unit {s v : State} (h : unitPart v = unitPart s) : v.replayNo = s.replayNo :=
  (congrArg State.replayNo h : (unitPart v).replayNo = (unitPart s).replayNo)
theorem pwrHigh_of_unit {s v : State} (h : unitPart v = unitPart s) : v.pwrHigh = s.pwrHigh :=
  (congrArg State.pwrHigh h : (unitPart v).pwrHigh = (unitPart s).pwrHigh)
theorem pwrHighAt_of_unit {s v : State} (h : unitPart v = unitPart s) : v.pwrHighAt = s.pwrHighAt :=
  (congrArg State.pwrHighAt h : (unitPart v).pwrHighAt = (unitPart s).pwrHighAt)
theorem bkpFail_of_unit {s v : State} (h : unitPart v = unitPart s) : v.bkpFail = s.bkpFail :=
  (congrArg State.bkpFail h : (unitPart v).bkpFail = (unitPart s).bkpFail)
theorem link_of_unit {s v : State} (h : unitPart v = unitPart s) : v.link = s.link :=
  (congrArg State.link h : (unitPart v).link = (unitPart s).link)
theorem post_of_unit {s v : State} (h : unitPart v = unitPart s) : v.post = s.post :=
  (congrArg State.post h : (unitPart v).post = (unitPart s).post)
theorem sendData_of_unit {s v : State} (h : unitPart v = unitPart s) : v.sendData = s.sendData :=
  (congrArg State.sendData h : (unitPart v).sendData = (unitPart s).sendData)
theorem linkPlot_of_unit {s v : State} (h : unitPart v = unitPart s) : v.linkPlot = s.linkPlot :=
  (congrArg State.linkPlot h : (unitPart v).linkPlot = (unitPart s).linkPlot)
theorem xferNo_of_unit {s v : State} (h : unitPart v = unitPart s) : v.xferNo = s.xferNo :=
  (congrArg State.xferNo h : (unitPart v).xferNo = (unitPart s).xferNo)
theorem extents_of_unit {s v : State} (h : unitPart v = unitPart s) : v.extents = s.extents :=
  (congrArg State.extents h : (unitPart v).extents = (unitPart s).extents)
theorem csc_of_unit {s v : State} (h : unitPart v = unitPart s) : v.csc = s.csc :=
  (congrArg State.csc h : (unitPart v).csc = (unitPart s).csc)
theorem opt_of_unit {s v : State} (h : unitPart v = unitPart s) : v.opt = s.opt :=
  (congrArg State.opt h : (unitPart v).opt = (unitPart s).opt)
theorem anl_of_unit {s v : State} (h : unitPart v = unitPart s) : v.anl = s.anl :=
  (congrArg State.anl h : (unitPart v).anl = (unitPart s).anl)
theorem fuses_of_unit {s v : State} (h : unitPart v = unitPart s) : v.fuses = s.fuses :=
  (congrArg State.fuses h : (unitPart v).fuses = (unitPart s).fuses)
theorem nor_of_unit {s v : State} (h : unitPart v = unitPart s) : v.nor = s.nor :=
  (congrArg State.nor h : (unitPart v).nor = (unitPart s).nor)
theorem mram_of_unit {s v : State} (h : unitPart v = unitPart s) : v.mram = s.mram :=
  (congrArg State.mram h : (unitPart v).mram = (unitPart s).mram)
theorem fw_of_unit {s v : State} (h : unitPart v = unitPart s) : v.fw = s.fw :=
  (congrArg State.fw h : (unitPart v).fw = (unitPart s).fw)
theorem powered_of_unit {s v : State} (h : unitPart v = unitPart s) : v.powered = s.powered :=
  (congrArg State.powered h : (unitPart v).powered = (unitPart s).powered)
theorem inReset_of_unit {s v : State} (h : unitPart v = unitPart s) : v.inReset = s.inReset :=
  (congrArg State.inReset h : (unitPart v).inReset = (unitPart s).inReset)
theorem testEn_of_unit {s v : State} (h : unitPart v = unitPart s) : v.testEn = s.testEn :=
  (congrArg State.testEn h : (unitPart v).testEn = (unitPart s).testEn)
theorem strapAddr_of_unit {s v : State} (h : unitPart v = unitPart s) : v.strapAddr = s.strapAddr :=
  (congrArg State.strapAddr h : (unitPart v).strapAddr = (unitPart s).strapAddr)
theorem releaseAt_of_unit {s v : State} (h : unitPart v = unitPart s) : v.releaseAt = s.releaseAt :=
  (congrArg State.releaseAt h : (unitPart v).releaseAt = (unitPart s).releaseAt)
theorem pwrLowAt_of_unit {s v : State} (h : unitPart v = unitPart s) : v.pwrLowAt = s.pwrLowAt :=
  (congrArg State.pwrLowAt h : (unitPart v).pwrLowAt = (unitPart s).pwrLowAt)
theorem down_of_unit {s v : State} (h : unitPart v = unitPart s) : v.down = s.down :=
  (congrArg State.down h : (unitPart v).down = (unitPart s).down)
theorem refLost_of_unit {s v : State} (h : unitPart v = unitPart s) : v.refLost = s.refLost :=
  (congrArg State.refLost h : (unitPart v).refLost = (unitPart s).refLost)
theorem pending_of_unit {s v : State} (h : unitPart v = unitPart s) : v.pending = s.pending :=
  (congrArg State.pending h : (unitPart v).pending = (unitPart s).pending)
theorem engFreed_of_unit {s v : State} (h : unitPart v = unitPart s) : v.engFreed = s.engFreed :=
  (congrArg State.engFreed h : (unitPart v).engFreed = (unitPart s).engFreed)
theorem tagTurn_of_unit {s v : State} (h : unitPart v = unitPart s) : v.tagTurn = s.tagTurn :=
  (congrArg State.tagTurn h : (unitPart v).tagTurn = (unitPart s).tagTurn)
theorem capWait_of_unit {s v : State} (h : unitPart v = unitPart s) : v.capWait = s.capWait :=
  (congrArg State.capWait h : (unitPart v).capWait = (unitPart s).capWait)

theorem now_of_queueless {s v : State} (h : queuelessPart v = queuelessPart s) : v.now = s.now :=
  (congrArg State.now h : (queuelessPart v).now = (queuelessPart s).now)
theorem fresh_of_queueless {s v : State} (h : queuelessPart v = queuelessPart s) : v.fresh = s.fresh :=
  (congrArg State.fresh h : (queuelessPart v).fresh = (queuelessPart s).fresh)
theorem latch_of_queueless {s v : State} (h : queuelessPart v = queuelessPart s) : v.latch = s.latch :=
  (congrArg State.latch h : (queuelessPart v).latch = (queuelessPart s).latch)
theorem vfs_of_queueless {s v : State} (h : queuelessPart v = queuelessPart s) : v.vfs = s.vfs :=
  (congrArg State.vfs h : (queuelessPart v).vfs = (queuelessPart s).vfs)
theorem ari_of_queueless {s v : State} (h : queuelessPart v = queuelessPart s) : v.ari = s.ari :=
  (congrArg State.ari h : (queuelessPart v).ari = (queuelessPart s).ari)
theorem eid_of_queueless {s v : State} (h : queuelessPart v = queuelessPart s) : v.eid = s.eid :=
  (congrArg State.eid h : (queuelessPart v).eid = (queuelessPart s).eid)
theorem i3cAddr_of_queueless {s v : State} (h : queuelessPart v = queuelessPart s) : v.i3cAddr = s.i3cAddr :=
  (congrArg State.i3cAddr h : (queuelessPart v).i3cAddr = (queuelessPart s).i3cAddr)
theorem cores_of_queueless {s v : State} (h : queuelessPart v = queuelessPart s) : v.cores = s.cores :=
  (congrArg State.cores h : (queuelessPart v).cores = (queuelessPart s).cores)
theorem seq_of_queueless {s v : State} (h : queuelessPart v = queuelessPart s) : v.seq = s.seq :=
  (congrArg State.seq h : (queuelessPart v).seq = (queuelessPart s).seq)
theorem traceStop_of_queueless {s v : State} (h : queuelessPart v = queuelessPart s) : v.traceStop = s.traceStop :=
  (congrArg State.traceStop h : (queuelessPart v).traceStop = (queuelessPart s).traceStop)
theorem strapI3c_of_queueless {s v : State} (h : queuelessPart v = queuelessPart s) : v.strapI3c = s.strapI3c :=
  (congrArg State.strapI3c h : (queuelessPart v).strapI3c = (queuelessPart s).strapI3c)
theorem hbm_of_queueless {s v : State} (h : queuelessPart v = queuelessPart s) : v.hbm = s.hbm :=
  (congrArg State.hbm h : (queuelessPart v).hbm = (queuelessPart s).hbm)
theorem eng_of_queueless {s v : State} (h : queuelessPart v = queuelessPart s) : v.eng = s.eng :=
  (congrArg State.eng h : (queuelessPart v).eng = (queuelessPart s).eng)
theorem desc_of_queueless {s v : State} (h : queuelessPart v = queuelessPart s) : v.desc = s.desc :=
  (congrArg State.desc h : (queuelessPart v).desc = (queuelessPart s).desc)
theorem dload_of_queueless {s v : State} (h : queuelessPart v = queuelessPart s) : v.dload = s.dload :=
  (congrArg State.dload h : (queuelessPart v).dload = (queuelessPart s).dload)
theorem tally_of_queueless {s v : State} (h : queuelessPart v = queuelessPart s) : v.tally = s.tally :=
  (congrArg State.tally h : (queuelessPart v).tally = (queuelessPart s).tally)
theorem sdl_of_queueless {s v : State} (h : queuelessPart v = queuelessPart s) : v.sdl = s.sdl :=
  (congrArg State.sdl h : (queuelessPart v).sdl = (queuelessPart s).sdl)
theorem meter_of_queueless {s v : State} (h : queuelessPart v = queuelessPart s) : v.meter = s.meter :=
  (congrArg State.meter h : (queuelessPart v).meter = (queuelessPart s).meter)
theorem mrec_of_queueless {s v : State} (h : queuelessPart v = queuelessPart s) : v.mrec = s.mrec :=
  (congrArg State.mrec h : (queuelessPart v).mrec = (queuelessPart s).mrec)
theorem mtrNext_of_queueless {s v : State} (h : queuelessPart v = queuelessPart s) : v.mtrNext = s.mtrNext :=
  (congrArg State.mtrNext h : (queuelessPart v).mtrNext = (queuelessPart s).mtrNext)
theorem slice_of_queueless {s v : State} (h : queuelessPart v = queuelessPart s) : v.slice = s.slice :=
  (congrArg State.slice h : (queuelessPart v).slice = (queuelessPart s).slice)
theorem aborts_of_queueless {s v : State} (h : queuelessPart v = queuelessPart s) : v.aborts = s.aborts :=
  (congrArg State.aborts h : (queuelessPart v).aborts = (queuelessPart s).aborts)
theorem haltAt_of_queueless {s v : State} (h : queuelessPart v = queuelessPart s) : v.haltAt = s.haltAt :=
  (congrArg State.haltAt h : (queuelessPart v).haltAt = (queuelessPart s).haltAt)
theorem therm_of_queueless {s v : State} (h : queuelessPart v = queuelessPart s) : v.therm = s.therm :=
  (congrArg State.therm h : (queuelessPart v).therm = (queuelessPart s).therm)
theorem tripAt_of_queueless {s v : State} (h : queuelessPart v = queuelessPart s) : v.tripAt = s.tripAt :=
  (congrArg State.tripAt h : (queuelessPart v).tripAt = (queuelessPart s).tripAt)
theorem thermtrip_of_queueless {s v : State} (h : queuelessPart v = queuelessPart s) : v.thermtrip = s.thermtrip :=
  (congrArg State.thermtrip h : (queuelessPart v).thermtrip = (queuelessPart s).thermtrip)
theorem inj_of_queueless {s v : State} (h : queuelessPart v = queuelessPart s) : v.inj = s.inj :=
  (congrArg State.inj h : (queuelessPart v).inj = (queuelessPart s).inj)
theorem dark_of_queueless {s v : State} (h : queuelessPart v = queuelessPart s) : v.dark = s.dark :=
  (congrArg State.dark h : (queuelessPart v).dark = (queuelessPart s).dark)
theorem wdogAt_of_queueless {s v : State} (h : queuelessPart v = queuelessPart s) : v.wdogAt = s.wdogAt :=
  (congrArg State.wdogAt h : (queuelessPart v).wdogAt = (queuelessPart s).wdogAt)
theorem recs_of_queueless {s v : State} (h : queuelessPart v = queuelessPart s) : v.recs = s.recs :=
  (congrArg State.recs h : (queuelessPart v).recs = (queuelessPart s).recs)
theorem recEpoch_of_queueless {s v : State} (h : queuelessPart v = queuelessPart s) : v.recEpoch = s.recEpoch :=
  (congrArg State.recEpoch h : (queuelessPart v).recEpoch = (queuelessPart s).recEpoch)
theorem flush_of_queueless {s v : State} (h : queuelessPart v = queuelessPart s) : v.flush = s.flush :=
  (congrArg State.flush h : (queuelessPart v).flush = (queuelessPart s).flush)
theorem flushWait_of_queueless {s v : State} (h : queuelessPart v = queuelessPart s) : v.flushWait = s.flushWait :=
  (congrArg State.flushWait h : (queuelessPart v).flushWait = (queuelessPart s).flushWait)
theorem flushEnd_of_queueless {s v : State} (h : queuelessPart v = queuelessPart s) : v.flushEnd = s.flushEnd :=
  (congrArg State.flushEnd h : (queuelessPart v).flushEnd = (queuelessPart s).flushEnd)
theorem hmkAt_of_queueless {s v : State} (h : queuelessPart v = queuelessPart s) : v.hmkAt = s.hmkAt :=
  (congrArg State.hmkAt h : (queuelessPart v).hmkAt = (queuelessPart s).hmkAt)
theorem replay_of_queueless {s v : State} (h : queuelessPart v = queuelessPart s) : v.replay = s.replay :=
  (congrArg State.replay h : (queuelessPart v).replay = (queuelessPart s).replay)
theorem replayNo_of_queueless {s v : State} (h : queuelessPart v = queuelessPart s) : v.replayNo = s.replayNo :=
  (congrArg State.replayNo h : (queuelessPart v).replayNo = (queuelessPart s).replayNo)
theorem pwrHigh_of_queueless {s v : State} (h : queuelessPart v = queuelessPart s) : v.pwrHigh = s.pwrHigh :=
  (congrArg State.pwrHigh h : (queuelessPart v).pwrHigh = (queuelessPart s).pwrHigh)
theorem pwrHighAt_of_queueless {s v : State} (h : queuelessPart v = queuelessPart s) : v.pwrHighAt = s.pwrHighAt :=
  (congrArg State.pwrHighAt h : (queuelessPart v).pwrHighAt = (queuelessPart s).pwrHighAt)
theorem bkpFail_of_queueless {s v : State} (h : queuelessPart v = queuelessPart s) : v.bkpFail = s.bkpFail :=
  (congrArg State.bkpFail h : (queuelessPart v).bkpFail = (queuelessPart s).bkpFail)
theorem link_of_queueless {s v : State} (h : queuelessPart v = queuelessPart s) : v.link = s.link :=
  (congrArg State.link h : (queuelessPart v).link = (queuelessPart s).link)
theorem post_of_queueless {s v : State} (h : queuelessPart v = queuelessPart s) : v.post = s.post :=
  (congrArg State.post h : (queuelessPart v).post = (queuelessPart s).post)
theorem sendData_of_queueless {s v : State} (h : queuelessPart v = queuelessPart s) : v.sendData = s.sendData :=
  (congrArg State.sendData h : (queuelessPart v).sendData = (queuelessPart s).sendData)
theorem linkPlot_of_queueless {s v : State} (h : queuelessPart v = queuelessPart s) : v.linkPlot = s.linkPlot :=
  (congrArg State.linkPlot h : (queuelessPart v).linkPlot = (queuelessPart s).linkPlot)
theorem xferNo_of_queueless {s v : State} (h : queuelessPart v = queuelessPart s) : v.xferNo = s.xferNo :=
  (congrArg State.xferNo h : (queuelessPart v).xferNo = (queuelessPart s).xferNo)
theorem extents_of_queueless {s v : State} (h : queuelessPart v = queuelessPart s) : v.extents = s.extents :=
  (congrArg State.extents h : (queuelessPart v).extents = (queuelessPart s).extents)
theorem csc_of_queueless {s v : State} (h : queuelessPart v = queuelessPart s) : v.csc = s.csc :=
  (congrArg State.csc h : (queuelessPart v).csc = (queuelessPart s).csc)
theorem opt_of_queueless {s v : State} (h : queuelessPart v = queuelessPart s) : v.opt = s.opt :=
  (congrArg State.opt h : (queuelessPart v).opt = (queuelessPart s).opt)
theorem anl_of_queueless {s v : State} (h : queuelessPart v = queuelessPart s) : v.anl = s.anl :=
  (congrArg State.anl h : (queuelessPart v).anl = (queuelessPart s).anl)
theorem fuses_of_queueless {s v : State} (h : queuelessPart v = queuelessPart s) : v.fuses = s.fuses :=
  (congrArg State.fuses h : (queuelessPart v).fuses = (queuelessPart s).fuses)
theorem nor_of_queueless {s v : State} (h : queuelessPart v = queuelessPart s) : v.nor = s.nor :=
  (congrArg State.nor h : (queuelessPart v).nor = (queuelessPart s).nor)
theorem mram_of_queueless {s v : State} (h : queuelessPart v = queuelessPart s) : v.mram = s.mram :=
  (congrArg State.mram h : (queuelessPart v).mram = (queuelessPart s).mram)
theorem fw_of_queueless {s v : State} (h : queuelessPart v = queuelessPart s) : v.fw = s.fw :=
  (congrArg State.fw h : (queuelessPart v).fw = (queuelessPart s).fw)
theorem powered_of_queueless {s v : State} (h : queuelessPart v = queuelessPart s) : v.powered = s.powered :=
  (congrArg State.powered h : (queuelessPart v).powered = (queuelessPart s).powered)
theorem inReset_of_queueless {s v : State} (h : queuelessPart v = queuelessPart s) : v.inReset = s.inReset :=
  (congrArg State.inReset h : (queuelessPart v).inReset = (queuelessPart s).inReset)
theorem testEn_of_queueless {s v : State} (h : queuelessPart v = queuelessPart s) : v.testEn = s.testEn :=
  (congrArg State.testEn h : (queuelessPart v).testEn = (queuelessPart s).testEn)
theorem strapAddr_of_queueless {s v : State} (h : queuelessPart v = queuelessPart s) : v.strapAddr = s.strapAddr :=
  (congrArg State.strapAddr h : (queuelessPart v).strapAddr = (queuelessPart s).strapAddr)
theorem releaseAt_of_queueless {s v : State} (h : queuelessPart v = queuelessPart s) : v.releaseAt = s.releaseAt :=
  (congrArg State.releaseAt h : (queuelessPart v).releaseAt = (queuelessPart s).releaseAt)
theorem pwrLowAt_of_queueless {s v : State} (h : queuelessPart v = queuelessPart s) : v.pwrLowAt = s.pwrLowAt :=
  (congrArg State.pwrLowAt h : (queuelessPart v).pwrLowAt = (queuelessPart s).pwrLowAt)
theorem down_of_queueless {s v : State} (h : queuelessPart v = queuelessPart s) : v.down = s.down :=
  (congrArg State.down h : (queuelessPart v).down = (queuelessPart s).down)
theorem refLost_of_queueless {s v : State} (h : queuelessPart v = queuelessPart s) : v.refLost = s.refLost :=
  (congrArg State.refLost h : (queuelessPart v).refLost = (queuelessPart s).refLost)
theorem pending_of_queueless {s v : State} (h : queuelessPart v = queuelessPart s) : v.pending = s.pending :=
  (congrArg State.pending h : (queuelessPart v).pending = (queuelessPart s).pending)
theorem engFreed_of_queueless {s v : State} (h : queuelessPart v = queuelessPart s) : v.engFreed = s.engFreed :=
  (congrArg State.engFreed h : (queuelessPart v).engFreed = (queuelessPart s).engFreed)
theorem tagTurn_of_queueless {s v : State} (h : queuelessPart v = queuelessPart s) : v.tagTurn = s.tagTurn :=
  (congrArg State.tagTurn h : (queuelessPart v).tagTurn = (queuelessPart s).tagTurn)
theorem capWait_of_queueless {s v : State} (h : queuelessPart v = queuelessPart s) : v.capWait = s.capWait :=
  (congrArg State.capWait h : (queuelessPart v).capWait = (queuelessPart s).capWait)

theorem now_of_meterless {s v : State} (h : meterlessPart v = meterlessPart s) : v.now = s.now :=
  (congrArg State.now h : (meterlessPart v).now = (meterlessPart s).now)
theorem fresh_of_meterless {s v : State} (h : meterlessPart v = meterlessPart s) : v.fresh = s.fresh :=
  (congrArg State.fresh h : (meterlessPart v).fresh = (meterlessPart s).fresh)
theorem latch_of_meterless {s v : State} (h : meterlessPart v = meterlessPart s) : v.latch = s.latch :=
  (congrArg State.latch h : (meterlessPart v).latch = (meterlessPart s).latch)
theorem vfs_of_meterless {s v : State} (h : meterlessPart v = meterlessPart s) : v.vfs = s.vfs :=
  (congrArg State.vfs h : (meterlessPart v).vfs = (meterlessPart s).vfs)
theorem ari_of_meterless {s v : State} (h : meterlessPart v = meterlessPart s) : v.ari = s.ari :=
  (congrArg State.ari h : (meterlessPart v).ari = (meterlessPart s).ari)
theorem eid_of_meterless {s v : State} (h : meterlessPart v = meterlessPart s) : v.eid = s.eid :=
  (congrArg State.eid h : (meterlessPart v).eid = (meterlessPart s).eid)
theorem i3cAddr_of_meterless {s v : State} (h : meterlessPart v = meterlessPart s) : v.i3cAddr = s.i3cAddr :=
  (congrArg State.i3cAddr h : (meterlessPart v).i3cAddr = (meterlessPart s).i3cAddr)
theorem cores_of_meterless {s v : State} (h : meterlessPart v = meterlessPart s) : v.cores = s.cores :=
  (congrArg State.cores h : (meterlessPart v).cores = (meterlessPart s).cores)
theorem seq_of_meterless {s v : State} (h : meterlessPart v = meterlessPart s) : v.seq = s.seq :=
  (congrArg State.seq h : (meterlessPart v).seq = (meterlessPart s).seq)
theorem traceStop_of_meterless {s v : State} (h : meterlessPart v = meterlessPart s) : v.traceStop = s.traceStop :=
  (congrArg State.traceStop h : (meterlessPart v).traceStop = (meterlessPart s).traceStop)
theorem strapI3c_of_meterless {s v : State} (h : meterlessPart v = meterlessPart s) : v.strapI3c = s.strapI3c :=
  (congrArg State.strapI3c h : (meterlessPart v).strapI3c = (meterlessPart s).strapI3c)
theorem hbm_of_meterless {s v : State} (h : meterlessPart v = meterlessPart s) : v.hbm = s.hbm :=
  (congrArg State.hbm h : (meterlessPart v).hbm = (meterlessPart s).hbm)
theorem eng_of_meterless {s v : State} (h : meterlessPart v = meterlessPart s) : v.eng = s.eng :=
  (congrArg State.eng h : (meterlessPart v).eng = (meterlessPart s).eng)
theorem desc_of_meterless {s v : State} (h : meterlessPart v = meterlessPart s) : v.desc = s.desc :=
  (congrArg State.desc h : (meterlessPart v).desc = (meterlessPart s).desc)
theorem dload_of_meterless {s v : State} (h : meterlessPart v = meterlessPart s) : v.dload = s.dload :=
  (congrArg State.dload h : (meterlessPart v).dload = (meterlessPart s).dload)
theorem tally_of_meterless {s v : State} (h : meterlessPart v = meterlessPart s) : v.tally = s.tally :=
  (congrArg State.tally h : (meterlessPart v).tally = (meterlessPart s).tally)
theorem sdl_of_meterless {s v : State} (h : meterlessPart v = meterlessPart s) : v.sdl = s.sdl :=
  (congrArg State.sdl h : (meterlessPart v).sdl = (meterlessPart s).sdl)
theorem queue_of_meterless {s v : State} (h : meterlessPart v = meterlessPart s) : v.queue = s.queue :=
  (congrArg State.queue h : (meterlessPart v).queue = (meterlessPart s).queue)
theorem mrec_of_meterless {s v : State} (h : meterlessPart v = meterlessPart s) : v.mrec = s.mrec :=
  (congrArg State.mrec h : (meterlessPart v).mrec = (meterlessPart s).mrec)
theorem mtrNext_of_meterless {s v : State} (h : meterlessPart v = meterlessPart s) : v.mtrNext = s.mtrNext :=
  (congrArg State.mtrNext h : (meterlessPart v).mtrNext = (meterlessPart s).mtrNext)
theorem slice_of_meterless {s v : State} (h : meterlessPart v = meterlessPart s) : v.slice = s.slice :=
  (congrArg State.slice h : (meterlessPart v).slice = (meterlessPart s).slice)
theorem aborts_of_meterless {s v : State} (h : meterlessPart v = meterlessPart s) : v.aborts = s.aborts :=
  (congrArg State.aborts h : (meterlessPart v).aborts = (meterlessPart s).aborts)
theorem haltAt_of_meterless {s v : State} (h : meterlessPart v = meterlessPart s) : v.haltAt = s.haltAt :=
  (congrArg State.haltAt h : (meterlessPart v).haltAt = (meterlessPart s).haltAt)
theorem therm_of_meterless {s v : State} (h : meterlessPart v = meterlessPart s) : v.therm = s.therm :=
  (congrArg State.therm h : (meterlessPart v).therm = (meterlessPart s).therm)
theorem tripAt_of_meterless {s v : State} (h : meterlessPart v = meterlessPart s) : v.tripAt = s.tripAt :=
  (congrArg State.tripAt h : (meterlessPart v).tripAt = (meterlessPart s).tripAt)
theorem thermtrip_of_meterless {s v : State} (h : meterlessPart v = meterlessPart s) : v.thermtrip = s.thermtrip :=
  (congrArg State.thermtrip h : (meterlessPart v).thermtrip = (meterlessPart s).thermtrip)
theorem inj_of_meterless {s v : State} (h : meterlessPart v = meterlessPart s) : v.inj = s.inj :=
  (congrArg State.inj h : (meterlessPart v).inj = (meterlessPart s).inj)
theorem dark_of_meterless {s v : State} (h : meterlessPart v = meterlessPart s) : v.dark = s.dark :=
  (congrArg State.dark h : (meterlessPart v).dark = (meterlessPart s).dark)
theorem wdogAt_of_meterless {s v : State} (h : meterlessPart v = meterlessPart s) : v.wdogAt = s.wdogAt :=
  (congrArg State.wdogAt h : (meterlessPart v).wdogAt = (meterlessPart s).wdogAt)
theorem recs_of_meterless {s v : State} (h : meterlessPart v = meterlessPart s) : v.recs = s.recs :=
  (congrArg State.recs h : (meterlessPart v).recs = (meterlessPart s).recs)
theorem recEpoch_of_meterless {s v : State} (h : meterlessPart v = meterlessPart s) : v.recEpoch = s.recEpoch :=
  (congrArg State.recEpoch h : (meterlessPart v).recEpoch = (meterlessPart s).recEpoch)
theorem flush_of_meterless {s v : State} (h : meterlessPart v = meterlessPart s) : v.flush = s.flush :=
  (congrArg State.flush h : (meterlessPart v).flush = (meterlessPart s).flush)
theorem flushWait_of_meterless {s v : State} (h : meterlessPart v = meterlessPart s) : v.flushWait = s.flushWait :=
  (congrArg State.flushWait h : (meterlessPart v).flushWait = (meterlessPart s).flushWait)
theorem flushEnd_of_meterless {s v : State} (h : meterlessPart v = meterlessPart s) : v.flushEnd = s.flushEnd :=
  (congrArg State.flushEnd h : (meterlessPart v).flushEnd = (meterlessPart s).flushEnd)
theorem hmkAt_of_meterless {s v : State} (h : meterlessPart v = meterlessPart s) : v.hmkAt = s.hmkAt :=
  (congrArg State.hmkAt h : (meterlessPart v).hmkAt = (meterlessPart s).hmkAt)
theorem replay_of_meterless {s v : State} (h : meterlessPart v = meterlessPart s) : v.replay = s.replay :=
  (congrArg State.replay h : (meterlessPart v).replay = (meterlessPart s).replay)
theorem replayNo_of_meterless {s v : State} (h : meterlessPart v = meterlessPart s) : v.replayNo = s.replayNo :=
  (congrArg State.replayNo h : (meterlessPart v).replayNo = (meterlessPart s).replayNo)
theorem pwrHigh_of_meterless {s v : State} (h : meterlessPart v = meterlessPart s) : v.pwrHigh = s.pwrHigh :=
  (congrArg State.pwrHigh h : (meterlessPart v).pwrHigh = (meterlessPart s).pwrHigh)
theorem pwrHighAt_of_meterless {s v : State} (h : meterlessPart v = meterlessPart s) : v.pwrHighAt = s.pwrHighAt :=
  (congrArg State.pwrHighAt h : (meterlessPart v).pwrHighAt = (meterlessPart s).pwrHighAt)
theorem bkpFail_of_meterless {s v : State} (h : meterlessPart v = meterlessPart s) : v.bkpFail = s.bkpFail :=
  (congrArg State.bkpFail h : (meterlessPart v).bkpFail = (meterlessPart s).bkpFail)
theorem link_of_meterless {s v : State} (h : meterlessPart v = meterlessPart s) : v.link = s.link :=
  (congrArg State.link h : (meterlessPart v).link = (meterlessPart s).link)
theorem post_of_meterless {s v : State} (h : meterlessPart v = meterlessPart s) : v.post = s.post :=
  (congrArg State.post h : (meterlessPart v).post = (meterlessPart s).post)
theorem sendData_of_meterless {s v : State} (h : meterlessPart v = meterlessPart s) : v.sendData = s.sendData :=
  (congrArg State.sendData h : (meterlessPart v).sendData = (meterlessPart s).sendData)
theorem linkPlot_of_meterless {s v : State} (h : meterlessPart v = meterlessPart s) : v.linkPlot = s.linkPlot :=
  (congrArg State.linkPlot h : (meterlessPart v).linkPlot = (meterlessPart s).linkPlot)
theorem xferNo_of_meterless {s v : State} (h : meterlessPart v = meterlessPart s) : v.xferNo = s.xferNo :=
  (congrArg State.xferNo h : (meterlessPart v).xferNo = (meterlessPart s).xferNo)
theorem extents_of_meterless {s v : State} (h : meterlessPart v = meterlessPart s) : v.extents = s.extents :=
  (congrArg State.extents h : (meterlessPart v).extents = (meterlessPart s).extents)
theorem csc_of_meterless {s v : State} (h : meterlessPart v = meterlessPart s) : v.csc = s.csc :=
  (congrArg State.csc h : (meterlessPart v).csc = (meterlessPart s).csc)
theorem opt_of_meterless {s v : State} (h : meterlessPart v = meterlessPart s) : v.opt = s.opt :=
  (congrArg State.opt h : (meterlessPart v).opt = (meterlessPart s).opt)
theorem anl_of_meterless {s v : State} (h : meterlessPart v = meterlessPart s) : v.anl = s.anl :=
  (congrArg State.anl h : (meterlessPart v).anl = (meterlessPart s).anl)
theorem fuses_of_meterless {s v : State} (h : meterlessPart v = meterlessPart s) : v.fuses = s.fuses :=
  (congrArg State.fuses h : (meterlessPart v).fuses = (meterlessPart s).fuses)
theorem nor_of_meterless {s v : State} (h : meterlessPart v = meterlessPart s) : v.nor = s.nor :=
  (congrArg State.nor h : (meterlessPart v).nor = (meterlessPart s).nor)
theorem mram_of_meterless {s v : State} (h : meterlessPart v = meterlessPart s) : v.mram = s.mram :=
  (congrArg State.mram h : (meterlessPart v).mram = (meterlessPart s).mram)
theorem fw_of_meterless {s v : State} (h : meterlessPart v = meterlessPart s) : v.fw = s.fw :=
  (congrArg State.fw h : (meterlessPart v).fw = (meterlessPart s).fw)
theorem powered_of_meterless {s v : State} (h : meterlessPart v = meterlessPart s) : v.powered = s.powered :=
  (congrArg State.powered h : (meterlessPart v).powered = (meterlessPart s).powered)
theorem inReset_of_meterless {s v : State} (h : meterlessPart v = meterlessPart s) : v.inReset = s.inReset :=
  (congrArg State.inReset h : (meterlessPart v).inReset = (meterlessPart s).inReset)
theorem testEn_of_meterless {s v : State} (h : meterlessPart v = meterlessPart s) : v.testEn = s.testEn :=
  (congrArg State.testEn h : (meterlessPart v).testEn = (meterlessPart s).testEn)
theorem strapAddr_of_meterless {s v : State} (h : meterlessPart v = meterlessPart s) : v.strapAddr = s.strapAddr :=
  (congrArg State.strapAddr h : (meterlessPart v).strapAddr = (meterlessPart s).strapAddr)
theorem releaseAt_of_meterless {s v : State} (h : meterlessPart v = meterlessPart s) : v.releaseAt = s.releaseAt :=
  (congrArg State.releaseAt h : (meterlessPart v).releaseAt = (meterlessPart s).releaseAt)
theorem pwrLowAt_of_meterless {s v : State} (h : meterlessPart v = meterlessPart s) : v.pwrLowAt = s.pwrLowAt :=
  (congrArg State.pwrLowAt h : (meterlessPart v).pwrLowAt = (meterlessPart s).pwrLowAt)
theorem down_of_meterless {s v : State} (h : meterlessPart v = meterlessPart s) : v.down = s.down :=
  (congrArg State.down h : (meterlessPart v).down = (meterlessPart s).down)
theorem refLost_of_meterless {s v : State} (h : meterlessPart v = meterlessPart s) : v.refLost = s.refLost :=
  (congrArg State.refLost h : (meterlessPart v).refLost = (meterlessPart s).refLost)
theorem pending_of_meterless {s v : State} (h : meterlessPart v = meterlessPart s) : v.pending = s.pending :=
  (congrArg State.pending h : (meterlessPart v).pending = (meterlessPart s).pending)
theorem engFreed_of_meterless {s v : State} (h : meterlessPart v = meterlessPart s) : v.engFreed = s.engFreed :=
  (congrArg State.engFreed h : (meterlessPart v).engFreed = (meterlessPart s).engFreed)
theorem tagTurn_of_meterless {s v : State} (h : meterlessPart v = meterlessPart s) : v.tagTurn = s.tagTurn :=
  (congrArg State.tagTurn h : (meterlessPart v).tagTurn = (meterlessPart s).tagTurn)
theorem capWait_of_meterless {s v : State} (h : meterlessPart v = meterlessPart s) : v.capWait = s.capWait :=
  (congrArg State.capWait h : (meterlessPart v).capWait = (meterlessPart s).capWait)

theorem now_of_eventless {s v : State} (h : eventlessPart v = eventlessPart s) : v.now = s.now :=
  (congrArg State.now h : (eventlessPart v).now = (eventlessPart s).now)
theorem fresh_of_eventless {s v : State} (h : eventlessPart v = eventlessPart s) : v.fresh = s.fresh :=
  (congrArg State.fresh h : (eventlessPart v).fresh = (eventlessPart s).fresh)
theorem latch_of_eventless {s v : State} (h : eventlessPart v = eventlessPart s) : v.latch = s.latch :=
  (congrArg State.latch h : (eventlessPart v).latch = (eventlessPart s).latch)
theorem vfs_of_eventless {s v : State} (h : eventlessPart v = eventlessPart s) : v.vfs = s.vfs :=
  (congrArg State.vfs h : (eventlessPart v).vfs = (eventlessPart s).vfs)
theorem ari_of_eventless {s v : State} (h : eventlessPart v = eventlessPart s) : v.ari = s.ari :=
  (congrArg State.ari h : (eventlessPart v).ari = (eventlessPart s).ari)
theorem eid_of_eventless {s v : State} (h : eventlessPart v = eventlessPart s) : v.eid = s.eid :=
  (congrArg State.eid h : (eventlessPart v).eid = (eventlessPart s).eid)
theorem i3cAddr_of_eventless {s v : State} (h : eventlessPart v = eventlessPart s) : v.i3cAddr = s.i3cAddr :=
  (congrArg State.i3cAddr h : (eventlessPart v).i3cAddr = (eventlessPart s).i3cAddr)
theorem cores_of_eventless {s v : State} (h : eventlessPart v = eventlessPart s) : v.cores = s.cores :=
  (congrArg State.cores h : (eventlessPart v).cores = (eventlessPart s).cores)
theorem seq_of_eventless {s v : State} (h : eventlessPart v = eventlessPart s) : v.seq = s.seq :=
  (congrArg State.seq h : (eventlessPart v).seq = (eventlessPart s).seq)
theorem traceStop_of_eventless {s v : State} (h : eventlessPart v = eventlessPart s) : v.traceStop = s.traceStop :=
  (congrArg State.traceStop h : (eventlessPart v).traceStop = (eventlessPart s).traceStop)
theorem strapI3c_of_eventless {s v : State} (h : eventlessPart v = eventlessPart s) : v.strapI3c = s.strapI3c :=
  (congrArg State.strapI3c h : (eventlessPart v).strapI3c = (eventlessPart s).strapI3c)
theorem eng_of_eventless {s v : State} (h : eventlessPart v = eventlessPart s) : v.eng = s.eng :=
  (congrArg State.eng h : (eventlessPart v).eng = (eventlessPart s).eng)
theorem desc_of_eventless {s v : State} (h : eventlessPart v = eventlessPart s) : v.desc = s.desc :=
  (congrArg State.desc h : (eventlessPart v).desc = (eventlessPart s).desc)
theorem dload_of_eventless {s v : State} (h : eventlessPart v = eventlessPart s) : v.dload = s.dload :=
  (congrArg State.dload h : (eventlessPart v).dload = (eventlessPart s).dload)
theorem tally_of_eventless {s v : State} (h : eventlessPart v = eventlessPart s) : v.tally = s.tally :=
  (congrArg State.tally h : (eventlessPart v).tally = (eventlessPart s).tally)
theorem sdl_of_eventless {s v : State} (h : eventlessPart v = eventlessPart s) : v.sdl = s.sdl :=
  (congrArg State.sdl h : (eventlessPart v).sdl = (eventlessPart s).sdl)
theorem queue_of_eventless {s v : State} (h : eventlessPart v = eventlessPart s) : v.queue = s.queue :=
  (congrArg State.queue h : (eventlessPart v).queue = (eventlessPart s).queue)
theorem meter_of_eventless {s v : State} (h : eventlessPart v = eventlessPart s) : v.meter = s.meter :=
  (congrArg State.meter h : (eventlessPart v).meter = (eventlessPart s).meter)
theorem mrec_of_eventless {s v : State} (h : eventlessPart v = eventlessPart s) : v.mrec = s.mrec :=
  (congrArg State.mrec h : (eventlessPart v).mrec = (eventlessPart s).mrec)
theorem mtrNext_of_eventless {s v : State} (h : eventlessPart v = eventlessPart s) : v.mtrNext = s.mtrNext :=
  (congrArg State.mtrNext h : (eventlessPart v).mtrNext = (eventlessPart s).mtrNext)
theorem slice_of_eventless {s v : State} (h : eventlessPart v = eventlessPart s) : v.slice = s.slice :=
  (congrArg State.slice h : (eventlessPart v).slice = (eventlessPart s).slice)
theorem aborts_of_eventless {s v : State} (h : eventlessPart v = eventlessPart s) : v.aborts = s.aborts :=
  (congrArg State.aborts h : (eventlessPart v).aborts = (eventlessPart s).aborts)
theorem haltAt_of_eventless {s v : State} (h : eventlessPart v = eventlessPart s) : v.haltAt = s.haltAt :=
  (congrArg State.haltAt h : (eventlessPart v).haltAt = (eventlessPart s).haltAt)
theorem therm_of_eventless {s v : State} (h : eventlessPart v = eventlessPart s) : v.therm = s.therm :=
  (congrArg State.therm h : (eventlessPart v).therm = (eventlessPart s).therm)
theorem tripAt_of_eventless {s v : State} (h : eventlessPart v = eventlessPart s) : v.tripAt = s.tripAt :=
  (congrArg State.tripAt h : (eventlessPart v).tripAt = (eventlessPart s).tripAt)
theorem thermtrip_of_eventless {s v : State} (h : eventlessPart v = eventlessPart s) : v.thermtrip = s.thermtrip :=
  (congrArg State.thermtrip h : (eventlessPart v).thermtrip = (eventlessPart s).thermtrip)
theorem dark_of_eventless {s v : State} (h : eventlessPart v = eventlessPart s) : v.dark = s.dark :=
  (congrArg State.dark h : (eventlessPart v).dark = (eventlessPart s).dark)
theorem wdogAt_of_eventless {s v : State} (h : eventlessPart v = eventlessPart s) : v.wdogAt = s.wdogAt :=
  (congrArg State.wdogAt h : (eventlessPart v).wdogAt = (eventlessPart s).wdogAt)
theorem recs_of_eventless {s v : State} (h : eventlessPart v = eventlessPart s) : v.recs = s.recs :=
  (congrArg State.recs h : (eventlessPart v).recs = (eventlessPart s).recs)
theorem recEpoch_of_eventless {s v : State} (h : eventlessPart v = eventlessPart s) : v.recEpoch = s.recEpoch :=
  (congrArg State.recEpoch h : (eventlessPart v).recEpoch = (eventlessPart s).recEpoch)
theorem flush_of_eventless {s v : State} (h : eventlessPart v = eventlessPart s) : v.flush = s.flush :=
  (congrArg State.flush h : (eventlessPart v).flush = (eventlessPart s).flush)
theorem flushWait_of_eventless {s v : State} (h : eventlessPart v = eventlessPart s) : v.flushWait = s.flushWait :=
  (congrArg State.flushWait h : (eventlessPart v).flushWait = (eventlessPart s).flushWait)
theorem flushEnd_of_eventless {s v : State} (h : eventlessPart v = eventlessPart s) : v.flushEnd = s.flushEnd :=
  (congrArg State.flushEnd h : (eventlessPart v).flushEnd = (eventlessPart s).flushEnd)
theorem hmkAt_of_eventless {s v : State} (h : eventlessPart v = eventlessPart s) : v.hmkAt = s.hmkAt :=
  (congrArg State.hmkAt h : (eventlessPart v).hmkAt = (eventlessPart s).hmkAt)
theorem pwrHigh_of_eventless {s v : State} (h : eventlessPart v = eventlessPart s) : v.pwrHigh = s.pwrHigh :=
  (congrArg State.pwrHigh h : (eventlessPart v).pwrHigh = (eventlessPart s).pwrHigh)
theorem pwrHighAt_of_eventless {s v : State} (h : eventlessPart v = eventlessPart s) : v.pwrHighAt = s.pwrHighAt :=
  (congrArg State.pwrHighAt h : (eventlessPart v).pwrHighAt = (eventlessPart s).pwrHighAt)
theorem bkpFail_of_eventless {s v : State} (h : eventlessPart v = eventlessPart s) : v.bkpFail = s.bkpFail :=
  (congrArg State.bkpFail h : (eventlessPart v).bkpFail = (eventlessPart s).bkpFail)
theorem link_of_eventless {s v : State} (h : eventlessPart v = eventlessPart s) : v.link = s.link :=
  (congrArg State.link h : (eventlessPart v).link = (eventlessPart s).link)
theorem post_of_eventless {s v : State} (h : eventlessPart v = eventlessPart s) : v.post = s.post :=
  (congrArg State.post h : (eventlessPart v).post = (eventlessPart s).post)
theorem sendData_of_eventless {s v : State} (h : eventlessPart v = eventlessPart s) : v.sendData = s.sendData :=
  (congrArg State.sendData h : (eventlessPart v).sendData = (eventlessPart s).sendData)
theorem linkPlot_of_eventless {s v : State} (h : eventlessPart v = eventlessPart s) : v.linkPlot = s.linkPlot :=
  (congrArg State.linkPlot h : (eventlessPart v).linkPlot = (eventlessPart s).linkPlot)
theorem xferNo_of_eventless {s v : State} (h : eventlessPart v = eventlessPart s) : v.xferNo = s.xferNo :=
  (congrArg State.xferNo h : (eventlessPart v).xferNo = (eventlessPart s).xferNo)
theorem extents_of_eventless {s v : State} (h : eventlessPart v = eventlessPart s) : v.extents = s.extents :=
  (congrArg State.extents h : (eventlessPart v).extents = (eventlessPart s).extents)
theorem csc_of_eventless {s v : State} (h : eventlessPart v = eventlessPart s) : v.csc = s.csc :=
  (congrArg State.csc h : (eventlessPart v).csc = (eventlessPart s).csc)
theorem opt_of_eventless {s v : State} (h : eventlessPart v = eventlessPart s) : v.opt = s.opt :=
  (congrArg State.opt h : (eventlessPart v).opt = (eventlessPart s).opt)
theorem anl_of_eventless {s v : State} (h : eventlessPart v = eventlessPart s) : v.anl = s.anl :=
  (congrArg State.anl h : (eventlessPart v).anl = (eventlessPart s).anl)
theorem fuses_of_eventless {s v : State} (h : eventlessPart v = eventlessPart s) : v.fuses = s.fuses :=
  (congrArg State.fuses h : (eventlessPart v).fuses = (eventlessPart s).fuses)
theorem nor_of_eventless {s v : State} (h : eventlessPart v = eventlessPart s) : v.nor = s.nor :=
  (congrArg State.nor h : (eventlessPart v).nor = (eventlessPart s).nor)
theorem mram_of_eventless {s v : State} (h : eventlessPart v = eventlessPart s) : v.mram = s.mram :=
  (congrArg State.mram h : (eventlessPart v).mram = (eventlessPart s).mram)
theorem fw_of_eventless {s v : State} (h : eventlessPart v = eventlessPart s) : v.fw = s.fw :=
  (congrArg State.fw h : (eventlessPart v).fw = (eventlessPart s).fw)
theorem powered_of_eventless {s v : State} (h : eventlessPart v = eventlessPart s) : v.powered = s.powered :=
  (congrArg State.powered h : (eventlessPart v).powered = (eventlessPart s).powered)
theorem inReset_of_eventless {s v : State} (h : eventlessPart v = eventlessPart s) : v.inReset = s.inReset :=
  (congrArg State.inReset h : (eventlessPart v).inReset = (eventlessPart s).inReset)
theorem testEn_of_eventless {s v : State} (h : eventlessPart v = eventlessPart s) : v.testEn = s.testEn :=
  (congrArg State.testEn h : (eventlessPart v).testEn = (eventlessPart s).testEn)
theorem strapAddr_of_eventless {s v : State} (h : eventlessPart v = eventlessPart s) : v.strapAddr = s.strapAddr :=
  (congrArg State.strapAddr h : (eventlessPart v).strapAddr = (eventlessPart s).strapAddr)
theorem releaseAt_of_eventless {s v : State} (h : eventlessPart v = eventlessPart s) : v.releaseAt = s.releaseAt :=
  (congrArg State.releaseAt h : (eventlessPart v).releaseAt = (eventlessPart s).releaseAt)
theorem pwrLowAt_of_eventless {s v : State} (h : eventlessPart v = eventlessPart s) : v.pwrLowAt = s.pwrLowAt :=
  (congrArg State.pwrLowAt h : (eventlessPart v).pwrLowAt = (eventlessPart s).pwrLowAt)
theorem down_of_eventless {s v : State} (h : eventlessPart v = eventlessPart s) : v.down = s.down :=
  (congrArg State.down h : (eventlessPart v).down = (eventlessPart s).down)
theorem refLost_of_eventless {s v : State} (h : eventlessPart v = eventlessPart s) : v.refLost = s.refLost :=
  (congrArg State.refLost h : (eventlessPart v).refLost = (eventlessPart s).refLost)
theorem pending_of_eventless {s v : State} (h : eventlessPart v = eventlessPart s) : v.pending = s.pending :=
  (congrArg State.pending h : (eventlessPart v).pending = (eventlessPart s).pending)
theorem engFreed_of_eventless {s v : State} (h : eventlessPart v = eventlessPart s) : v.engFreed = s.engFreed :=
  (congrArg State.engFreed h : (eventlessPart v).engFreed = (eventlessPart s).engFreed)
theorem tagTurn_of_eventless {s v : State} (h : eventlessPart v = eventlessPart s) : v.tagTurn = s.tagTurn :=
  (congrArg State.tagTurn h : (eventlessPart v).tagTurn = (eventlessPart s).tagTurn)

theorem now_of_linkless {s v : State} (h : linklessPart v = linklessPart s) : v.now = s.now :=
  (congrArg State.now h : (linklessPart v).now = (linklessPart s).now)
theorem fresh_of_linkless {s v : State} (h : linklessPart v = linklessPart s) : v.fresh = s.fresh :=
  (congrArg State.fresh h : (linklessPart v).fresh = (linklessPart s).fresh)
theorem latch_of_linkless {s v : State} (h : linklessPart v = linklessPart s) : v.latch = s.latch :=
  (congrArg State.latch h : (linklessPart v).latch = (linklessPart s).latch)
theorem vfs_of_linkless {s v : State} (h : linklessPart v = linklessPart s) : v.vfs = s.vfs :=
  (congrArg State.vfs h : (linklessPart v).vfs = (linklessPart s).vfs)
theorem ari_of_linkless {s v : State} (h : linklessPart v = linklessPart s) : v.ari = s.ari :=
  (congrArg State.ari h : (linklessPart v).ari = (linklessPart s).ari)
theorem eid_of_linkless {s v : State} (h : linklessPart v = linklessPart s) : v.eid = s.eid :=
  (congrArg State.eid h : (linklessPart v).eid = (linklessPart s).eid)
theorem i3cAddr_of_linkless {s v : State} (h : linklessPart v = linklessPart s) : v.i3cAddr = s.i3cAddr :=
  (congrArg State.i3cAddr h : (linklessPart v).i3cAddr = (linklessPart s).i3cAddr)
theorem cores_of_linkless {s v : State} (h : linklessPart v = linklessPart s) : v.cores = s.cores :=
  (congrArg State.cores h : (linklessPart v).cores = (linklessPart s).cores)
theorem seq_of_linkless {s v : State} (h : linklessPart v = linklessPart s) : v.seq = s.seq :=
  (congrArg State.seq h : (linklessPart v).seq = (linklessPart s).seq)
theorem traceStop_of_linkless {s v : State} (h : linklessPart v = linklessPart s) : v.traceStop = s.traceStop :=
  (congrArg State.traceStop h : (linklessPart v).traceStop = (linklessPart s).traceStop)
theorem strapI3c_of_linkless {s v : State} (h : linklessPart v = linklessPart s) : v.strapI3c = s.strapI3c :=
  (congrArg State.strapI3c h : (linklessPart v).strapI3c = (linklessPart s).strapI3c)
theorem hbm_of_linkless {s v : State} (h : linklessPart v = linklessPart s) : v.hbm = s.hbm :=
  (congrArg State.hbm h : (linklessPart v).hbm = (linklessPart s).hbm)
theorem eng_of_linkless {s v : State} (h : linklessPart v = linklessPart s) : v.eng = s.eng :=
  (congrArg State.eng h : (linklessPart v).eng = (linklessPart s).eng)
theorem desc_of_linkless {s v : State} (h : linklessPart v = linklessPart s) : v.desc = s.desc :=
  (congrArg State.desc h : (linklessPart v).desc = (linklessPart s).desc)
theorem dload_of_linkless {s v : State} (h : linklessPart v = linklessPart s) : v.dload = s.dload :=
  (congrArg State.dload h : (linklessPart v).dload = (linklessPart s).dload)
theorem tally_of_linkless {s v : State} (h : linklessPart v = linklessPart s) : v.tally = s.tally :=
  (congrArg State.tally h : (linklessPart v).tally = (linklessPart s).tally)
theorem sdl_of_linkless {s v : State} (h : linklessPart v = linklessPart s) : v.sdl = s.sdl :=
  (congrArg State.sdl h : (linklessPart v).sdl = (linklessPart s).sdl)
theorem queue_of_linkless {s v : State} (h : linklessPart v = linklessPart s) : v.queue = s.queue :=
  (congrArg State.queue h : (linklessPart v).queue = (linklessPart s).queue)
theorem meter_of_linkless {s v : State} (h : linklessPart v = linklessPart s) : v.meter = s.meter :=
  (congrArg State.meter h : (linklessPart v).meter = (linklessPart s).meter)
theorem mrec_of_linkless {s v : State} (h : linklessPart v = linklessPart s) : v.mrec = s.mrec :=
  (congrArg State.mrec h : (linklessPart v).mrec = (linklessPart s).mrec)
theorem mtrNext_of_linkless {s v : State} (h : linklessPart v = linklessPart s) : v.mtrNext = s.mtrNext :=
  (congrArg State.mtrNext h : (linklessPart v).mtrNext = (linklessPart s).mtrNext)
theorem slice_of_linkless {s v : State} (h : linklessPart v = linklessPart s) : v.slice = s.slice :=
  (congrArg State.slice h : (linklessPart v).slice = (linklessPart s).slice)
theorem aborts_of_linkless {s v : State} (h : linklessPart v = linklessPart s) : v.aborts = s.aborts :=
  (congrArg State.aborts h : (linklessPart v).aborts = (linklessPart s).aborts)
theorem haltAt_of_linkless {s v : State} (h : linklessPart v = linklessPart s) : v.haltAt = s.haltAt :=
  (congrArg State.haltAt h : (linklessPart v).haltAt = (linklessPart s).haltAt)
theorem therm_of_linkless {s v : State} (h : linklessPart v = linklessPart s) : v.therm = s.therm :=
  (congrArg State.therm h : (linklessPart v).therm = (linklessPart s).therm)
theorem tripAt_of_linkless {s v : State} (h : linklessPart v = linklessPart s) : v.tripAt = s.tripAt :=
  (congrArg State.tripAt h : (linklessPart v).tripAt = (linklessPart s).tripAt)
theorem thermtrip_of_linkless {s v : State} (h : linklessPart v = linklessPart s) : v.thermtrip = s.thermtrip :=
  (congrArg State.thermtrip h : (linklessPart v).thermtrip = (linklessPart s).thermtrip)
theorem inj_of_linkless {s v : State} (h : linklessPart v = linklessPart s) : v.inj = s.inj :=
  (congrArg State.inj h : (linklessPart v).inj = (linklessPart s).inj)
theorem dark_of_linkless {s v : State} (h : linklessPart v = linklessPart s) : v.dark = s.dark :=
  (congrArg State.dark h : (linklessPart v).dark = (linklessPart s).dark)
theorem wdogAt_of_linkless {s v : State} (h : linklessPart v = linklessPart s) : v.wdogAt = s.wdogAt :=
  (congrArg State.wdogAt h : (linklessPart v).wdogAt = (linklessPart s).wdogAt)
theorem recs_of_linkless {s v : State} (h : linklessPart v = linklessPart s) : v.recs = s.recs :=
  (congrArg State.recs h : (linklessPart v).recs = (linklessPart s).recs)
theorem recEpoch_of_linkless {s v : State} (h : linklessPart v = linklessPart s) : v.recEpoch = s.recEpoch :=
  (congrArg State.recEpoch h : (linklessPart v).recEpoch = (linklessPart s).recEpoch)
theorem flush_of_linkless {s v : State} (h : linklessPart v = linklessPart s) : v.flush = s.flush :=
  (congrArg State.flush h : (linklessPart v).flush = (linklessPart s).flush)
theorem flushWait_of_linkless {s v : State} (h : linklessPart v = linklessPart s) : v.flushWait = s.flushWait :=
  (congrArg State.flushWait h : (linklessPart v).flushWait = (linklessPart s).flushWait)
theorem flushEnd_of_linkless {s v : State} (h : linklessPart v = linklessPart s) : v.flushEnd = s.flushEnd :=
  (congrArg State.flushEnd h : (linklessPart v).flushEnd = (linklessPart s).flushEnd)
theorem hmkAt_of_linkless {s v : State} (h : linklessPart v = linklessPart s) : v.hmkAt = s.hmkAt :=
  (congrArg State.hmkAt h : (linklessPart v).hmkAt = (linklessPart s).hmkAt)
theorem replay_of_linkless {s v : State} (h : linklessPart v = linklessPart s) : v.replay = s.replay :=
  (congrArg State.replay h : (linklessPart v).replay = (linklessPart s).replay)
theorem replayNo_of_linkless {s v : State} (h : linklessPart v = linklessPart s) : v.replayNo = s.replayNo :=
  (congrArg State.replayNo h : (linklessPart v).replayNo = (linklessPart s).replayNo)
theorem pwrHigh_of_linkless {s v : State} (h : linklessPart v = linklessPart s) : v.pwrHigh = s.pwrHigh :=
  (congrArg State.pwrHigh h : (linklessPart v).pwrHigh = (linklessPart s).pwrHigh)
theorem pwrHighAt_of_linkless {s v : State} (h : linklessPart v = linklessPart s) : v.pwrHighAt = s.pwrHighAt :=
  (congrArg State.pwrHighAt h : (linklessPart v).pwrHighAt = (linklessPart s).pwrHighAt)
theorem bkpFail_of_linkless {s v : State} (h : linklessPart v = linklessPart s) : v.bkpFail = s.bkpFail :=
  (congrArg State.bkpFail h : (linklessPart v).bkpFail = (linklessPart s).bkpFail)
theorem sendData_of_linkless {s v : State} (h : linklessPart v = linklessPart s) : v.sendData = s.sendData :=
  (congrArg State.sendData h : (linklessPart v).sendData = (linklessPart s).sendData)
theorem linkPlot_of_linkless {s v : State} (h : linklessPart v = linklessPart s) : v.linkPlot = s.linkPlot :=
  (congrArg State.linkPlot h : (linklessPart v).linkPlot = (linklessPart s).linkPlot)
theorem xferNo_of_linkless {s v : State} (h : linklessPart v = linklessPart s) : v.xferNo = s.xferNo :=
  (congrArg State.xferNo h : (linklessPart v).xferNo = (linklessPart s).xferNo)
theorem extents_of_linkless {s v : State} (h : linklessPart v = linklessPart s) : v.extents = s.extents :=
  (congrArg State.extents h : (linklessPart v).extents = (linklessPart s).extents)
theorem csc_of_linkless {s v : State} (h : linklessPart v = linklessPart s) : v.csc = s.csc :=
  (congrArg State.csc h : (linklessPart v).csc = (linklessPart s).csc)
theorem opt_of_linkless {s v : State} (h : linklessPart v = linklessPart s) : v.opt = s.opt :=
  (congrArg State.opt h : (linklessPart v).opt = (linklessPart s).opt)
theorem anl_of_linkless {s v : State} (h : linklessPart v = linklessPart s) : v.anl = s.anl :=
  (congrArg State.anl h : (linklessPart v).anl = (linklessPart s).anl)
theorem fuses_of_linkless {s v : State} (h : linklessPart v = linklessPart s) : v.fuses = s.fuses :=
  (congrArg State.fuses h : (linklessPart v).fuses = (linklessPart s).fuses)
theorem nor_of_linkless {s v : State} (h : linklessPart v = linklessPart s) : v.nor = s.nor :=
  (congrArg State.nor h : (linklessPart v).nor = (linklessPart s).nor)
theorem mram_of_linkless {s v : State} (h : linklessPart v = linklessPart s) : v.mram = s.mram :=
  (congrArg State.mram h : (linklessPart v).mram = (linklessPart s).mram)
theorem fw_of_linkless {s v : State} (h : linklessPart v = linklessPart s) : v.fw = s.fw :=
  (congrArg State.fw h : (linklessPart v).fw = (linklessPart s).fw)
theorem powered_of_linkless {s v : State} (h : linklessPart v = linklessPart s) : v.powered = s.powered :=
  (congrArg State.powered h : (linklessPart v).powered = (linklessPart s).powered)
theorem inReset_of_linkless {s v : State} (h : linklessPart v = linklessPart s) : v.inReset = s.inReset :=
  (congrArg State.inReset h : (linklessPart v).inReset = (linklessPart s).inReset)
theorem testEn_of_linkless {s v : State} (h : linklessPart v = linklessPart s) : v.testEn = s.testEn :=
  (congrArg State.testEn h : (linklessPart v).testEn = (linklessPart s).testEn)
theorem strapAddr_of_linkless {s v : State} (h : linklessPart v = linklessPart s) : v.strapAddr = s.strapAddr :=
  (congrArg State.strapAddr h : (linklessPart v).strapAddr = (linklessPart s).strapAddr)
theorem releaseAt_of_linkless {s v : State} (h : linklessPart v = linklessPart s) : v.releaseAt = s.releaseAt :=
  (congrArg State.releaseAt h : (linklessPart v).releaseAt = (linklessPart s).releaseAt)
theorem pwrLowAt_of_linkless {s v : State} (h : linklessPart v = linklessPart s) : v.pwrLowAt = s.pwrLowAt :=
  (congrArg State.pwrLowAt h : (linklessPart v).pwrLowAt = (linklessPart s).pwrLowAt)
theorem down_of_linkless {s v : State} (h : linklessPart v = linklessPart s) : v.down = s.down :=
  (congrArg State.down h : (linklessPart v).down = (linklessPart s).down)
theorem refLost_of_linkless {s v : State} (h : linklessPart v = linklessPart s) : v.refLost = s.refLost :=
  (congrArg State.refLost h : (linklessPart v).refLost = (linklessPart s).refLost)
theorem pending_of_linkless {s v : State} (h : linklessPart v = linklessPart s) : v.pending = s.pending :=
  (congrArg State.pending h : (linklessPart v).pending = (linklessPart s).pending)
theorem engFreed_of_linkless {s v : State} (h : linklessPart v = linklessPart s) : v.engFreed = s.engFreed :=
  (congrArg State.engFreed h : (linklessPart v).engFreed = (linklessPart s).engFreed)
theorem tagTurn_of_linkless {s v : State} (h : linklessPart v = linklessPart s) : v.tagTurn = s.tagTurn :=
  (congrArg State.tagTurn h : (linklessPart v).tagTurn = (linklessPart s).tagTurn)
theorem capWait_of_linkless {s v : State} (h : linklessPart v = linklessPart s) : v.capWait = s.capWait :=
  (congrArg State.capWait h : (linklessPart v).capWait = (linklessPart s).capWait)

theorem now_of_optless {s v : State} (h : optlessPart v = optlessPart s) : v.now = s.now :=
  (congrArg State.now h : (optlessPart v).now = (optlessPart s).now)
theorem fresh_of_optless {s v : State} (h : optlessPart v = optlessPart s) : v.fresh = s.fresh :=
  (congrArg State.fresh h : (optlessPart v).fresh = (optlessPart s).fresh)
theorem latch_of_optless {s v : State} (h : optlessPart v = optlessPart s) : v.latch = s.latch :=
  (congrArg State.latch h : (optlessPart v).latch = (optlessPart s).latch)
theorem vfs_of_optless {s v : State} (h : optlessPart v = optlessPart s) : v.vfs = s.vfs :=
  (congrArg State.vfs h : (optlessPart v).vfs = (optlessPart s).vfs)
theorem ari_of_optless {s v : State} (h : optlessPart v = optlessPart s) : v.ari = s.ari :=
  (congrArg State.ari h : (optlessPart v).ari = (optlessPart s).ari)
theorem eid_of_optless {s v : State} (h : optlessPart v = optlessPart s) : v.eid = s.eid :=
  (congrArg State.eid h : (optlessPart v).eid = (optlessPart s).eid)
theorem i3cAddr_of_optless {s v : State} (h : optlessPart v = optlessPart s) : v.i3cAddr = s.i3cAddr :=
  (congrArg State.i3cAddr h : (optlessPart v).i3cAddr = (optlessPart s).i3cAddr)
theorem cores_of_optless {s v : State} (h : optlessPart v = optlessPart s) : v.cores = s.cores :=
  (congrArg State.cores h : (optlessPart v).cores = (optlessPart s).cores)
theorem seq_of_optless {s v : State} (h : optlessPart v = optlessPart s) : v.seq = s.seq :=
  (congrArg State.seq h : (optlessPart v).seq = (optlessPart s).seq)
theorem traceStop_of_optless {s v : State} (h : optlessPart v = optlessPart s) : v.traceStop = s.traceStop :=
  (congrArg State.traceStop h : (optlessPart v).traceStop = (optlessPart s).traceStop)
theorem strapI3c_of_optless {s v : State} (h : optlessPart v = optlessPart s) : v.strapI3c = s.strapI3c :=
  (congrArg State.strapI3c h : (optlessPart v).strapI3c = (optlessPart s).strapI3c)
theorem hbm_of_optless {s v : State} (h : optlessPart v = optlessPart s) : v.hbm = s.hbm :=
  (congrArg State.hbm h : (optlessPart v).hbm = (optlessPart s).hbm)
theorem eng_of_optless {s v : State} (h : optlessPart v = optlessPart s) : v.eng = s.eng :=
  (congrArg State.eng h : (optlessPart v).eng = (optlessPart s).eng)
theorem desc_of_optless {s v : State} (h : optlessPart v = optlessPart s) : v.desc = s.desc :=
  (congrArg State.desc h : (optlessPart v).desc = (optlessPart s).desc)
theorem dload_of_optless {s v : State} (h : optlessPart v = optlessPart s) : v.dload = s.dload :=
  (congrArg State.dload h : (optlessPart v).dload = (optlessPart s).dload)
theorem tally_of_optless {s v : State} (h : optlessPart v = optlessPart s) : v.tally = s.tally :=
  (congrArg State.tally h : (optlessPart v).tally = (optlessPart s).tally)
theorem sdl_of_optless {s v : State} (h : optlessPart v = optlessPart s) : v.sdl = s.sdl :=
  (congrArg State.sdl h : (optlessPart v).sdl = (optlessPart s).sdl)
theorem queue_of_optless {s v : State} (h : optlessPart v = optlessPart s) : v.queue = s.queue :=
  (congrArg State.queue h : (optlessPart v).queue = (optlessPart s).queue)
theorem meter_of_optless {s v : State} (h : optlessPart v = optlessPart s) : v.meter = s.meter :=
  (congrArg State.meter h : (optlessPart v).meter = (optlessPart s).meter)
theorem mrec_of_optless {s v : State} (h : optlessPart v = optlessPart s) : v.mrec = s.mrec :=
  (congrArg State.mrec h : (optlessPart v).mrec = (optlessPart s).mrec)
theorem mtrNext_of_optless {s v : State} (h : optlessPart v = optlessPart s) : v.mtrNext = s.mtrNext :=
  (congrArg State.mtrNext h : (optlessPart v).mtrNext = (optlessPart s).mtrNext)
theorem slice_of_optless {s v : State} (h : optlessPart v = optlessPart s) : v.slice = s.slice :=
  (congrArg State.slice h : (optlessPart v).slice = (optlessPart s).slice)
theorem aborts_of_optless {s v : State} (h : optlessPart v = optlessPart s) : v.aborts = s.aborts :=
  (congrArg State.aborts h : (optlessPart v).aborts = (optlessPart s).aborts)
theorem haltAt_of_optless {s v : State} (h : optlessPart v = optlessPart s) : v.haltAt = s.haltAt :=
  (congrArg State.haltAt h : (optlessPart v).haltAt = (optlessPart s).haltAt)
theorem therm_of_optless {s v : State} (h : optlessPart v = optlessPart s) : v.therm = s.therm :=
  (congrArg State.therm h : (optlessPart v).therm = (optlessPart s).therm)
theorem tripAt_of_optless {s v : State} (h : optlessPart v = optlessPart s) : v.tripAt = s.tripAt :=
  (congrArg State.tripAt h : (optlessPart v).tripAt = (optlessPart s).tripAt)
theorem thermtrip_of_optless {s v : State} (h : optlessPart v = optlessPart s) : v.thermtrip = s.thermtrip :=
  (congrArg State.thermtrip h : (optlessPart v).thermtrip = (optlessPart s).thermtrip)
theorem inj_of_optless {s v : State} (h : optlessPart v = optlessPart s) : v.inj = s.inj :=
  (congrArg State.inj h : (optlessPart v).inj = (optlessPart s).inj)
theorem dark_of_optless {s v : State} (h : optlessPart v = optlessPart s) : v.dark = s.dark :=
  (congrArg State.dark h : (optlessPart v).dark = (optlessPart s).dark)
theorem wdogAt_of_optless {s v : State} (h : optlessPart v = optlessPart s) : v.wdogAt = s.wdogAt :=
  (congrArg State.wdogAt h : (optlessPart v).wdogAt = (optlessPart s).wdogAt)
theorem recs_of_optless {s v : State} (h : optlessPart v = optlessPart s) : v.recs = s.recs :=
  (congrArg State.recs h : (optlessPart v).recs = (optlessPart s).recs)
theorem recEpoch_of_optless {s v : State} (h : optlessPart v = optlessPart s) : v.recEpoch = s.recEpoch :=
  (congrArg State.recEpoch h : (optlessPart v).recEpoch = (optlessPart s).recEpoch)
theorem flush_of_optless {s v : State} (h : optlessPart v = optlessPart s) : v.flush = s.flush :=
  (congrArg State.flush h : (optlessPart v).flush = (optlessPart s).flush)
theorem flushWait_of_optless {s v : State} (h : optlessPart v = optlessPart s) : v.flushWait = s.flushWait :=
  (congrArg State.flushWait h : (optlessPart v).flushWait = (optlessPart s).flushWait)
theorem flushEnd_of_optless {s v : State} (h : optlessPart v = optlessPart s) : v.flushEnd = s.flushEnd :=
  (congrArg State.flushEnd h : (optlessPart v).flushEnd = (optlessPart s).flushEnd)
theorem hmkAt_of_optless {s v : State} (h : optlessPart v = optlessPart s) : v.hmkAt = s.hmkAt :=
  (congrArg State.hmkAt h : (optlessPart v).hmkAt = (optlessPart s).hmkAt)
theorem replay_of_optless {s v : State} (h : optlessPart v = optlessPart s) : v.replay = s.replay :=
  (congrArg State.replay h : (optlessPart v).replay = (optlessPart s).replay)
theorem replayNo_of_optless {s v : State} (h : optlessPart v = optlessPart s) : v.replayNo = s.replayNo :=
  (congrArg State.replayNo h : (optlessPart v).replayNo = (optlessPart s).replayNo)
theorem pwrHigh_of_optless {s v : State} (h : optlessPart v = optlessPart s) : v.pwrHigh = s.pwrHigh :=
  (congrArg State.pwrHigh h : (optlessPart v).pwrHigh = (optlessPart s).pwrHigh)
theorem pwrHighAt_of_optless {s v : State} (h : optlessPart v = optlessPart s) : v.pwrHighAt = s.pwrHighAt :=
  (congrArg State.pwrHighAt h : (optlessPart v).pwrHighAt = (optlessPart s).pwrHighAt)
theorem bkpFail_of_optless {s v : State} (h : optlessPart v = optlessPart s) : v.bkpFail = s.bkpFail :=
  (congrArg State.bkpFail h : (optlessPart v).bkpFail = (optlessPart s).bkpFail)
theorem link_of_optless {s v : State} (h : optlessPart v = optlessPart s) : v.link = s.link :=
  (congrArg State.link h : (optlessPart v).link = (optlessPart s).link)
theorem post_of_optless {s v : State} (h : optlessPart v = optlessPart s) : v.post = s.post :=
  (congrArg State.post h : (optlessPart v).post = (optlessPart s).post)
theorem sendData_of_optless {s v : State} (h : optlessPart v = optlessPart s) : v.sendData = s.sendData :=
  (congrArg State.sendData h : (optlessPart v).sendData = (optlessPart s).sendData)
theorem linkPlot_of_optless {s v : State} (h : optlessPart v = optlessPart s) : v.linkPlot = s.linkPlot :=
  (congrArg State.linkPlot h : (optlessPart v).linkPlot = (optlessPart s).linkPlot)
theorem xferNo_of_optless {s v : State} (h : optlessPart v = optlessPart s) : v.xferNo = s.xferNo :=
  (congrArg State.xferNo h : (optlessPart v).xferNo = (optlessPart s).xferNo)
theorem extents_of_optless {s v : State} (h : optlessPart v = optlessPart s) : v.extents = s.extents :=
  (congrArg State.extents h : (optlessPart v).extents = (optlessPart s).extents)
theorem csc_of_optless {s v : State} (h : optlessPart v = optlessPart s) : v.csc = s.csc :=
  (congrArg State.csc h : (optlessPart v).csc = (optlessPart s).csc)
theorem fuses_of_optless {s v : State} (h : optlessPart v = optlessPart s) : v.fuses = s.fuses :=
  (congrArg State.fuses h : (optlessPart v).fuses = (optlessPart s).fuses)
theorem nor_of_optless {s v : State} (h : optlessPart v = optlessPart s) : v.nor = s.nor :=
  (congrArg State.nor h : (optlessPart v).nor = (optlessPart s).nor)
theorem mram_of_optless {s v : State} (h : optlessPart v = optlessPart s) : v.mram = s.mram :=
  (congrArg State.mram h : (optlessPart v).mram = (optlessPart s).mram)
theorem fw_of_optless {s v : State} (h : optlessPart v = optlessPart s) : v.fw = s.fw :=
  (congrArg State.fw h : (optlessPart v).fw = (optlessPart s).fw)
theorem powered_of_optless {s v : State} (h : optlessPart v = optlessPart s) : v.powered = s.powered :=
  (congrArg State.powered h : (optlessPart v).powered = (optlessPart s).powered)
theorem inReset_of_optless {s v : State} (h : optlessPart v = optlessPart s) : v.inReset = s.inReset :=
  (congrArg State.inReset h : (optlessPart v).inReset = (optlessPart s).inReset)
theorem testEn_of_optless {s v : State} (h : optlessPart v = optlessPart s) : v.testEn = s.testEn :=
  (congrArg State.testEn h : (optlessPart v).testEn = (optlessPart s).testEn)
theorem strapAddr_of_optless {s v : State} (h : optlessPart v = optlessPart s) : v.strapAddr = s.strapAddr :=
  (congrArg State.strapAddr h : (optlessPart v).strapAddr = (optlessPart s).strapAddr)
theorem releaseAt_of_optless {s v : State} (h : optlessPart v = optlessPart s) : v.releaseAt = s.releaseAt :=
  (congrArg State.releaseAt h : (optlessPart v).releaseAt = (optlessPart s).releaseAt)
theorem pwrLowAt_of_optless {s v : State} (h : optlessPart v = optlessPart s) : v.pwrLowAt = s.pwrLowAt :=
  (congrArg State.pwrLowAt h : (optlessPart v).pwrLowAt = (optlessPart s).pwrLowAt)
theorem down_of_optless {s v : State} (h : optlessPart v = optlessPart s) : v.down = s.down :=
  (congrArg State.down h : (optlessPart v).down = (optlessPart s).down)
theorem refLost_of_optless {s v : State} (h : optlessPart v = optlessPart s) : v.refLost = s.refLost :=
  (congrArg State.refLost h : (optlessPart v).refLost = (optlessPart s).refLost)
theorem pending_of_optless {s v : State} (h : optlessPart v = optlessPart s) : v.pending = s.pending :=
  (congrArg State.pending h : (optlessPart v).pending = (optlessPart s).pending)
theorem engFreed_of_optless {s v : State} (h : optlessPart v = optlessPart s) : v.engFreed = s.engFreed :=
  (congrArg State.engFreed h : (optlessPart v).engFreed = (optlessPart s).engFreed)
theorem tagTurn_of_optless {s v : State} (h : optlessPart v = optlessPart s) : v.tagTurn = s.tagTurn :=
  (congrArg State.tagTurn h : (optlessPart v).tagTurn = (optlessPart s).tagTurn)
theorem capWait_of_optless {s v : State} (h : optlessPart v = optlessPart s) : v.capWait = s.capWait :=
  (congrArg State.capWait h : (optlessPart v).capWait = (optlessPart s).capWait)

end Sys2Proof.Machine
end

