-- ==== Sys2Proof/Laws/ReportRegs.lean ====
section
/-! SUPPORT. The registers a report writes: every other register stands. -/
namespace Sys2Proof.Machine

@[simp] theorem reg_setUpds (off : Nat) (u : Updates) (s : State) : reg off (setUpds u s) = reg off s := (rfl)
@[simp] theorem reg_emit (off : Nat) (o : Out) (s : State) : reg off (emit o s) = reg off s := (rfl)
@[simp] theorem reg_leave (off : Nat) (d : Due) (s : State) : reg off (leave d s) = reg off s := (rfl)
@[simp] theorem reg_onFunc (off f : Nat) (g : Func → Func) (s : State) : reg off (onFunc f g s) = reg off s := (rfl)
@[simp] theorem reg_setErrAt (off c r : Nat) (s : State) : reg off (setErrAt c r s) = reg off s := (rfl)
@[simp] theorem reg_setFifo (off : Nat) (l : List Word) (b : Bool) (s : State) : reg off (setFifo l b s) = reg off s := (rfl)
@[simp] theorem reg_onTrace (off : Nat) (f : RecClass → RecClass) (s : State) : reg off (onTrace f s) = reg off s := (rfl)
@[simp] theorem reg_onFault (off : Nat) (f : RecClass → RecClass) (s : State) : reg off (onFault f s) = reg off s := (rfl)

theorem reg_raise {off : Nat} {f : Fld} (h : off ≠ f.off) (v : Nat) (s : State) : reg off (raise f v s) = reg off s := by
  unfold raise; rw [reg_setFld_other h, reg_setUpds]

theorem reg_addSat {off : Nat} {f : Fld} (h : off ≠ f.off) (n : Nat) (s : State) : reg off (addSat f n s) = reg off s := by
  unfold addSat; exact reg_setFld_other h _ _

theorem reg_bump {off : Nat} {f : Fld} (h : off ≠ f.off) (n : Nat) (s : State) : reg off (bump f n s) = reg off s := by
  unfold bump; rw [reg_addSat h, reg_setUpds]

theorem reg_holdFirst {off : Nat} {f : Fld} {fs : List (Fld × Nat)} (h : off ≠ f.off) (hs : ∀ x ∈ fs, off ≠ x.1.off)
    (s : State) : reg off (holdFirst f fs s) = reg off s := by
  unfold holdFirst
  split
  · rfl
  · rw [reg_raise h, reg_setFlds_other fs _ hs]

@[simp] theorem reg_msix (off f v : Nat) (s : State) : reg off (msix f v s) = reg off s := by
  unfold msix
  extract_lets fn e
  split <;> simp

@[simp] theorem reg_irqSend (off k : Nat) (s : State) : reg off (irqSend k s) = reg off s := by
  unfold irqSend; split <;> simp

theorem reg_irq {off : Nat} (h : off ≠ rGLB_IRQ_PEND) (k : Nat) (s : State) : reg off (irq k s) = reg off s := by
  unfold irq
  extract_lets f u
  split
  · rfl
  · rw [reg_irqSend, reg_raise h]

/-- Registers of the global error status (R543, R546). -/
abbrev errRegs : List Nat := [rGLB_ERR_COUNT, rGLB_ERR_LOC, rGLB_ERR_OFFSET, rGLB_IRQ_PEND]

theorem reg_globalErr {off : Nat} (h : off ∉ errRegs) (k src fn o : Nat) (s : State) :
    reg off (globalErr k src fn o s) = reg off s := by
  simp only [List.mem_cons, List.not_mem_nil, or_false, not_or] at h
  unfold globalErr
  extract_lets r b s1
  have h1 : reg off s1 = reg off s := reg_bump h.1 1 s
  rw [reg_irq h.2.2.2]
  split
  · rw [reg_raise h.2.1, reg_setFlds_other _ _ (by simp [h]), reg_setErrAt, h1]
  · exact h1

/-- Registers of the status FIFO, of the recorder and of the interrupts (R397, R455, R546). -/
abbrev faultRegs : List Nat := [rGLB_SFIFO_STATUS, rHMK_STATUS, rHMK_DROP_COUNT, rGLB_IRQ_PEND]

@[simp] theorem reg_leaveFlush (off : Nat) (fl : Option Nat) (s : State) : reg off (leaveFlush fl s) = reg off s := by
  cases fl <;> simp [leaveFlush]

theorem reg_traceTrigger {off : Nat} (h : off ∉ faultRegs) (en : Bool) (t : Snap) (s : State) :
    reg off (traceTrigger en t s) = reg off s := by
  simp only [List.mem_cons, List.not_mem_nil, or_false, not_or] at h
  unfold traceTrigger
  split
  · rw [reg_setFld_other h.2.1, reg_onTrace]
  · exact reg_bump h.2.2.1 1 s

theorem reg_faultSnap {off : Nat} (h : off ∉ faultRegs) (en : Bool) (t : Snap) (s : State) :
    reg off (faultSnap en t s) = reg off s := by
  simp only [List.mem_cons, List.not_mem_nil, or_false, not_or] at h
  unfold faultSnap
  split
  · rw [reg_setFld_other h.2.1, reg_onFault]
  · rw [reg_leaveFlush, reg_bump h.2.2.1 1 s]

theorem reg_trigger {off : Nat} (h : off ∉ faultRegs) (k : Nat) (e : Word) (fl : Option Nat) (s : State) :
    reg off (trigger k e fl s) = reg off s := by
  unfold trigger
  extract_lets r en t s1 s2
  have h1 : reg off s1 = reg off s := by show reg off (if _ then _ else _) = _; split <;> simp
  have h2 : reg off s2 = reg off s := by
    show reg off (if _ then _ else _) = _
    split
    · rw [reg_traceTrigger h, h1]
    · exact h1
  split
  · rw [reg_faultSnap h, h2]
  · rw [reg_leaveFlush, h2]

theorem reg_sfHold {off : Nat} (h : off ∉ faultRegs) (s : State) : reg off (sfHold s) = reg off s := by
  simp only [List.mem_cons, List.not_mem_nil, or_false, not_or] at h
  unfold sfHold
  extract_lets fill s1 s2
  have h1 : reg off s1 = reg off s := reg_setFld_other h.1 _ _
  have h2 : reg off s2 = reg off s := by
    show reg off (irq 16 (emit _ (setFld GLB_SFIFO_STATUS_HOLD 1 s1))) = _
    rw [reg_irq h.2.2.2, reg_emit, reg_setFld_other h.1, h1]
  split
  · split
    · rw [reg_emit, reg_setFld_other h.1, h1]
    · exact h1
  · split
    · split <;> simp [h2]
    · exact h1

theorem reg_sfPush {off : Nat} (h : off ∉ faultRegs) (e : Word) (s : State) : reg off (sfPush e s) = reg off s := by
  have h0 := h
  simp only [List.mem_cons, List.not_mem_nil, or_false, not_or] at h
  unfold sfPush
  split
  · rw [reg_bump h.1, reg_raise h.1, reg_setFifo]
  · rw [reg_sfHold h0, reg_setFifo]

theorem reg_faultTrigger {off : Nat} (h : off ∉ faultRegs) (c : Nat) (e : Word) (s : State) :
    reg off (faultTrigger c e s) = reg off s := by
  unfold faultTrigger
  extract_lets fl
  split
  · exact reg_trigger h _ _ _ _
  · exact reg_leaveFlush _ _ _

theorem reg_devFault {off : Nat} (h : off ∉ faultRegs) (c k d : Nat) (s : State) :
    reg off (devFault c k d s) = reg off s := by
  unfold devFault
  rw [reg_faultTrigger h, reg_irq (by simp at h; exact h.2.2.2), reg_sfPush h]

/-- Registers of the faults of plot n (R430, R446). -/
abbrev plotFaultRegs (n : Nat) : List Nat :=
  [rPLOT_FAULT_STATUS n, rPLOT_FAULT_FIRST n, rPLOT_FAULT_COUNT n, rGLB_SFIFO_STATUS, rHMK_STATUS, rHMK_DROP_COUNT,
    rGLB_IRQ_PEND]

theorem reg_plotFault {off n : Nat} (h : off ∉ plotFaultRegs n) (c k d pc : Nat) (s : State) :
    reg off (plotFault n c k d pc s) = reg off s := by
  have hf : off ∉ faultRegs := by simp at h ⊢; exact h.2.2.2
  simp only [List.mem_cons, List.not_mem_nil, or_false, not_or] at h
  unfold plotFault
  have e1 : ∀ t, reg off (stopFault n c t) = reg off t := by intro t; unfold stopFault; split <;> simp
  have e2 : ∀ e t, reg off (reportOnce n c k e t) = reg off t := by
    intro e t
    unfold reportOnce
    split
    · rfl
    · rw [reg_sfPush hf]; rfl
  have e3 : ∀ t, reg off (recordFault n c k pc t) = reg off t := by
    intro t
    unfold recordFault
    extract_lets f b s1
    have h1 : reg off s1 = reg off t := by
      show reg off (bump _ 1 _) = _
      rw [reg_bump h.2.2.1, reg_holdFirst h.2.1 (by simp [h]), reg_raise h.1]
    split
    · rw [reg_msix, h1]
    · exact h1
  rw [e1, reg_faultTrigger hf, e2, e3]

theorem fld_devFault {f : Fld} (h : f.off ∉ faultRegs) (c k d : Nat) (s : State) : fld f (devFault c k d s) = fld f s := by
  unfold fld; rw [reg_devFault h]

theorem fld_trigger {f : Fld} (h : f.off ∉ faultRegs) (k : Nat) (e : Word) (fl : Option Nat) (s : State) :
    fld f (trigger k e fl s) = fld f s := by
  unfold fld; rw [reg_trigger h]

theorem fld_irq {f : Fld} (h : f.off ≠ rGLB_IRQ_PEND) (k : Nat) (s : State) : fld f (irq k s) = fld f s := by
  unfold fld; rw [reg_irq h]

end Sys2Proof.Machine
end

