-- ==== Sys2Proof/Tests/Slice0.lean ====
section
/-! SUPPORT. Tests of the model: terms that WellFormed refuses, states that meet the hypotheses of each statement of
Certificates/Slice0/Obligations.lean, and the spec's worked examples. -/
namespace Sys2Proof.Tests

open Sys2Proof Sys2Proof.Machine
set_option Elab.async false

/-! ### Helpers -/

/-- A word from its fields. -/
abbrev word (l : List (Fld × Nat)) : Word := BitVec.ofNat 32 (l.foldl (fun a x => a + x.2 * 2 ^ x.1.lo) 0)
/-- A part that is out of reset. -/
abbrev lit : State := { State.reset with inReset := false }
/-- One in stage READY, its MST MASTER. -/
abbrev ready : State := setFlds [(GLB_STARTUP_STATUS_STAGE, 8), (SDL_STATUS_MST_STATE, 4)] lit
/-- One whose plot 0 runs, with its bundle at 0. -/
abbrev running : State := { ready with seq := { ready.seq with run := some { plot := 0, pc := 0 } } }
/-- The state at the instant of a command. -/
abbrev atNow (s : State) : State := clockTo 0 s
/-- The state at a later instant. -/
abbrev later (t : Nat) (s : State) : State := clockTo t s

/-! ### Well-formed commands: each check refuses a term, and terms at the ends of their ranges stand -/

theorem test_wf_stands :
    [Instr.flitSend 0 5 15, .lossOfLight 0 5 16, .laneGiveUp 0 0 0 1 8 .ring 0, .bmeSet 0 16 {}, .tagTimeout 0 0 1023,
      .stackIdentityRead 0 7 true 15, .wakeDelivery 0 63, .watchExpiry 0 4095, .laserLock 0 5 8, .spareLock 0 0 1,
      .monitorScan 0 2105 0, .loopHold 0 3821, .coefSwapApply 0 3, .tpOutFall 0 3, .componentReady 0 6,
      .loadGo 0 .host (word [(SEQ_CTRL_LOAD_GO, 1)]), .bankDisable 0 .sideband 5 0,
      .refresh 0 0 [.store 65535 2, .sram 1023 65535 1, .bridge 31 31 2], .apertureAccess 0 (2 ^ 36 - 4) none 4,
      .unknownType 0 ⟨0, 0⟩ 0 0x02 true, .optics 0 [(0, 5), (7, -1)]].all Instr.wf = true := by decide
theorem test_wf_isPort : Instr.wf (.flitSend 0 6 0) = false := by decide
theorem test_wf_isLink : Instr.wf (.flitSend 0 0 16) = false := by decide
theorem test_wf_isXcvr : Instr.wf (.lossOfLight 0 0 17) = false := by decide
theorem test_wf_isLane : Instr.wf (.laneGiveUp 0 0 0 1 9 .ring 0) = false := by decide
theorem test_wf_isDir : Instr.wf (.laneGiveUp 0 0 0 2 0 .ring 0) = false := by decide
theorem test_wf_isPlot : Instr.wf (.teardown 0 16) = false := by decide
theorem test_wf_isSq : Instr.wf (.commandStart 0 0 4) = false := by decide
theorem test_wf_isFunc : Instr.wf (.flr 0 17) = false := by decide
theorem test_wf_isTag : Instr.wf (.tagTimeout 0 0 1024) = false := by decide
theorem test_wf_isStack : Instr.wf (.stackLost 0 8) = false := by decide
theorem test_wf_isHbmChannel : Instr.wf (.hbmVerifyEnd 0 0 true 32) = false := by decide
theorem test_wf_isRates : isRates 16 = false := by decide
theorem test_wf_isEngine : Instr.wf (.accessRetire 0 16) = false := by decide
theorem test_wf_isWaitSlot : Instr.wf (.wakeDelivery 0 64) = false := by decide
theorem test_wf_isWatch : Instr.wf (.groupRebase 0 4096) = false := by decide
theorem test_wf_isBank : Instr.wf (.checkingEnd 0 8) = false := by decide
theorem test_wf_isEntry : Instr.wf (.entryWrite 0 .host 0 256 false 0) = false := by decide
theorem test_wf_isLaser : Instr.wf (.driverFault 0 0 11 []) = false := by decide
theorem test_wf_isGrid : Instr.wf (.laserLock 0 0 9) = false := by decide
theorem test_wf_isSpare : Instr.wf (.spareLock 0 0 2) = false := by decide
theorem test_wf_isChannel : Instr.wf (.monitorScan 0 2106 0) = false := by decide
theorem test_wf_isLoop : Instr.wf (.loopHold 0 3822) = false := by decide
theorem test_wf_isClass : Instr.wf (.coefSwapApply 0 4) = false := by decide
theorem test_wf_isPin : Instr.wf (.tpOutFall 0 4) = false := by decide
theorem test_wf_isInPin : Instr.wf (.tpInCapture 0 2) = false := by decide
theorem test_wf_isComponent : Instr.wf (.componentReady 0 1) = false ∧ Instr.wf (.componentReady 0 7) = false := by decide
theorem test_wf_isByte : Instr.wf (.setEndpointId 0 0 256) = false := by decide
theorem test_wf_isHalf : Instr.wf (.frontEndTick 0 0 65536) = false := by decide
theorem test_wf_isCount : Instr.wf (.laneMapApply 0 0 0 (2 ^ 32)) = false := by decide
theorem test_wf_isCounts : Instr.wf (.guardSwitch 0 [(192, 1)]) = false ∧ Instr.wf (.guardSwitch 0 [(1, 1), (0, 1)]) = false := by
  decide
theorem test_wf_isCal : Instr.wf (.optics 0 [(3, 1), (3, 2)]) = false := by decide
theorem test_wf_isCell : Instr.wf (.sync 0 0 0 []) = false := by decide
theorem test_wf_isCodewords : isCodewords [] = false ∧ isCodewords [⟨545, true⟩] = false := by decide
theorem test_wf_isFrame : Instr.wf (.hello 0 0 0 [0]) = false := by decide
theorem test_wf_isUpset : Instr.wf (.bundleIssue 0 [.store 65536 1]) = false ∧ Instr.wf (.bundleIssue 0 [.sram 0 0 3]) = false
    ∧ Instr.wf (.bundleIssue 0 [.bridge 32 0 1]) = false ∧ Instr.wf (.bundleIssue 0 [.hbm 0 0]) = false := by decide
theorem test_wf_isUpsets : isUpsets [.store 0 1, .store 0 0] = false := by decide
theorem test_wf_isLinks : Instr.wf (.guardEnd 0 [(0, 16)] []) = false := by decide
theorem test_wf_isSpares : Instr.wf (.replanPhase 0 [(6, true, true)] []) = false := by decide
theorem test_wf_isTemps : Instr.wf (.sensorRead 0 [25]) = false := by decide
theorem test_wf_isPci : Instr.wf (.bmeSet 0 0 { maxRead := 8192 }) = false ∧ Instr.wf (.bmeSet 0 0 { bar2 := 7 }) = false := by
  decide
theorem test_wf_isLog : isLog 128 = false := by decide
theorem test_wf_isClock : isClock ⟨256, 0, 0, 0, 0, 0, 0⟩ = false := by decide
theorem test_wf_isAperture : Instr.wf (.apertureAccess 0 (2 ^ 36) none 4) = false := by decide
theorem test_wf_isSeq : Instr.wf (.fwAbort 0 ⟨0, 0⟩ (2 ^ 32)) = false := by decide
theorem test_wf_isPeer : Instr.wf (.fwAbort 0 ⟨0, 65536⟩ 0) = false := by decide
theorem test_wf_isEntries : isEntries [(256, 0, 0)] = false := by decide
theorem test_wf_isDigest : Instr.wf (.planStage 0 ⟨0, 0⟩ 0 0 [] []) = false := by decide
theorem test_wf_isHeader : Instr.wf (.fwBegin 0 ⟨0, 0⟩ 0 false []) = false := by decide
theorem test_wf_isType : Instr.wf (.unknownType 0 ⟨0, 0⟩ 0 0x01 true) = false := by decide
theorem test_wf_isAccessor : Instr.wf (.isoEn 0 .device 0) = false ∧ Instr.wf (.isoEn 0 (.vf 16) 0) = false := by decide
theorem test_wf_isOffset : Instr.wf (.unalignedAccess 0 .host (2 ^ 24) false) = false := by decide
theorem test_wf_isTrim : Instr.wf (.trimRequest 0 .host 0 0) = false := by decide
theorem test_wf_isDesignation : Instr.wf (.designationWrite 0 0 0) = false := by decide
theorem test_wf_isRc : Instr.wf (.rcRead 0 .host rGLB_HALT_CTRL) = false := by decide
theorem test_wf_isLowWord : Instr.wf (.lowWordRead 0 .host rGLB_HALT_CTRL) = false := by decide
theorem test_wf_isFifoCount : Instr.wf (.readFifo 0 256) = false := by decide
theorem test_wf_fw_data : Instr.wf (.fwData 0 ⟨0, 0⟩ 0 0 (List.replicate 1025 0)) = false := by decide +kernel
theorem test_wf_cal_done : Instr.wf (.calDone 0 [918] []) = false := by decide
/-- A row that is a register write has its command bit. -/
theorem test_wf_command_bit :
    [Instr.scrubStart 0 .host 0, .loadGo 0 .host 0, .seqCtrlStart 0 .host 0, .dloadGo 0 .host 0, .zeroGo 0 .host 0,
      .rehello 0 .host 0 0, .stageGo 0 .host 0, .replanGo 0 .host 0, .replanNow 0 .host 0, .unfence 0 .host 0,
      .cscTrigArm 0 .host 0, .cscTrigDisarm 0 .host 0, .bankEnable 0 .host 0 0, .bankDisable 0 .host 0 0xFFFFFFFF,
      .measGo 0 .host 0, .anlSwap 0 .host 0, .selftest 0 .host 0, .gaincal 0 .host 0, .setMst 0 .host 0,
      .mstFromTod 0 .host 0, .setTod 0 .host 0, .vtZero 0 .host 0, .tpoEnable 0 .host 0 0, .openPlot 0 .host 0 0,
      .closePlot 0 .host 0 0, .haltAll 0 .host 0, .resume 0 .host 0, .injArm 0 .host 0 [], .injDoneClear 0 .host 0,
      .snapNow 0 .host 0, .confirm 0 .host 0, .reject 0 .host 0, .crucible 0 .host 0, .activate 0 .host 0,
      .fwReset 0 .host 0].all (fun i => !i.wf) = true := by decide
/-- The commands are given by words of no width: no word spells one. -/
theorem test_decode_none : decodeTableWord 32 0 = none ∧ decodeTableWord 0 0 = none := by decide

/-! ### Witnesses: the conditions of the statements can be met together -/

/-- `Reaches` of the host and of the sideband is `reaches`: neither is a VF. -/
theorem witness_reaches : (∀ n, Accessor.host ≠ .vf n) ∧ ∀ n, Accessor.sideband ≠ .vf n := ⟨nofun, nofun⟩

/-- IssueCyclesAnswer: a bundle reached before, and one reached first. -/
theorem witness_issue_reached :
    let r : Run := { plot := 0, pc := 0, reached := true }
    let u := atNow { running with seq := { running.seq with run := some r } }
    let w := onRun (fun r => { r with next := cycle u + 1 }) (forAll upset [] u)
    Alive u ∧ u.seq.run = some r ∧ r.next ≤ cycle u ∧ u.seq.scrubEnd = none ∧ mstValid u = true
      ∧ flag GLB_THERM_STATUS_THROTTLE u = false ∧ replaying 0 w = false ∧ (ctlSlot 0).op ≠ 0x22
      ∧ (get 0 (((storeRegion 0 w).getD (0, 0)).1 + 0) w.seq.store).toNat = 0
      ∧ stmHolds (fun e => heldNow e w) 0 (smSlot 0 0) (smSlot 0 1) w = false := by decide +kernel
theorem witness_issue_first :
    let u := atNow running
    let w := onRun (fun r => { r with next := cycle u + 1 }) (forAll upset [] u)
    Alive u ∧ u.seq.run = some { plot := 0, pc := 0 } ∧ mstValid u = true ∧ replaying 0 w = false
      ∧ (fetch { plot := 0, pc := 0 } ((storeRegion 0 w).getD (0, 0)).1 w).seq.run.isSome = true := by decide
theorem witness_matrix_end :
    let o : MOp := ⟨false, 0, false, 0, 0, 0, [], true, 0, [], false⟩
    let u := atNow { lit with seq := { lit.seq with ic := 10 }, cores := { lit.cores with mxRun := some o } }
    Alive u ∧ u.cores.mxDone ≤ u.seq.ic ∧ u.cores.mxRun = some o ∧ opD o ≤ u.seq.ic - o.start := by decide +kernel
theorem witness_stream_release :
    let r : Run := { plot := 0, pc := 0, stream := true }
    let u := atNow { running with seq := { running.seq with run := some r } }
    Alive u ∧ u.seq.run = some r ∧ r.stream = true ∧ stmHolds (fun e => occ e u) 0 (smSlot 0 0) (smSlot 0 1) u = false := by decide

/-- WaitSlotsAnswer: a wake at slot 63; an expiry with and without a WAIT on the slot. -/
theorem witness_wake :
    let x : Wake := ⟨0, 63, false, false, 0, 0⟩
    let s := { running with seq := { running.seq with wslot := [(63, .armed)] }, tally := { running.tally with wakes := [x] } }
    let w := tallyRun (atNow s)
    let z := capEvent 3 0 63 x.rel x.value [] w
    Alive (atNow s) ∧ w.seq.run = some { plot := 0, pc := 0 } ∧ replaying 0 w = false ∧ wakeFor 63 false w = some x
      ∧ get false 63 z.tally.gen = x.gen ∧ wslot 63 z = .armed := by decide
theorem witness_expiry :
    let x : Wake := ⟨0, 0, false, true, 0, 0⟩
    let s (r : Run) : State := { running with
      seq := { running.seq with run := some r, wslot := [(0, .armed)] }, tally := { running.tally with wakes := [x] } }
    let u := atNow (s { plot := 0, pc := 0 })
    let v := atNow (s { plot := 0, pc := 0, waitSlot := some 0 })
    Alive u ∧ wakeFor 0 true u = some x ∧ get false 0 u.tally.gen = x.gen ∧ wslot 0 u = .armed
      ∧ u.seq.run = some { plot := 0, pc := 0 }
      ∧ Alive v ∧ wakeFor 0 true v = some x ∧ wslot 0 v = .armed ∧ v.seq.run = some { plot := 0, pc := 0, waitSlot := some 0 } := by
  decide

/-- RunLifeAnswers. -/
theorem witness_load_go :
    let w := word [(SEQ_CTRL_LOAD_GO, 1)]
    let u := atNow (setFld (PLOT_STATUS_STATE 0) 1 ready)
    let z := setFld SEQ_CTRL_PLOT (wfld SEQ_CTRL_PLOT w) (writeLatches .host rSEQ_CTRL u)
    Alive u ∧ reaches .host u = true ∧ wfld SEQ_CTRL_LOAD_GO w = 1 ∧ wfld SEQ_CTRL_START w = 0 ∧ z.seq.load = none ∧ runOf 0 z = false
      ∧ plotOpen 0 z = true ∧ halted z = false ∧ loadsOpen z = true := by decide
theorem witness_start :
    let w := word [(SEQ_CTRL_START, 1)]
    let u := atNow (setFlds [(PLOT_STATUS_STATE 0, 1), (TLY_TR_VALID 0, 1), (TLY_WR_VALID 0, 1)] { ready with
      seq := { ready.seq with image := [(0, some ⟨0, 1, [], 0, 0⟩)] } })
    let z := setFld SEQ_CTRL_PLOT (wfld SEQ_CTRL_PLOT w) (writeLatches .host rSEQ_CTRL u)
    Alive u ∧ reaches .host u = true ∧ wfld SEQ_CTRL_START w = 1 ∧ wfld SEQ_CTRL_LOAD_GO w = 0 ∧ startRefused 0 z = none := by decide
theorem witness_run_start :
    let s := setFlds [(PLOT_STATUS_STATE 0, 1)] { ready with
      seq := { ready.seq with image := [(0, some ⟨0, 1, [], 0, 0⟩)], runnable := [(0, none)] }
      slice := { ready.slice with owner := some 0, drained := false } }
    let u := atNow s
    Alive u ∧ u.slice.owner = some 0 ∧ mayBegin 0 u = true ∧ u.seq.issuedInSlice = false ∧ imageOf 0 u = some ⟨0, 1, [], 0, 0⟩ := by
  decide
theorem witness_run_done :
    let u := atNow { running with seq := { running.seq with run := some { plot := 0, pc := 0, halted := true } } }
    let w := tallyRun u
    Alive u ∧ w.seq.run = some { plot := 0, pc := 0, halted := true } ∧ w.cores.pend = [] ∧ w.cores.mxRun = none
      ∧ openRequests 0 w = [] ∧ plotTransfers 0 w = false ∧ tallyBusy 0 w = false := by decide
theorem witness_scrub :
    let w := word [(SEQ_CORE_CTRL_SCRUB_START, 1)]
    let v := atNow { ready with seq := { ready.seq with scrubEnd := some 0 } }
    Alive (atNow ready) ∧ reaches .host (atNow ready) = true ∧ wfld SEQ_CORE_CTRL_SCRUB_START w = 1 ∧ (atNow ready).seq.run = none
      ∧ (atNow ready).seq.scrubEnd = none ∧ portsIdle (atNow ready) = true
      ∧ Alive v ∧ v.seq.scrubEnd = some 0 ∧ 0 ≤ v.now ∧ v.slice.owner = none := by decide

/-- An image of one bundle that halts, at the start of the window of plot 0 (R129, R136): its header and the quarters of its
bundle. -/
def imageHead : List Byte := [0x31, 0x4C, 0x45, 0x4B, 1, 0, 0, 0, 1, 0, 0, 0, 0, 0, 0, 0, 163, 50, 43, 240] ++ List.replicate 236 0
def bundle0 : List Byte := [0, 0, 0, 0x10] ++ List.replicate 28 0
def bundle1 : List Byte := List.replicate 16 0 ++ [0x25] ++ List.replicate 15 0
def bundle2 : List Byte := List.replicate 32 0
def imageBody : List Byte := bundle0 ++ (bundle1 ++ (bundle2 ++ bundle2))
def imageBytes0 : List Byte := imageHead ++ imageBody
theorem get_enum {α : Type} (d : α) (l : List α) : ∀ i k (h : k < l.length), get d (i + k) (enum i l) = l[k] := by
  induction l with
  | nil => intro i k h; exact absurd h (by simp)
  | cons x l ih =>
    intro i k h
    cases k with
    | zero => simp [enum, Machine.get]
    | succ k =>
      have := ih (i + 1) k (by simpa using h)
      simpa [enum, Machine.get, show i + 1 + k = i + (k + 1) by omega] using this
/-- Data of a state that holds l, no stack of it failed. -/
theorem hbmData_holding {l : List Byte} {s : State} (hb : s.hbm.byte = enum 0 l)
    (hw : s.hbm.word = enum 0 (List.replicate (l.length / 32) 1)) (hf : stackFailed 0 s = false)
    (h32 : l.length % 32 = 0) (hl : l.length < 2 ^ 30) :
    ∀ n a, a + n ≤ l.length → hbmData a n s = (l.drop a).take n := by
  intro n
  induction n with
  | zero => intro a _; simp [hbmData]
  | succ n ih =>
    intro a h
    have hg : Machine.get 0 (a / 32) s.hbm.word = 1 := by
      have := get_enum 0 (List.replicate (l.length / 32) 1) 0 (a / 32) (by simp; omega)
      simpa [hw] using this
    have hx : Machine.get (Config.freeByte (s.hbm.epoch * 2 ^ 39 + a)) a s.hbm.byte = l[a] := by
      have := get_enum (Config.freeByte (s.hbm.epoch * 2 ^ 39 + a)) l 0 a (by omega)
      simpa [hb] using this
    have hk : a / 32 * 32 / stackBytes = 0 := Nat.div_eq_of_lt (by simp only [stackBytes]; omega)
    have he : wordErr (a / 32) s = 0 := by simp [wordErr, hk, hf, hg]
    rw [hbmData, ih (a + 1) (by omega), he, hbmByte, hx, if_neg (by decide), List.drop_eq_getElem_cons (show a < l.length by omega)]
    rw [List.take_succ_cons]
theorem hbmBad_holding {l : List Byte} {s : State} (hw : s.hbm.word = enum 0 (List.replicate (l.length / 32) 1))
    (hf : stackFailed 0 s = false) (hl : l.length < 2 ^ 30) {a n : Nat} (h : (a + n - 1) / 32 < l.length / 32) : hbmBad a n s = false := by
  simp only [hbmBad, List.any_eq_false, wordsOf, beq_iff_eq]
  intro w hm
  have hlt : w < l.length / 32 := by
    split at hm
    · simp at hm
    · obtain ⟨i, hi, rfl⟩ := List.mem_map.1 hm
      have := List.mem_range.1 hi
      omega
  have hg : Machine.get 0 w s.hbm.word = 1 := by
    have := get_enum 0 (List.replicate (l.length / 32) 1) 0 w (by simpa using hlt)
    simpa [hw] using this
  have hk : w * 32 / stackBytes = 0 := Nat.div_eq_of_lt (by simp only [stackBytes]; omega)
  simp [wordErr, hk, hf, hg]

/-- A part with a program load and a descriptor load of plot 0 in progress, its window 16 MiB from address 0. -/
abbrev loading (q : Seq) (b : Map Byte) (w : Map Nat) : State := { setFlds [(HBM_WIN_VALID 0 0, 1), (HBM_WIN_SIZE 0 0, 1),
  (SEQ_ISR_VALID 0, 1), (STM_DSR_VALID 0, 1)] ready with
  hbm := { lit.hbm with byte := b, word := w }
  seq := q, dload := some ⟨0, 0, none, 0⟩ }
theorem loading_regs (q : Seq) (b : Map Byte) (w : Map Nat) : stackFailed 0 (loading q b w) = false ∧ flag (HBM_WIN_VALID 0 0) (loading q b w) = true
    ∧ fld (HBM_WIN_SIZE 0 0) (loading q b w) = 1 ∧ fld (HBM_WIN_BASE 0 0) (loading q b w) = 0 :=
  (by decide : stackFailed 0 (loading {} [] []) = false ∧ flag (HBM_WIN_VALID 0 0) (loading {} [] []) = true
    ∧ fld (HBM_WIN_SIZE 0 0) (loading {} [] []) = 1 ∧ fld (HBM_WIN_BASE 0 0) (loading {} [] []) = 0)
theorem loading_data (q : Seq) (l : List Byte) (h32 : l.length % 32 = 0) (hl : l.length < 2 ^ 30) (a n : Nat) (h : a + n ≤ l.length) :
    hbmData a n (loading q (enum 0 l) (enum 0 (List.replicate (l.length / 32) 1))) = (l.drop a).take n :=
  hbmData_holding rfl rfl (loading_regs _ _ _).1 h32 hl n a h
theorem loading_good (q : Seq) (l : List Byte) (hl : l.length < 2 ^ 30) (a n : Nat) (h : (a + n - 1) / 32 < l.length / 32) :
    hbmBad a n (loading q (enum 0 l) (enum 0 (List.replicate (l.length / 32) 1))) = false :=
  hbmBad_holding rfl (loading_regs _ _ _).1 hl h
theorem loading_window (q : Seq) (b : Map Byte) (w : Map Nat) (a n : Nat) (h : a + n ≤ 2 ^ 24) : window 0 a n (loading q b w) = some a := by
  have h1 : flag (HBM_WIN_VALID 0 (a / 2 ^ 36)) (loading q b w) = true ∧ fld (HBM_WIN_SIZE 0 (a / 2 ^ 36)) (loading q b w) = 1
      ∧ fld (HBM_WIN_BASE 0 (a / 2 ^ 36)) (loading q b w) = 0 := by
    rw [Nat.div_eq_of_lt (by omega)]; exact (loading_regs q b w).2
  have h2 : a % 2 ^ 36 + n ≤ 2 ^ 24 := by rw [Nat.mod_eq_of_lt (by omega)]; exact h
  simp only [window, h1, Nat.one_mul, Nat.zero_mul, Nat.add_zero]
  rw [if_pos ⟨by omega, trivial, h2⟩, Nat.div_eq_of_lt (by omega), Nat.mod_eq_of_lt (by omega)]
  simp
/-- The window's bytes, read in 64-byte pieces. -/
theorem loading_read (q : Seq) (l : List Byte) (h32 : l.length % 32 = 0) (hl : l.length ≤ 2 ^ 24) (ps : List (Nat × Nat))
    (h : ∀ p ∈ ps, p.1 + p.2 ≤ l.length) :
    (ps.flatMap fun p => match reach none 0 p.1 p.2 (loading q (enum 0 l) (enum 0 (List.replicate (l.length / 32) 1))) with
      | some a => hbmData a p.2 (loading q (enum 0 l) (enum 0 (List.replicate (l.length / 32) 1)))
      | none => List.replicate p.2 0xFF) = ps.flatMap fun p => (l.drop p.1).take p.2 := by
  induction ps with
  | nil => rfl
  | cons p ps ih =>
    have hp := h p (List.mem_cons_self ..)
    have hr : reach none 0 p.1 p.2 (loading q (enum 0 l) (enum 0 (List.replicate (l.length / 32) 1))) = some p.1 :=
      loading_window _ _ _ _ _ (by omega)
    simp only [List.flatMap_cons, ih fun q hq => h q (List.mem_cons_of_mem _ hq), hr]
    rw [loading_data q l h32 (by omega) _ _ hp]

theorem image_lengths : imageHead.length = 256 ∧ imageBody.length = 128 := by
  simp only [imageHead, imageBody, bundle0, bundle1, bundle2, List.length_append, List.length_replicate, List.length_cons,
    List.length_nil, and_self]
theorem image_length : imageBytes0.length = 384 := by
  rw [imageBytes0, List.length_append, image_lengths.1, image_lengths.2]
theorem image_head : imageBytes0.take 256 = imageHead := by rw [imageBytes0, ← image_lengths.1, List.take_left]
theorem image_rest : imageBytes0.drop 256 = imageBody := by rw [imageBytes0, ← image_lengths.1, List.drop_left]
/-- Pieces of 64 bytes follow one another. -/
theorem pieces_join (l : List Byte) (a k : Nat) :
    ((List.range k).map fun i => (a + 64 * i, 64)).flatMap (fun p => (l.drop p.1).take p.2) = (l.drop a).take (64 * k) := by
  induction k with
  | zero => simp
  | succ k ih =>
    rw [List.range_succ, List.map_append, List.flatMap_append, ih, Nat.mul_succ, List.take_add, List.drop_drop]
    simp
/-- The part that holds the image, and the one that holds a descriptor table of zeros. -/
abbrev imaged : State := loading lit.seq (enum 0 imageBytes0) (enum 0 (List.replicate (imageBytes0.length / 32) 1))
abbrev noDescs : List Byte := List.replicate 8192 0
abbrev described : State := loading lit.seq (enum 0 noDescs) (enum 0 (List.replicate (noDescs.length / 32) 1))
theorem image_crc : crc32 imageBody = leAt imageHead 0x10 4 := by
  have h0 : bundle0.foldl crc32Byte 0xFFFFFFFF = 0x603d2757 := by decide +kernel
  have h1 : bundle1.foldl crc32Byte 0x603d2757 = 0x5604f056 := by decide +kernel
  have h2 : bundle2.foldl crc32Byte 0x5604f056 = 0x4932f52e := by decide +kernel
  have h3 : bundle2.foldl crc32Byte 0x4932f52e = 0xfd4cd5c := by decide +kernel
  rw [crc32, imageBody, List.foldl_append, List.foldl_append, List.foldl_append, h0, h1, h2, h3]
  decide
theorem image_program : badBundle (bundlesOf 1 imageBody) = none := by decide +kernel
theorem image_pieces : accessesOf 0 256 = (List.range 4).map (fun i => (0 + 64 * i, 64))
    ∧ accessesOf 256 128 = (List.range 2).map (fun i => (256 + 64 * i, 64)) := by decide
theorem image_header : windowData none 0 0 256 imaged = imageHead :=
  (loading_read _ imageBytes0 (by rw [image_length]) (by rw [image_length]; decide) _ (by rw [image_length]; decide)).trans
    (by rw [image_pieces.1, pieces_join, List.drop_zero, image_head])
theorem image_body : windowData none 0 256 128 imaged = imageBody :=
  (loading_read _ imageBytes0 (by rw [image_length]) (by rw [image_length]; decide) _ (by rw [image_length]; decide)).trans
    (by rw [image_pieces.2, pieces_join, image_rest, List.take_of_length_le (Nat.le_of_eq image_lengths.2)])
theorem image_good : windowBad none 0 0 384 imaged = false := by
  rw [windowBad, List.any_eq_false]
  intro p hp
  have hb : p.1 + p.2 ≤ 384 := (by decide : ∀ p ∈ accessesOf 0 384, p.1 + p.2 ≤ 384) p hp
  have hr : reach none 0 p.1 p.2 imaged = some p.1 := loading_window _ _ _ _ _ (by omega)
  simp only [hr]
  rw [loading_good _ _ (by rw [image_length]; decide) _ _ (by rw [image_length]; omega)]
  decide +kernel
/-- RunLifeAnswers, LOAD_END: the image is read and taken. -/
theorem witness_load_end :
    let l : Load := ⟨0, 0, none, 0⟩
    let s := loading { lit.seq with load := some l } (enum 0 imageBytes0) (enum 0 (List.replicate (imageBytes0.length / 32) 1))
    clockTo 0 s = s ∧ Alive s ∧ s.seq.load = some l ∧ isoWindow 0 s = true ∧ loadPaused l s = false
      ∧ judgeLoad 0 0 (onSeq (fun q => { q with load := none }) s) = .full 0 0 (some (mkImage imageHead)) := by
  refine ⟨clockTo_quiet (Nat.le_refl _) rfl rfl rfl, rfl, rfl, (by decide : isoWindow 0 (loading {} [] []) = true),
    (by decide : loadPaused ⟨0, 0, none, 0⟩ (loading {} [] []) = false), ?_⟩
  show judgeLoad 0 0 imaged = _
  have hc : leAt imageHead 8 4 = 1 := by decide +kernel
  have hw : window 0 0 384 imaged = some 0 := loading_window _ _ _ _ _ (by decide)
  unfold judgeLoad imageBytes
  simp only [image_header, hc, Nat.zero_add, Nat.reduceMul, Nat.reduceAdd, image_body, image_program, hw, image_good]
  rw [if_neg (by simp), if_neg (by decide +kernel), if_neg (by decide +kernel), if_neg (by decide +kernel), if_neg (by decide +kernel),
    if_neg (by decide +kernel), if_neg (by simp), if_neg (by rw [image_crc]; simp)]

/-- DescriptorLoadsAnswer, DLOAD_END: a table of no valid descriptor. -/
theorem witness_dload_end :
    let l : Load := ⟨0, 0, none, 0⟩
    clockTo 0 described = described ∧ Alive described ∧ described.dload = some l ∧ isoWindow 0 described = true
      ∧ loadPaused l described = false ∧ judgeDload l described = (0, 0) ∧ descRegion 0 described = some (0, 64) := by
  have hr : descRegion 0 described = some (0, 64) := (by decide : descRegion 0 (loading {} [] []) = some (0, 64))
  refine ⟨clockTo_quiet (Nat.le_refl _) rfl rfl rfl, rfl, rfl, (by decide : isoWindow 0 (loading {} [] []) = true),
    (by decide : loadPaused ⟨0, 0, none, 0⟩ (loading {} [] []) = false), ?_, hr⟩
  have hn : noDescs.length = 8192 := by simp
  have hs : ∀ p ∈ accessesOf 0 8192, p.1 + p.2 ≤ 8192 := by decide +kernel
  have hb : windowBad none 0 0 8192 described = false := by
    rw [windowBad, List.any_eq_false]
    intro p hp
    have hb := hs p hp
    have hr : reach none 0 p.1 p.2 described = some p.1 := loading_window _ _ _ _ _ (by omega)
    simp only [hr]
    rw [loading_good _ _ (by rw [hn]; decide) _ _ (by rw [hn]; omega)]
    decide
  have hd : ∀ x ∈ windowData none 0 0 8192 described, x = 0 := by
    intro x hx
    have h := loading_read lit.seq noDescs (by rw [hn]) (by rw [hn]; decide) (accessesOf 0 8192) (by rw [hn]; exact hs)
    rw [show windowData none 0 0 8192 described = _ from h] at hx
    obtain ⟨p, _, hp⟩ := List.mem_flatMap.1 hx
    exact List.eq_of_mem_replicate (List.mem_of_mem_drop (List.mem_of_mem_take hp))
  have hz : ∀ bs : List Byte, (∀ x ∈ bs, x = 0) → natLE bs = 0 := by
    intro bs
    induction bs with
    | nil => intro _; rfl
    | cons b bs ih =>
      intro h
      rw [natLE, ih fun x hx => h x (List.mem_cons_of_mem _ hx), h b (List.mem_cons_self ..)]
      rfl
  have ht : ∀ k (bs : List Byte), (∀ x ∈ bs, x = 0) → ∀ d ∈ bundlesOf k bs, d = 0 := by
    intro k
    induction k with
    | zero => intro bs _ d hd; exact absurd hd (by simp [bundlesOf])
    | succ k ih =>
      intro bs h d hd
      rcases List.mem_cons.1 hd with rfl | hd
      · exact hz _ fun x hx => h x (List.mem_of_mem_take hx)
      · exact ih _ (fun x hx => h x (List.mem_of_mem_drop hx)) d hd
  have he : ∀ (α : Type) (xs : List α) i p, p ∈ enum i xs → p.2 ∈ xs := by
    intro α xs
    induction xs with
    | nil => intro i p hp; exact absurd hp (by simp [enum])
    | cons a xs ih =>
      intro i p hp
      rcases List.mem_cons.1 hp with rfl | hp
      · exact List.mem_cons_self ..
      · exact List.mem_cons_of_mem _ (ih _ _ hp)
  simp only [judgeDload, hr, Option.getD_some, hb]
  rw [if_neg (by decide), if_neg (by simp)]
  have hf : (enum 0 (dloadTable 0 0 64 described)).find? (fun p => dValid p.2 && !dscOk p.2) = none := by
    rw [List.find?_eq_none]
    intro p hp
    obtain ⟨d, hm, hd'⟩ := List.mem_map.1 (he _ _ _ _ hp)
    rw [ht 64 _ hd d hm] at hd'
    rw [← hd', show dValid (BitVec.ofNat 1024 0) = false by decide +kernel]
    simp
  rw [hf]

/-- StreamAccessesAnswer: an uncoded request, one of KC4 with an access outstanding and a segment to decode, and one that
waits for its page, whose entry is VALID. -/
theorem witness_accesses :
    let s (r : StmReq) : State := { ready with eng := [(0, [r])] }
    let x : StmReq := { plot := 0, pc := 0, op := 1, plane := 0, u0 := 0, len := 1, tly := 0, nosig := false, desc := 0, held := 1 }
    let k := { x with desc := BitVec.ofNat 1024 (8 * 2 ^ 24), waiting := 1 }
    let u := atNow (s x)
    let v := atNow (s k)
    Alive u ∧ u.seq.scrubEnd = none ∧ engReqs 0 u = [x] ∧ reqOver x = false ∧ isKc x = false ∧ x.page ≠ .wanted
      ∧ engPaused 0 u = false
      ∧ Alive v ∧ v.seq.scrubEnd = none ∧ engReqs 0 v = [k] ∧ reqOver k = false ∧ isKc k = true ∧ k.waiting ≠ 0
      ∧ engPaused 0 v = false ∧ k.faulted = false ∧ k.decoded < k.len := by decide +kernel
theorem witness_page :
    let r : StmReq := {
      plot := 0, pc := 0, op := 3, plane := 0, u0 := 0, len := 1, tly := 0, nosig := false
      desc := BitVec.ofNat 1024 (2 ^ 31 + 2 ^ 30 + 1), held := 1, page := .wanted }
    let u := atNow (setFlds [(HBM_WIN_VALID 0 0, 1), (HBM_WIN_SIZE 0 0, 1)] { ready with
      eng := [(0, [r])]
      hbm := { lit.hbm with byte := [(0, 0), (1, 0), (2, 0), (3, 0x80)], word := [(0, 1)] } })
    Alive u ∧ u.seq.scrubEnd = none ∧ engReqs 0 u = [r] ∧ engPaused 0 u = false ∧ r.page = .wanted
      ∧ pageEntryAt 0 r u = some 0 ∧ hbmBad 0 4 u = false ∧ 0x80000000 ≤ natLE (hbmData 0 4 u) := by decide +kernel

/-- DescriptorLoadsAnswer, DLOAD_GO. -/
theorem witness_dload_go :
    let w := word [(STM_CTRL_DLOAD_GO, 1)]
    let u := atNow (setFld (PLOT_STATUS_STATE 0) 1 ready)
    let z := setFld STM_CTRL_PLOT (wfld STM_CTRL_PLOT w) (writeLatches .host rSTM_CTRL u)
    Alive u ∧ reaches .host u = true ∧ wfld STM_CTRL_DLOAD_GO w = 1 ∧ z.dload = none ∧ runOf 0 z = false ∧ plotOpen 0 z = true
      ∧ halted z = false ∧ loadsOpen z = true := by decide

/-- HbmStacksAnswer: stack 7 in each phase; the two clauses of HBM_TRAIN_TIMEOUT are of different phases. -/
theorem witness_stacks :
    let s (t : Nat) (p : StackPhase) : State := { ready with now := t, hbm := { lit.hbm with stack := [(7, { phase := p })] } }
    let i := atNow (s 22000000 .init)
    let r := atNow (s 220000000 .train)
    let v := atNow (s 88000000 .verify)
    let d := atNow (s 0 .done)
    Alive i ∧ (stackOf 7 i).phase = .init ∧ i.now ≤ (stackOf 7 i).since + 22000000 ∧ (stackOf 7 i).since + 22000000 ≤ i.now
      ∧ bestRate 15 (fld HBM_CTRL_RATE_CEIL i) = some 3
      ∧ Alive r ∧ (stackOf 7 r).phase = .train ∧ (stackOf 7 r).since + 220000000 ≤ r.now ∧ r.now ≤ (stackOf 7 r).since + 220000000
      ∧ Alive v ∧ (stackOf 7 v).phase = .verify ∧ (stackOf 7 v).since + 88000000 ≤ v.now
      ∧ Alive d ∧ (stackOf 7 d).phase = .done := by decide
theorem witness_recalibration :
    let s : State := { ready with now := 0, hbm := { lit.hbm with stack := [(0, { phase := .done })] } }
    let u := atNow s
    let v := atNow (setFld (HBM_STACK_STATUS_RECAL 0) 1 { s with now := 24200 })
    Alive u ∧ recalTime u % 1000000 = 125000 * 0 ∧ (∀ j, j < 8 → flag (HBM_STACK_STATUS_RECAL j) u = false)
      ∧ (stackOf 0 u).phase = .done
      ∧ Alive v ∧ flag (HBM_STACK_STATUS_RECAL 0) v = true ∧ (stackOf 0 v).since + 24200 ≤ v.now := by decide

/-- TallyCommandsAnswer: an operation due, one still to come, a rebase owed; a watch whose time is over; a plot without a
run; the whole of the tallies as the region of plot 15. -/
theorem witness_tally :
    let x : Watch := {
      plot := 0, rel := 0, tally := 0, cmp := 0, value := 1, grp := none, tmo := 1000, at_ := 0, waiter := .slot 0 false }
    let s : State := { ready with now := 11000, tally := { lit.tally with ops := [(0, .rebase 4095 x), (5000, .touch)] } }
    let u := atNow s
    let v := atNow { ready with now := 5, tally := { lit.tally with ops := [(2, .touch)] } }
    let z := atNow { ready with now := 22000, tally := { lit.tally with watch := [(0, x)] } }
    let w := tallyRun z
    Alive u ∧ tallyNext u.tally.ops = some 0 ∧ 0 ≤ cycle u ∧ (0, TOp.rebase 4095 x) ∈ u.tally.ops
      ∧ Alive v ∧ tallyNext v.tally.ops = some 2 ∧ cycle v < 2
      ∧ Alive z ∧ look 0 w.tally.watch = some x ∧ rebasing 0 w = false ∧ tmoReached x w = true ∧ watchHolds x w = false := by
  decide
theorem witness_tally_writes :
    let w := word [(TLY_CTRL_ZERO_GO, 1)]
    let r := word [(TLY_TR_VALID 15, 1), (TLY_TR_LIMIT 15, 3)]
    let u := atNow ready
    let z := setFld TLY_CTRL_PLOT (wfld TLY_CTRL_PLOT w) (writeLatches .host rTLY_CTRL u)
    Alive u ∧ reaches .host u = true ∧ wfld TLY_CTRL_ZERO_GO w = 1 ∧ runOf (wfld TLY_CTRL_PLOT w) z = false
      ∧ runOf 15 u = false ∧ loadsProgram 15 u = false ∧ wfld (TLY_TR_BASE 15) r ≤ wfld (TLY_TR_LIMIT 15) r
      ∧ regionOverlaps TLY_TR_VALID TLY_TR_BASE TLY_TR_LIMIT 15 (wfld (TLY_TR_BASE 15) r) (wfld (TLY_TR_LIMIT 15) r)
        (writeLatches .host (rTLY_TR 15) u) = false
      ∧ regionOverlaps TLY_WR_VALID TLY_WR_BASE TLY_WR_LIMIT 15 (wfld (TLY_TR_BASE 15) r) (wfld (TLY_TR_LIMIT 15) r)
        (writeLatches .host (rTLY_WR 15) u) = false := by decide

/-- A part whose circuit switch is ON and whose link 15 of port 5 stands as k says, the port not fenced. -/
abbrev linked (k : Link) : State := setFlds [(CSC_STATUS_MODE, 2), (CSC_STATUS_MISS_FENCE, 0), (SDL_STATUS_SKEW_STATE, 0),
  (LNK_PORT_CTRL_FENCE 5, 0)] { ready with link := [(32 * 5 + 15, k)] }
/-- Data of a flit, all 0, and the last flit frame of a transfer of plot 0, sequence number 0. -/
def noData : List Byte := List.replicate 256 0
theorem noData_length : noData.length = 256 := List.length_replicate ..
def lastFlit : List Byte := flitFrame noData 1 0 0 0 2 0 0
theorem lastFlit_fields : flitOk lastFlit = true ∧ (fcwOf lastFlit).kind = 2 ∧ (fcwOf lastFlit).plot = 0 ∧ (fcwOf lastFlit).seq = 0 :=
  ⟨flitOk_flitFrame noData noData_length 1 0 0 0 2 0 0,
    fcwOf_flitFrame noData noData_length (by decide) (by decide) (by decide) (by decide) (by decide) (by decide) (by decide)⟩

/-- LinkTransfersAnswer: the link sends a flit, replays one, has none ready; it stands fenced by its port's quarantine. -/
theorem witness_send :
    let x : SendPart := ⟨0, 0, 0, 1, 1, 0, 0, []⟩
    let a := atNow (linked { phase := .up, sends := [x] })
    let b := atNow (linked { phase := .up, replay := some 0, retry := [⟨[], 0⟩] })
    let c := atNow (linked { phase := .up })
    let d := atNow (linked { phase := .quarantine, quar := true })
    Alive a ∧ mayTransmit 5 15 a = true ∧ (linkOf 5 15 a).replay = none ∧ (linkOf 5 15 a).sends = [x] ∧ sendWaits 5 15 x a = false
      ∧ x.sent = 0
      ∧ Alive b ∧ mayTransmit 5 15 b = true ∧ (linkOf 5 15 b).replay = some 0 ∧ (linkOf 5 15 b).retry[0]? = some ⟨[], 0⟩
      ∧ Alive c ∧ mayTransmit 5 15 c = true ∧ (linkOf 5 15 c).replay = none ∧ (linkOf 5 15 c).sends = []
      ∧ Alive d ∧ framesRun 5 15 d = true ∧ mayTransmit 5 15 d = false := by decide
/-- No other link of the part starts the transfer too. -/
theorem witness_transfer_start (m : Nat) (hm : m ≠ 15) (x : SendPart) :
    ∀ y ∈ (linkOf 5 m (linked { phase := .up, sends := [x] })).sends.head?, y.id ≠ 0 := by
  intro y hy
  have h : linkOf 5 m (linked { phase := .up, sends := [x] }) = {} := by
    show Machine.get ({} : Link) (32 * 5 + m) [(32 * 5 + 15, _)] = _
    rw [Machine.get, if_neg (by omega)]; rfl
  rw [h] at hy
  exact absurd hy (by simp)
/-- Frames that are good and in order, in codewords that can be corrected and that cannot. -/
theorem witness_receive :
    let u := atNow (linked { phase := .up })
    Alive u ∧ inService 5 15 u = true ∧ quarantined 5 u = false ∧ (linkOf 5 15 u).rxSeq = 0
      ∧ [Codeword.mk 16 true].filter (fun w => darkGap 5 15 u || uncorrectable (linkOf 5 15 u).detect w) ≠ []
      ∧ [Codeword.mk 15 true].filter (fun w => darkGap 5 15 u || uncorrectable (linkOf 5 15 u).detect w) = [] := by decide
/-- FLOW frames without and with an ACK of the flit in the retry buffer; what is owed to the partner. -/
theorem witness_flow :
    let u := linked { phase := .up, retry := [⟨lastFlit, 0⟩] }
    clockTo 0 u = u ∧ Alive u ∧ inService 5 15 u = true ∧ ctlFrameOk 1 (ctlFrame 1 ([0, 0, 0, 0, 0, 0, 0])) = true
      ∧ leAt (ctlFrame 1 ([0, 0, 0, 0, 0, 0, 0])) 6 2 < 2 ^ 15 ∧ leAt (ctlFrame 1 ([0, 0, 0, 0, 0, 0, 0])) 4 2 < 2 ^ 15
      ∧ 2 ^ 15 ≤ leAt (ctlFrame 1 ([0, 0, 0, 0, 0x80, 0, 0])) 4 2
      ∧ retryPos (leAt (ctlFrame 1 ([0, 0, 0, 0, 0x80, 0, 0])) 4 2 % 4096) (linkOf 5 15 u) = some 0 := by
  refine ⟨clockTo_quiet (Nat.le_refl _) rfl rfl rfl, rfl, rfl, ctlFrameOk_ctlFrame _ _ (by decide), by decide +kernel, by decide +kernel,
    by decide +kernel, ?_⟩
  show ([⟨lastFlit, 0⟩] : List RetryFlit).findIdx? _ = _
  have h : leAt (ctlFrame 1 ([0, 0, 0, 0, 0x80, 0, 0])) 4 2 % 4096 = 0 := by decide +kernel
  rw [h, List.findIdx?_cons, if_pos (by rw [lastFlit_fields.2.2.2]; rfl)]
theorem witness_control :
    let a := atNow (linked { phase := .up, failDue := some 7 })
    let b := atNow (linked { phase := .up, mapDue := some (7, 1) })
    let c := atNow (linked { phase := .up })
    Alive a ∧ inService 5 15 a = true ∧ linkFenced 5 15 a = false ∧ (linkOf 5 15 a).mapFirst = false ∧ (linkOf 5 15 a).failDue = some 7
      ∧ Alive b ∧ inService 5 15 b = true ∧ linkFenced 5 15 b = false ∧ (linkOf 5 15 b).mapFirst = false
      ∧ (linkOf 5 15 b).failDue = none ∧ (linkOf 5 15 b).mapDue = some (7, 1)
      ∧ Alive c ∧ inService 5 15 c = true ∧ (linkOf 5 15 c).failDue = none ∧ (linkOf 5 15 c).mapDue = none := by decide
theorem witness_retry_timeout :
    let u := atNow { linked { phase := .up, retry := [⟨[], 7⟩] } with now := 44000 }
    Alive u ∧ inService 5 15 u = true ∧ (linkOf 5 15 u).retry = [⟨[], 7⟩] ∧ cscMode u ≠ 3
      ∧ (linkOf 5 15 u).ackAt + 44000 ≤ u.now := by decide
theorem witness_nopost :
    let u := { linked { phase := .up, rxBuf := [lastFlit] } with now := 2 ^ 40, linkPlot := some 0, slice := { recvClose := false } }
    clockTo 0 u = u ∧ Alive u ∧ (linkOf 5 15 u).rxBuf = [lastFlit] ∧ (linkOf 5 15 u).skip = false ∧ (linkOf 5 15 u).posts = []
      ∧ plotPasses (fcwOf lastFlit).plot u = true ∧ (linkOf 5 15 u).waitAt + 2 ^ fld LNK_CTRL_NOPOST_TMO u * 11000 ≤ u.now
      ∧ dropTransfer [lastFlit] = (1, true, []) := by
  refine ⟨clockTo_quiet (Nat.zero_le _) rfl rfl rfl, rfl, rfl, rfl, rfl, ?_, ?_, ?_⟩
  · rw [lastFlit_fields.2.2.1]
    exact (by decide : plotPasses 0 { linked {} with now := 2 ^ 40, linkPlot := some 0, slice := { recvClose := false } } = true)
  · exact (by decide : 0 + 2 ^ fld LNK_CTRL_NOPOST_TMO (linked {}) * 11000 ≤ 2 ^ 40)
  · rw [dropTransfer, if_pos lastFlit_fields.2.1]

/-- LaneFailoversAnswer: lanes 7 and 0 at either end of their range; both directions' maps; a recovering link; a transceiver
fault with a spare and without. -/
theorem witness_lanes :
    let u := atNow (setFld (OPT_BANK_STATUS_LOST 5) 0 (linked { phase := .up }))
    Alive u ∧ inService 5 15 u = true ∧ txLane 5 15 u ≠ 7 ∧ txLane 5 15 u ≠ 0 ∧ txSpareGone 5 15 u = false
      ∧ (linkOf 5 15 u).mapFirst = false ∧ cscMode u ≠ 3 ∧ givesUp 5 15 0 7 (.unlock 200) u = true ∧ rxLane 5 15 u = 15
      ∧ (linkOf 5 15 u).newRx = false := by decide
theorem witness_lane_frames :
    ctlFrameOk 3 (ctlFrame 3 [0, 7]) = true ∧ leAt (ctlFrame 3 [0, 7]) 2 1 = 7 ∧ ctlFrameOk 4 (ctlFrame 4 [0, 7]) = true :=
  ⟨ctlFrameOk_ctlFrame _ _ (by decide), by decide +kernel, ctlFrameOk_ctlFrame _ _ (by decide)⟩
theorem witness_ring :
    let u := atNow { linked { phase := .up } with anl := { lit.anl with loop := [(153 * 5 + 9 * 15 + 7, { st := .failed })] } }
    Alive u ∧ inService 5 15 u = true ∧ givesUp 5 15 1 7 .ring u = true ∧ cscMode u ≠ 3 ∧ txSpareGone 5 15 u = false := by decide
theorem witness_maps :
    let a := atNow (linked { phase := .up, txMap := some (7, 9) })
    let b := atNow (linked { phase := .up, rxMap := some (7, 9), newRx := true })
    let c := atNow (linked { phase := .recovering })
    Alive a ∧ (linkOf 5 15 a).txMap = some (7, 9) ∧ (linkOf 5 15 a).rxMap = none
      ∧ Alive b ∧ inService 5 15 b = true ∧ (linkOf 5 15 b).txMap = none ∧ (linkOf 5 15 b).rxMap = some (7, 9)
      ∧ (linkOf 5 15 b).newRx = true
      ∧ Alive c ∧ phaseOf 5 15 c = .recovering ∧ rerouteDark 5 15 c = false := by decide
theorem witness_transceiver :
    let u := atNow (linked { phase := .up })
    let v := atNow (setFlds [(CSC_SUBST_XCVR_VALID 5, 1), (CSC_SUBST_XCVR_FOR 5, 14)] (linked { phase := .up }))
    Alive u ∧ inService 5 15 u = true ∧ flag (CSC_SUBST_XCVR_VALID 5) u = false ∧ flag (CSC_SUBST_XCVR_SPARE_BAD 5) u = false
      ∧ cscMode u ≠ 3
      ∧ Alive v ∧ inService 5 15 v = true ∧ flag (CSC_SUBST_XCVR_VALID 5) v = true ∧ fld (CSC_SUBST_XCVR_FOR 5) v ≠ 15
      ∧ cscMode v ≠ 3 := by decide

/-- Node (0, 0, 0) of a mesh of two packages along x, its port 0 enabled, with a home circuit of link 15 in bank 0, the active
one: entries 0 (ADD) and 1 (DROP). -/
abbrev planned (k : Link) : State := setReg (rCSC_ENTRY_LO 0 0) (BitVec.ofNat 32 (2 ^ 31 + 15 * 2 ^ 11 + 15 * 2 ^ 7))
  (setReg (rCSC_ENTRY_HI 0 0) (BitVec.ofNat 32 (2 ^ 28)) (setReg (rCSC_ENTRY_LO 0 1) (BitVec.ofNat 32 (2 ^ 31 + 2 * 2 ^ 29 + 15 * 2 ^ 19 + 15 * 2 ^ 7))
    (setReg (rCSC_ENTRY_HI 0 1) (BitVec.ofNat 32 (2 ^ 28)) (setReg (rLNK_CFG 0) 1 (setFlds [(CSC_STATUS_ACTIVE_VALID, 1), (CSC_STATUS_ACTIVE, 0),
      (CSC_STATUS_MODE, 2), (LNK_PORT_CTRL_ENABLE 0, 1), (GLB_NODE_VALID, 1), (GLB_ROLE_STATUS_SET, 1)]
        { ready with link := [(15, k)], extents := true, now := 50000000 })))))
abbrev homeDrop : Entry := ⟨2, 0, 15, 0, 0, 15, 0, false, (1, 0, 0), false⟩
theorem witness_planned :
    let u := atNow (planned { phase := .up })
    Alive u ∧ circuitBank u = some 0 ∧ activeBank u = some 0 ∧ dropEntry 0 0 15 u = some homeDrop ∧ portTrains 0 u = true
      ∧ isHome 0 0 15 u = true ∧ hops (node u) 0 1 u = some (1, 0, 0) := by decide +kernel
theorem witness_loss_of_light :
    let u := atNow (planned { phase := .up })
    cscMode u ≠ 3 ∧ flag (CSC_SUBST_FIBRE_VALID 0) u = false ∧ flag (CSC_SUBST_FIBRE_SPARE_BAD 0) u = false
      ∧ (entriesOf 0 u).find? (fun q => (q.2.kind == 1 || q.2.kind == 2) && q.2.inPort == 0 && q.2.inIdx == 15) = some (1, homeDrop)
      ∧ homeDrop.kind = 2 ∧ inService 0 homeDrop.llink u = true := by decide +kernel

/-- LinkTrainingAnswer: each training state; the limits of three of them; a quarantined port. -/
theorem witness_training :
    let i : TrainInfo := ⟨0x0F, List.replicate 8 0, true, true, [(1, 2)], 0, 15, 15, 0, 0⟩
    let u (p : LinkPhase) : State := atNow (planned { phase := p, mode := 3 })
    phaseOf 0 15 (u .signal) = .signal ∧ 8 ≤ (i.powers.filter fun x => decide (-1800 < x)).length
      ∧ phaseOf 0 15 (u .acquire) = .acquire ∧ i.locked = true
      ∧ phaseOf 0 15 (u .negotiate) = .negotiate ∧ commonMode i.caps i.lanes8 (fld (LNK_PORT_CTRL_MODE_CEIL 0) (u .negotiate)) = some 3
      ∧ phaseOf 0 15 (u .verify) = .verify ∧ verifyPass i = false ∧ (linkOf 0 15 (u .verify)).mode ≠ 0
      ∧ (linkOf 0 15 (u .signal)).since + 44000000 ≤ (u .signal).now ∧ (linkOf 0 15 (u .acquire)).since + 11000000 ≤ (u .acquire).now
      ∧ (linkOf 0 15 (u .negotiate)).since + 2200000 ≤ (u .negotiate).now
      ∧ quarantined 0 (atNow (planned { phase := .quarantine, quar := true })) = true := by decide +kernel
/-- A hello of the partner whose items agree. -/
theorem witness_hello :
    let u := planned { phase := .hello }
    let head : List Byte := [2, 0, 1, 0, 1, 15, 0, 0, 0, 0x0F, 0, 0, 0, 0, 0, 0]
    let f := ctlFrame 2 (head.tail ++ configDigest u)
    clockTo 0 u = u ∧ Alive u ∧ phaseOf 0 15 u = .hello ∧ isHome 0 0 15 u = true ∧ quarantined 0 u = false
      ∧ ctlFrameOk 2 f = true ∧ helloItem 0 0 15 f u = 0 := by
  refine ⟨clockTo_quiet (Nat.zero_le _) rfl rfl rfl, rfl, rfl, by decide, by decide, ctlFrameOk_ctlFrame _ _ (by decide), ?_⟩
  have hl := configDigest_length (planned { phase := .hello })
  have hh : isHome 0 0 15 (planned { phase := .hello }) = true ∧ hops (node (planned { phase := .hello })) 0 1 (planned { phase := .hello }) = some (1, 0, 0)
      ∧ coordWord (node (planned { phase := .hello })) = 0 ∧ fld FWU_RUN_VER_VERSION (planned { phase := .hello }) = 0 := by decide
  generalize hd : configDigest (planned { phase := .hello }) = d at hl
  obtain ⟨t, ht⟩ := ctlFrame_begins 2 ([0, 1, 0, 1, 15, 0, 0, 0, 0x0F, 0, 0, 0, 0, 0, 0] ++ d) (by simp [hl])
  have hf : ctlFrame 2 ([0, 1, 0, 1, 15, 0, 0, 0, 0x0F, 0, 0, 0, 0, 0, 0] ++ d)
      = ([2, 0, 1, 0, 1, 15, 0, 0, 0, 0x0F, 0, 0, 0, 0, 0, 0] : List Byte) ++ (d ++ t) := by rw [ht]; simp
  have ha (i n : Nat) (h : i + n ≤ 16) := leAt_append ([2, 0, 1, 0, 1, 15, 0, 0, 0, 0x0F, 0, 0, 0, 0, 0, 0] : List Byte) (d ++ t) (i := i) (n := n) h
  simp only [List.tail_cons, hf, helloItem, hh.1, hh.2.1, hh.2.2.1, hh.2.2.2, hd, ha 6 2 (by decide), ha 2 2 (by decide), ha 4 1 (by decide),
    ha 5 1 (by decide), ha 12 4 (by decide), if_true]
  rw [if_neg (by decide), if_neg (by decide), if_neg (by decide), if_neg (by decide), if_neg]
  simp [List.take_left' hl]
theorem witness_rehello :
    let w := word [(LNK_PORT_CTRL_REHELLO 0, 1), (LNK_PORT_CTRL_ENABLE 0, 1)]
    let u := atNow (planned { phase := .up })
    let z := plainWrite (rLNK_PORT_CTRL 0) w (writeLatches .host (rLNK_PORT_CTRL 0) u)
    reaches .host u = true ∧ wfld (LNK_PORT_CTRL_REHELLO 0) w = 1 ∧ flag (LNK_PORT_CTRL_ENABLE 0) z = true := by decide

/-- CircuitBanksAnswer: an entry of the last bank; STAGE_GO; REROUTE_DONE of bank 7, the first to be re-routed. -/
theorem witness_banks :
    let u := atNow ready
    let w := word [(CSC_CTRL_STAGE_GO, 1)]
    let z := plainWrite rCSC_CTRL w (writeLatches .host rCSC_CTRL u)
    let v := atNow { ready with csc := { lit.csc with reroute := 2 ^ 7 } }
    Alive u ∧ reaches .host u = true ∧ bankProtected 7 u = false ∧ wfld CSC_CTRL_STAGE_GO w = 1 ∧ wfld CSC_CTRL_UNFENCE w = 0
      ∧ wfld CSC_CTRL_REPLAN_GO w = 0 ∧ wfld CSC_CTRL_REPLAN_NOW w = 0 ∧ bankProtected (wfld CSC_CTRL_STAGE_BANK w) z = false
      ∧ Alive v ∧ v.csc.reroute.testBit 7 = true ∧ v.csc.reroute % 2 ^ 7 = 0 ∧ activeBank v ≠ some 7 := by decide
theorem loop_four (f : Nat → State → State) (s : State) : loop f 4 s = f 3 (f 2 (f 1 (f 0 s))) := rfl
theorem reg_onCsc (off : Nat) (f : Csc → Csc) (s : State) : reg off (onCsc f s) = reg off s := rfl
theorem routed_reg (off : Nat) (s : State) : reg off (routeBank 0 s) = reg off s := by
  unfold routeBank
  split <;> rfl
/-- What the end of a check leaves, its digest D: the words of the digest, every other register but the pending interrupts,
and the stuck elements. -/
theorem checked (s : State) (off : Nat) (h : off ≠ rGLB_IRQ_PEND) :
    reg off (checkingOver 0 s) = reg off (setReg (rCSC_BANK_DIG 0 3) (BitVec.ofNat 32 (leAt (planDigest 0 (routeBank 0 s)) 12 4))
      (setReg (rCSC_BANK_DIG 0 2) (BitVec.ofNat 32 (leAt (planDigest 0 (routeBank 0 s)) 8 4))
        (setReg (rCSC_BANK_DIG 0 1) (BitVec.ofNat 32 (leAt (planDigest 0 (routeBank 0 s)) 4 4))
          (setReg (rCSC_BANK_DIG 0 0) (BitVec.ofNat 32 (leAt (planDigest 0 (routeBank 0 s)) 0 4)) (routeBank 0 s))))) := by
  unfold checkingOver writeDigest
  generalize planDigest 0 (routeBank 0 s) = d
  generalize routeBank 0 s = x
  rw [reg_irq h, reg_onCsc, loop_four]
theorem checked_reg {off : Nat} (h : off ≠ rGLB_IRQ_PEND) (hd : off < 0x701020 ∨ 0x701030 ≤ off) (s : State) :
    reg off (checkingOver 0 s) = reg off s := by
  rw [checked s off h, reg_setReg_other (by simp only [rCSC_BANK_DIG]; omega), reg_setReg_other (by simp only [rCSC_BANK_DIG]; omega),
    reg_setReg_other (by simp only [rCSC_BANK_DIG]; omega), reg_setReg_other (by simp only [rCSC_BANK_DIG]; omega), routed_reg]
theorem checked_fld (f : Fld) (h : f.off < 0x701020 ∨ 0x701030 ≤ f.off) (h2 : f.off ≠ rGLB_IRQ_PEND) (s : State) : fld f (checkingOver 0 s) = fld f s := by
  unfold fld; rw [checked_reg h2 h]
theorem checked_entries (s : State) : entriesOf 0 (checkingOver 0 s) = entriesOf 0 s := by
  have h (e : Nat) : entryAt 0 e (checkingOver 0 s) = entryAt 0 e s := by
    unfold entryAt
    rw [checked_reg (by simp only [rGLB_IRQ_PEND, rCSC_ENTRY_LO]; omega) (.inr (by simp only [rCSC_ENTRY_LO]; omega)),
      checked_reg (by simp only [rGLB_IRQ_PEND, rCSC_ENTRY_HI]; omega) (.inr (by simp only [rCSC_ENTRY_HI]; omega))]
  simp only [entriesOf, h]
theorem checked_digest (s : State) (i : Nat) (hi : i < 4) :
    reg (rCSC_BANK_DIG 0 i) (checkingOver 0 s) = BitVec.ofNat 32 (leAt (planDigest 0 (routeBank 0 s)) (4 * i) 4) := by
  rw [checked s _ (by simp only [rGLB_IRQ_PEND, rCSC_BANK_DIG]; omega)]
  match i, hi with
  | 0, _ => rw [reg_setReg_other (by decide), reg_setReg_other (by decide), reg_setReg_other (by decide), reg_setReg_same]
  | 1, _ => rw [reg_setReg_other (by decide), reg_setReg_other (by decide), reg_setReg_same]
  | 2, _ => rw [reg_setReg_other (by decide), reg_setReg_same]
  | 3, _ => rw [reg_setReg_same]
theorem irq_csc (k : Nat) (s : State) : (irq k s).csc = s.csc := by
  unfold irq
  dsimp only
  split
  · rfl
  · unfold irqSend msix
    dsimp only
    split
    · split <;> rfl
    · rfl
theorem csc_setReg (off : Nat) (w : Word) (s : State) : (setReg off w s).csc = s.csc := rfl
theorem csc_onCsc (f : Csc → Csc) (s : State) : (onCsc f s).csc = f s.csc := rfl
theorem routed_csc (s : State) : (routeBank 0 s).csc.replanned = s.csc.replanned ∧ (routeBank 0 s).csc.stuck = s.csc.stuck := by
  constructor <;> (unfold routeBank; split <;> rfl)
theorem checked_csc (s : State) : (checkingOver 0 s).csc.replanned = s.csc.replanned ∧ (checkingOver 0 s).csc.stuck = s.csc.stuck := by
  have h := routed_csc s
  unfold checkingOver writeDigest
  generalize planDigest 0 (routeBank 0 s) = d
  revert h
  generalize routeBank 0 s = x
  intro h
  rw [irq_csc, csc_onCsc, loop_four, csc_setReg, csc_setReg, csc_setReg, csc_setReg]
  exact h

/-- Without entries and with no stuck element a check refuses a bank only where the package has no master (R276). -/
theorem checked_refusal (s : State) (he : entriesOf 0 s = []) (hs : s.csc.stuck = []) :
    (hasMaster s = true → refusal 0 (checkingOver 0 s) = none)
      ∧ (flag GLB_ROLE_STATUS_SET s = false → refusal 0 (checkingOver 0 s) = some (1, 0)) := by
  have hst : (checkingOver 0 s).csc.stuck = [] := (checked_csc s).2.trans hs
  have hr : (checkingOver 0 s).csc.replanned = s.csc.replanned := (checked_csc s).1
  have hn : stuckEntry 0 (checkingOver 0 s) = none := by unfold stuckEntry; rw [hst]; simp
  have hm : hasMaster (checkingOver 0 s) = hasMaster s := by
    unfold hasMaster mstValid mstState flag
    rw [hr, checked_fld _ (by decide) (by decide), checked_fld _ (by decide) (by decide)]
  have hp : planRefused 0 (checkingOver 0 s) = if !hasMaster s then some (1, 0) else none := by
    unfold planRefused
    rw [checked_entries, he, hm]
    rfl
  unfold refusal
  rw [hn, hp]
  refine ⟨fun h => by simp [h], fun h => ?_⟩
  have : hasMaster s = false := by unfold hasMaster; rw [h]; rfl
  simp [this]
/-- A state whose bank 0, without entries, is CHECKING, its expected digest given. -/
abbrev checkingPart (role : Nat) (d : List Word) : State :=
  setReg (rCSC_BANK_EXP 0 3) (d.getD 3 0) (setReg (rCSC_BANK_EXP 0 2) (d.getD 2 0) (setReg (rCSC_BANK_EXP 0 1) (d.getD 1 0)
    (setReg (rCSC_BANK_EXP 0 0) (d.getD 0 0) (setFlds [(CSC_BANK_STATUS_STATE 0, 2), (GLB_ROLE_STATUS_SET, role)] ready))))
/-- What the expected digest is read from is no entry. -/
theorem planDigest_setReg (off : Nat) (w : Word) (s : State) (h : off < 0x710000) : planDigest 0 (setReg off w s) = planDigest 0 s := by
  have hl (e : Nat) : reg (rCSC_ENTRY_LO 0 e) (setReg off w s) = reg (rCSC_ENTRY_LO 0 e) s :=
    reg_setReg_other (by simp only [rCSC_ENTRY_LO]; omega) w s
  have hh (e : Nat) : reg (rCSC_ENTRY_HI 0 e) (setReg off w s) = reg (rCSC_ENTRY_HI 0 e) s :=
    reg_setReg_other (by simp only [rCSC_ENTRY_HI]; omega) w s
  simp only [planDigest, hl, hh]
theorem planDigest_routed (s : State) : planDigest 0 (routeBank 0 s) = planDigest 0 s := by
  simp only [planDigest, routed_reg]
/-- Whether the digest differs, the expected one given (R277). -/
theorem checking_digest (role : Nat) (d : List Word) : digestDiffers 0 (checkingOver 0 (checkingPart role d))
    = (List.range 4).any fun i => BitVec.ofNat 32 (leAt (planDigest 0 (checkingPart role [])) (4 * i) 4) != d.getD i 0 := by
  have hd : planDigest 0 (routeBank 0 (checkingPart role d)) = planDigest 0 (checkingPart role []) := by
    rw [planDigest_routed]
    simp only [checkingPart]
    rw [planDigest_setReg _ _ _ (by decide), planDigest_setReg _ _ _ (by decide), planDigest_setReg _ _ _ (by decide),
      planDigest_setReg _ _ _ (by decide), planDigest_setReg _ _ _ (by decide), planDigest_setReg _ _ _ (by decide),
      planDigest_setReg _ _ _ (by decide), planDigest_setReg _ _ _ (by decide)]
  have he (i : Nat) (hi : i < 4) : reg (rCSC_BANK_EXP 0 i) (checkingOver 0 (checkingPart role d)) = d.getD i 0 := by
    rw [checked_reg (by simp only [rGLB_IRQ_PEND, rCSC_BANK_EXP]; omega) (.inl (by simp only [rCSC_BANK_EXP]; omega))]
    match i, hi with
    | 0, _ => rw [reg_setReg_other (by decide), reg_setReg_other (by decide), reg_setReg_other (by decide), reg_setReg_same]
    | 1, _ => rw [reg_setReg_other (by decide), reg_setReg_other (by decide), reg_setReg_same]
    | 2, _ => rw [reg_setReg_other (by decide), reg_setReg_same]
    | 3, _ => rw [reg_setReg_same]
  unfold digestDiffers
  simp only [show List.range 4 = [0, 1, 2, 3] from rfl, List.any_cons, List.any_nil, he 0 (by decide), he 1 (by decide),
    he 2 (by decide), he 3 (by decide), checked_digest _ 0 (by decide), checked_digest _ 1 (by decide), checked_digest _ 2 (by decide),
    checked_digest _ 3 (by decide), hd]
/-- CircuitBanksAnswer, CHECKING_END: REJECTED where there is no master, MISMATCH, and STAGED. -/
theorem witness_checking_end :
    let m := checkingPart 1 (match BitVec.ofNat 32 (leAt (planDigest 0 (checkingPart 1 [])) 0 4) with | w => [~~~w])
    let e := checkingPart 1 ((List.range 4).map fun i => BitVec.ofNat 32 (leAt (planDigest 0 (checkingPart 1 [])) (4 * i) 4))
    bankState 0 (checkingPart 0 []) = 2 ∧ refusal 0 (checkingOver 0 (checkingPart 0 [])) = some (1, 0)
      ∧ refusal 0 (checkingOver 0 m) = none ∧ digestDiffers 0 (checkingOver 0 m) = true
      ∧ refusal 0 (checkingOver 0 e) = none ∧ digestDiffers 0 (checkingOver 0 e) = false := by
  have hb (r : Nat) (d : List Word) : entriesOf 0 (checkingPart r d) = entriesOf 0 (checkingPart r []) := by
    have h (e : Nat) : entryAt 0 e (checkingPart r d) = entryAt 0 e (checkingPart r []) := by
      unfold entryAt
      simp only [checkingPart]
      repeat rw [reg_setReg_other (by simp only [rCSC_BANK_EXP, rCSC_ENTRY_LO, rCSC_ENTRY_HI]; omega)]
    simp only [entriesOf, h]
  have hm (d : List Word) : hasMaster (checkingPart 1 d) = true := by
    have hf (f : Fld) (h : f.off < 0x701010 ∨ 0x701020 ≤ f.off) : fld f (checkingPart 1 d) = fld f (checkingPart 1 []) := by
      unfold fld
      simp only [checkingPart]
      repeat rw [reg_setReg_other (by simp only [rCSC_BANK_EXP]; omega)]
    unfold hasMaster mstValid mstState flag
    rw [hf _ (by decide), hf _ (by decide), show (checkingPart 1 d).csc.replanned = false from rfl]
    decide
  have h1 : entriesOf 0 (checkingPart 1 []) = [] := by decide
  have h0 : entriesOf 0 (checkingPart 0 []) = [] := by decide
  refine ⟨by decide, (checked_refusal _ h0 rfl).2 (by decide), (checked_refusal _ ((hb _ _).trans h1) rfl).1 (hm _), ?_,
    (checked_refusal _ ((hb _ _).trans h1) rfl).1 (hm _), ?_⟩
  · rw [checking_digest]
    generalize planDigest 0 (checkingPart 1 []) = D
    simp [show List.range 4 = [0, 1, 2, 3] from rfl]
  · rw [checking_digest]
    generalize planDigest 0 (checkingPart 1 []) = D
    simp [show List.range 4 = [0, 1, 2, 3] from rfl]

/-- CircuitTriggersAnswer: a circuit-slot operation of each kind, of a run in progress and of one that has ended. -/
theorem witness_circuit_ops :
    let s (op run : Nat) : State := { running with
      seq := { running.seq with runNo := 1 }, csc := { lit.csc with ops := [⟨0, op, 0, 0, run, 0, 0⟩] } }
    Alive (atNow (s 1 1)) ∧ (atNow (s 1 1)).csc.ops = [⟨0, 1, 0, 0, 1, 0, 0⟩] ∧ runOf 0 (atNow (s 1 1)) = true
      ∧ (atNow (s 2 1)).csc.ops = [⟨0, 2, 0, 0, 1, 0, 0⟩] ∧ (atNow (s 3 1)).csc.ops = [⟨0, 3, 0, 0, 1, 0, 0⟩]
      ∧ (atNow (s 1 1)).seq.runNo = 1 ∧ runOf 0 (atNow { s 1 1 with seq := lit.seq }) = false := by decide
theorem witness_triggers :
    let a := word [(CSC_TRIG_CTRL_ARM, 1), (CSC_TRIG_CTRL_BANK, 7)]
    let d := word [(CSC_TRIG_CTRL_DISARM, 1)]
    let s := setReg rCSC_TRIG_TIME_LO 3000 (setFld SDL_STATUS_MST_SEEN_VALID 1 ready)
    let u := atNow s
    let z := plainWrite rCSC_TRIG_CTRL a (writeLatches .host rCSC_TRIG_CTRL u)
    let v := atNow { s with csc := { lit.csc with trig := some ⟨7, 1, 0, 0, 0⟩ } }
    let y := plainWrite rCSC_TRIG_CTRL d (writeLatches .host rCSC_TRIG_CTRL v)
    Alive u ∧ reaches .host u = true ∧ wfld CSC_TRIG_CTRL_ARM a = 1 ∧ wfld CSC_TRIG_CTRL_DISARM a = 0
      ∧ armRefused 0 0 (wfld CSC_TRIG_CTRL_BANK a) (reg64 rCSC_TRIG_TIME_LO rCSC_TRIG_TIME_HI z) z = none
      ∧ Alive v ∧ reaches .host v = true ∧ wfld CSC_TRIG_CTRL_ARM d = 0 ∧ wfld CSC_TRIG_CTRL_DISARM d = 1
      ∧ y.csc.trig = some ⟨7, 1, 0, 0, 0⟩ ∧ fireDue ⟨7, 1, 0, 0, 0⟩ y = false := by decide
theorem witness_fire :
    let s (bank active st : Nat) : State := setFlds [(CSC_STATUS_MODE, 2), (CSC_STATUS_ACTIVE_VALID, 1), (CSC_STATUS_ACTIVE, active),
      (CSC_BANK_STATUS_STATE bank, st)] { ready with csc := { lit.csc with trig := some ⟨bank, 0, 0, 0, 0⟩ } }
    let a := atNow (s 1 0 3)
    let b := atNow (s 1 1 6)
    let c := atNow (s 1 0 1)
    Alive a ∧ a.csc.trig = some ⟨1, 0, 0, 0, 0⟩ ∧ 0 * nsM ≤ mstM a ∧ bankReady 1 (setTrig none a) = true ∧ cscMode (setTrig none a) = 2
      ∧ activeBank (setTrig none a) ≠ some 1
      ∧ Alive b ∧ b.csc.trig = some ⟨1, 0, 0, 0, 0⟩ ∧ bankReady 1 (setTrig none b) = true ∧ cscMode (setTrig none b) = 2
      ∧ activeBank (setTrig none b) = some 1
      ∧ Alive c ∧ c.csc.trig = some ⟨1, 0, 0, 0, 0⟩ ∧ bankReady 1 (setTrig none c) = false := by decide +kernel
theorem witness_guard :
    let s (off : Int) (b : Bool) : State := { ready with
      sdl := { lit.sdl with off := off }, csc := { lit.csc with guard := some ⟨0, some 0, 1, b⟩ } }
    let u := atNow (s (200 * nsM) false)
    let v := atNow (s (2000 * nsM) true)
    Alive u ∧ u.csc.guard = some ⟨0, some 0, 1, false⟩ ∧ (0 + 200) * nsM ≤ mstM u
      ∧ Alive v ∧ v.csc.guard = some ⟨0, some 0, 1, true⟩ ∧ (0 + 2000) * nsM ≤ mstM v := by decide
theorem witness_acquire_timeout :
    let u := atNow { ready with now := 1000, link := [(32 * 5 + 15, { phase := .recovering, sendFrom := 1660 })] }
    let w := word [(CSC_CTRL_UNFENCE, 1)]
    Alive u ∧ phaseOf 5 15 u = .recovering ∧ (linkOf 5 15 u).sendFrom ≠ 0 ∧ (linkOf 5 15 u).sendFrom ≤ u.now + 660
      ∧ (linkOf 5 15 u).since < (linkOf 5 15 u).sendFrom
      ∧ reaches .host u = true ∧ wfld CSC_CTRL_UNFENCE w = 1 ∧ wfld CSC_CTRL_STAGE_GO w = 0 ∧ wfld CSC_CTRL_REPLAN_GO w = 0
      ∧ wfld CSC_CTRL_REPLAN_NOW w = 0 := by decide

/-- ReplansAnswer: a re-plan asked for later and now, one whose start has come, one that begins its first phase and one whose
last phase is over. -/
theorem witness_replan :
    let s := setReg rCSC_REPLAN_TIME_LO 1000 (setFld (CSC_BANK_STATUS_STATE 0) 3 ready)
    let u := atNow s
    let g := word [(CSC_CTRL_REPLAN_GO, 1)]
    let n := word [(CSC_CTRL_REPLAN_NOW, 1)]
    let z := plainWrite rCSC_CTRL g (writeLatches .host rCSC_CTRL u)
    let y := plainWrite rCSC_CTRL n (writeLatches .host rCSC_CTRL u)
    let v := atNow { s with csc := { lit.csc with replanAt := some 0 } }
    Alive u ∧ reaches .host u = true ∧ wfld CSC_CTRL_STAGE_GO g = 0 ∧ wfld CSC_CTRL_UNFENCE g = 0 ∧ z.csc.replan = none
      ∧ wfld CSC_CTRL_REPLAN_GO g = 1 ∧ wfld CSC_CTRL_REPLAN_NOW g = 0
      ∧ mstM z < reg64 rCSC_REPLAN_TIME_LO rCSC_REPLAN_TIME_HI z * nsM
      ∧ wfld CSC_CTRL_STAGE_GO n = 0 ∧ wfld CSC_CTRL_UNFENCE n = 0 ∧ y.csc.replan = none ∧ wfld CSC_CTRL_REPLAN_NOW n = 1
      ∧ 6 ≤ fld GLB_STARTUP_STATUS_STAGE y ∧ trainable (fld CSC_CTRL_REPLAN_TARGET y) y = true
      ∧ Alive v ∧ v.csc.replanAt = some 0 ∧ 0 * nsM ≤ mstM v ∧ mstValid v = true ∧ trainable (fld CSC_CTRL_REPLAN_TARGET v) v = true := by
  decide
theorem witness_phases :
    let a : Replan := { todo := [none, some 0], target := 0, phaseAt := 0 }
    let b : Replan := { todo := [], target := 0, phaseAt := 0, phase := some none }
    let s (r : Replan) (t : Nat) : State := { setFld (CSC_BANK_STATUS_STATE 0) 3 ready with now := t, csc := { lit.csc with replan := some r } }
    let u := atNow (s a 0)
    let v := atNow (s b 191400000)
    Alive u ∧ u.csc.replan = some a ∧ a.phase = none ∧ phasesLeft (phaseClose a [] u) a.todo = [none, some 0]
      ∧ Alive v ∧ v.csc.replan = some b ∧ b.phaseAt + 191400000 ≤ v.now ∧ phasesLeft (phaseClose b [] v) b.todo = [] := by decide

/-- LasersAnswer: bank 5 enabled and disabled, its laser 8 STARTING and LOCKED, its spare 1 LOCKED and TUNING for a lost
wavelength. -/
theorem witness_bank_ctrl :
    let w := word [(OPT_BANK_CTRL_ENABLE 5, 1)]
    let u := atNow ready
    let v := atNow (setFld (OPT_BANK_CTRL_ENABLE 5) 1 ready)
    Alive u ∧ reaches .host u = true ∧ flag (OPT_BANK_CTRL_ENABLE 5) u = false
      ∧ flag (OPT_BANK_CTRL_ENABLE 5) (plainWrite (rOPT_BANK_CTRL 5) w (writeLatches .host (rOPT_BANK_CTRL 5) u)) = true
      ∧ Alive v ∧ flag (OPT_BANK_CTRL_ENABLE 5) v = true
      ∧ flag (OPT_BANK_CTRL_ENABLE 5) (plainWrite (rOPT_BANK_CTRL 5) 0 (writeLatches .host (rOPT_BANK_CTRL 5) v)) = false := by decide
theorem witness_lasers :
    let u := atNow { setFlds [(OPT_LASER_STATUS_STATE 5 8, 1), (OPT_LASER_STATUS_STATE 5 7, 2), (OPT_LASER_STATUS_STATE 5 9, 6),
      (OPT_LASER_STATUS_STATE 5 10, 5), (OPT_SPARE_STATUS_S1_FOR 5, 8), (OPT_BANK_STATUS_LOST 5, 2 ^ 8)] ready with now := 330000000 }
    Alive u ∧ laserState 5 8 u = 1 ∧ u.now ≤ (get {} (11 * 5 + 8) u.opt.laser).at_ + 330000000
      ∧ (get {} (11 * 5 + 8) u.opt.laser).at_ + 330000000 ≤ u.now ∧ laserState 5 7 u = 2 ∧ laserState 5 9 u = 6
      ∧ spareState 5 1 u = 1 ∧ (get {} (11 * 5 + 9 + 1) u.opt.laser).held = false
      ∧ (get {} (11 * 5 + 9 + 1) u.opt.laser).at_ + 330000000 ≥ u.now
      ∧ (get {} (11 * 5 + 9 + 1) u.opt.laser).at_ + 330000000 ≤ u.now
      ∧ (fld (OPT_BANK_STATUS_LOST 5) u).testBit (spareFor 5 1 u) = true := by decide

/-- MonitorsAnswer: measurements of the last channel; a laser to be raised and one to be lowered; a part that ages nothing. -/
theorem witness_monitors :
    let w := word [(OPT_MEAS_CTRL_GO, 1), (OPT_MEAS_CTRL_CHANNEL, 2105), (OPT_MEAS_CTRL_INT, 4)]
    let u := atNow ready
    let z := plainWrite rOPT_MEAS_CTRL w (writeLatches .host rOPT_MEAS_CTRL u)
    let v := atNow (setFlds [(OPT_MEAS_CTRL_BUSY, 1), (OPT_CTRL_AGE_PERIOD, 1), (OPT_LASER_STATUS_STATE 5 8, 2),
      (OPT_LASER_STATUS_STATE 5 10, 6), (OPT_EOL_CEIL_CEIL 5, 100)] ready)
    let x := atNow (setFld OPT_CTRL_AGE_PERIOD 0 ready)
    Alive u ∧ reaches .host u = true ∧ wfld OPT_MEAS_CTRL_GO w = 1 ∧ wfld OPT_MEAS_CTRL_INT w ≤ 4 ∧ wfld OPT_MEAS_CTRL_CHANNEL w ≤ 2105
      ∧ flag OPT_MEAS_CTRL_BUSY u = false ∧ flag OPT_MEAS_CTRL_BUSY z = false
      ∧ Alive v ∧ flag OPT_MEAS_CTRL_BUSY v = true ∧ flag OPT_CTRL_AGE_PERIOD v = true ∧ laserState 5 8 v = 2 ∧ laserState 5 10 v = 6
      ∧ (-21 : Int) < calOf 4 (11 * 5 + 8) v - 20 ∧ biasOf 5 8 v + 160 ≤ 40 * fld (OPT_EOL_CEIL_CEIL 5) v
      ∧ calOf 4 (11 * 5 + 10) v + 50 < (51 : Int)
      ∧ Alive x ∧ reaches .host x = true ∧ wfld (TRM_LASER_REQ 5 10) (word [(TRM_LASER_REQ 5 10, 8190)]) ≤ 8190
      ∧ flag OPT_CTRL_AGE_PERIOD x = false ∧ look (rTRM_LASER 5 10) (updates x).sideband = none ∧ runOn x = false := by decide

/-- LoopUpdatesAnswer: the last loop in each state its clauses name. -/
theorem witness_loops :
    let s (l : Loop) : State := setFld ANL_CTRL_ENABLE 1 { ready with anl := { lit.anl with loop := [(3821, l)] } }
    let u (l : Loop) : State := atNow (s l)
    Alive (u {}) ∧ flag ANL_CTRL_ENABLE (u {}) = true ∧ (loopOf 3821 (u { skip := true })).skip = true
      ∧ (loopOf 3821 (u {})).skip = false ∧ (loopOf 3821 (u {})).st = .off ∧ (loopOf 3821 (u {})).down = none
      ∧ (loopOf 3821 (u { down := some (7, 0) })).down = some (7, 0)
      ∧ (loopOf 3821 (u { st := .locked, held := true })).st = .locked ∧ (loopOf 3821 (u { st := .locked, held := true })).held = true
      ∧ (loopOf 3821 (u { st := .ramp, spoiled := false })).spoiled = false
      ∧ (loopOf 3821 (u { st := .ramp, spoiled := false })).st = .ramp ∧ (loopOf 3821 (u {})).spoiled = true := by decide
theorem witness_locked :
    let u (sp : Nat) : State := atNow (setFlds [(ANL_CTRL_ENABLE, 1)] (setReg (rANL_COEF 3 0 15) (BitVec.ofNat 32 (2 ^ 16))
      { ready with anl := { lit.anl with loop := [(3821, { st := .locked, setpt := sp, n := 1 })] } }))
    let z (sp : Nat) : State := onLoop 3821 (fun l => { l with sum := 0, count := 0, skip := false }) (u sp)
    let law (sp : Nat) := controlLaw 3821 (measFrac (meanPower (loopOf 3821 (u sp)))) {} (loopOf 3821 (z sp)) (z sp)
    loopClass 3821 = 3 ∧ Alive (u 0) ∧ (loopOf 3821 (u 0)).st = .locked ∧ (loopOf 3821 (u 0)).skip = false ∧ (loopOf 3821 (u 0)).held = false
      ∧ (loopOf 3821 (u 0)).start = false ∧ (loopOf 3821 (u 0)).fresh = false ∧ (loopOf 3821 (u 0)).move = none
      ∧ injArmed 10 (u 0) = false
      ∧ (plausible 3 (measFrac (meanPower (loopOf 3821 (u 0)))) (law 0).1 (z 0)).2 = false
      ∧ (law 0).2.abs.le (coef 3 10 (z 0)) = true ∧ lostN 3 (z 0) ≠ 0
      ∧ (law 65536).2.abs.le (coef 3 10 (z 65536)) = false
      ∧ lostN 3 (z 65536) ≤ (plausible 3 (measFrac (meanPower (loopOf 3821 (u 65536)))) (law 65536).1 (z 65536)).1.bad + 1 := by
  decide

/-- LoopOwnersAnswer: a ring of each kind, an element and a laser loop, OFF; an element that has failed; one that runs; two
homing sweeps, at the last code below the end of the coarse one and at the far edge of the fine one. -/
theorem witness_owners :
    let s (l : Map Loop) : State := setFlds [(ANL_CTRL_ENABLE, 1), (OPT_BANK_CTRL_ENABLE 5, 1), (OPT_LASER_STATUS_STATE 5 8, 2)]
      { ready with anl := { lit.anl with loop := l } }
    let u := atNow (s [])
    let f := atNow (s [(3755, { st := .failed })])
    let r := atNow (s [(3755, { st := .locked })])
    let o := atNow (setFld ANL_CTRL_ENABLE 0 (s [(3821, { st := .locked })]))
    Alive u ∧ flag ANL_CTRL_ENABLE u = true ∧ loopClass 917 = 0 ∧ loopClass 1835 = 1 ∧ (loopOf 917 u).st = .off
      ∧ (loopOf 1835 u).st = .off ∧ wlLit (917 % 918 / 153) (917 % 9) u = true ∧ wlLit (1835 % 918 / 153) (1835 % 9) u = true
      ∧ loopClass 3755 = 2 ∧ (loopOf 3755 u).st = .off ∧ cscMode u = 0 ∧ look (3755 - 1836) u.csc.stuck = none
      ∧ loopClass 3821 = 3 ∧ (loopOf 3821 u).st = .off
      ∧ Alive f ∧ (loopOf 3755 f).st = .failed ∧ Alive r ∧ (loopOf 3755 r).st ≠ .failed ∧ (loopOf 3755 r).st ≠ .off
      ∧ flag ANL_CTRL_ENABLE r = true ∧ Alive o ∧ (loopOf 3821 o).st ≠ .off ∧ flag ANL_CTRL_ENABLE o = false := by decide
theorem witness_homing :
    let c : Homing := { coarse := true, code := 65279, hi := 65535 }
    let f : Homing := { coarse := false, code := 1000, inside := true }
    let s (h : Homing) : State := setReg (rANL_COEF 0 0 14) (BitVec.ofNat 32 (2 ^ 24))
      { ready with anl := { lit.anl with loop := [(0, { st := .homing, sweep := some h, thr := frac 1 2 })] } }
    let u := atNow (s c)
    let v := atNow (s f)
    Alive u ∧ (loopOf 0 u).st = .homing ∧ (loopOf 0 u).sweep = some c ∧ c.code + 256 < 65536 ∧ c.code ≠ 128 ∧ c.lo ≤ 0 ∧ 65535 ≤ c.hi
      ∧ Alive v ∧ (loopOf 0 v).st = .homing ∧ (loopOf 0 v).sweep = some f
      ∧ ([0, 65535].any fun m => beyondEdge (loopClass 0 == 0) m (loopOf 0 v).thr true (2 * homeHyst (loopClass 0) v)) = true
      ∧ f.run + 1 = homeDeb (loopClass 0) v := by decide
theorem witness_anneal_ctrl :
    let e := word [(ANL_CTRL_ENABLE, 1)]
    let w := word [(ANL_CTRL_ENABLE, 1), (ANL_CTRL_SWAP, 8)]
    let u := atNow (setFld ANL_LOOP_SEL_LOOP 3821 ready)
    let z (w : Word) := plainWrite rANL_CTRL w (writeLatches .host rANL_CTRL u)
    let st := word [(ANL_CAL_CTRL_GO, 1), (ANL_CAL_CTRL_PORT, 5)]
    let gc := word [(ANL_CAL_CTRL_GO, 1), (ANL_CAL_CTRL_KIND, 1), (ANL_CAL_CTRL_PORT, 5)]
    let y (w : Word) := plainWrite rANL_CAL_CTRL w (writeLatches .host rANL_CAL_CTRL u)
    Alive u ∧ reaches .host u = true ∧ flag ANL_CTRL_ENABLE (z e) = true ∧ wfld ANL_CTRL_SWAP e = 0
      ∧ flag ANL_CTRL_ENABLE (z w) = true ∧ wfld ANL_CTRL_SWAP w = 2 ^ 3 ∧ (fld ANL_STATUS_SWAP_PENDING u).testBit 3 = false
      ∧ fld ANL_STATUS_SWAP_PENDING (z w) = fld ANL_STATUS_SWAP_PENDING u ∧ flag ANL_CTRL_ENABLE (z 0) = false
      ∧ wfld ANL_CTRL_SWAP (0 : Word) = 0 ∧ fld ANL_LOOP_SEL_LOOP u = 3821
      ∧ wfld ANL_CAL_CTRL_GO st = 1 ∧ wfld ANL_CAL_CTRL_PORT st ≤ 5 ∧ wfld ANL_CAL_CTRL_KIND st = 0
      ∧ flag ANL_CAL_STATUS_PENDING (y st) = false ∧ flag ANL_CAL_STATUS_RUNNING (y st) = false ∧ runOn (y st) = false
      ∧ wfld ANL_CAL_CTRL_GO gc = 1 ∧ wfld ANL_CAL_CTRL_KIND gc = 1 ∧ wfld ANL_CAL_CTRL_PORT gc ≤ 5
      ∧ flag ANL_CAL_STATUS_PENDING (y gc) = false ∧ flag ANL_CAL_STATUS_RUNNING (y gc) = false ∧ runOn (y gc) = false := by decide
theorem witness_anneal_events :
    let u := atNow (setFld ANL_STATUS_SWAP_PENDING 8 ready)
    let v := atNow (setFlds [(ANL_CAL_STATUS_PENDING, 1), (ANL_CAL_STATUS_BOUNDARY, 2)] ready)
    let x := atNow (setFld ANL_CAL_STATUS_RUNNING 1 { ready with anl := { lit.anl with cal := some ⟨0, 5⟩ } })
    Alive u ∧ (fld ANL_STATUS_SWAP_PENDING u).testBit 3 = true ∧ classHoming 3 u = false
      ∧ Alive v ∧ flag ANL_CAL_STATUS_PENDING v = true ∧ fld ANL_CAL_STATUS_BOUNDARY v = 2
      ∧ reg64 rANL_CAL_TIME_LO rANL_CAL_TIME_HI v ≤ mstNs v
      ∧ Alive x ∧ x.anl.cal = some ⟨0, 5⟩ ∧ flag ANL_CAL_STATUS_RUNNING x = true ∧ calWaits ⟨0, 5⟩ x = false := by decide

/-- The first bytes of a time cell from package (0, 0, 0), and the cell. -/
abbrev cellHead (type domain state : Nat) : List Byte := [BitVec.ofNat 8 type, 0x12, 0, 0, BitVec.ofNat 8 domain] ++ List.replicate 15 0
  ++ [0x49, 0x59, 0x4C, 0x4E, 0, 0, 0, 0] ++ List.replicate 20 0 ++ [BitVec.ofNat 8 state]
theorem beAt_append (a b : List Byte) {i n : Nat} (h : i + n ≤ a.length) : beAt (a ++ b) i n = beAt a i n := by
  rw [beAt, beAt, List.drop_append_of_le_length (by omega), List.take_append_of_le_length (by rw [List.length_drop]; omega)]
theorem readCell_sealed (head : List Byte) (hl : head.length = 49) (h1 : beAt head 1 1 % 16 = 2) (h0 : beAt head 20 5 = 0x49594C4E00)
    (ht : beAt head 0 1 % 16 = 0 ∨ beAt head 0 1 % 16 = 0xB) :
    readCell (sealCell (head ++ List.replicate 203 0)) = some ⟨beAt head 0 1 % 16, beAt head 4 1, (beAt head 25 1, beAt head 26 1, beAt head 27 1),
      beAt head 19 1 % 64, signed 64 (beAt head 8 8), beAt head 34 6 * 10 ^ 9 + beAt head 40 4, beAt head 48 1⟩ := by
  have hb : (head ++ List.replicate 203 (0 : Byte)).length = 252 := by rw [List.length_append, hl, List.length_replicate]
  have hc : leAt (sealCell (head ++ List.replicate 203 0)) 252 4 = crc32 (head ++ List.replicate 203 0) := by
    have := leAt_middle (head ++ List.replicate 203 (0 : Byte)) (bytesLE 4 (crc32 (head ++ List.replicate 203 0))) []
    rw [List.append_nil, hb, bytesLE_length, natLE_bytesLE, crc32_mod] at this
    exact this
  have ha (i n : Nat) (h : i + n ≤ 49) : beAt (sealCell (head ++ List.replicate 203 0)) i n = beAt head i n := by
    rw [sealCell, List.append_assoc, beAt_append _ _ (by rw [hl]; exact h)]
  have hn : (sealCell (head ++ List.replicate 203 (0 : Byte))).length = 256 := by rw [sealCell, List.length_append, hb, bytesLE_length]
  have hp : (sealCell (head ++ List.replicate 203 (0 : Byte))).take 252 = head ++ List.replicate 203 0 := by
    rw [sealCell, List.take_left' hb]
  simp only [readCell, hn, hc, hp, ha 0 1 (by decide), ha 1 1 (by decide), ha 20 5 (by decide), ha 4 1 (by decide), ha 25 1 (by decide),
    ha 26 1 (by decide), ha 27 1 (by decide), ha 19 1 (by decide), ha 8 8 (by decide), ha 34 6 (by decide), ha 40 4 (by decide),
    ha 48 1 (by decide), h1, h0]
  rw [if_neg]
  rcases ht with h | h <;> simp [h]
/-- Cells that hold a Sync of domain d and an Announce of domain 1, and one whose CRC fails. -/
theorem witness_cells :
    (∀ d, d ≤ 2 → readCell (sealCell (cellHead 0 d 0 ++ List.replicate 203 0)) = some ⟨0, d, (0, 0, 0), 0, 0, 0, 0⟩)
      ∧ readCell (sealCell (cellHead 0xB 1 2 ++ List.replicate 203 0)) = some ⟨0xB, 1, (0, 0, 0), 0, 0, 0, 2⟩
      ∧ readCell [] = none := by
  refine ⟨fun d hd => ?_, ?_, by decide⟩
  · match d, hd with
    | 0, _ => rw [readCell_sealed _ (by simp) (by decide) (by decide) (.inl (by decide))]; decide
    | 1, _ => rw [readCell_sealed _ (by simp) (by decide) (by decide) (.inl (by decide))]; decide
    | 2, _ => rw [readCell_sealed _ (by simp) (by decide) (by decide) (.inl (by decide))]; decide
  · rw [readCell_sealed _ (by simp) (by decide) (by decide) (.inr (by decide))]
    decide
/-- MeshTimeAnswers: a package with a role that is no master hears the Sync of its origin on its upstream link, and on another
link; it relays the Announce of its origin, and not one of an origin that is not its own. -/
theorem witness_sync :
    let m : TimeMsg := ⟨0, 1, (0, 0, 0), 0, 0, 0, 0⟩
    let s : State := setFlds [(SDL_CTRL_ENABLE, 1), (GLB_ROLE_STATUS_SET, 1), (SDL_STATUS_MST_STATE, 2)] { ready with
      link := [(32 * 5 + 14, { phase := .up }), (32 * 5 + 15, { phase := .up })]
      sdl := { lit.sdl with link := [(linkKey 1 5 14, ⟨1, some 0, 2⟩), (linkKey 1 5 15, ⟨0, some 0, 2⟩)] } }
    let u := atNow s
    let z (l : Nat) := onSdl (fun d => { d with link := (upd ⟨0, none, 0⟩ (linkKey m.domain 5 l)
        (fun x => { x with relays := m.relays + (15 - l), syncAt := some u.now }) d.link) }) u
    Alive u ∧ m.type = 0 ∧ cellLink 5 15 u = true ∧ cellLink 5 14 u = true ∧ relays m u = true
      ∧ originOf (z 15) = some (m.domain, m.origin)
      ∧ upstream 1 (chooseUpstream 1 (onSdl (fun d => { d with lastSync := some (z 15).now }) (z 15))) = some (5, 15)
      ∧ upstream 1 (z 15) = some (5, 15)
      ∧ relays ⟨0xB, 1, (0, 0, 0), 0, 0, 0, 2⟩ u = true ∧ relays ⟨0xB, 1, (1, 0, 0), 0, 0, 0, 2⟩ u = false := by decide
theorem witness_mesh_events :
    let s (n st : Nat) : State := setFlds [(SDL_CTRL_ENABLE, 1), (SDL_STATUS_MST_STATE, st)] { ready with
      now := n, sdl := { lit.sdl with lastSync := some 0, skewOs := List.replicate 8 0, step := some 5 } }
    let u := atNow (s 11000000 2)
    let v := atNow (planned { phase := .up })
    Alive u ∧ flag SDL_CTRL_ENABLE u = true ∧ u.sdl.lastSync = some 0 ∧ 0 + 11000000 ≤ u.now ∧ mstState u = 2 ∧ 8 ≤ u.sdl.skewOs.length
      ∧ u.sdl.step = some 5 ∧ runOn u = false
      ∧ Alive v ∧ activeBank v = some 0 ∧ phaseOf 0 15 v = .up ∧ ((dropEntry 0 0 15 v).any (·.plesio)) = false := by decide
theorem witness_set_mst :
    let w := word [(SDL_CTRL_SET_MST, 1), (SDL_CTRL_TOD_SRC, 2)]
    let x := word [(SDL_CTRL_MST_FROM_TOD, 1), (SDL_CTRL_TOD_SRC, 2)]
    let u := atNow (setFlds [(GLB_ROLE_STATUS_SET, 1), (GLB_ROLE_STATUS_MESH_MASTER, 1), (SDL_STATUS_TOD_STATE, 3)] ready)
    let z (w : Word) := setFlds [(SDL_CTRL_VT_PLOT, wfld SDL_CTRL_VT_PLOT w), (SDL_CTRL_TOD_SRC, wfld SDL_CTRL_TOD_SRC w),
      (SDL_CTRL_ENABLE, wfld SDL_CTRL_ENABLE w)] (rebaseClocks (writeLatches .host rSDL_CTRL u))
    Alive u ∧ reaches .host u = true ∧ wfld SDL_CTRL_TOD_SRC w = 2 ∧ wfld SDL_CTRL_SET_TOD w = 0 ∧ wfld SDL_CTRL_VT_ZERO w = 0
      ∧ isMesh (z w) = true ∧ runOn (z w) = false ∧ mstState (z w) = 4 ∧ wfld SDL_CTRL_SET_MST w = 1 ∧ wfld SDL_CTRL_MST_FROM_TOD w = 0
      ∧ wfld SDL_CTRL_TOD_SRC x = 2 ∧ wfld SDL_CTRL_SET_TOD x = 0 ∧ wfld SDL_CTRL_VT_ZERO x = 0 ∧ isMesh (z x) = true
      ∧ runOn (z x) = false ∧ mstState (z x) = 4 ∧ wfld SDL_CTRL_SET_MST x = 0 ∧ wfld SDL_CTRL_MST_FROM_TOD x = 1
      ∧ todState (z x) ≠ 0 := by decide

/-- ServiceTimeAnswers: TOD set by the host; VT zeroed; messages of the master on the service port; slots; pulses. -/
theorem witness_tod :
    let w := word [(SDL_CTRL_SET_TOD, 1), (SDL_CTRL_TOD_SRC, 2)]
    let x := word [(SDL_CTRL_VT_ZERO, 1), (SDL_CTRL_TOD_SRC, 2), (SDL_CTRL_VT_PLOT, 15)]
    let u := atNow ready
    let z (w : Word) := setFlds [(SDL_CTRL_VT_PLOT, wfld SDL_CTRL_VT_PLOT w), (SDL_CTRL_TOD_SRC, wfld SDL_CTRL_TOD_SRC w),
      (SDL_CTRL_ENABLE, wfld SDL_CTRL_ENABLE w)] (rebaseClocks (writeLatches .host rSDL_CTRL u))
    Alive u ∧ reaches .host u = true ∧ wfld SDL_CTRL_TOD_SRC w = 2 ∧ wfld SDL_CTRL_SET_MST w = 0 ∧ wfld SDL_CTRL_MST_FROM_TOD w = 0
      ∧ wfld SDL_CTRL_SET_TOD w = 1 ∧ wfld SDL_CTRL_VT_ZERO w = 0
      ∧ wfld SDL_CTRL_TOD_SRC x = 2 ∧ wfld SDL_CTRL_SET_MST x = 0 ∧ wfld SDL_CTRL_MST_FROM_TOD x = 0 ∧ wfld SDL_CTRL_SET_TOD x = 0
      ∧ wfld SDL_CTRL_VT_ZERO x = 1 ∧ runOf (wfld SDL_CTRL_VT_PLOT x) (z x) = false := by decide
theorem witness_service_port :
    let m : SvcMaster := ⟨7, ⟨128, 6, 33, 0, 128, 1, 0⟩, 0, none, 11000⟩
    let s (n : Nat) : State := setFlds [(SDL_CTRL_TOD_SRC, 1), (SDL_STATUS_TOD_STATE, 3)] { ready with
      now := n, sdl := { lit.sdl with svcMaster := some 7, svcWait := some (9, 0), svcReq := some (9, 0), svcSeen := [m] } }
    let u := atNow (s 0)
    let v := atNow (s 33000)
    Alive u ∧ svcOn 0 u = true ∧ u.sdl.svcMaster = some 7 ∧ u.sdl.svcWait = some (9, 0) ∧ u.sdl.svcReq = some (9, 0)
      ∧ u.sdl.svcSeen = [m] ∧ u.now ≤ m.at_ + 4 * 11000
      ∧ Alive v ∧ v.sdl.svcMaster = some 7 ∧ (∀ m ∈ v.sdl.svcSeen, m.src = 7 → m.at_ + 3 * m.interval ≤ v.now)
      ∧ fld SDL_CTRL_TOD_SRC v = 1 ∧ todState v ≠ 0 := by decide
theorem witness_slots_pins :
    let s (i : Nat) : State := setFlds [(SDL_SLOT_LEN_LEN, 10), (TRM_CTRL_IDLE_EN, i), (SDL_TPO_CTRL_ENABLE 3, 1)] { ready with
      sdl := { lit.sdl with pin := [(2, { fall := some ⟨true, 0, 0⟩ })] } }
    let u := atNow (s 0)
    let v := atNow (s 1)
    let w := word [(SDL_TPO_CTRL_ENABLE 2, 1), (SDL_TPO_CTRL_WIDTH 2, 1)]
    let z := plainWrite (rSDL_TPO_CTRL 2) w (writeLatches .host (rSDL_TPO_CTRL 2) u)
    Alive u ∧ slotNs u ≠ 0 ∧ u.sdl.nextSlot * slotNs u ≤ mstNs u ∧ flag TRM_CTRL_IDLE_EN u = false
      ∧ Alive v ∧ slotNs v ≠ 0 ∧ v.sdl.nextSlot * slotNs v ≤ mstNs v ∧ flag TRM_CTRL_IDLE_EN v = true
      ∧ flag (SDL_TPO_CTRL_ENABLE 3) u = true ∧ pinStill 3 u = false ∧ (pinOf 3 u).next ≤ pinBase 3 u
      ∧ flag (SDL_TPO_CTRL_PERIODIC 3) u = false
      ∧ (pinOf 2 u).fall = some ⟨true, 0, 0⟩ ∧ todStill u = true ∧ 0 ≤ u.now
      ∧ reaches .host u = true ∧ wfld (SDL_TPO_CTRL_WIDTH 2) w ≠ 0 ∧ flag (SDL_TPO_CTRL_ENABLE 2) u = false
      ∧ flag (SDL_TPO_CTRL_ENABLE 2) z = true ∧ bit (fld SDL_TPI_STATUS_CAPTURED u) 1 = false := by decide

/-- QueueCommandsAnswer: doorbells within and beyond ring and credit; a fetched entry of each kind; staged commands; copies. -/
abbrev queued (x : Queue) (fs : List (Fld × Nat)) : State := setFlds ([(PLOT_STATUS_STATE 0, 1), (PLOT_Q_CTRL_SQ_EN 0, 15),
  (PLOT_Q_CTRL_CQ_EN 0, 1), (PLOT_SQ_CFG_SIZE_M1 0 0, 15), (PLOT_CQ_CFG_SIZE_M1 0, 15)] ++ fs) { ready with
    vfs := 16, queue := [(0, x)], func := [(1, { bme := true })] }
theorem witness_doorbells :
    let u := atNow (queued { grant := [(0, 2)] } [(PLOT_CQ_STATE_TAIL 0, 3)])
    Alive u ∧ reaches (.vf 0) u = true ∧ plotAccepts 0 u = true ∧ sqOn 0 0 u = true ∧ sqSize 0 0 u = 16
      ∧ (2 + 16 - get 0 0 (queueOf 0 u).tail) % 16 ≤ (grantOf 0 0 u + 2 ^ 32 - get 0 0 (queueOf 0 u).submitted) % 2 ^ 32
      ∧ (grantOf 0 0 u + 2 ^ 32 - get 0 0 (queueOf 0 u).submitted) % 2 ^ 32 < (15 + 16 - get 0 0 (queueOf 0 u).tail) % 16
      ∧ flag (PLOT_Q_CTRL_CQ_EN 0) u = true ∧ cqSize 0 u = 16 ∧ (3 + 16 - fld (PLOT_CQ_STATE_HEAD 0) u) % 16 ≤ cqPosted 0 u
      ∧ cqPosted 0 u < (4 + 16 - fld (PLOT_CQ_STATE_HEAD 0) u) % 16
      ∧ wfld (PLOT_Q_CTRL_SQ_EN 0) (word [(PLOT_Q_CTRL_SQ_EN 0, 15)]) ≠ 0
      ∧ wfld (PLOT_Q_CTRL_CQ_EN 0) (word [(PLOT_Q_CTRL_SQ_EN 0, 15)]) = 0
      ∧ wfld (PLOT_Q_CTRL_CQ_EN 0) (word [(PLOT_Q_CTRL_SQ_EN 0, 15), (PLOT_Q_CTRL_CQ_EN 0, 1)]) = 1
      ∧ mayGrant 0 0 u = true ∧ (queueOf 0 u).turn % 4 = 0 := by decide +kernel
theorem witness_fetched :
    let u (e : Nat) := atNow (queued { arrived := [(0, some (BitVec.ofNat 512 e))] } [])
    let e (n : Nat) := BitVec.ofNat 512 n
    Alive (u 0) ∧ Alive (u 9) ∧ Alive (u 10) ∧ Alive (u (2 ^ 200)) ∧ Alive (u (2 ^ 32)) ∧ vfOn 0 (u 0) = true
      ∧ get none (4096 * 0 + sqHead 0 0 (u 9)) (queueOf 0 (u 9)).arrived = some (e 9) ∧ sqOn 0 0 (u 9) = true
      ∧ arg (e 0) 4 4 = fld (PLOT_SQ_SEQ_EXP 0 0) (u 0) ∧ arg (e 0) 0 1 ≤ 8 ∧ entryOk (e 0) = true
      ∧ arg (e 9) 0 1 = 9 ∧ entryOk (e 9) = true ∧ startRoom 0 (u 9) = true
      ∧ 9 < arg (e 10) 0 1 ∧ arg (e (2 ^ 200)) 0 1 ≤ 9 ∧ entryOk (e (2 ^ 200)) = false
      ∧ 0 < (arg (e (2 ^ 32)) 4 4 + 2 ^ 32 - fld (PLOT_SQ_SEQ_EXP 0 0) (u (2 ^ 32))) % 2 ^ 32 := by decide +kernel
theorem witness_staged :
    let nop : Cmd := ⟨0, 3, 7, 0⟩
    let abort : Cmd := ⟨1, 3, 8, 9⟩
    let u := atNow (queued { staged := [nop] } [])
    let v := atNow (queued { staged := [nop, abort] } [])
    Alive u ∧ stagedAbort 0 3 u = none ∧ (queueOf 0 u).staged.find? (fun c => c.sq == 3) = some nop ∧ mayStart 0 nop u = true
      ∧ arg nop.entry 0 1 = 0
      ∧ Alive v ∧ stagedAbort 0 3 v = some abort ∧ startRoom 0 v = true ∧ vfOn 0 v = true := by decide +kernel
theorem witness_copies :
    let x : Copy := { sq := 1, seq := 5, toHbm := true, host := 4096, plotAddr := 0, addr := 0, len := 4, cut := 512, got := [(8, [1, 2, 3, 4])] }
    let y : Copy := { x with seq := 6, toHbm := false, got := [] }
    let u := atNow (queued { copies := [x, y], unsig := 1 } [(PLOT_CQ_CFG_IRQ_EN 0, 1), (PLOT_CQ_COAL_TIME 0, 1)])
    let v := later 11000 u
    Alive u ∧ (queueOf 0 u).copies.find? (fun c => c.sq == 1 && c.seq == 5) = some x ∧ (∀ j ∈ pieces x, get [] j x.got ≠ [])
      ∧ runOf 0 u = false ∧ (queueOf 0 u).copies.find? (fun c => c.sq == 1 && c.seq == 6) = some y ∧ y.toHbm = false
      ∧ paused 0 u = false ∧ isoWindow 0 u = true
      ∧ Alive v ∧ flag (PLOT_CQ_CFG_IRQ_EN 0) v = true ∧ fld (PLOT_CQ_COAL_TIME 0) v ≠ 0 ∧ (queueOf 0 v).unsig ≠ 0
      ∧ (queueOf 0 v).unsigAt + fld (PLOT_CQ_COAL_TIME 0) v * 11000 ≤ v.now := by decide +kernel

/-- HostFunctionsAnswer: tags fenced, fetching and timed out; a function; the link; the aperture within HBM, beyond it, and paused. -/
theorem witness_tags :
    let g : Tag := { id := 5, copy := false, sq := 0, seq := 0, piece := 0, addr := 0, len := 64, at_ := 0 }
    let h : Tag := { g with id := 6, fenced := true }
    let s := queued { tail := [(0, 1)] } []
    let u := atNow { s with func := [(1, { bme := true, tags := [g, h] })] }
    let v := later (10 * msT) u
    Alive u ∧ (func 1 u).tags.find? (fun x => x.id == 5) = some g ∧ (func 1 u).tags.find? (fun x => x.id == 6) = some h
      ∧ sqOn 0 g.sq u = true ∧ (ringOpen 0 g.sq u).contains g.piece = true ∧ (func 1 u).bme = true ∧ (func 1 u).flr = false ∧ 1 ≤ u.vfs
      ∧ Alive v ∧ (func 1 v).tags.find? (fun x => x.id == 5) = some g ∧ g.at_ + tagLife 1 v ≤ v.now
      ∧ (func 1 v).tags.find? (fun x => x.id == 6) = some h := by decide +kernel
theorem witness_pcie :
    let u := atNow (setFlds [(GLB_PCIE_STATUS_LINK_UP, 1), (GLB_PCIE_STATUS_RATE, 6)] ready)
    let v := atNow (setFld (HBM_STACK_STATUS_RECAL 0) 1 ready)
    let w := atNow (setFld GLB_APER_BASE_BASE 383 { ready with func := [(0, { cfg := { bar2 := 1 } })] })
    Alive u ∧ flag GLB_PCIE_STATUS_LINK_UP u = true ∧ ¬(fld GLB_PCIE_STATUS_RATE u = 5 ∧ fld GLB_PCIE_STATUS_WIDTH u = 0)
      ∧ reaches .host u = true ∧ 8 + 4 ≤ 2 ^ (30 + (func 0 u).cfg.bar2) ∧ fld GLB_APER_BASE_BASE u * 2 ^ 30 + 8 + 4 ≤ hbmBytes
      ∧ hbmPaused (fld GLB_APER_BASE_BASE u * 2 ^ 30 + 8) 4 u = false
      ∧ Alive v ∧ reaches .host v = true ∧ hbmPaused (fld GLB_APER_BASE_BASE v * 2 ^ 30 + 8) 4 v = true
      ∧ Alive w ∧ reaches .host w = true ∧ 2 ^ 30 + 4 ≤ 2 ^ (30 + (func 0 w).cfg.bar2)
      ∧ hbmBytes < fld GLB_APER_BASE_BASE w * 2 ^ 30 + 2 ^ 30 + 4 := by decide +kernel

/-- SidebandAnswers: a part the sideband reaches, its FIFO empty and with an entry. -/
theorem witness_sideband :
    let u := atNow ready
    let v := atNow { ready with sfifo := [1, 2] }
    Alive u ∧ reaches .sideband u = true ∧ u.sfifo = [] ∧ Alive v ∧ reaches .sideband v = true ∧ v.sfifo ≠ [] ∧ v.sfifo.drop 1 = [2] := by
  decide

/-- PlotCommandsAnswer: before and at a slice start, free and owned; a FREE plot with its regions, an OPEN and a CLOSING one;
isolation mode from a host write; a metering boundary. -/
abbrev sliced (n : Nat) (fs : List (Fld × Nat)) : State := setFlds ([(SDL_SLOT_LEN_LEN, 10), (SDL_SLICE_SLOTS_SLOTS, 1)] ++ fs) { ready with
  now := n, slice := { ready.slice with drained := false }, sdl := { lit.sdl with nextSlice := 0 } }
theorem witness_slices :
    let u := atNow (sliced 0 [])
    let z := forceRequests (closeReceives (stopSends (beginDrain u)))
    Alive u ∧ mstValid u = true ∧ sliceNs u ≠ 0 ∧ nextStart u ≤ mstNs u ∧ u.slice.drained = false ∧ stage u = 8
      ∧ (sliceOwner (mstNs z / sliceNs z) z).1 = none := by decide
theorem witness_slice_owner :
    let u := atNow (sliced 0 [(SEQ_SLICE_CTRL_ENABLE, 1), (SEQ_SLICE_TAB_VALID 0, 1), (SEQ_SLICE_TAB_PLOT 0, 3), (PLOT_STATUS_STATE 3, 1)])
    let z := forceRequests (closeReceives (stopSends (beginDrain u)))
    Alive u ∧ mstValid u = true ∧ sliceNs u ≠ 0 ∧ nextStart u ≤ mstNs u ∧ stage u = 8 ∧ (sliceOwner (mstNs z / sliceNs z) z).1 = some 3 := by
  decide
theorem witness_plots :
    let w (o c : Nat) := word [(PLOT_CTRL_OPEN 2, o), (PLOT_CTRL_CLOSE 2, c)]
    let u := atNow (setFlds [(SEQ_ISR_VALID 2, 1), (TLY_TR_VALID 2, 1), (TLY_WR_VALID 2, 1), (PLOT_STATUS_STATE 3, 1),
      (PLOT_STATUS_STATE 4, 2)] ready)
    let v := atNow (setFld (PLOT_STATUS_STATE 2) 1 ready)
    Alive u ∧ reaches .host u = true ∧ wfld (PLOT_CTRL_OPEN 2) (w 1 0) = 1 ∧ wfld (PLOT_CTRL_CLOSE 2) (w 1 0) = 0 ∧ plotState 2 u = 0
      ∧ flag (SEQ_ISR_VALID 2) u = true ∧ flag (TLY_TR_VALID 2) u = true ∧ flag (TLY_WR_VALID 2) u = true ∧ isoOn u = false
      ∧ wfld (PLOT_CTRL_OPEN 2) (w 0 1) = 0 ∧ wfld (PLOT_CTRL_CLOSE 2) (w 0 1) = 1
      ∧ Alive v ∧ reaches .host v = true ∧ plotState 2 v = 1
      ∧ plotState 4 u = 2 ∧ aborting 4 u = false ∧ (func (4 + 1) u).tags = [] := by decide
theorem witness_iso :
    let w (i : Nat) := word [(SEQ_ISO_CTRL_ISO_EN, i)]
    let s (r : Option Run) : State := { setFld FWU_STATUS_AUTHENTIC 1 ready with seq := { ready.seq with run := r } }
    let u := atNow (s none)
    let v := atNow (s (some { plot := 0, pc := 0 }))
    let y (u : State) := setFld SEQ_ISO_CTRL_ISO_EN 1 (writeLatches .host rSEQ_ISO_CTRL u)
    Alive u ∧ reaches .host u = true ∧ wfld SEQ_ISO_CTRL_ISO_EN (w 0) = 0 ∧ runOn u = false ∧ wfld SEQ_ISO_CTRL_ISO_EN (w 1) = 1
      ∧ isoOn u = false ∧ isoRefused (y u) = none ∧ flag HMK_CAP_CFG_CAP_EN u = false
      ∧ Alive v ∧ reaches .host v = true ∧ isoOn v = false ∧ isoRefused (y v) = some 1 := by decide
theorem witness_metering :
    let u := atNow (setFlds [(MTR_CTRL_ENABLE, 1), (MTR_CTRL_PERIOD, 1)] ready)
    Alive u ∧ flag MTR_CTRL_ENABLE u = true ∧ fld MTR_CTRL_PERIOD u * 1000000 ≠ 0
      ∧ meterTime u % (fld MTR_CTRL_PERIOD u * 1000000) = 0 ∧ u.mtrNext ≠ meterTime u + 1 := by decide

/-- AbortsAndHaltsAnswer: an abort whose work is over, a halt with none left; HALT_ALL and RESUME with and without a halt. -/
theorem witness_aborts_halts :
    let u := atNow (setFld (PLOT_FAULT_STATUS_ABORTING 1) 1 { ready with aborts := [⟨1, 5, 0, []⟩] })
    let v := atNow (setFld GLB_HALT_STATUS_HALTING 1 { ready with haltAt := some 0 })
    let x := atNow (setFld GLB_HALT_STATUS_HALTED 1 ready)
    let w (h r : Nat) := word [(GLB_HALT_CTRL_HALT_ALL, h), (GLB_HALT_CTRL_RESUME, r)]
    Alive u ∧ abortOf 1 u = some ⟨1, 5, 0, []⟩ ∧ u.seq.scrubEnd = none ∧ openRequests 1 u = [] ∧ plotTransfers 1 u = false
      ∧ Alive v ∧ v.haltAt = some 0 ∧ v.aborts = [] ∧ reaches .host v = true ∧ halted v = true ∧ flag GLB_HALT_STATUS_HALTING v = true
      ∧ wfld GLB_HALT_CTRL_HALT_ALL (w 1 0) = 1 ∧ wfld GLB_HALT_CTRL_RESUME (w 1 0) = 0
      ∧ wfld GLB_HALT_CTRL_HALT_ALL (w 0 1) = 0 ∧ wfld GLB_HALT_CTRL_RESUME (w 0 1) = 1
      ∧ halted (atNow ready) = false ∧ reaches .host (atNow ready) = true
      ∧ Alive x ∧ reaches .host x = true ∧ flag GLB_HALT_STATUS_HALTING x = false ∧ flag GLB_THERM_STATUS_TRIPPED x = false
      ∧ isoOn x = false := by decide

/-- A key pair's public point, and its SHA-384, made outside the model. -/
def keyX : Nat := 0xEC3A4E415B4E19A4568618029F427FA5DA9A8BC4AE92E02E06AAE5286B300C64DEF8F0EA9055866064A254515480BC13
def keyY : Nat := 0x8015D9B72D7D57244EA8EF9AC0C621896708A59367F9DFB9F54CA84B3F1C9DB1288B231C3AE0D4FE7344FD2533264720
def keyHash : BitVec 384 := 0x794113F29EDD796B85DFAADE5D707BE345371383E7BAC485D62EDBCBD377BA1FDDF0A1954BF9AD189792AD0D87299E03
/-- Bytes of a number, most significant first. -/
def be (n x : Nat) : List Byte := (bytesLE n x).reverse
/-- A component of one byte, and its entry of the table (R479). -/
def comp (i h : Nat) : List Byte := bytesLE 4 (i + 1) ++ bytesLE 4 1 ++ bytesLE 4 (384 + i) ++ bytesLE 4 1 ++ be 48 h
/-- A manifest body and header signed outside the model: SEC_VER 3, RAISE_FLOOR, MANIFEST_VER 7 (R478). -/
def body : List Byte :=
  comp 0 0x742778AD96C7C733145A22879994E03573FCDA2447A3F806EA0836BDDBC77FBBEE2591C2888EFDA42F99369221492C3D
  ++ comp 1 0x33B5E2DF76C911FBD6BBF1A5DF2C6A06C6FA5692A8A2C9ED99AA3DF4A64F9AB9D9B63293A519B3B656EDF1BEBE1ECA5D
  ++ comp 2 0x3652F9DAF4E1569F06EE60C82217690CCD4928EFE52776C296629A03C4CE155ACEE7B72EAC29FC4739C124A875DAD1B2
  ++ comp 3 0xB55DC259BD9F4FFDD00B8B330558DA41FE42B555BB128B748ABCF840E208048A28DECE4B1862B26B1680C4A4B229B8D1
  ++ comp 4 0xC78FD97A24595C86954858D5C285F84029D89BAA95B3AFEF33D221368A642CAB3B700606C1DF88BD898089D0A89D1DCB
  ++ comp 5 0x1EA83F4C262E304E597480BF286862CA97BD2BA9AE20A89CCED17426159725C6895903494BE385170C21BA748ECB6D47
  ++ [0x11, 0x12, 0x13, 0x14, 0x15, 0x16]
def head : List Byte := bytesLE 4 0x464D4C50 ++ [1, 0, 1, 0, 7, 0, 0, 0, 3, 0, 0, 0] ++ bytesLE 4 390 ++ [6] ++ List.replicate 11 0
  ++ be 48 0x7F3C641E92AD2C4F2E312044EACE653A2E99CBC65B8488D1BF8E1B3ACE5BD2DC4EE59DC0EE2F6D387130F707B3AFEEED
  ++ be 48 keyX ++ be 48 keyY ++ List.replicate 240 0
  ++ be 48 0x94EDBB92A5ECB8AAD4736E56C691916B3F88140666CE9FA73D64C4EA95AD133C81A648152E44ACF96E36DD1E80FABE46
  ++ be 48 0x7F230DAD6D346648812A48675FA451DF8BC908EF4BD42545EFF6A13CAC761C1A9CF5ABE209FDE0B817820CCC26D791EB
/-- A part whose slot n holds the image, with the fuses of its key. -/
def slotted (n : Nat) : State := { ready with
  nor := writeRun 0xFF (slotAt n) (head ++ body) [], fuses := { key0 := keyHash, present := 1 } }

/-- RFC 6979, A.2.6, SHA-384, "sample": the signature verifies, and not over another message. -/
theorem test_ecdsa :
    let v := ecdsaVerify keyX keyY 0x94EDBB92A5ECB8AAD4736E56C691916B3F88140666CE9FA73D64C4EA95AD133C81A648152E44ACF96E36DD1E80FABE46
      0x99EF4AEB15F178CEA1FE40DB2603138F130E740A19624526203B6351D0A3A94FA329C145786E679E7B82C71A38628AC8
    v [0x73, 0x61, 0x6D, 0x70, 0x6C, 0x65] = true ∧ v [0x73] = false := by decide +kernel
/-- FIPS 180-4: SHA-384 of "abc". -/
theorem test_sha384 : sha384 [0x61, 0x62, 0x63] = be 48
    0xCB00753F45A35E8BB5A03D699AC65007272C32AB0EDED1631A8B605A43FF5BED8086072BA1E7CC2358BAECA134C825A7 := by decide +kernel
theorem witness_header : headerReason head { key0 := keyHash, present := 1 } = none := by decide +kernel
theorem witness_header_bad : headerReason [] {} = some 1 := by decide
theorem witness_image : slotHeader 1 (slotted 1) = head ∧ slotBody 1 (slotted 1) = body ∧ sha384 body = (head.drop 0x20).take 48
    ∧ tableOk body = true := by decide +kernel
theorem witness_imageOk : imageOk 1 (slotted 1) = true := by
  have h := witness_image
  rw [imageOk, imageReason, h.1, show (slotted 1).fuses = { key0 := keyHash, present := 1 } from rfl, witness_header]
  dsimp only
  rw [h.2.1, if_neg (not_not_intro h.2.2.1), h.2.2.2]
  rfl

/-- HeatWatchdogInjectionAnswer: a trip, a watchdog expired and not, injections accepted and refused. -/
theorem witness_heat :
    let u := atNow { ready with tripAt := some 0, wdogAt := some 0 }
    let v := later (260 * usT) u
    let x := later msT u
    Alive v ∧ v.tripAt = some 0 ∧ 0 + 260 * usT ≤ v.now ∧ Alive x ∧ x.wdogAt = some 0 ∧ 0 + msT ≤ x.now
      ∧ Alive (atNow ready) ∧ (atNow ready).wdogAt = none := by decide
theorem witness_inject :
    let w (a d k : Nat) := word [(GLB_INJ_CTRL_ARM, a), (GLB_INJ_CTRL_DONE, d), (GLB_INJ_CTRL_KIND, k)]
    let u := atNow ready
    let v := atNow (setFld GLB_INJ_CTRL_BUSY 1 ready)
    Alive u ∧ reaches .host u = true ∧ wfld GLB_INJ_CTRL_ARM (w 1 0 10) = 1 ∧ wfld GLB_INJ_CTRL_DONE (w 1 0 10) = 0
      ∧ isoOn u = false ∧ flag GLB_INJ_CTRL_BUSY u = false ∧ wfld GLB_INJ_CTRL_KIND (w 1 0 10) = 10
      ∧ wfld GLB_INJ_CTRL_KIND (w 1 0 11) = 11 ∧ wfld GLB_INJ_CTRL_ARM (w 0 1 0) = 0 ∧ wfld GLB_INJ_CTRL_DONE (w 0 1 0) = 1
      ∧ get 0 rGLB_INJ_CTRL (updates u).sets = 0
      ∧ Alive v ∧ reaches .host v = true ∧ flag GLB_INJ_CTRL_BUSY v = true := by decide

/-- SnapshotsAnswer, FlushesAnswer: triggers, snapshots that end, a flush of each part, held and paused. -/
theorem witness_snapshots :
    let x : Snap := ⟨1, 0, 0, none, 0, none⟩
    let u := atNow { setFlds [(HMK_PERIOD_PERIOD, 1), (HMK_STATUS_CLEARING, 1)] ready with
      recTrace := { busy := some x }, recFault := { busy := some x } }
    let v := later (120 * usT) u
    Alive u ∧ reaches .host u = true ∧ wfld HMK_CTRL_SNAP_NOW (word [(HMK_CTRL_SNAP_NOW, 1)]) = 1
      ∧ 1000 * fld HMK_PERIOD_PERIOD u ≠ 0 ∧ mstValid u = true ∧ mstNs u % (1000 * fld HMK_PERIOD_PERIOD u) = 0
      ∧ u.hmkAt ≠ mstNs u + 1 ∧ u.recTrace.busy.isSome = true ∧ u.recFault.busy.isSome = true
      ∧ u.recTrace.pending = none ∧ u.recFault.pending = none
      ∧ Alive v ∧ flag HMK_STATUS_CLEARING v = true ∧ v.releaseAt + 120 * usT ≤ v.now := by decide
theorem witness_flushes :
    let f (a b c : List Nat) (p : Bool) : Flush := ⟨0, 0, 0, [], a, b, c, 0, 0, p⟩
    let s (f : Flush) : State := atNow { ready with flush := some f }
    let u := atNow { ready with flushWait := true }
    Alive u ∧ u.flushWait = true ∧ u.flush = none ∧ holdoffOver u = true ∧ pwrSteady u = true
      ∧ Alive (s (f [1] [2] [3] false)) ∧ (s (f [1] [2] [3] false)).flush = some (f [1] [2] [3] false)
      ∧ (s (f [] [2] [3] false)).flush = some (f [] [2] [3] false) ∧ (s (f [] [] [3] false)).flush = some (f [] [] [3] false)
      ∧ (s (f [1] [] [] true)).flush = some (f [1] [] [] true) ∧ pwrSteady (s (f [1] [] [] true)) = true := by decide

/-- An image is judged by the NOR device and the fuses alone. -/
theorem imageReason_congr {n : Nat} {s u : State} (h : s.nor = u.nor) (f : s.fuses = u.fuses) : imageReason n s = imageReason n u := by
  simp only [imageReason, slotHeader, slotBody, storeRead, h, f, Bool.false_eq_true, if_false]

/-- BootsAnswer: a store with and without a boot record; slots checked, good and bad; components that load. -/
theorem witness_boot :
    let s (r : Option BootRec) (f : Nat) : State :=
      let x := setFld GLB_STARTUP_STATUS_STAGE 2 { lit with fw := { lit.fw with phase := .rom, fall := f } }
      atNow (match r with | none => x | some r => writeBoot r x)
    Alive (s none 0) ∧ (s none 0).fw.phase = .rom ∧ stage (s none 0) = 2 ∧ bootRec (s none 0) = none
      ∧ bootRec (s (some ⟨1, 2, 0, 0⟩) 0) = some ⟨1, 2, 0, 0⟩ ∧ stage (s (some ⟨1, 2, 0, 0⟩) 0) = 2
      ∧ bootRec (s (some ⟨1, 1, 0, 0⟩) 4) = some ⟨1, 1, 0, 0⟩ ∧ (s (some ⟨1, 1, 0, 0⟩) 4).fw.fall = 4
      ∧ bootRec (s (some ⟨1, 0, 0, 0⟩) 0) = some ⟨1, 0, 0, 0⟩ := by decide +kernel
theorem witness_trial_boots :
    let s (n : Nat) : State :=
      let x := setFld GLB_STARTUP_STATUS_STAGE 2 { lit with fw := { lit.fw with phase := .rom } }
      atNow (setTrialBoots n (writeBoot ⟨1, 1, 0, 0⟩ x))
    Alive (s 3) ∧ (s 3).fw.phase = .rom ∧ stage (s 3) = 2 ∧ bootRec (s 3) = some ⟨1, 1, 0, 0⟩ ∧ (s 3).fw.fall = 0
      ∧ 3 ≤ trialBoots (s 3) ∧ trialBoots (s 2) < 3 := by decide +kernel
theorem witness_slot_good :
    let s (why : Try) : State := atNow { slotted 1 with fw := { ready.fw with phase := .check 1 why } }
    let good (why : Try) : Prop := Alive (s why) ∧ (s why).fw.phase = .check 1 why ∧ imageOk 1 (s why) = true ∧ (s why).fw.fall ≠ 5
    good .blank ∧ good .active ∧ good .other ∧ good (.fall 1) := by
  have h (s : State) (h : s.nor = (slotted 1).nor) (f : s.fuses = (slotted 1).fuses) : imageOk 1 s = true := by
    rw [imageOk, imageReason_congr h f]
    exact witness_imageOk
  refine ⟨⟨?_, ?_, h _ ?_ ?_, ?_⟩, ⟨?_, ?_, h _ ?_ ?_, ?_⟩, ⟨?_, ?_, h _ ?_ ?_, ?_⟩, ?_, ?_, h _ ?_ ?_, ?_⟩ <;> decide +kernel
theorem witness_slot_bad :
    let s (slot : Nat) (why : Try) : State := atNow { ready with fw := { ready.fw with phase := .check slot why } }
    let t : State := atNow (writeBoot ⟨0, 1, 0, 0⟩ { ready with fw := { ready.fw with phase := .check 0 .active } })
    Alive (s 0 .blank) ∧ imageOk 0 (s 0 .blank) = false ∧ imageOk 1 (s 1 .blank) = false ∧ imageOk 0 (s 0 .active) = false
      ∧ ((bootRec (s 0 .active)).getD {}).state ≠ 1 ∧ imageOk 1 (s 1 .other) = false ∧ imageOk 0 (s 0 (.fall 1)) = false
      ∧ Alive t ∧ imageOk 0 t = false ∧ ((bootRec t).getD {}).state = 1 := by decide +kernel
theorem witness_components :
    let u := atNow { slotted 1 with fw := { ready.fw with phase := .load, slot := 1 } }
    let v := atNow { ready with fw := { ready.fw with phase := .load } }
    let w := later (50 * msT) v
    Alive u ∧ u.fw.phase = .load ∧ u.now ≤ u.fw.loadAt + 50 * msT ∧ componentHolds 2 u = true ∧ componentHolds 6 u = true
      ∧ Alive v ∧ v.fw.phase = .load ∧ v.now ≤ v.fw.loadAt + 50 * msT ∧ componentHolds 2 v = false
      ∧ Alive w ∧ w.fw.phase = .load ∧ w.fw.loadAt + 50 * msT ≤ w.now := by decide +kernel

/-- TrialsAnswer: a trial that all hold, whose image raises the floor and does not; one that has run out; the four writes. -/
theorem witness_trials :
    let s (x : State) : State := setFld FWU_SVC_CFG_LINK_UP 1 { x with
      fw := { ready.fw with phase := .run, slot := 1, trial := true, pfConfirm := true } }
    let u := atNow (s (slotted 1))
    let v := atNow (s (slotted 0))
    let w := later trialT (setFld FWU_SVC_CFG_LINK_UP 0 v)
    let z (u : State) := setFld FWU_STATUS_TRIAL 0 (onBoot (fun r => { r with state := 0 }) (onFw (fun f => { f with trial := false }) u))
    Alive u ∧ onTrial u = true ∧ 4 ≤ stage u ∧ stage u ≤ 8 ∧ u.fw.wdog = false
      ∧ (List.range 6).all (fun p => portConfirms p u) = true ∧ chousUp u = true ∧ flag FWU_SVC_CFG_LINK_UP u = true
      ∧ u.fw.pfConfirm = true ∧ slotRaise 1 (z u) = true ∧ u.fuses.floor < slotSec 1 (z u)
      ∧ Alive v ∧ onTrial v = true ∧ 4 ≤ stage v ∧ stage v ≤ 8 ∧ v.fw.wdog = false
      ∧ (List.range 6).all (fun p => portConfirms p v) = true ∧ chousUp v = true ∧ flag FWU_SVC_CFG_LINK_UP v = true
      ∧ v.fw.pfConfirm = true ∧ slotRaise 1 (z v) = true ∧ ¬(slotSec 1 (z v) ≤ v.fuses.floor)
      ∧ Alive w ∧ onTrial w = true ∧ w.fw.bootAt + trialT ≤ w.now ∧ flag FWU_SVC_CFG_LINK_UP w = false := by decide +kernel

/-- ServiceMessagesAnswer, ServiceRepeatsAnswer, UpdatesAnswer: requests new and answered before, in each state of an update. -/
theorem witness_service :
    let s (n : Nat) : State := atNow (setFld FWU_UPD_STATUS_STATE n { ready with fw := { ready.fw with phase := .run } })
    let v : State := atNow { ready with fw := { ready.fw with phase := .run, answered := [(⟨1, 2⟩, 3, [4])] } }
    Alive (s 0) ∧ (s 0).fw.answered.find? (fun x => x.1 == ⟨1, 2⟩ && x.2.1 == 3) = none ∧ serviceUp (s 0) = true
      ∧ fld FWU_UPD_STATUS_STATE (s 0) = 0 ∧ fld FWU_UPD_STATUS_STATE (s 2) = 2 ∧ fld FWU_UPD_STATUS_STATE (s 4) = 4
      ∧ serviceUp (s 4) = true ∧ (s 2).fw.upd.waits ≠ some (⟨1, 2⟩, 3)
      ∧ Alive v ∧ v.fw.answered.find? (fun x => x.1 == ⟨1, 2⟩ && x.2.1 == 3) = some (⟨1, 2⟩, 3, [4]) ∧ serviceUp v = true := by decide
theorem witness_update_begin :
    let s (t : Bool) (n : Nat) (p : BootPhase) : State := setFld FWU_UPD_STATUS_STATE n { slotted 1 with
      fw := { ready.fw with phase := p, trial := t } }
    fld FWU_UPD_STATUS_STATE (s false 2 .run) = 2 ∧ fld FWU_UPD_STATUS_STATE (s false 3 .run) = 3 ∧ inCrucible (s false 0 .crucible) = true
      ∧ fld FWU_UPD_STATUS_STATE (s true 0 .run) = 0 ∧ inCrucible (s true 0 .run) = false ∧ (s true 0 .run).fw.trial = true
      ∧ fld FWU_UPD_STATUS_STATE (s false 5 .run) = 5 ∧ (s false 5 .run).fw.trial = false
      ∧ (s false 5 .run).fuses = { key0 := keyHash, present := 1 } := by decide +kernel
theorem witness_update_data :
    let u : State := setFld FWU_UPD_STATUS_STATE 2 { ready with fw := { ready.fw with upd := { header := head, next := 512 } } }
    fld FWU_UPD_STATUS_STATE u = 2 ∧ u.fw.upd.next = 512 ∧ u.fw.upd.delta = false ∧ u.fw.upd.written + 1 ≤ leAt u.fw.upd.header 0x10 4
      ∧ fld FWU_UPD_STATUS_STATE ready ≠ 2 := by decide +kernel
theorem witness_update_end :
    let s (n : Nat) : State := setFld FWU_UPD_STATUS_STATE n { slotted 1 with
      fw := { ready.fw with phase := .run, upd := { slot := 1, header := head, next := 902, total := 902, written := 390 } } }
    let u := atNow (s 3)
    let v := later (30000 * msT) (s 4)
    Alive u ∧ fld FWU_UPD_STATUS_STATE u = 3 ∧ updReason true u = some 0xD ∧ updReason false u = none
      ∧ Alive v ∧ v.fw.upd.at_ + 30000 * msT ≤ v.now ∧ fld FWU_UPD_STATUS_STATE v = 4
      ∧ fld FWU_UPD_STATUS_STATE u ≠ 0 ∧ fld FWU_UPD_STATUS_STATE u ≠ 4 := by
  intro s u v
  have h : updReason false u = imageReason 1 (slotted 1) := by
    rw [updReason, if_neg (by decide), if_neg (by decide +kernel)]
    have e : u.fw.upd.slot = 1 := by decide +kernel
    have n : u.nor = (slotted 1).nor := by decide +kernel
    have f : u.fuses = (slotted 1).fuses := by decide +kernel
    rw [e, imageReason_congr n f]
  have i := witness_imageOk
  rw [imageOk, Option.isNone_iff_eq_none] at i
  exact ⟨by decide +kernel, by decide +kernel, by rfl, h.trans i, by decide +kernel, by decide +kernel, by decide +kernel,
    by decide +kernel, by decide +kernel⟩

/-- ResetsAnswer, StartUpAnswers, PowerDownAnswers: each pin and each stage, with what it waits for. -/
theorem witness_resets :
    let u := atNow { ready with fw := { ready.fw with resetDue := true } }
    let v := atNow { ready with inReset := true }
    let w := atNow { ready with powered := false }
    let x := atNow { ready with pwrHigh := false }
    let y := later (20 * usT) x
    u.powered = true ∧ u.inReset = false ∧ u.fw.resetDue = true ∧ flag GLB_HALT_STATUS_HALTING u = false ∧ u.pwrHigh = true
      ∧ v.powered = true ∧ v.inReset = true ∧ v.pwrHigh = true ∧ w.powered = false
      ∧ x.pwrHigh = false ∧ x.now < x.pwrLowAt + 20 * usT
      ∧ y.pwrHigh = false ∧ y.inReset = false ∧ y.powered = true ∧ y.down = none ∧ y.pwrLowAt + 20 * usT ≤ y.now := by decide
theorem witness_stages :
    let s (n : Nat) : State := setFld GLB_STARTUP_STATUS_STAGE n { lit with fw := { lit.fw with phase := .run } }
    let u := atNow (s 1)
    let v := atNow { s 3 with hbm := { lit.hbm with stack := (List.range 8).map fun k => (k, { phase := .done }) } }
    let w := atNow (setFld GLB_ROLE_STATUS_SET 1 { s 4 with extents := true })
    let x := atNow (setFld SDL_STATUS_MST_STATE 4 (s 7))
    Alive u ∧ stage u = 1 ∧ u.testEn = false ∧ Alive (atNow (s 2)) ∧ stage (atNow (s 2)) = 2 ∧ (atNow (s 2)).fw.phase = .run
      ∧ Alive v ∧ stage v = 3 ∧ v.seq.scrubEnd = none ∧ allTrained v = true
      ∧ Alive w ∧ stage w = 4 ∧ flag GLB_ROLE_STATUS_SET w = true ∧ w.extents = true
      ∧ Alive x ∧ stage x = 7 ∧ mstState x = 4 := by decide
/-- A store that lists keys 0 to n − 1 with one value. -/
theorem get_replicate {α : Type} (d v : α) {k n : Nat} (h : k < n) : get d k ((List.range n).map fun i => (i, v)) = v := by
  induction n with
  | zero => omega
  | succ n ih =>
    have e (m m' : Map α) : Machine.get d k (m ++ m') = if m.any (fun p => p.1 == k) then Machine.get d k m
        else Machine.get d k m' := by
      induction m with
      | nil => rfl
      | cons p m ih =>
        rw [List.cons_append, Machine.get, Machine.get, ih, List.any_cons]
        by_cases g : k = p.1
        · simp [g]
        · rw [if_neg g, if_neg g, beq_false_of_ne (Ne.symm g), Bool.false_or]
    rw [List.range_succ, List.map_append, e]
    by_cases g : k < n
    · rw [if_pos (by simpa using g), ih g]
    · rw [if_neg (by simp; omega), show k = n by omega]
      simp [Machine.get]
theorem witness_loops_settled :
    let s (n : Nat) : State := setFld GLB_STARTUP_STATUS_STAGE 5 { lit with
      anl := { loop := (List.range n).map fun k => (k, { st := .locked }) } }
    Alive (atNow (s 3822)) ∧ stage (atNow (s 3822)) = 5 ∧ loopsSettled (atNow (s 3822)) = true := by
  intro s
  have e (n : Nat) : atNow (s n) = s n := clockTo_quiet (Nat.le_refl 0) rfl rfl rfl
  have h (n k : Nat) (hk : k < n) : loopOf k (s n) = { st := .locked } := get_replicate _ _ hk
  rw [e]
  refine ⟨by decide +kernel, by decide +kernel, ?_⟩
  rw [loopsSettled, List.all_eq_true]
  intro k hk
  simp only [h 3822 k (List.mem_range.mp (List.mem_filter.mp hk).1)]
  rfl
theorem witness_fw_reset :
    let w (k : Nat) := word [(GLB_RESET_CTRL_FW_RESET, 1), (GLB_RESET_CTRL_KEY, k)]
    let u := atNow ready
    let v := atNow (setFld GLB_HALT_STATUS_HALTING 1 ready)
    Alive u ∧ reaches .host u = true ∧ wfld GLB_RESET_CTRL_FW_RESET 0 = 0 ∧ wfld GLB_RESET_CTRL_FW_RESET (w 0x0A5A) = 1
      ∧ wfld GLB_RESET_CTRL_KEY (w 0x0A5A) = 0x0A5A ∧ stage u ≠ 9 ∧ flag GLB_HALT_STATUS_HALTING u = false
      ∧ wfld GLB_RESET_CTRL_KEY (w 0) ≠ 0x0A5A ∧ Alive v ∧ reaches .host v = true ∧ flag GLB_HALT_STATUS_HALTING v = true := by decide
theorem witness_power_down :
    let u := later (20 * usT) { ready with pwrHigh := false }
    let v := atNow (setFld GLB_CLK_STATUS_REF_VALID 1 ready)
    let s (k : Nat) : State := { ready with down := some (0, k) }
    let x := later (50 * usT) (s 3)
    Alive u ∧ u.pwrHigh = false ∧ u.down = none ∧ u.pwrLowAt + 20 * usT ≤ u.now
      ∧ Alive v ∧ flag GLB_CLK_STATUS_REF_VALID v = true ∧ v.down = none
      ∧ Alive x ∧ x.down = some (0, 3) ∧ 0 + downTime 3 ≤ x.now
      ∧ (later (40 * usT) (s 2)).down = some (0, 2) ∧ 0 + downTime 2 ≤ (later (40 * usT) (s 2)).now
      ∧ Alive (atNow (s 0)) ∧ (atNow (s 0)).down = some (0, 0) ∧ (atNow (s 0)).now < 0 + downTime 0
      ∧ flag GLB_CLK_STATUS_REF_VALID (atNow (setFld GLB_CLK_STATUS_REF_VALID 1 (s 0))) = true := by decide

/-- RegisterAccessesAnswer, UnalignedAccessesAnswer: each kind of offset, by each accessor; a part that is not reached. -/
theorem witness_register_accesses :
    let u := atNow { ready with vfs := 16 }
    let v := atNow lit
    let w := atNow { ready with down := some (0, 3) }
    Alive u ∧ reaches .host u = true ∧ reaches .sideband u = true ∧ reaches .device u = true ∧ reaches (.vf 15) u = true
      ∧ target .sideband rGLB_STATUS = .reg rGLB_STATUS ∧ (regRow rGLB_STATUS).isSome = true
      ∧ target .host 0xF00000 = .table 0 0 ∧ target (.vf 0) 0x10000 = .door 0 0
      ∧ target .host 0xEFFFFC = .reg 0xEFFFFC ∧ (regRow 0xEFFFFC).isNone = true
      ∧ target .host 0xF01000 = .pba 0 0 ∧ target (.vf 0) 0x1008 = .none
      ∧ Alive v ∧ reaches .host v = false ∧ gated v = false ∧ Alive w ∧ reaches .host w = false ∧ gated w = true
      ∧ flag GLB_ERR_LOC_VALID u = false := by decide

/-- HighWordsLatch, PlainWritesStore, VfsReachTheirPlotAlone: a low word and its high word before and after a read; a bit of
each kind; the offsets of a VF. -/
theorem witness_latches :
    isLow 0xA00140 = true ∧ get 0 (latchKey .host (0xA00140 + 4)) State.reset.latch = 0 ∧ Accessor.host ≠ .sideband
      ∧ rGLB_STATUS < 2 ^ 28 := by decide
theorem witness_plain_write :
    (regRow 0x2020).any (fun r => (r.rw &&& r.w1c) == 0 && r.rw.testBit 0 && r.w1c.testBit 29
      && !r.rw.testBit 31 && !r.w1c.testBit 31) = true := by decide
theorem witness_vf_targets :
    target (.vf 3) 0x1014 = .reg (plotBase 3 + 0x1014) ∧ target (.vf 3) 0x10010 = .door 3 0x10
      ∧ target (.vf 3) 0x20007C = .table 4 0x7C ∧ target (.vf 3) 0x201004 = .pba 4 4
      ∧ target (.vf 3) 0x1008 = .none ∧ target (.vf 3) 0x10014 = .none := by decide

/-- EmptyQueueTicks, CommandsKeepQueueAndClock, AsleepPartIgnoresCommands: a part that is alive, and one in reset. -/
theorem witness_ticks : State.reset.pending = [] ∧ alive State.reset = false ∧ alive lit = true ∧ State.reset.due = []
    ∧ isPower (.getStatus 0) = false := by decide

/-- ControlMessagesAnswer, PlanMessagesAnswer, StoreMessagesAnswer: a part on the sideband; plan messages to every role, in and
out of Crucible. Which packages a rack has is not stated (log entry 31): that every one of them has confirmed is shown of a
part that holds a confirmation of each. -/
theorem witness_messages :
    let s (p : BootPhase) : State := { ready with strapI3c := true, fw := { ready.fw with phase := p } }
    let u := atNow (s .run)
    let v := atNow (s .crucible)
    let w := atNow (setFlds [(GLB_ROLE_STATUS_RACK_MASTER, 1), (CSC_BANK_STATUS_STATE 3, 6)] (s .run))
    Alive u ∧ mctpUp u = true ∧ u.strapI3c = true ∧ u.fw.answered.find? (fun x => x.1 == ⟨1, 2⟩ && x.2.1 == 3) = none
      ∧ serviceUp u = true ∧ inCrucible u = false ∧ bankProtected 3 u = false ∧ flag GLB_ROLE_STATUS_RACK_MASTER u = false
      ∧ flag GLB_ROLE_STATUS_MESH_MASTER u = false
      ∧ Alive v ∧ v.fw.answered = [] ∧ serviceUp v = true ∧ inCrucible v = true
      ∧ Alive w ∧ serviceUp w = true ∧ inCrucible w = false ∧ bankProtected 3 w = true ∧ flag GLB_ROLE_STATUS_RACK_MASTER w = true
      ∧ 0 + ([1] : List Byte).length + 32 ≤ calArea.size ∧ calArea.size < calArea.size + ([] : List Byte).length + 32 := by decide
theorem witness_mesh_master :
    let u := atNow (setFld GLB_ROLE_STATUS_MESH_MASTER 1 { ready with fw := { ready.fw with
      phase := .run, racks := Config.meshRacks.map fun r => (r, 3) } })
    Alive u ∧ serviceUp u = true ∧ inCrucible u = false ∧ flag GLB_ROLE_STATUS_MESH_MASTER u = true ∧ meshReady 3 u = true := by
  intro u
  have e : u = setFld GLB_ROLE_STATUS_MESH_MASTER 1 { ready with fw := { ready.fw with
      phase := .run, racks := Config.meshRacks.map fun r => (r, 3) } } := clockTo_quiet (Nat.le_refl 0) rfl rfl rfl
  rw [e]
  refine ⟨by decide +kernel, by decide +kernel, by decide +kernel, by decide +kernel, ?_⟩
  rw [meshReady, List.all_eq_true]
  intro r h
  exact List.contains_iff_mem.mpr (List.mem_map_of_mem h)

/-! ### The spec's worked examples -/

/-- 02_number_formats.md, "one KB4 block pair". -/
theorem test_kb4_pair :
    let a := [0x7, 0xC, 0x6] ++ List.replicate 13 0
    let t := termValue (a.map (elemVal .e2m1)) (List.replicate 16 (elemVal .e2m1 1)) (elemVal .e4m3 0x58) (elemVal .e4m3 0x38)
      (fromF32 0x3A800000) (fromF32 0x40000000)
    t = 0x3E000000 := by decide +kernel
/-- 02_number_formats.md, "FP32 to BF16". -/
theorem test_bf16 : [0x3F808000, 0x3F818000, 0x7F7FFFFF, 0x7FA00001].map (toBf16 .rne) = [0x3F80, 0x3F82, 0x7F80, 0x7FC0] := by
  decide +kernel
/-- 02_number_formats.md, "FP32 to MXFP4". -/
theorem test_mxfp4 : mxEncode .e2m1 (List.replicate 4 .rne) [0x3D500000, 0xBE300000, 0x3EF00000, 0x3B800000]
    = (0x7B, [0x2, 0xD, 0x7, 0x0]) := by decide +kernel
/-- The same example under stochastic rounding: lane 1, and the same value in lane 2. -/
theorem test_mxfp4_sr : elemRound .e2m1 (.sr 0xBB40) true 11 1 (-2) = 0xD ∧ elemRound .e2m1 (.sr 0x3A9D) true 11 1 (-2) = 0xC
    ∧ seedState 0x5A3C 0 1 % 65536 = 0xBB40 ∧ lfsrStep 0xBB40 = 0x5DA0 := by decide +kernel
/-- 02_number_formats.md, "FP32 to KB4": codes, scale and the element plane's first bytes. -/
theorem test_kb4 :
    kb4Encode (List.replicate 3 .rne) 0x3A800000 [0x3DC00000, 0xBD000000, 0x3D600000] = (0x58, [0x7, 0xC, 0x6])
      ∧ packElems 4 [0x7, 0xC, 0x6, 0] = [0xC7, 0x06] := by decide +kernel
/-- 02_number_formats.md, "a code table and the first bits of a segment". -/
theorem test_kc4 :
    let tbl := 0x8764333787643334
    kcTableOk tbl = true ∧ kcKraft tbl = 2 ^ 15 ∧ (kcCodes tbl).contains (0xD, 6, 0b111101) = true
      ∧ (kcCodes tbl).contains (0x7, 8, 0b11111110) = true
      ∧ kcDecode (kcCodes tbl) 8 [] 0 (payloadBits [0xF4, 0x28, 0x0F, 0x0E]) = .ok [2, 9, 0, 3, 0xA, 5, 1, 0xC] 29
      ∧ kb4Decode 0x2C 0x3C000000 5 = toF32 (.fin false 9 (-10)) := by decide +kernel
/-- 04_bundle_format.md, "encoding the bundle above": slots ls0 and vx0, and the header. -/
theorem test_bundle :
    let b := 0x100003F3 + 0x00102181 * 2 ^ 192 + 0x0000080200004041 * 2 ^ 448
    hdrRepeat b = 63 ∧ hdrCmask b = 3 ∧ (vxSlot b 0).op = 1 ∧ (vxSlot b 0).vd = 3 ∧ (vxSlot b 0).va = 1 ∧ (vxSlot b 0).vb = 2
      ∧ (lsSlot b 0).op = 1 ∧ (lsSlot b 0).vr = 1 ∧ (lsSlot b 0).areg = 4 ∧ (lsSlot b 0).ofs = 0x20000
      ∧ (lsSlot b 0).postinc = 256 ∧ bundleOk b = true := by decide +kernel
/-- 03_cores.md, "a remapped row". -/
theorem test_remap : remapWord false [9] = 0xC0000009 := by decide +kernel
/-- 11_anneal_engine.md R331: the value of a coefficient word. -/
theorem test_coef : coefOf 0x00080000 = ⟨1, 16⟩ ∧ coefOf 0x00800000 = ⟨-1, 1⟩ := by decide +kernel
/-- The CRC-32 of R130 over the nine digits: the check value of the IEEE 802.3 polynomial. -/
theorem test_crc : crc32 [0x31, 0x32, 0x33, 0x34, 0x35, 0x36, 0x37, 0x38, 0x39] = 0xCBF43926 := by decide +kernel
/-- 20_register_map.md, "one register seen through three paths" and "an indexed register and its reset value". -/
theorem test_registers :
    target (.vf 5) 0x1018 = .reg 0x151018 ∧ target .sideband 0x151018 = .reg 0x151018 ∧ rPLOT_FAULT_FIRST 5 = 0x151018
      ∧ rLNK_LINK_STATUS 3 16 = 0x6011C0 ∧ regValue 0x6011C0 State.reset = 0x0200FF00 := by decide +kernel

end Sys2Proof.Tests
end

/-! # Scope (00_scope.md)

SUPPORT. The global error status (R543) and unaligned accesses (R10). -/
section
namespace Sys2Proof.Machine

/-! ## Counters and write-one-to-clear fields -/

/-- A saturating counter field takes its events up to its largest value. -/
theorem fld_bump_same (f : Fld) (h : fieldOk f) (n : Nat) (s : State) :
    fld f (bump f n s) = min (fld f s + n) (fldMax f) := by
  have hlt : min (fld f s + n) (fldMax f) < 2 ^ (f.hi + 1 - f.lo) := by
    have hpos := Nat.two_pow_pos (f.hi + 1 - f.lo)
    unfold fldMax
    omega
  exact (fld_setFld_same f h _ _).trans (Nat.mod_eq_of_lt hlt)

theorem fld_bump_other {f g : Fld} (h : g.off ≠ f.off) (n : Nat) (s : State) : fld g (bump f n s) = fld g s := by
  unfold fld
  rw [reg_bump h]

/-- A one-bit field that hardware sets reads 1. -/
theorem fld_raise_bit (f : Fld) (h : fieldOk f) (hb : f.hi = f.lo) (s : State) : fld f (raise f 1 s) = 1 := by
  rw [fld_raise_same f h, show f.hi + 1 - f.lo = 1 by omega, Nat.pow_one, Nat.or_mod_two_eq_one]
  exact .inr rfl

/-- A one-bit field that is set reads 1. -/
theorem fld_eq_one_of_flag {f : Fld} (hb : f.hi = f.lo) {s : State} (h : flag f s = true) : fld f s = 1 := by
  have hlt := fld_lt f s
  rw [show f.hi + 1 - f.lo = 1 by omega] at hlt
  have h0 : fld f s ≠ 0 := by simpa [flag] using h
  omega

/-! ## The global error status -/

/-- The fields of GLB_ERR_LOC and GLB_ERR_OFFSET an event of R543 fills, and what it gives them. -/
def errFields (kind src fn off : Nat) : List (Fld × Nat) :=
  [(GLB_ERR_LOC_KIND, kind), (GLB_ERR_LOC_SRC, src), (GLB_ERR_LOC_FUNC, fn), (GLB_ERR_OFFSET_OFFSET, off)]

/-- The fields alone. -/
def errKeys : List Fld := [GLB_ERR_LOC_KIND, GLB_ERR_LOC_SRC, GLB_ERR_LOC_FUNC, GLB_ERR_OFFSET_OFFSET]

theorem errFields_map_fst (kind src fn off : Nat) : (errFields kind src fn off).map Prod.fst = errKeys := rfl

theorem mem_errKeys {kind src fn off : Nat} {x : Fld × Nat} (hx : x ∈ errFields kind src fn off) : x.1 ∈ errKeys :=
  errFields_map_fst kind src fn off ▸ List.mem_map_of_mem hx

theorem errKeys_off : ∀ f ∈ errKeys, f.off = rGLB_ERR_LOC ∨ f.off = rGLB_ERR_OFFSET := by decide

theorem errKeys_ok : ∀ f ∈ errKeys, fieldOk f ∧ fieldsApart f GLB_ERR_LOC_VALID := by decide

theorem errFields_apart (kind src fn off : Nat) :
    (errFields kind src fn off).Pairwise fun x y => fieldsApart x.1 y.1 := by
  have hkeys : errKeys.Pairwise fieldsApart := by decide
  rw [← errFields_map_fst kind src fn off] at hkeys
  exact List.pairwise_map.mp hkeys

/-- `s` with an event held in GLB_ERR_LOC and GLB_ERR_OFFSET. -/
def holdErr (kind src fn off : Nat) (s : State) : State :=
  raise GLB_ERR_LOC_VALID 1 (setFlds (errFields kind src fn off) (setErrAt (cycle s) (errRank src fn off) s))

/-- An event is counted, held unless an event before it is, and signalled. -/
theorem globalErr_cases (kind src fn off : Nat) (s : State) :
    globalErr kind src fn off s = irq 22 (holdErr kind src fn off (bump GLB_ERR_COUNT_COUNT 1 s))
      ∨ flag GLB_ERR_LOC_VALID s = true
        ∧ globalErr kind src fn off s = irq 22 (bump GLB_ERR_COUNT_COUNT 1 s) := by
  unfold globalErr
  extract_lets r first s1
  cases hf : first with
  | true => exact .inl rfl
  | false =>
    refine .inr ⟨?_, rfl⟩
    simp only [first, Bool.or_eq_false_iff, Bool.not_eq_false'] at hf
    exact hf.1

theorem globalErr_of_none_held {s : State} (h : flag GLB_ERR_LOC_VALID s = false) (kind src fn off : Nat) :
    globalErr kind src fn off s = irq 22 (holdErr kind src fn off (bump GLB_ERR_COUNT_COUNT 1 s)) := by
  rcases globalErr_cases kind src fn off s with he | ⟨hv, -⟩
  · exact he
  · rw [h] at hv; cases hv

theorem fld_holdErr_other {f : Fld} (h1 : f.off ≠ rGLB_ERR_LOC) (h2 : f.off ≠ rGLB_ERR_OFFSET) (kind src fn off : Nat)
    (s : State) : fld f (holdErr kind src fn off s) = fld f s := by
  have hne : ∀ x ∈ errFields kind src fn off, f.off ≠ x.1.off := by
    intro x hx he
    rcases errKeys_off x.1 (mem_errKeys hx) with hl | hl
    · exact h1 (he.trans hl)
    · exact h2 (he.trans hl)
  unfold fld holdErr
  rw [reg_raise h1, reg_setFlds_other _ _ hne, reg_setErrAt]

/-- Each field of the event held reads what the event gives it, modulo the field's width. -/
theorem fld_holdErr {kind src fn off : Nat} {x : Fld × Nat} (hx : x ∈ errFields kind src fn off) (s : State) :
    fld x.1 (holdErr kind src fn off s) = x.2 % 2 ^ (x.1.hi + 1 - x.1.lo) := by
  obtain ⟨hok, hvalid⟩ := errKeys_ok x.1 (mem_errKeys hx)
  unfold holdErr
  rw [fld_raise_other (by decide) hok hvalid]
  exact fld_setFlds_mem _ _ (fun y hy => (errKeys_ok y.1 (mem_errKeys hy)).1) (errFields_apart ..) x hx

theorem fld_globalErr_count (kind src fn off : Nat) (s : State) :
    fld GLB_ERR_COUNT_COUNT (globalErr kind src fn off s) = min (fld GLB_ERR_COUNT_COUNT s + 1) 0xFFFFFFFF := by
  rcases globalErr_cases kind src fn off s with he | ⟨-, he⟩
  · rw [he, fld_irq (by decide), fld_holdErr_other (by decide) (by decide)]
    exact fld_bump_same _ (by decide) 1 s
  · rw [he, fld_irq (by decide)]
    exact fld_bump_same _ (by decide) 1 s

/-- After an event GLB_ERR_LOC holds one. -/
theorem fld_globalErr_valid (kind src fn off : Nat) (s : State) :
    fld GLB_ERR_LOC_VALID (globalErr kind src fn off s) = 1 := by
  rcases globalErr_cases kind src fn off s with he | ⟨hv, he⟩
  · rw [he, fld_irq (by decide)]
    exact fld_raise_bit _ (by decide) rfl _
  · rw [he, fld_irq (by decide), fld_bump_other (by decide)]
    exact fld_eq_one_of_flag rfl hv

/-- With no event held, the fields of GLB_ERR_LOC and GLB_ERR_OFFSET are those of this one. -/
theorem fld_globalErr_held {s : State} (h : flag GLB_ERR_LOC_VALID s = false) {kind src fn off : Nat} {x : Fld × Nat}
    (hx : x ∈ errFields kind src fn off) :
    fld x.1 (globalErr kind src fn off s) = x.2 % 2 ^ (x.1.hi + 1 - x.1.lo) := by
  have hirq : ∀ f ∈ errKeys, f.off ≠ rGLB_IRQ_PEND := by decide
  rw [globalErr_of_none_held h, fld_irq (hirq x.1 (mem_errKeys hx)), fld_holdErr hx]

/-! ## Unaligned accesses -/

theorem unalignedAccess_unreached {a : Accessor} {s : State} (h : reaches a s = false) (off : Nat) (write : Bool) :
    unalignedAccess a off write s = s := by simp [unalignedAccess, h]

theorem unalignedAccess_write {a : Accessor} {s : State} (h : reaches a s = true) (off : Nat) :
    unalignedAccess a off true s = globalErr 1 (accSrc a) (accFunc a) off s := by simp [unalignedAccess, h]

theorem unalignedAccess_read {a : Accessor} {s : State} (h : reaches a s = true) (off : Nat) :
    unalignedAccess a off false s = emit (.regData 0) (globalErr 1 (accSrc a) (accFunc a) off s) := by
  simp [unalignedAccess, h]

/-- The answer to an unaligned read is no change of a register. -/
theorem reg_unalignedAccess {a : Accessor} {s : State} (h : reaches a s = true) (off : Nat) (write : Bool) (o : Nat) :
    reg o (unalignedAccess a off write s) = reg o (globalErr 1 (accSrc a) (accFunc a) off s) := by
  cases write with
  | false => rw [unalignedAccess_read h, reg_emit]
  | true => rw [unalignedAccess_write h]

theorem fld_unalignedAccess {a : Accessor} {s : State} (h : reaches a s = true) (off : Nat) (write : Bool) (f : Fld) :
    fld f (unalignedAccess a off write s) = fld f (globalErr 1 (accSrc a) (accFunc a) off s) := by
  unfold fld
  rw [reg_unalignedAccess h]

theorem unitPart_unalignedAccess (a : Accessor) (off : Nat) (write : Bool) (s : State) :
    unitPart (unalignedAccess a off write s) = unitPart s := by
  cases h : reaches a s with
  | false => rw [unalignedAccess_unreached h]
  | true =>
    cases write with
    | false => rw [unalignedAccess_read h, unitPart_emit, unitPart_globalErr]
    | true => rw [unalignedAccess_write h, unitPart_globalErr]

theorem exec_unalignedAccess (t : Nat) (a : Accessor) (off : Nat) (write : Bool) (s : State) :
    exec (.unalignedAccess t a off write) s = execUnalignedAccess t a off write s := rfl

theorem exec_unalignedAccess_awake {t : Nat} {s u : State} (h : Awake t s u) (a : Accessor) (off : Nat) (write : Bool) :
    exec (.unalignedAccess t a off write) s = .next (after u (unalignedAccess a off write u)) := by
  rw [exec_unalignedAccess, execUnalignedAccess, command_awake h]

/-- Settles O38: an access that reaches the registers is an event of R543 alone, and a read is answered 0. -/
theorem unalignedAccessesAnswer : Obligations.UnalignedAccessesAnswer := by
  intro t off a s u hu
  refine ⟨fun hr write => ?_, fun hr write => ⟨unalignedAccess a off write u, exec_unalignedAccess_awake hu a off write, ?_, ?_,
    unitPart_unalignedAccess a off write u, ?_, ?_, ?_⟩⟩
  · rw [exec_unalignedAccess_awake hu, unalignedAccess_unreached hr]
  · rintro rfl
    rw [unalignedAccess_read hr]
    rfl
  · intro o ho
    have hregs : ∀ r ∈ errRegs, r ∈ [rGLB_ERR_LOC, rGLB_ERR_OFFSET, rGLB_ERR_COUNT, rGLB_IRQ_PEND] := by decide
    rw [reg_unalignedAccess hr]
    exact reg_globalErr (fun hm => ho (hregs o hm)) 1 _ _ _ u
  · rw [fld_unalignedAccess hr, fld_globalErr_count]
  · rw [fld_unalignedAccess hr, fld_globalErr_valid]
  · intro hv
    have held {x : Fld × Nat} (hx : x ∈ errFields 1 (accSrc a) (accFunc a) off) :
        fld x.1 (unalignedAccess a off write u) = x.2 % 2 ^ (x.1.hi + 1 - x.1.lo) := by
      rw [fld_unalignedAccess hr, fld_globalErr_held hv hx]
    exact ⟨held (x := (GLB_ERR_LOC_KIND, 1)) (.head _),
      held (x := (GLB_ERR_LOC_SRC, accSrc a)) (.tail _ (.head _)),
      held (x := (GLB_ERR_LOC_FUNC, accFunc a)) (.tail _ (.tail _ (.head _))),
      held (x := (GLB_ERR_OFFSET_OFFSET, off)) (.tail _ (.tail _ (.tail _ (.head _))))⟩

end Sys2Proof.Machine
end

/-! SUPPORT. The latches of high words (R9, R375, R539). -/
section
namespace Sys2Proof.Machine

/-! ## Repeated changes of a store -/

/-- What every change for a member of a list keeps, all of them keep. -/
theorem forAll_keeps_of_mem {α σ β : Type} {g : σ → β} {f : α → σ → σ} {l : List α} :
    (∀ a ∈ l, ∀ s, g (f a s) = g s) → ∀ s, g (forAll f l s) = g s := by
  induction l with
  | nil => intro _ s; rfl
  | cons a l ih =>
    intro h s
    rw [forAll, ih fun b hb => h b (List.mem_cons_of_mem _ hb), h a List.mem_cons_self]

theorem get_forAll_del_mem {α : Type} (d : α) (key : Nat → Nat) {l : List Nat} {o : Nat} (ho : o ∈ l) :
    ∀ m : Map α, get d (key o) (forAll (fun o => del (key o)) l m) = d := by
  induction l with
  | nil => cases ho
  | cons a l ih =>
    intro m
    by_cases hl : o ∈ l
    · exact ih hl _
    · obtain rfl : o = a := (List.mem_cons.mp ho).resolve_right hl
      refine forAll_induct (P := fun m => get d (key o) m = d) (fun b m hm => ?_) l _ (get_del_same ..)
      by_cases hb : key o = key b
      · rw [hb]; exact get_del_same ..
      · rwa [get_del_other d hb]

theorem get_forAll_ins_mem {α : Type} (d : α) {key : Nat → Nat} (hk : Function.Injective key) (v : Nat → α) {l : List Nat}
    {o : Nat} (ho : o ∈ l) : ∀ m : Map α, get d (key o) (forAll (fun o => ins (key o) (v o)) l m) = v o := by
  induction l with
  | nil => cases ho
  | cons a l ih =>
    intro m
    by_cases hl : o ∈ l
    · exact ih hl _
    · obtain rfl : o = a := (List.mem_cons.mp ho).resolve_right hl
      have hne : ∀ b ∈ l, key o ≠ key b := fun b hb he => hl (hk he ▸ hb)
      rw [forAll, forAll_keeps_of_mem (g := get d (key o)) fun b hb m => get_ins_other d (hne b hb) _ m, get_ins_same]

/-! ## Keys of latches -/

theorem latchKey_injective (a : Accessor) : Function.Injective (latchKey a) := fun _ _ h => Nat.add_left_cancel h

/-- The number of an accessor in the keys of its latches. -/
def latchNo : Accessor → Nat
  | .host => 0
  | .sideband => 1
  | .device => 2
  | .vf n => n + 3

theorem latchKey_eq (a : Accessor) (off : Nat) : latchKey a off = 2 ^ 28 * latchNo a + off := by cases a <;> rfl

theorem latchNo_injective : Function.Injective latchNo := by
  intro a b h
  cases a <;> cases b <;> simp [latchNo] at h ⊢
  exact h

/-- Two accessors share no latch. -/
theorem latchKey_ne {a b : Accessor} (h : b ≠ a) {o o' : Nat} (ho : o < 2 ^ 28) (ho' : o' < 2 ^ 28) :
    latchKey b o ≠ latchKey a o' := by
  intro he
  rw [latchKey_eq, latchKey_eq] at he
  have hno : latchNo b = latchNo a := by omega
  exact h (latchNo_injective hno)

/-! ## Low words -/

theorem isLow_lt {off : Nat} (h : isLow off = true) : off < 0xE0000C := by
  simp [isLow] at h
  omega

theorem high_mem_latched {off : Nat} (h : isLow off = true) : off + 4 ∈ latched off := by
  unfold latched
  rw [if_pos h]
  split <;> exact List.mem_cons_self

/-- What the read of a register latches stands just above it. -/
theorem lt_of_mem_latched {off o : Nat} (h : o ∈ latched off) : off < o ∧ o ≤ off + 8 := by
  unfold latched at h
  split at h
  · simp only [List.mem_cons, List.not_mem_nil, or_false] at h
    omega
  · split at h
    · rw [List.mem_singleton] at h
      omega
    · cases h

theorem not_mem_latched_self (off : Nat) : off ∉ latched off := fun h => Nat.lt_irrefl _ (lt_of_mem_latched h).1

/-- No word of a pair counts the holds of a run. -/
theorem accrueFor_of_isLow {off : Nat} (h : isLow off = true) {o : Nat} (ho : o = off ∨ o = off + 4) (s : State) :
    accrueFor o s = s := by
  have hne {n : Nat} (hn : isLow n = false) : off ≠ n := by
    rintro rfl
    rw [h] at hn
    cases hn
  have h10 : off ≠ 0x200010 := hne (by decide)
  have h14 : off ≠ 0x200014 := hne (by decide)
  have h18 : off ≠ 0x200018 := hne (by decide)
  have hno : ¬(o = 0x200014 ∨ o = 0x200018) := by omega
  exact if_neg hno

/-! ## Reads and the latches -/

theorem accrueHold_latch (c : Nat) (s : State) : (accrueHold c s).latch = s.latch := by
  unfold accrueHold
  split
  · rfl
  · split <;> rfl

theorem accrueFor_latch (off : Nat) (s : State) : (accrueFor off s).latch = s.latch := by
  unfold accrueFor
  split
  · exact accrueHold_latch ..
  · rfl

theorem clearRc_latch (off : Nat) (s : State) : (clearRc off s).latch = s.latch := by
  unfold clearRc
  split
  · rfl
  · split
    · rfl
    · refine forAll_keeps (g := State.latch) (fun c s => ?_) _ _
      split <;> rfl

/-- A read ends the latches of its pair, then latches what belongs to a low word. -/
theorem readReg_latch (a : Accessor) (off : Nat) (s : State) :
    (readReg a off s).2.latch
      = forAll (fun o => ins (latchKey a o) ((regValue o (accrueFor off s)).toNat + 1)) (latched off)
          (forAll (fun o => del (latchKey a o)) (unlatches off) s.latch) :=
  (clearRc_latch off _).trans (by rw [← accrueFor_latch off s]; rfl)

/-- A register whose word is latched reads that word. -/
theorem readReg_of_latched {a : Accessor} {off n : Nat} {s : State} (h : get 0 (latchKey a off) s.latch = n + 1) :
    (readReg a off s).1 = BitVec.ofNat 32 n := by
  simp only [readReg, accrueFor_latch, h]

/-- A register of which no word is latched reads its current value. -/
theorem readReg_of_unlatched {a : Accessor} {off : Nat} {s : State} (h : get 0 (latchKey a off) s.latch = 0) :
    (readReg a off s).1 = regValue off (beforeCounts off (accrueFor off s)) := by
  simp only [readReg, accrueFor_latch, h]

/-- A read latches the registers of its low word as they stand. -/
theorem readReg_latches {off o : Nat} (h : o ∈ latched off) (a : Accessor) (s : State) :
    get 0 (latchKey a o) (readReg a off s).2.latch = (regValue o (accrueFor off s)).toNat + 1 := by
  rw [readReg_latch]
  exact get_forAll_ins_mem 0 (latchKey_injective a) _ h _

/-- A read leaves every latch but those of its own pair. -/
theorem readReg_latch_other {a : Accessor} {off k : Nat} (h : ∀ o ∈ unlatches off, k ≠ latchKey a o) (s : State) :
    get 0 k (readReg a off s).2.latch = get 0 k s.latch := by
  rw [readReg_latch,
    forAll_keeps_of_mem (g := get 0 k) fun o ho m => get_ins_other 0 (h o (List.mem_cons_of_mem _ ho)) _ m,
    forAll_keeps_of_mem (g := get 0 k) fun o ho m => get_del_other 0 (h o ho) m]

/-- A read ends the latch of the register read. -/
theorem readReg_ends_latch (a : Accessor) (off : Nat) (s : State) :
    get 0 (latchKey a off) (readReg a off s).2.latch = 0 := by
  have hne : ∀ o ∈ latched off, latchKey a off ≠ latchKey a o := fun o ho he =>
    not_mem_latched_self off (latchKey_injective a he ▸ ho)
  rw [readReg_latch, forAll_keeps_of_mem (g := get 0 (latchKey a off)) fun o ho m => get_ins_other 0 (hne o ho) _ m]
  exact get_forAll_del_mem 0 (latchKey a) List.mem_cons_self _

/-- A write ends the latches of its pair. -/
theorem writeLatches_ends {off o : Nat} (h : o ∈ unlatches off) (a : Accessor) (s : State) :
    get 0 (latchKey a o) (writeLatches a off s).latch = 0 := get_forAll_del_mem 0 (latchKey a) h _

/-- Settles O40: a latch of the high word holds its value plus 1 from the read of the low word to the next access to
the pair by the same reader, and the keys of two readers differ. -/
theorem highWordsLatch : Obligations.HighWordsLatch := by
  rintro a off u v hlow rfl
  have hmem := high_mem_latched hlow
  refine ⟨fun z hz => ⟨?_, readReg_ends_latch a (off + 4) z⟩, fun z hz => ?_, fun z => ⟨?_, ?_⟩, fun b o hb ho => ?_⟩
  · rw [readReg_latches hmem, accrueFor_of_isLow hlow (.inl rfl)] at hz
    rw [readReg_of_latched hz, BitVec.ofNat_toNat, BitVec.setWidth_eq]
  · rw [readReg_of_unlatched hz, accrueFor_of_isLow hlow (.inr rfl)]
  · exact writeLatches_ends (List.mem_cons_of_mem _ hmem) a z
  · exact writeLatches_ends List.mem_cons_self a z
  · refine readReg_latch_other (fun o' ho' => latchKey_ne hb ho ?_) u
    have hlt := isLow_lt hlow
    rcases List.mem_cons.mp ho' with rfl | ho'
    · omega
    · have := lt_of_mem_latched ho'
      omega

end Sys2Proof.Machine
end

/-! SUPPORT. Writes by the field types of R12, bit by bit. -/
section
namespace Sys2Proof.Machine

/-- A note of a write is no note of what hardware sets. -/
theorem updates_noteWrite_sets (off mask : Nat) (s : State) : (updates (noteWrite off mask s)).sets = (updates s).sets := by
  have hat : (updates s).at_ = cycle s := by
    unfold updates
    split
    · assumption
    · rfl
  show (if (updates s).at_ = cycle s then { updates s with wrote := _ } else { at_ := cycle s }).sets = _
  rw [if_pos hat]

@[simp] theorem updates_setReg (off : Nat) (w : Word) (s : State) : updates (setReg off w s) = updates s := (rfl)

/-- The bits of a word written as R12 gives them: RW bits take the word, then W1C bits written 1 clear but those `kept`. -/
theorem reg_plainWrite_same {off : Nat} {r : RegRow} (h : regRow off = some r) (w : Word) (s : State) :
    reg off (plainWrite off w s)
      = ((reg off s &&& ~~~BitVec.ofNat 32 r.rw) ||| (w &&& BitVec.ofNat 32 r.rw))
        &&& ~~~(w &&& BitVec.ofNat 32 r.w1c &&& ~~~BitVec.ofNat 32 (get 0 off (updates s).sets)) := by
  simp only [plainWrite, clearW1c, h, reg_setReg_same, updates_setReg, updates_noteWrite_sets]

theorem getLsbD_reg_plainWrite {off i : Nat} {r : RegRow} (h : regRow off = some r) (hi : i < 32) (w : Word) (s : State) :
    (reg off (plainWrite off w s)).getLsbD i
      = (((reg off s).getLsbD i && !r.rw.testBit i || w.getLsbD i && r.rw.testBit i)
        && !(w.getLsbD i && r.w1c.testBit i && !(get 0 off (updates s).sets).testBit i)) := by
  rw [reg_plainWrite_same h]
  have hof (n : Nat) : (BitVec.ofNat 32 n).getLsbD i = n.testBit i := by
    rw [BitVec.getLsbD_ofNat, decide_eq_true hi, Bool.true_and]
  simp only [BitVec.getLsbD_and, BitVec.getLsbD_or, BitVec.getLsbD_not, hof, hi, decide_true, Bool.true_and, Bool.not_and,
    Bool.not_not, Bool.or_assoc]

/-- Settles O41: the cases of a bit of the register, by its field type. -/
theorem plainWritesStore : Obligations.PlainWritesStore := by
  intro off i w r u hr hi hdisjoint
  have hapart : (r.rw.testBit i && r.w1c.testBit i) = false := by
    rw [← Nat.testBit_and, hdisjoint, Nat.zero_testBit]
  have hbit := getLsbD_reg_plainWrite hr hi w u
  refine ⟨fun hrw => ?_, fun hw1c => ?_, fun hrw hw1c => ?_, fun o ho => reg_plainWrite ho w u, unitPart_plainWrite off w u⟩
  · have hw1c : r.w1c.testBit i = false := by simpa [hrw] using hapart
    simpa [hrw, hw1c] using hbit
  · have hrw : r.rw.testBit i = false := by simpa [hw1c] using hapart
    simpa [hrw, hw1c] using hbit
  · simpa [hrw, hw1c] using hbit

end Sys2Proof.Machine
end

/-! SUPPORT. The step with no command waiting. -/
section
namespace Sys2Proof.Machine

theorem step_empty {s : State} (h : s.pending = []) : step s = .next (tick s) := by simp [step, h]

/-- On a part that is not powered or held in reset time passes, and nothing else. -/
theorem clockTo_asleep {s : State} (h : alive s = false) (t : Nat) : clockTo t s = { s with now := max s.now t } := by
  simp [clockTo, h, setNow]

theorem tick_awake {s : State} (h : alive s = true) : tick s = after (clockTo (s.now + 10) s) (clockTo (s.now + 10) s) :=
  command_awake ⟨rfl, by rw [Alive, alive_clockTo, h]⟩ id

theorem tick_asleep {s : State} (h : alive s = false) : tick s = { s with now := s.now + 10 } := by
  rw [tick, command_asleep (by rw [alive_clockTo, h]), clockTo_asleep h, Nat.max_eq_right (Nat.le_add_right ..)]

/-- Settles O44: the tick of a part that is awake, and of one that is not. -/
theorem emptyQueueTicks : Obligations.EmptyQueueTicks := by
  intro s hq
  refine ⟨tick s, step_empty hq, ?_⟩
  cases h : alive s with
  | true =>
    rw [tick_awake h]
    refine ⟨?_, ?_, ?_, nofun⟩
    · rw [after_now, clockTo_now, Nat.max_eq_right (Nat.le_add_right ..)]
    · rw [after_pending, clockTo_pending, hq]
    · rintro - u rfl
      rfl
  | false =>
    rw [tick_asleep h]
    exact ⟨rfl, hq, nofun, fun _ => rfl⟩

end Sys2Proof.Machine
end

/-! SUPPORT. The requests of the service protocol (R486, R490) and the plan messages (R26, R277, R278). -/
section
namespace Sys2Proof.Machine

/-! ## Requests -/

section
variable {p : Peer} {seq : Nat} {s : State} (hup : serviceUp s = true)
  (hnew : s.fw.answered.find? (fun x => x.1 == p && x.2.1 == seq) = none)
include hup hnew

/-- Where Chous runs, a request not answered before is acted on. -/
theorem request_run (h : inCrucible s = false) (type : Nat) (rom : Bool) (act : State → State) :
    request p type seq rom act s = act s := by
  simp [request, hup, hnew, h]

/-- Crucible answers a TYPE it does not know as unknown, and does not act on it. -/
theorem request_crucible (h : inCrucible s = true) (type : Nat) (act : State → State) :
    request p type seq false act s = answer p type seq 0xFFFF [] s := by
  simp [request, hup, hnew, h]

theorem simpleRequest_run (h : inCrucible s = false) (type : Nat) (rom : Bool) (act : State → Nat × State) :
    simpleRequest p type seq rom act s = answer p type seq (act s).1 [] (act s).2 := request_run hup hnew h type rom _

theorem simpleRequest_crucible (h : inCrucible s = true) (type : Nat) (act : State → Nat × State) :
    simpleRequest p type seq false act s = answer p type seq 0xFFFF [] s := request_crucible hup hnew h type _

end

/-! ## Reports of a rack -/

/-- Is the digest a report carries the one this package expects of the bank? -/
def digestAsExpected (bank : Nat) (digest : List Byte) (s : State) : Bool :=
  (List.range 4).all fun i => reg (rCSC_BANK_EXP bank i) s == BitVec.ofNat 32 (leAt digest (4 * i) 4)

theorem digestAsExpected_iff {bank : Nat} {digest : List Byte} {s : State} :
    digestAsExpected bank digest s = true
      ↔ ∀ i, i < 4 → reg (rCSC_BANK_EXP bank i) s = BitVec.ofNat 32 (leAt digest (4 * i) 4) := by
  simp [digestAsExpected]

/-- A report in place of the package's earlier one; it counts where the bank is READY with the digest expected. -/
def takeReport (c bank : Nat) (st : Word) (digest : List Byte) (s : State) : State :=
  let rest := s.fw.reports.filter fun x => x != (c, bank)
  onFw (fun f => { f with reports := if bit st.toNat 28 ∧ digestAsExpected bank digest s then (c, bank) :: rest else rest }) s

theorem mem_takeReport_reports {c bank : Nat} {st : Word} {digest : List Byte} {s : State} :
    (c, bank) ∈ (takeReport c bank st digest s).fw.reports
      ↔ bit st.toNat 28 = true ∧ digestAsExpected bank digest s = true := by
  simp only [takeReport, onFw]
  split
  · next hcounts => exact iff_of_true List.mem_cons_self hcounts
  · next hcounts => exact iff_of_false (by simp) hcounts

/-- A rack is confirmed: the mesh master keeps its own, any other rack master sends RACK_CONFIRM. -/
def confirmRack (bank : Nat) (s : State) : State :=
  if flag GLB_ROLE_STATUS_MESH_MASTER s then keepRack (fld GLB_ROLE_RACK s) bank s
  else emit (.forward 0x32 (bytesLE 1 (fld GLB_ROLE_RACK s) ++ bytesLE 1 bank)) s

theorem confirmRack_regs (bank : Nat) (s : State) : (confirmRack bank s).regs = s.regs := by
  unfold confirmRack
  split <;> rfl

theorem confirmRack_reports (bank : Nat) (s : State) : (confirmRack bank s).fw.reports = s.fw.reports := by
  unfold confirmRack
  split <;> rfl

theorem mem_keepRack (rack bank : Nat) (s : State) : (rack, bank) ∈ (keepRack rack bank s).fw.racks := List.mem_cons_self

theorem confirmRack_mesh {bank : Nat} {s : State} (h : flag GLB_ROLE_STATUS_MESH_MASTER s = true) :
    (fld GLB_ROLE_RACK s, bank) ∈ (confirmRack bank s).fw.racks ∧ (confirmRack bank s).out = s.out := by
  rw [confirmRack, if_pos h]
  exact ⟨mem_keepRack .., rfl⟩

theorem confirmRack_notMesh {bank : Nat} {s : State} (h : flag GLB_ROLE_STATUS_MESH_MASTER s = false) :
    (confirmRack bank s).out = .forward 0x32 (bytesLE 1 (fld GLB_ROLE_RACK s) ++ bytesLE 1 bank) :: s.out
      ∧ (confirmRack bank s).fw.racks = s.fw.racks := by
  rw [confirmRack, if_neg (by simp [h])]
  exact ⟨rfl, rfl⟩

/-- A report is taken, and the last one that was missing confirms the rack (R26). -/
theorem collectReport_eq (c bank : Nat) (st : Word) (digest : List Byte) (s : State) :
    collectReport c bank st digest s
      = if rackReady bank s || !rackReady bank (takeReport c bank st digest s) then takeReport c bank st digest s
        else confirmRack bank (takeReport c bank st digest s) := rfl

theorem collectReport_regs (c bank : Nat) (st : Word) (digest : List Byte) (s : State) :
    (collectReport c bank st digest s).regs = s.regs := by
  rw [collectReport_eq]
  split
  · rfl
  · exact confirmRack_regs ..

theorem collectReport_reports (c bank : Nat) (st : Word) (digest : List Byte) (s : State) :
    (collectReport c bank st digest s).fw.reports = (takeReport c bank st digest s).fw.reports := by
  rw [collectReport_eq]
  split
  · rfl
  · exact confirmRack_reports ..

/-- Whether a rack is ready is told by its number and the reports. -/
theorem rackReady_congr {s v : State} (hregs : v.regs = s.regs) (hreports : v.fw.reports = s.fw.reports) (bank : Nat) :
    rackReady bank v = rackReady bank s := by
  simp only [rackReady, fld, reg, hregs, hreports]

theorem rackReady_collectReport (c bank : Nat) (st : Word) (digest : List Byte) (s : State) :
    rackReady bank (collectReport c bank st digest s) = rackReady bank (takeReport c bank st digest s) :=
  rackReady_congr (s := takeReport c bank st digest s) (collectReport_regs c bank st digest s) (collectReport_reports ..) bank

/-- The report that makes a rack ready confirms it. -/
theorem collectReport_last {c bank : Nat} {st : Word} {digest : List Byte} {s : State} (hbefore : rackReady bank s = false)
    (hafter : rackReady bank (collectReport c bank st digest s) = true) :
    collectReport c bank st digest s = confirmRack bank (takeReport c bank st digest s) := by
  have htaken : rackReady bank (takeReport c bank st digest s) = true := by
    rw [← rackReady_collectReport, hafter]
  rw [collectReport_eq, hbefore, htaken]
  rfl

/-! ## The plan messages as commands -/

theorem exec_planStage (t : Nat) (p : Peer) (seq bank : Nat) (es : List (Nat × Word × Word)) (digest : List Byte) (s : State) :
    exec (.planStage t p seq bank es digest) s = .next (command t (planStageMsg p seq bank es digest) s) := rfl

theorem exec_planReport (t : Nat) (p : Peer) (seq n bank : Nat) (st : Word) (digest : List Byte) (s : State) :
    exec (.planReport t p seq n bank st digest) s = .next (command t (planReportMsg p seq n bank st digest) s) := rfl

theorem exec_rackConfirm (t : Nat) (p : Peer) (seq rack bank : Nat) (s : State) :
    exec (.rackConfirm t p seq rack bank) s = .next (command t (rackConfirmMsg p seq rack bank) s) := rfl

theorem exec_fireTime (t : Nat) (p : Peer) (seq bank at_ : Nat) (s : State) :
    exec (.fireTime t p seq bank at_) s = .next (command t (fireTimeMsg p seq bank at_) s) := rfl

/-- Settles O50: a request not answered before is acted on where Chous runs, and each message's action splits on the bank's
protection, the package's role or the mesh's confirmations; Crucible acts on none. -/
theorem planMessagesAnswer : Obligations.PlanMessagesAnswer := by
  intro t seq p s u hu hnew hup
  refine ⟨fun hrun => ?_, fun hcru => ?_⟩
  · have hact := fun type => simpleRequest_run hup hnew hrun type false
    refine ⟨fun bank es digest hprot => ?_, fun bank es digest hprot => ?_, fun n bank st digest hrole => ?_,
      fun n bank st digest hrole => ⟨collectReport n bank st digest u, ?_, collectReport_regs .., ?_, fun hbefore hafter => ?_⟩,
      fun rack bank => ⟨if flag GLB_ROLE_STATUS_MESH_MASTER u then keepRack rack bank u else u, ?_, fun hrole => ?_,
        fun hrole => ?_⟩,
      fun bank at_ hfire => ?_, fun bank at_ hrole hwait => ?_⟩
    · simp only [exec_planStage, command_awake hu, planStageMsg, hact, hprot, if_true]
    · simp only [exec_planStage, command_awake hu, planStageMsg, hact, hprot, Bool.false_eq_true, if_false]
    · simp only [exec_planReport, command_awake hu, planReportMsg, hact, hrole, Bool.false_eq_true, if_false]
    · simp only [exec_planReport, command_awake hu, planReportMsg, hact, hrole, if_true]
    · rw [collectReport_reports, mem_takeReport_reports, digestAsExpected_iff]
    · rw [collectReport_last hbefore hafter]
      exact ⟨fun h => confirmRack_mesh h, fun h => confirmRack_notMesh h⟩
    · simp only [exec_rackConfirm, command_awake hu, rackConfirmMsg, hact]
    · exact if_neg (by simp [hrole])
    · rw [if_pos hrole]
      exact ⟨mem_keepRack .., rfl⟩
    · have hgo : (flag GLB_ROLE_STATUS_MESH_MASTER u && !meshReady bank u) = false := by
        rcases hfire with h | h <;> simp [h]
      simp only [exec_fireTime, command_awake hu, fireTimeMsg, hact, hgo, Bool.false_eq_true, if_false]
    · have hstop : (flag GLB_ROLE_STATUS_MESH_MASTER u && !meshReady bank u) = true := by simp [hrole, hwait]
      simp only [exec_fireTime, command_awake hu, fireTimeMsg, hact, hstop, if_true]
  · have hunknown := simpleRequest_crucible hup hnew hcru
    refine ⟨fun bank es digest => ?_, fun n bank st digest => ?_, fun rack bank => ?_, fun bank at_ => ?_⟩
    · rw [exec_planStage, command_awake hu, planStageMsg, hunknown]
    · rw [exec_planReport, command_awake hu, planReportMsg, hunknown]
    · rw [exec_rackConfirm, command_awake hu, rackConfirmMsg, hunknown]
    · rw [exec_fireTime, command_awake hu, fireTimeMsg, hunknown]

end Sys2Proof.Machine
end

/-! SUPPORT. The issue cycles of a run (R77, R100–R103, R109, R118, R124, R142, R183). -/
section
namespace Sys2Proof.Machine

/-! ## The run in progress -/

theorem onRun_run (f : Run → Run) (s : State) : (onRun f s).seq.run = s.seq.run.map f := rfl

theorem onRun_some {s : State} {r : Run} (h : s.seq.run = some r) (f : Run → Run) :
    (onRun f s).seq.run = some (f r) := by rw [onRun_run, h]; rfl

/-- Bits lost change memories alone: the clock, the registers and the run stand. -/
theorem upset_frame (x : Upset) (s : State) :
    ((upset x s).now, (upset x s).regs, (upset x s).seq.run) = (s.now, s.regs, s.seq.run) := by
  cases x <;> rfl

theorem upsets_frame (us : List Upset) (s : State) :
    (forAll upset us s).now = s.now ∧ (forAll upset us s).regs = s.regs ∧ (forAll upset us s).seq.run = s.seq.run := by
  have h := forAll_keeps (g := fun s : State => (s.now, s.regs, s.seq.run)) upset_frame us s
  simpa using h

/-- An issue cycle begins: memories have lost bits, and the run may issue again in the next cycle. -/
def beginCycle (us : List Upset) (s : State) : State :=
  onRun (fun r => { r with next := cycle s + 1 }) (forAll upset us s)

theorem beginCycle_regs (us : List Upset) (s : State) : (beginCycle us s).regs = s.regs := (upsets_frame us s).2.1

theorem cycle_beginCycle (us : List Upset) (s : State) : cycle (beginCycle us s) = cycle s :=
  congrArg (· / 10) (upsets_frame us s).1

theorem beginCycle_run {s : State} {r : Run} (h : s.seq.run = some r) (us : List Upset) :
    (beginCycle us s).seq.run = some { r with next := cycle s + 1 } :=
  onRun_some ((upsets_frame us s).2.2.trans h) _

/-- The bundle of the run's plot at its pc. -/
def bundleAtPc (r : Run) (s : State) : Nat := (get 0 (((storeRegion r.plot s).getD (0, 0)).1 + r.pc) s.seq.store).toNat

/-! ## The cycle of a bundle -/

/-- A cycle in which the run is due, unthrottled, not halted, in no bubble and holding for no stream tries the bundle at pc,
after its fetch where the bundle is reached first (R100–R102). -/
theorem bundleIssue_tries {us : List Upset} {s w : State} {r : Run} (hrun : s.seq.run = some r) (hdue : r.next ≤ cycle s)
    (hscrub : s.seq.scrubEnd = none) (hmst : mstValid s = true) (hw : w = beginCycle us s)
    (hthrottle : flag GLB_THERM_STATUS_THROTTLE s = false ∨ cycle s % 2 = 0) (hreplay : replaying r.plot w = false)
    (hhalted : r.halted = false) (hbubble : r.bubble = false) (hstream : r.stream = false) :
    bundleIssue us s = tryIssue (bundleAtPc r w) (if r.reached ∨ r.rep ≠ 0 then w
      else onRun (fun r => { r with reached := true }) (fetch r ((storeRegion r.plot w).getD (0, 0)).1 w)) := by
  have hcycle : cycle w = cycle s := hw ▸ cycle_beginCycle us s
  have hregs : w.regs = s.regs := hw ▸ beginCycle_regs us s
  have hbegin : onRun (fun r => { r with next := cycle (forAll upset us s) + 1 }) (forAll upset us s) = w := by
    rw [hw, beginCycle, cycle, cycle, (upsets_frame us s).1]
  have hopen : ((flag GLB_THERM_STATUS_THROTTLE w && cycle w % 2 == 1) || !mstValid w) = false := by
    have hmst' : mstValid w = true := by
      rw [← hmst]
      simp only [mstValid, mstState, fld_congr hregs]
    have hflag : flag GLB_THERM_STATUS_THROTTLE w = flag GLB_THERM_STATUS_THROTTLE s := by
      simp only [flag, fld_congr hregs]
    rw [hmst', hflag, hcycle]
    rcases hthrottle with h | h <;> simp [h]
  have hlater : (w.seq.run.any fun r => decide (cycle w + 1 < r.next)) = false := by
    rw [hw, beginCycle_run hrun, cycle_beginCycle]
    simp
  have hnow : ¬ (cycle s < r.next ∨ s.seq.scrubEnd.isSome = true) := by
    simp [hscrub, hdue]
  simp only [bundleIssue, hrun, if_neg hnow, hbegin, hopen, hreplay, hhalted, hbubble, hstream, hlater, Bool.false_eq_true,
    if_false, or_self, Bool.not_true]
  split <;> rfl

/-- A bundle whose WAIT does not hold it: it has none, its WAIT was tested before, or the slot is Empty (R118, R123). -/
theorem testWait_passes {c : CtlSlot} {s : State} {r : Run} (hrun : s.seq.run = some r)
    (h : r.waitSlot.isSome = true ∨ c.op ≠ 0x22 ∨ r.waited = true ∨ wslot (c.imm % 64) s = .empty) : testWait c s = s := by
  by_cases htested : c.op ≠ 0x22 ∨ r.waited = true ∨ r.waitSlot.isSome = true
  · simp only [testWait, hrun, if_pos htested]
  · have hempty : wslot (c.imm % 64) s = .empty := by
      rcases h with hslot | hop | hwaited | hempty
      · exact absurd (.inr (.inr hslot)) htested
      · exact absurd (.inl hop) htested
      · exact absurd (.inr (.inl hwaited)) htested
      · exact hempty
    simp only [testWait, hrun, if_neg htested, hempty]

/-- A bundle that neither its WAIT nor a stream engine holds issues (R102). -/
theorem issueOrHold_issues {b : Nat} {s : State} {r : Run} (hrun : s.seq.run = some r)
    (hwait : r.waitSlot = none ∨ r.waitEnd.isSome = true)
    (hstream : stmHolds (fun e => heldNow e s) r.plot (smSlot b 0) (smSlot b 1) s = false) :
    issueOrHold b s = issueBundle r.plot b s := by
  have hfree : (r.waitSlot.isSome && r.waitEnd.isNone) = false := by
    rcases hwait with h | h
    · simp [h]
    · simp [Option.isNone_eq_false_iff.mpr h]
  simp only [issueOrHold, hrun, hfree, hstream, Bool.false_eq_true, if_false]

theorem tryIssue_issues {b : Nat} {s : State} {r : Run} (hrun : s.seq.run = some r)
    (htest : r.waitSlot.isSome = true ∨ (ctlSlot b).op ≠ 0x22 ∨ r.waited = true ∨ wslot ((ctlSlot b).imm % 64) s = .empty)
    (hwait : r.waitSlot = none ∨ r.waitEnd.isSome = true)
    (hstream : stmHolds (fun e => heldNow e s) r.plot (smSlot b 0) (smSlot b 1) s = false) :
    tryIssue b s = issueBundle r.plot b s := by
  rw [tryIssue, testWait_passes hrun htest, issueOrHold_issues hrun hwait hstream]

/-- A bundle held for positions that it no longer lacks may issue in the next cycle (R124, R183). -/
theorem streamRelease_frees {s : State} {r : Run} (hrun : s.seq.run = some r) (hheld : r.stream = true)
    (hfree : stmHolds (fun e => occ e s) r.plot (smSlot (bundleAtPc r s) 0) (smSlot (bundleAtPc r s) 1) s = false) :
    streamRelease s = onRun (fun r => { r with
      stream := false, streamEnd := some (cycle s + 1), next := max r.next (cycle s + 1) }) s := by
  have hgo : (r.stream && !stmHolds (fun e => occ e s) r.plot (smSlot (bundleAtPc r s) 0)
      (smSlot (bundleAtPc r s) 1) s) = true := by
    rw [hheld, hfree]; rfl
  unfold bundleAtPc at hgo
  simp only [streamRelease, hrun, if_pos hgo]

/-! ## Results and the matrix unit -/

/-- What waits in the cores' pipelines: the results on their way, and the queued operation of the matrix unit. -/
def pipelineWaits (s : State) : List Pend × Option MOp := (s.cores.pend, s.cores.mxQueue)

theorem pipelineWaits_onCore (c : Nat) (f : Core → Core) (s : State) : pipelineWaits (onCore c f s) = pipelineWaits s := rfl

theorem pipelineWaits_landPend (p : Pend) (s : State) : pipelineWaits (landPend p s) = pipelineWaits s :=
  forAll_keeps (g := pipelineWaits) (fun _ _ => pipelineWaits_onCore ..) p.vals s

theorem pipelineWaits_clearAcc (k core : Nat) (s : State) : pipelineWaits (clearAcc k core s) = pipelineWaits s :=
  pipelineWaits_onCore ..

theorem pipelineWaits_commitTerm (o : MOp) (t core : Nat) (s : State) :
    pipelineWaits (commitTerm o t core s) = pipelineWaits s := by
  unfold commitTerm
  exact forAll_keeps (g := pipelineWaits) (fun _ _ => pipelineWaits_onCore ..) _ s

/-- Exactly the results not yet due stay on their way. -/
theorem pend_landDue (n : Nat) (s : State) :
    (landDue n s).cores.pend = s.cores.pend.filter fun p => decide (n < p.due) :=
  congrArg Prod.fst (forAll_keeps (g := pipelineWaits) pipelineWaits_landPend _ _)

/-- At the end of the operation the queued one starts (R109, R142). -/
theorem mxBegin_ends {c : Nat} {s : State} {o : MOp} (hdone : s.cores.mxDone ≤ c) (hrun : s.cores.mxRun = some o)
    (hend : opD o ≤ c - o.start) :
    (mxBegin c s).cores.mxQueue = none
      ∧ (mxBegin c s).cores.mxRun = s.cores.mxQueue.map fun q => { q with start := c } := by
  have hclear := forAll_keeps (g := pipelineWaits) fun (x : Nat × Nat × Nat) => pipelineWaits_clearAcc o.acc x.1
  have hcommit (t : Nat) := forAll_keeps (g := pipelineWaits) fun (x : Nat × Nat × Nat) => pipelineWaits_commitTerm o t x.1
  unfold mxBegin
  rw [if_neg (Nat.not_lt.mpr hdone)]
  simp only [hrun, if_pos hend, true_and]
  congr 1
  refine congrArg Prod.snd (?_ : pipelineWaits _ = pipelineWaits s)
  simp only [apply_ite pipelineWaits, hcommit, hclear, ite_self]
  rfl

/-! ## The commands -/

theorem exec_bundleIssue_awake {t : Nat} {s u : State} (h : Awake t s u) (us : List Upset) :
    exec (.bundleIssue t us) s = .next (after u (bundleIssue us u)) := congrArg _ (command_awake h (bundleIssue us))

theorem exec_resultVisible_awake {t : Nat} {s u : State} (h : Awake t s u) :
    exec (.resultVisible t) s = .next (after u (resultVisible u)) := congrArg _ (command_awake h resultVisible)

theorem exec_matrixOpEnd_awake {t : Nat} {s u : State} (h : Awake t s u) :
    exec (.matrixOpEnd t) s = .next (after u (matrixOpEnd u)) := congrArg _ (command_awake h matrixOpEnd)

theorem exec_streamRelease_awake {t : Nat} {s u : State} (h : Awake t s u) :
    exec (.streamRelease t) s = .next (after u (streamRelease u)) := congrArg _ (command_awake h streamRelease)

/-- Settles O1: an issue cycle tries its bundle, which issues where nothing holds it, or is fetched first; results due land;
the queued operation starts; freed positions release a bundle. -/
theorem issueCyclesAnswer : Obligations.IssueCyclesAnswer := by
  refine ⟨fun t us s u w r hu hrun hdue hscrub hmst hw hthrottle hreplay hhalted hbubble hstream => ?_,
    fun t s u hu => ⟨_, exec_resultVisible_awake hu, rfl, pend_landDue _ u⟩,
    fun t s u o hu hdone hrun hend => ⟨_, exec_matrixOpEnd_awake hu, mxBegin_ends hdone hrun hend⟩,
    fun t s u r b hu hrun hheld hb hfree => ?_⟩
  · have htries := bundleIssue_tries hrun hdue hscrub hmst hw hthrottle hreplay hhalted hbubble hstream
    refine ⟨fun hreached hwait b hb htest hholds => ?_, fun hreached hrep b f hb hf _ => ?_⟩
    · have hwrun : w.seq.run = some { r with next := cycle u + 1 } := hw ▸ beginCycle_run hrun us
      rw [exec_bundleIssue_awake hu, htries, if_pos hreached, bundleAtPc, ← hb, tryIssue_issues hwrun htest hwait hholds]
    · rw [exec_bundleIssue_awake hu, htries, if_neg (by simp [hreached, hrep]), bundleAtPc, ← hb, ← hf]
  · subst hb
    rw [exec_streamRelease_awake hu, streamRelease_frees hrun hheld hfree]

end Sys2Proof.Machine
end

/-! SUPPORT. Wakes and expiries at the wait slots of a run (R123, R124, R219, R220, R223). -/
section
namespace Sys2Proof.Machine

/-! ## Wait slots -/

@[simp] theorem wslot_setWslot_same (k : Nat) (x : WSlot) (s : State) : wslot k (setWslot k x s) = x := get_put_same ..

theorem wslot_setWslot_other {j k : Nat} (h : j ≠ k) (x : WSlot) (s : State) : wslot j (setWslot k x s) = wslot j s :=
  get_put_other _ h _ _

@[simp] theorem wslot_onRun (k : Nat) (f : Run → Run) (s : State) : wslot k (onRun f s) = wslot k s := rfl

@[simp] theorem wslot_dropWake (k : Nat) (x : Wake) (s : State) : wslot k (dropWake x s) = wslot k s := rfl

/-! ## Wakes -/

theorem wakeFor_slot {k : Nat} {expiry : Bool} {s : State} {x : Wake} (h : wakeFor k expiry s = some x) : x.slot = k := by
  have hfound := List.find?_some h
  simp only [Bool.and_eq_true, beq_iff_eq] at hfound
  exact hfound.1.1

/-- A bundle held on slot k may issue two cycles after its wake (R124). -/
def issueAfterWake (c k : Nat) (r : Run) : Run :=
  if r.waitSlot = some k ∧ r.waitEnd = none then { r with waitEnd := some (c + 2), next := max r.next (c + 2) } else r

/-- A wake of its slot's generation makes the Armed slot Woken (R123, R220). -/
theorem wakeArrives_armed {x : Wake} {s : State} (hgen : get false x.slot s.tally.gen = x.gen)
    (harmed : wslot x.slot s = .armed) :
    wakeArrives x s = onRun (issueAfterWake (cycle s) x.slot) (setWslot x.slot .woken (dropWake x s)) := by
  have hkept : ¬ (get false x.slot (dropWake x s).tally.gen ≠ x.gen ∨ wslot x.slot (dropWake x s) ≠ .armed) :=
    not_or.mpr ⟨fun h => h hgen, fun h => h harmed⟩
  simp only [wakeArrives, if_neg hkept]
  rfl

/-- With a run in progress that is not a replay, a wake is captured and arrives (R219, R468). -/
theorem wakeDelivery_arrives {k : Nat} {s : State} {r : Run} {x : Wake} (hrun : (tallyRun s).seq.run = some r)
    (hreplay : replaying r.plot (tallyRun s) = false) (hwake : wakeFor k false (tallyRun s) = some x) :
    wakeDelivery k s = wakeArrives x (capEvent 3 r.plot k x.rel x.value [] (tallyRun s)) := by
  simp only [wakeDelivery, hrun, hwake, hreplay, Bool.false_eq_true, if_false]

/-- An expiry of its slot's generation at the Armed slot: the run that WAITs on it ends, else the slot is Expired (R223). -/
theorem expiryArrival_armed {k : Nat} {s : State} {r : Run} {x : Wake} (hrun : s.seq.run = some r)
    (hwake : wakeFor k true s = some x) (hgen : get false k s.tally.gen = x.gen) (harmed : wslot k s = .armed) :
    expiryArrival k s = if r.waitSlot = some k then runEnd 3 (setWslot k .empty (dropWake x s))
      else setWslot k .expired (dropWake x s) := by
  have hkept : ¬ (get false k (dropWake x s).tally.gen ≠ x.gen ∨ wslot k (dropWake x s) ≠ .armed) :=
    not_or.mpr ⟨fun h => h hgen, fun h => h harmed⟩
  have hrun' : (dropWake x s).seq.run = some r := hrun
  simp only [expiryArrival, hwake, if_neg hkept, hrun']

/-! ## The commands -/

theorem exec_wakeDelivery_awake {t : Nat} {s u : State} (h : Awake t s u) (k : Nat) :
    exec (.wakeDelivery t k) s = .next (after u (wakeDelivery k u)) := congrArg _ (command_awake h (wakeDelivery k))

theorem exec_expiryArrival_awake {t : Nat} {s u : State} (h : Awake t s u) (k : Nat) :
    exec (.expiryArrival t k) s = .next (after u (expiryArrival k u)) := congrArg _ (command_awake h (expiryArrival k))

/-- Settles O2: a wake arrives at the Armed slot it names, and an expiry at one the run WAITs on or not. -/
theorem waitSlotsAnswer : Obligations.WaitSlotsAnswer := by
  refine ⟨fun t k s u w z r x hu hw hrun hreplay hwake hz hgen harmed => ?_,
    fun t k s u r x hu hrun hwake hgen harmed => ⟨fun hother => ?_, fun hwaits => ?_⟩⟩
  · subst hw
    have hslot := wakeFor_slot hwake
    have harrives : wakeDelivery k u = onRun (issueAfterWake (cycle z) k) (setWslot k .woken (dropWake x z)) := by
      rw [wakeDelivery_arrives hrun hreplay hwake, ← hz, wakeArrives_armed (by rwa [hslot]) (by rwa [hslot]), hslot]
    refine ⟨_, exec_wakeDelivery_awake hu k, harrives, ?_, fun j hj => ?_⟩
    · rw [harrives, wslot_onRun, wslot_setWslot_same]
    · rw [harrives, wslot_onRun, wslot_setWslot_other hj, wslot_dropWake]
  · rw [exec_expiryArrival_awake hu, expiryArrival_armed hrun hwake hgen harmed, if_neg hother]
  · rw [exec_expiryArrival_awake hu, expiryArrival_armed hrun hwake hgen harmed, if_pos hwaits]

end Sys2Proof.Machine
end

/-! SUPPORT. Program loads, and the start, end and scrub of runs (R93, R94, R125, R129–R132, R407). -/
section
namespace Sys2Proof.Machine

/-! ## Register writes of the sequencer -/

@[simp] theorem writeLatches_seq (a : Accessor) (off : Nat) (s : State) : (writeLatches a off s).seq = s.seq :=
  (congrArg State.seq (latchless_writeLatches a off s) : (latchlessPart (writeLatches a off s)).seq = (latchlessPart s).seq)

/-- Which accesses of the service ports are queued does not depend on latches. -/
theorem portsIdle_writeLatches (a : Accessor) (off : Nat) (s : State) : portsIdle (writeLatches a off s) = portsIdle s :=
  (congrArg portsIdle (latchless_writeLatches a off s) :
    portsIdle (latchlessPart (writeLatches a off s)) = portsIdle (latchlessPart s))

/-- Of two writes of one cycle the registers alone tell. -/
@[simp] theorem unitPart_hostFirst (a : Accessor) (off : Nat) (s : State) : unitPart (hostFirst a off s) = unitPart s := by
  unfold hostFirst
  split
  · rfl
  · simp only
    split
    · rfl
    · split <;> rfl

theorem hostFirst_seq (a : Accessor) (off : Nat) (s : State) : (hostFirst a off s).seq = s.seq :=
  seq_of_unit (unitPart_hostFirst a off s)

/-- A write of SEQ_CTRL that reaches it. -/
theorem regWrite_seqCtrl {a : Accessor} {s : State} (h : Reaches a s) (w : Word) :
    regWrite a rSEQ_CTRL w [] s = hostFirst a rSEQ_CTRL (seqCtrl a w (writeLatches a rSEQ_CTRL s)) :=
  regWrite_direct h (by decide) (by decide) (by decide) w []

/-- A write of SEQ_CORE_CTRL with SCRUB_START that reaches it. -/
theorem regWrite_scrubStart {a : Accessor} {s : State} (h : Reaches a s) {w : Word}
    (hw : wfld SEQ_CORE_CTRL_SCRUB_START w = 1) :
    regWrite a rSEQ_CORE_CTRL w [] s
      = hostFirst a rSEQ_CORE_CTRL (scrubStart a (writeLatches a rSEQ_CORE_CTRL s)) := by
  have hdirect : regWrite a rSEQ_CORE_CTRL w [] s = hostFirst a rSEQ_CORE_CTRL
      (if wfld SEQ_CORE_CTRL_SCRUB_START w = 1 then scrubStart a (writeLatches a rSEQ_CORE_CTRL s)
        else writeLatches a rSEQ_CORE_CTRL s) :=
    regWrite_direct h (by decide) (by decide) (by decide) w []
  rw [hdirect, if_pos hw]

/-! ## SEQ_CTRL -/

/-- LOAD_GO alone, of an OPEN plot with no run while nothing stands against a load (R129, R132). -/
theorem seqCtrl_loads {a : Accessor} {w : Word} {s z : State} {n : Nat} (hn : n = wfld SEQ_CTRL_PLOT w)
    (hz : z = setFld SEQ_CTRL_PLOT n s) (hgo : wfld SEQ_CTRL_LOAD_GO w = 1) (hstart : wfld SEQ_CTRL_START w = 0)
    (hload : z.seq.load = none) (hrun : runOf n z = false) (hopen : plotOpen n z = true) (hhalt : halted z = false)
    (hready : loadsOpen z = true) :
    seqCtrl a w s = loadStart n (reg64 rSEQ_LOAD_SRC_LO rSEQ_LOAD_SRC_HI z) none z := by
  subst hn
  have hfree : ¬ (z.seq.load.isSome = true ∨ runOf (wfld SEQ_CTRL_PLOT w) z = true
      ∨ (!plotOpen (wfld SEQ_CTRL_PLOT w) z) = true ∨ halted z = true ∨ (!loadsOpen z) = true) := by
    simp [hload, hrun, hopen, hhalt, hready]
  simp only [seqCtrl, ← hz, hgo, hstart, if_true, if_neg hfree, Nat.one_ne_zero, if_false]

/-- START alone, of a plot that no status refuses (R131, R132). -/
theorem seqCtrl_starts {a : Accessor} {w : Word} {s z : State} {n : Nat} (hn : n = wfld SEQ_CTRL_PLOT w)
    (hz : z = setFld SEQ_CTRL_PLOT n s) (hgo : wfld SEQ_CTRL_LOAD_GO w = 0) (hstart : wfld SEQ_CTRL_START w = 1)
    (hok : startRefused n z = none) : seqCtrl a w s = makeRunnable n none z := by
  subst hn
  simp only [seqCtrl, ← hz, hgo, hstart, if_true, hok, Nat.one_ne_zero, if_false, Option.isSome_none, Bool.false_eq_true]

/-- From the start of its load a plot holds no valid image (R129). -/
theorem imageOf_loadStart (n addr : Nat) (cmd : Option (Nat × Nat × Nat)) (s : State) :
    imageOf n (loadStart n addr cmd s) = none := get_put_same none n none s.seq.image

theorem isRunnable_makeRunnable (n : Nat) (cmd : Option (Nat × Nat × Nat)) (s : State) :
    isRunnable n (makeRunnable n cmd s) = true := by
  simp [isRunnable, makeRunnable, onSeq]

theorem isRunnable_dropRunnable (n : Nat) (s : State) : isRunnable n (dropRunnable n s) = false := by
  simp [isRunnable, dropRunnable, onSeq]

/-! ## The end of a load -/

/-- What a load that reads its whole image leaves: the window read, the program in the store, and the image. -/
def takeImage (l : Load) (img : Image) (s : State) : State :=
  let h := windowData none l.plot l.addr 256 s
  let base := ((storeRegion l.plot s).getD (0, 0)).1
  onSeq (fun q => { q with image := put none l.plot (some img) q.image })
    (storeProgram base (bundlesOf (leAt h 8 4) (imageBytes l.plot l.addr h s))
      (windowRead none ⟨some l.plot, 0, true⟩ l.plot l.addr (256 + 128 * leAt h 8 4) s))

theorem unitPart_loadStatus (reason bad : Nat) (s : State) : unitPart (loadStatus reason bad s) = unitPart s := by
  simp [loadStatus]

/-- A load that no reason of R130 refuses is recorded DONE with its image in place (R129). -/
theorem loadEnd_takes {s : State} {l : Load} {img : Image} (hload : s.seq.load = some l) (hiso : isoWindow l.plot s = true)
    (hpaused : loadPaused l s = false) (hearly : l.early = 0)
    (hjudge : judgeLoad l.plot l.addr (onSeq (fun q => { q with load := none }) s) = .full 0 0 (some img)) :
    loadEnd s = completeCmd l.cmd stOK 0 0
      (loadStatus 0 0 (takeImage l img (onSeq (fun q => { q with load := none }) s))) := by
  have hopen : (!isoWindow l.plot s || loadPaused l s) = false := by rw [hiso, hpaused]; rfl
  have hreads : ¬ l.early ≠ 0 := fun h => h hearly
  simp only [loadEnd, hload, hopen, loadRun, if_neg hreads, hjudge, Bool.false_eq_true, if_false, if_true]
  rfl

/-- Of the sequencer an image taken changes the store and the plot's image alone. -/
theorem takeImage_seq (l : Load) (img : Image) (s : State) :
    ∃ store storeErr, (takeImage l img s).seq
      = { s.seq with store := store, storeErr := storeErr, image := put none l.plot (some img) s.seq.image } := by
  have hread := fun n => seq_of_meterless (meterless_windowRead none ⟨some l.plot, 0, true⟩ l.plot l.addr n s)
  simp only [takeImage, storeProgram, onSeq, hread]
  exact ⟨_, _, rfl⟩

theorem loadEnd_seq {s : State} {l : Load} {img : Image} (hload : s.seq.load = some l) (hiso : isoWindow l.plot s = true)
    (hpaused : loadPaused l s = false) (hearly : l.early = 0)
    (hjudge : judgeLoad l.plot l.addr (onSeq (fun q => { q with load := none }) s) = .full 0 0 (some img)) :
    ∃ store storeErr, (loadEnd s).seq = { s.seq with
      load := none, store := store, storeErr := storeErr, image := put none l.plot (some img) s.seq.image } := by
  rw [loadEnd_takes hload hiso hpaused hearly hjudge, seq_of_queueless (queueless_completeCmd ..),
    seq_of_unit (unitPart_loadStatus ..)]
  exact takeImage_seq ..

/-! ## The start and the end of a run -/

/-- The mask table is registers alone. -/
theorem unitPart_loadMasks (n : Nat) (s : State) : unitPart (loadMasks n s) = unitPart s := by
  unfold loadMasks
  split
  · rfl
  · refine forAll_keeps (g := unitPart) (fun p s => ?_) _ s
    rw [unitPart_setReg, unitPart_setReg]

/-- The first run of a slice begins with its plot's image, at the slice's first issue instant or later (R131, R407). -/
theorem runStart_begins {s : State} {n : Nat} {img : Image} (howner : s.slice.owner = some n) (hmay : mayBegin n s = true)
    (hfirst : s.seq.issuedInSlice = false) (himage : imageOf n s = some img) :
    ∃ next cmd, cycleAt (s.slice.start + 4400) ≤ next
      ∧ (runStart s).seq = { (dropRunnable n s).seq with
          run := some { plot := n, pc := img.entry, next := next }
          runNo := s.seq.runNo + 1, wslot := [], startCmd := cmd, issuedInSlice := false }
      ∧ (runStart s).linkPlot = some n := by
  have hmasks := seq_of_unit (unitPart_loadMasks n (dropRunnable n s))
  have hgo : ¬ ((!mayBegin n s) = true) := by simp [hmay]
  simp only [runStart, howner, if_neg hgo, hfirst, Bool.false_eq_true, false_and, if_false, himage, onSeq, onTally, hmasks]
  exact ⟨_, _, Nat.div_le_div_right (Nat.add_le_add_right (by omega) 9), rfl, trivial⟩

/-- After HALT, with every operation, request, transfer and tally operation retired, the run ends with END_CAUSE 1 (R125). -/
theorem runDone_ends {s : State} {r : Run} (hrun : (tallyRun s).seq.run = some r) (hhalted : r.halted = true)
    (hpend : (tallyRun s).cores.pend = []) (hmatrix : (tallyRun s).cores.mxRun = none)
    (hrequests : openRequests r.plot (tallyRun s) = []) (htransfers : plotTransfers r.plot (tallyRun s) = false)
    (htally : tallyBusy r.plot (tallyRun s) = false) : runDone s = runEnd 1 (tallyRun s) := by
  simp [runDone, hrun, hhalted, hpend, hmatrix, hrequests, htransfers, htally]

/-! ## Scrubs -/

/-- SCRUB_START with no run, no scrub and the service ports idle begins a scrub (R93, R94). -/
theorem scrubStart_begins {a : Accessor} {s : State} (hrun : s.seq.run = none) (hscrub : s.seq.scrubEnd = none)
    (hidle : portsIdle s = true) : scrubStart a s = scrubBegin s := by
  simp [scrubStart, hrun, hscrub, hidle]

theorem scrubBegin_scrubEnd (s : State) : (scrubBegin s).seq.scrubEnd = some (s.now + 3200) := by
  simp [scrubBegin]

/-- The state without what the completion of stream requests changes: SRAM writes, the engines, and signals on their way. -/
def streamlessPart (s : State) : State := { s with cores := {}, eng := [], engFreed := (0, []), tally := {} }

theorem seq_of_streamless {s v : State} (h : streamlessPart v = streamlessPart s) : v.seq = s.seq :=
  (congrArg State.seq h : (streamlessPart v).seq = (streamlessPart s).seq)

theorem slice_of_streamless {s v : State} (h : streamlessPart v = streamlessPart s) : v.slice = s.slice :=
  (congrArg State.slice h : (streamlessPart v).slice = (streamlessPart s).slice)

/-- A piece of a request without a page moves no data of HBM (R193). -/
theorem streamless_movePiece {r : StmReq} (h : r.page = .bad) (e i : Nat) (s : State) :
    streamlessPart (movePiece e r i s) = streamlessPart s := by
  simp only [movePiece, h, beq_self_eq_true, if_true]
  split <;> rfl

theorem streamless_pageFill (e : Nat) (r : StmReq) (s : State) : streamlessPart (pageFill e r s) = streamlessPart s := by
  unfold pageFill
  split
  · rfl
  · next h =>
    exact forAll_keeps (g := streamlessPart) (streamless_movePiece (Decidable.of_not_not (not_or.mp h).2) e) _ s

theorem streamless_reqComplete (e : Nat) (r : StmReq) (s : State) :
    streamlessPart (reqComplete e r s) = streamlessPart s := by
  unfold reqComplete
  simp only
  split <;> rfl

theorem streamless_engDrain (e n : Nat) (s : State) : streamlessPart (engDrain e n s) = streamlessPart s := by
  induction n generalizing s with
  | zero => rfl
  | succ n ih =>
    unfold engDrain
    split
    · rfl
    · split
      · rw [ih, streamless_reqComplete, streamless_pageFill]
      · rfl

theorem streamless_engSettle (e : Nat) (s : State) : streamlessPart (engSettle e s) = streamlessPart s := by
  unfold engSettle
  split
  · rfl
  · exact streamless_engDrain ..

/-- The service ports reopen: every engine completes what it has finished. -/
theorem streamless_settleAll (s : State) : streamlessPart (loop engSettle 16 s) = streamlessPart s :=
  loop_keeps (g := streamlessPart) streamless_engSettle 16 s

theorem scrubEnd_scrubEnd (s : State) : (scrubEnd s).seq.scrubEnd = none := by
  simp [scrubEnd]

theorem scrubEnd_slice (s : State) : (scrubEnd s).slice = s.slice := by
  simp [scrubEnd]

/-- A scrub whose 320 cycles have passed ends (R93). -/
theorem scrubComplete_ends {s : State} {e : Nat} (hscrub : s.seq.scrubEnd = some e) (hpast : e ≤ s.now)
    (howner : s.slice.owner = none) : scrubComplete s = loop engSettle 16 (scrubEnd s) := by
  have hkept : (loop engSettle 16 (scrubEnd s)).slice.owner = none := by
    rw [slice_of_streamless (streamless_settleAll (scrubEnd s)), scrubEnd_slice, howner]
  simp only [scrubComplete, hscrub, if_neg (Nat.not_lt.mpr hpast), hkept]

/-! ## The commands -/

theorem exec_loadGo_awake {t : Nat} {s u : State} (h : Awake t s u) (a : Accessor) (w : Word) :
    exec (.loadGo t a w) s = .next (after u (regWrite a rSEQ_CTRL w [] u)) :=
  congrArg _ (command_awake h (regWrite a rSEQ_CTRL w []))

theorem exec_loadEnd_awake {t : Nat} {s u : State} (h : Awake t s u) :
    exec (.loadEnd t) s = .next (after u (loadEnd u)) := congrArg _ (command_awake h loadEnd)

theorem exec_seqCtrlStart_awake {t : Nat} {s u : State} (h : Awake t s u) (a : Accessor) (w : Word) :
    exec (.seqCtrlStart t a w) s = .next (after u (regWrite a rSEQ_CTRL w [] u)) :=
  congrArg _ (command_awake h (regWrite a rSEQ_CTRL w []))

theorem exec_runStart_awake {t : Nat} {s u : State} (h : Awake t s u) :
    exec (.runStart t) s = .next (after u (runStart u)) := congrArg _ (command_awake h runStart)

theorem exec_runDone_awake {t : Nat} {s u : State} (h : Awake t s u) :
    exec (.runDone t) s = .next (after u (runDone u)) := congrArg _ (command_awake h runDone)

theorem exec_scrubStart_awake {t : Nat} {s u : State} (h : Awake t s u) (a : Accessor) (w : Word) :
    exec (.scrubStart t a w) s = .next (after u (regWrite a rSEQ_CORE_CTRL w [] u)) :=
  congrArg _ (command_awake h (regWrite a rSEQ_CORE_CTRL w []))

theorem exec_scrubComplete_awake {t : Nat} {s u : State} (h : Awake t s u) :
    exec (.scrubComplete t) s = .next (after u (scrubComplete u)) := congrArg _ (command_awake h scrubComplete)

/-- Settles O3: each command has its rule's effect, and what the rule names of the sequencer is read off it. -/
theorem runLifeAnswers : Obligations.RunLifeAnswers := by
  refine ⟨fun t a w s u z hu hr hz hgo hstart hload hrun hopen hhalt hready => ?_,
    fun t s u l img hu hload hiso hpaused hearly hjudge => ⟨_, exec_loadEnd_awake hu, ?_⟩,
    fun t a w s u z hu hr hz hstart hgo hok => ?_,
    fun t n s u img hu howner hmay hfirst himage => ?_,
    fun t s u w r hu hw hrun hhalted hpend hmatrix hrequests htransfers htally => ?_,
    fun t a w s u hu hr hw hrun hscrub hidle => ?_,
    fun t e s u hu hscrub hpast howner => ⟨_, exec_scrubComplete_awake hu, scrubComplete_ends hscrub hpast howner, ?_⟩⟩
  · have heffect : regWrite a rSEQ_CTRL w [] u = hostFirst a rSEQ_CTRL (loadStart (wfld SEQ_CTRL_PLOT w)
        (reg64 rSEQ_LOAD_SRC_LO rSEQ_LOAD_SRC_HI z) none z) := by
      rw [regWrite_seqCtrl hr, seqCtrl_loads rfl hz hgo hstart hload hrun hopen hhalt hready]
    refine ⟨_, exec_loadGo_awake hu a w, heffect, ?_, ?_⟩
    · rw [heffect, imageOf, hostFirst_seq]
      exact imageOf_loadStart ..
    · rw [heffect, hostFirst_seq]
      rfl
  · obtain ⟨store, storeErr, hseq⟩ := loadEnd_seq hload hiso hpaused hearly hjudge
    simp only [imageOf, hseq, get_put_same, true_and, and_true]
    exact fun m hm => get_put_other _ hm _ _
  · have heffect : regWrite a rSEQ_CTRL w [] u
        = hostFirst a rSEQ_CTRL (makeRunnable (wfld SEQ_CTRL_PLOT w) none z) := by
      rw [regWrite_seqCtrl hr, seqCtrl_starts rfl hz hgo hstart hok]
    refine ⟨_, exec_seqCtrlStart_awake hu a w, heffect, ?_⟩
    rw [heffect, isRunnable, hostFirst_seq]
    exact isRunnable_makeRunnable ..
  · obtain ⟨next, cmd, hnext, hseq, hlink⟩ := runStart_begins howner hmay hfirst himage
    have hrunnable : isRunnable n (runStart u) = false := by
      rw [isRunnable, hseq]
      exact isRunnable_dropRunnable n u
    exact ⟨_, _, exec_runStart_awake hu, congrArg Seq.run hseq, rfl, rfl, rfl, rfl, rfl, rfl, hnext,
      congrArg Seq.wslot hseq, hrunnable, hlink⟩
  · subst hw
    rw [exec_runDone_awake hu, runDone_ends hrun hhalted hpend hmatrix hrequests htransfers htally]
  · have heffect : regWrite a rSEQ_CORE_CTRL w [] u
        = hostFirst a rSEQ_CORE_CTRL (scrubBegin (writeLatches a rSEQ_CORE_CTRL u)) := by
      rw [regWrite_scrubStart hr hw, scrubStart_begins (by rw [writeLatches_seq, hrun]) (by rw [writeLatches_seq, hscrub])
        (by rw [portsIdle_writeLatches, hidle])]
    refine ⟨_, exec_scrubStart_awake hu a w, heffect, ?_⟩
    rw [heffect, hostFirst_seq, scrubBegin_scrubEnd, writeLatches_now]
  · rw [scrubComplete_ends hscrub hpast howner, seq_of_streamless (streamless_settleAll (scrubEnd u)),
      scrubEnd_scrubEnd]

end Sys2Proof.Machine
end

/-! SUPPORT. Accesses of the stream engines: pieces, page-table entries and KC4 segments (R182, R192, R193, R195, R197). -/
section
namespace Sys2Proof.Machine

section
variable {e : Nat} {s : State} {r : StmReq} {rs : List StmReq} (hscrub : s.seq.scrubEnd = none)
  (hreqs : engReqs e s = r :: rs)
include hscrub hreqs

/-- The next piece of an uncoded request whose page is known moves, faulted first where it lies outside its window. -/
theorem accessRetire_piece (hover : reqOver r = false) (hkc : isKc r = false) (hpage : r.page ≠ .wanted)
    (hpaused : engPaused e s = false) :
    accessRetire e s = retireOne e { r with next := r.next + 1, reported := r.reported || pieceOut e r r.next s }
      (movePiece e r r.next (if pieceOut e r r.next s then reqFault 7 e r s else s)) := by
  simp [accessRetire, hscrub, hreqs, hover, hkc, hpage, hpaused]

/-- A decoded access of a KC4 read that still waits retires. -/
theorem accessRetire_kc (hover : reqOver r = false) (hkc : isKc r = true) (hwaiting : r.waiting ≠ 0) :
    accessRetire e s = retireOne e { r with waiting := r.waiting - 1 } s := by
  simp [accessRetire, hscrub, hreqs, hover, hkc, hwaiting]

theorem segmentDecode_decodes (hpaused : engPaused e s = false) (hkc : isKc r = true) (hfaulted : r.faulted = false)
    (hmore : r.decoded < r.len) : segmentDecode e s = engSettle e (decodeSegment e r s) := by
  simp [segmentDecode, hscrub, hpaused, hreqs, hkc, hfaulted, hmore]

/-- The page of the first request that waits for one is what its entry gives, a fault noted. -/
theorem pageReturn_waiting (hpaused : engPaused e s = false) (hpage : r.page = .wanted) {entry : Option Nat}
    (hentry : pageEntryAt e r s = entry) :
    pageReturn e s = retireOne e { r with
        page := pageGiven entry s, reported := r.reported || entry.isNone || pageGiven entry s == .bad }
      (pageRead e r entry s) := by
  subst hentry
  simp [pageReturn, hscrub, hpaused, hreqs, hpage]

end

/-- A VALID entry without a double-bit error gives its tile (R193). -/
theorem pageGiven_valid {a : Nat} {s : State} (hgood : hbmBad a 4 s = false)
    (hvalid : 0x80000000 ≤ natLE (hbmData a 4 s)) :
    pageGiven (some a) s = .tile (natLE (hbmData a 4 s) % 0x80000000) := by
  simp [pageGiven, hgood, Nat.not_lt.mpr hvalid]

theorem pageRead_valid {a : Nat} {s : State} (hgood : hbmBad a 4 s = false)
    (hvalid : 0x80000000 ≤ natLE (hbmData a 4 s)) (e : Nat) (r : StmReq) :
    pageRead e r (some a) s = meterAccess 2 r.plot (hbmCheck ⟨some r.plot, e, false⟩ a 4 s) := by
  simp [pageRead, pageGiven_valid hgood hvalid]

theorem exec_accessRetire_awake {t : Nat} {s u : State} (h : Awake t s u) (e : Nat) :
    exec (.accessRetire t e) s = .next (after u (accessRetire e u)) := congrArg _ (command_awake h (accessRetire e))

theorem exec_pageEntryReturn_awake {t : Nat} {s u : State} (h : Awake t s u) (e : Nat) :
    exec (.pageEntryReturn t e) s = .next (after u (pageReturn e u)) := congrArg _ (command_awake h (pageReturn e))

theorem exec_segmentDecode_awake {t : Nat} {s u : State} (h : Awake t s u) (e : Nat) :
    exec (.segmentDecode t e) s = .next (after u (segmentDecode e u)) := congrArg _ (command_awake h (segmentDecode e))

/-- Settles O4: the first request decides which access the engine makes, and its retirement frees one position. -/
theorem streamAccessesAnswer : Obligations.StreamAccessesAnswer := by
  intro t e s u r rs hu hscrub hreqs
  refine ⟨fun hover hkc hpage hpaused => ?_, fun hover hkc hwaiting => ?_, fun hpaused hkc hfaulted hmore => ?_,
    fun a hpaused hpage hentry hgood hvalid => ?_⟩
  · rw [exec_accessRetire_awake hu, accessRetire_piece hscrub hreqs hover hkc hpage hpaused, retireOne]
  · rw [exec_accessRetire_awake hu, accessRetire_kc hscrub hreqs hover hkc hwaiting, retireOne]
  · rw [exec_segmentDecode_awake hu, segmentDecode_decodes hscrub hreqs hpaused hkc hfaulted hmore]
  · have hunreported : (r.reported || (some a).isNone || pageGiven (some a) u == .bad) = r.reported := by
      simp [pageGiven_valid hgood hvalid]
    rw [exec_pageEntryReturn_awake hu, pageReturn_waiting hscrub hreqs hpaused hpage hentry, hunreported,
      pageGiven_valid hgood hvalid, pageRead_valid hgood hvalid, retireOne]

end Sys2Proof.Machine
end

/-! SUPPORT. Descriptor loads (R185, R186). -/
section
namespace Sys2Proof.Machine

/-! ## DLOAD_GO -/

/-- A write of STM_CTRL that reaches it. -/
theorem regWrite_stmCtrl {a : Accessor} {s : State} (h : Reaches a s) (w : Word) :
    regWrite a rSTM_CTRL w [] s = hostFirst a rSTM_CTRL (stmCtrl a w (writeLatches a rSTM_CTRL s)) :=
  regWrite_direct h (by decide) (by decide) (by decide) w []

/-- DLOAD_GO of an OPEN plot with no run while nothing stands against a load. -/
theorem stmCtrl_loads {a : Accessor} {w : Word} {s z : State} {n : Nat} (hn : n = wfld STM_CTRL_PLOT w)
    (hz : z = setFld STM_CTRL_PLOT n s) (hgo : wfld STM_CTRL_DLOAD_GO w = 1) (hload : z.dload = none)
    (hrun : runOf n z = false) (hopen : plotOpen n z = true) (hhalt : halted z = false) (hready : loadsOpen z = true) :
    stmCtrl a w s = dloadStart n (reg64 rSTM_DLOAD_SRC_LO rSTM_DLOAD_SRC_HI z) none z := by
  subst hn
  have hfree : ¬ (z.dload.isSome = true ∨ runOf (wfld STM_CTRL_PLOT w) z = true
      ∨ (!plotOpen (wfld STM_CTRL_PLOT w) z) = true ∨ halted z = true ∨ (!loadsOpen z) = true) := by
    simp [hload, hrun, hopen, hhalt, hready]
  simp only [stmCtrl, ← hz, hgo, if_neg hfree, Nat.one_ne_zero, if_false]

/-! ## DLOAD_END -/

theorem dropDescs_of_region {n base k : Nat} {s : State} (h : descRegion n s = some (base, k)) :
    dropDescs n s = { s with desc := clearRange base k s.desc } := by
  simp only [dropDescs, h]

/-- Record the end of a descriptor load in STM_DLOAD_STATUS. -/
def dloadStatus (reason bad : Nat) (s : State) : State :=
  irq 19 (raise (if reason = 0 then STM_DLOAD_STATUS_DONE else STM_DLOAD_STATUS_REFUSED) 1 (setFlds
    [(STM_DLOAD_STATUS_LOADING, 0), (STM_DLOAD_STATUS_DONE, 0), (STM_DLOAD_STATUS_REFUSED, 0),
     (STM_DLOAD_STATUS_REASON, reason), (STM_DLOAD_STATUS_BAD_INDEX, bad)] s))

theorem unitPart_dloadStatus (reason bad : Nat) (s : State) : unitPart (dloadStatus reason bad s) = unitPart s := by
  simp [dloadStatus]

/-- What a load that reads its whole table leaves: the region cleared, the window read, and the table in place. -/
def takeDescs (l : Load) (base k : Nat) (s : State) : State :=
  let w := windowRead none ⟨some l.plot, 0, true⟩ l.plot l.addr (128 * k)
    { s with dload := none, desc := clearRange base k s.desc }
  { w with desc := putRange 0 base (dloadTable l.plot l.addr k s) w.desc }

section
variable {s : State} {l : Load} {base k : Nat} (hload : s.dload = some l) (hiso : isoWindow l.plot s = true)
  (hpaused : loadPaused l s = false) (hjudge : judgeDload l s = (0, 0)) (hregion : descRegion l.plot s = some (base, k))
include hload hiso hpaused hjudge hregion

/-- A load that no reason of R186 refuses is recorded DONE with its table in place. -/
theorem dloadEnd_takes :
    dloadEnd s = completeCmd l.cmd stOK 0 0 (dloadStatus 0 0 (takeDescs l base k s)) := by
  have hopen : (!isoWindow l.plot s || loadPaused l s) = false := by rw [hiso, hpaused]; rfl
  have hdrop : dropDescs l.plot { s with dload := none }
      = { s with dload := none, desc := clearRange base k s.desc } := dropDescs_of_region hregion
  simp only [dloadEnd, hload, hopen, hjudge, hregion, hdrop, Option.getD_some, Bool.false_eq_true, if_false, true_or, if_true]
  rfl

/-- The end of such a load changes queues and reports beside. -/
theorem queueless_dloadEnd : queuelessPart (dloadEnd s) = queuelessPart (takeDescs l base k s) := by
  rw [dloadEnd_takes hload hiso hpaused hjudge hregion, queueless_completeCmd, queueless_of_unit (unitPart_dloadStatus ..)]

end

/-- A table taken changes the load in progress and the descriptor store, and meters and reports of its reads. -/
theorem meterless_takeDescs (l : Load) (base k : Nat) (s : State) :
    meterlessPart (takeDescs l base k s) = meterlessPart { s with
      dload := none, desc := putRange 0 base (dloadTable l.plot l.addr k s) (clearRange base k s.desc) } :=
  congrArg (fun z : State => { z with desc := putRange 0 base (dloadTable l.plot l.addr k s) z.desc })
    (meterless_windowRead none ⟨some l.plot, 0, true⟩ l.plot l.addr (128 * k)
      { s with dload := none, desc := clearRange base k s.desc })

/-! ## The commands -/

theorem exec_dloadGo_awake {t : Nat} {s u : State} (h : Awake t s u) (a : Accessor) (w : Word) :
    exec (.dloadGo t a w) s = .next (after u (regWrite a rSTM_CTRL w [] u)) :=
  congrArg _ (command_awake h (regWrite a rSTM_CTRL w []))

theorem exec_dloadEnd_awake {t : Nat} {s u : State} (h : Awake t s u) :
    exec (.dloadEnd t) s = .next (after u (dloadEnd u)) := congrArg _ (command_awake h dloadEnd)

/-- Settles O5: the write starts the load, and what the load's end leaves of the units is read off the table taken. -/
theorem descriptorLoadsAnswer : Obligations.DescriptorLoadsAnswer := by
  refine ⟨fun t a w s u z hu hr hz hgo hload hrun hopen hhalt hready => ?_,
    fun t base k s u l hu hload hiso hpaused hjudge hregion => ⟨_, exec_dloadEnd_awake hu, ?_⟩⟩
  · have heffect : regWrite a rSTM_CTRL w [] u = hostFirst a rSTM_CTRL (dloadStart (wfld STM_CTRL_PLOT w)
        (reg64 rSTM_DLOAD_SRC_LO rSTM_DLOAD_SRC_HI z) none z) := by
      rw [regWrite_stmCtrl hr, stmCtrl_loads rfl hz hgo hload hrun hopen hhalt hready]
    refine ⟨_, exec_dloadGo_awake hu a w, heffect, ?_⟩
    rw [heffect, dload_of_unit (unitPart_hostFirst ..)]
    rfl
  · have hqueue := queueless_dloadEnd hload hiso hpaused hjudge hregion
    have hmeter := meterless_takeDescs l base k u
    exact ⟨(dload_of_queueless hqueue).trans (dload_of_meterless hmeter),
      (desc_of_queueless hqueue).trans (desc_of_meterless hmeter),
      (seq_of_queueless hqueue).trans (seq_of_meterless hmeter :),
      (hbm_of_queueless hqueue).trans (hbm_of_meterless hmeter :),
      (eng_of_queueless hqueue).trans (eng_of_meterless hmeter :)⟩

end Sys2Proof.Machine
end

/-! SUPPORT. The HBM stacks: training, loss, refresh and recalibration (R172, R174–R176). -/
section
namespace Sys2Proof.Machine

/-! ## Training -/

section
variable {k : Nat} {s : State} (hk : k < 8)
include hk

/-- A matching identity within 2 ms starts training at the highest declared rate at or below the ceiling. -/
theorem identityRead_trains {rates r : Nat} (hphase : (stackOf k s).phase = .init)
    (htime : s.now ≤ (stackOf k s).since + 22000000) (hrate : bestRate rates (fld HBM_CTRL_RATE_CEIL s) = some r) :
    identityRead k true rates s = onStack k (fun x => { x with rate := r, rates := rates }) (setStack k .train s) := by
  have hread : ¬ (8 ≤ k ∨ (stackOf k s).phase ≠ .init ∨ (stackOf k s).since + 2 * msT < s.now) :=
    not_or.mpr ⟨Nat.not_le.mpr hk, not_or.mpr ⟨fun hother => hother hphase, Nat.not_lt.mpr htime⟩⟩
  simp only [identityRead, if_neg hread, if_true, hrate]

/-- 2 ms without identity. -/
theorem trainTimeout_init (hphase : (stackOf k s).phase = .init) (htime : (stackOf k s).since + 22000000 ≤ s.now) :
    trainTimeout k s = equalize (failStack k 1 s) := by
  have hover : (stackOf k s).phase = .init ∧ (stackOf k s).since + 2 * msT ≤ s.now := ⟨hphase, htime⟩
  simp only [trainTimeout, if_neg (Nat.not_le.mpr hk), if_pos hover]

/-- 20 ms of training. -/
theorem trainTimeout_train (hphase : (stackOf k s).phase = .train) (htime : (stackOf k s).since + 220000000 ≤ s.now) :
    trainTimeout k s = lowerRate k 2 s := by
  have hinit : ¬ ((stackOf k s).phase = .init ∧ (stackOf k s).since + 2 * msT ≤ s.now) := by simp [hphase]
  have hover : (stackOf k s).phase = .train ∧ (stackOf k s).since + 20 * msT ≤ s.now := ⟨hphase, htime⟩
  simp only [trainTimeout, if_neg (Nat.not_le.mpr hk), if_neg hinit, if_pos hover]

/-- The end of a training within 20 ms: verified where it passed, else the next lower rate. -/
theorem verifyEnd_train (hphase : (stackOf k s).phase = .train) (htime : s.now ≤ (stackOf k s).since + 220000000)
    (pass : Bool) (ch : Nat) :
    verifyEnd k pass ch s = if pass then setStack k .verify s else lowerRate k 2 s := by
  have hintime : ¬ (stackOf k s).since + 20 * msT < s.now := Nat.not_lt.mpr htime
  simp only [verifyEnd, if_neg (Nat.not_le.mpr hk), if_pos hphase, if_neg hintime]

/-- The end of a verify of 8 ms: DONE at the rate where it passed, else the channel recorded and the next lower rate. -/
theorem verifyEnd_verify (hphase : (stackOf k s).phase = .verify) (htime : (stackOf k s).since + 88000000 ≤ s.now)
    (pass : Bool) (ch : Nat) :
    verifyEnd k pass ch s = if pass then equalize (setFlds
        [(HBM_STACK_STATUS_DONE k, 1), (HBM_STACK_STATUS_RATE k, (stackOf k s).rate)] (setStack k .done s))
      else lowerRate k 3 (setFld (HBM_STACK_STATUS_FAILED_CH k) ch s) := by
  have htrain : ¬ (stackOf k s).phase = .train := by simp [hphase]
  have hover : (stackOf k s).phase = .verify ∧ (stackOf k s).since + 8 * msT ≤ s.now := ⟨hphase, htime⟩
  simp only [verifyEnd, if_neg (Nat.not_le.mpr hk), if_neg htrain, if_pos hover]

end

/-! ## Loss -/

theorem stackOf_onStack (k : Nat) (f : Stack → Stack) (s : State) : stackOf k (onStack k f s) = f (stackOf k s) :=
  get_upd_same ..

theorem onStack_byte (k : Nat) (f : Stack → Stack) (s : State) : (onStack k f s).hbm.byte = s.hbm.byte := (rfl)

theorem stackOf_setFld (k : Nat) (f : Fld) (v : Nat) (s : State) : stackOf k (setFld f v s) = stackOf k s := by
  rw [stackOf, setFld_hbm, stackOf]

/-- The fields of its status that a failure of stack k sets, and their values. -/
def failedFields (k cause : Nat) : List (Fld × Nat) :=
  [(HBM_STACK_STATUS_FAILED k, 1), (HBM_STACK_STATUS_DONE k, 0), (HBM_STACK_STATUS_CAUSE k, cause)]

theorem failedFields_off (k cause : Nat) : ∀ x ∈ failedFields k cause, x.1.off = rHBM_STACK_STATUS k := by
  simp [failedFields]

theorem failedFields_ok (k cause : Nat) : ∀ x ∈ failedFields k cause, fieldOk x.1 := by
  simp only [failedFields, List.forall_mem_cons]
  exact ⟨fieldOk_of rfl, fieldOk_of rfl, fieldOk_of rfl, nofun⟩

theorem failedFields_apart (k cause : Nat) : (failedFields k cause).Pairwise fun x y => fieldsApart x.1 y.1 := by
  simp only [failedFields, List.pairwise_cons, List.forall_mem_cons]
  exact ⟨⟨fieldsApart_of rfl, fieldsApart_of rfl, nofun⟩, ⟨fieldsApart_of rfl, nofun⟩, nofun, .nil⟩

/-- The status of a stack is none of the registers a device fault writes. -/
theorem stackStatus_not_mem_faultRegs {k : Nat} (hk : k < 8) : rHBM_STACK_STATUS k ∉ faultRegs := by
  have hstacks : ∀ j < 8, rHBM_STACK_STATUS j ∉ faultRegs := by decide
  exact hstacks k hk

/-- A FAILED stack shows FAILED, no DONE, and its CAUSE. -/
theorem fld_failStack {k : Nat} (hk : k < 8) {cause : Nat} {x : Fld × Nat} (hx : x ∈ failedFields k cause) (s : State) :
    fld x.1 (failStack k cause s) = x.2 % 2 ^ (x.1.hi + 1 - x.1.lo) := by
  have hoff : x.1.off ∉ faultRegs := failedFields_off k cause x hx ▸ stackStatus_not_mem_faultRegs hk
  rw [failStack, fld_devFault hoff]
  exact fld_setFlds_mem _ _ (failedFields_ok k cause) (failedFields_apart k cause) x hx

theorem failStack_phase (k cause : Nat) (s : State) : (stackOf k (failStack k cause s)).phase = .failed := by
  have hunit : unitPart (failStack k cause s) = unitPart (setStack k .failed s) := by
    rw [failStack, unitPart_devFault, unitPart_setFlds]
  rw [stackOf, hbm_of_unit hunit, ← stackOf, setStack, stackOf_onStack]

theorem stackLost_done {k : Nat} {s : State} (hk : k < 8) (hphase : (stackOf k s).phase = .done) :
    stackLost k s = failStack k 4 s := if_pos ⟨hk, hphase⟩

/-! ## Refresh and recalibration -/

theorem refresh_done {k : Nat} {s : State} (hk : k < 8) (hphase : (stackOf k s).phase = .done) (us : List Upset) :
    refresh k us s = showHot (forAll upset us (onStack k (fun x => { x with
      hot := if 85 ≤ fld (HBM_STACK_STATUS_TEMP k) s then true
        else if fld (HBM_STACK_STATUS_TEMP k) s ≤ 82 then false else x.hot }) s)) := by
  simp only [refresh, hphase, ne_eq, not_true, or_false, if_neg (Nat.not_le.mpr hk)]

/-- A pause of 2.2 µs ends, and the accesses that waited are made. -/
theorem recalibrationEnd_releases {k : Nat} {s : State} (hk : k < 8) (hpause : flag (HBM_STACK_STATUS_RECAL k) s = true)
    (htime : (stackOf k s).since + 24200 ≤ s.now) :
    recalibrationEnd k s = capResume (apertureResume (setFld (HBM_STACK_STATUS_RECAL k) 0 s)) := if_pos ⟨hk, hpause, htime⟩

/-- Where no stack pauses no pause ends. -/
theorem loop_recalibrationEnd {s : State} (hnone : ∀ j, j < 8 → flag (HBM_STACK_STATUS_RECAL j) s = false) (n : Nat) :
    loop recalibrationEnd n s = s := by
  refine loop_induct (P := fun z => z = s) (fun j z hz => ?_) n s rfl
  subst hz
  exact if_neg fun ⟨hj, hpause, _⟩ => absurd (hnone j hj) (by simp [hpause])

/-- At its slot of the millisecond, while none pauses, a DONE stack pauses from now. -/
theorem recalibration_pauses {k : Nat} {s : State} (hk : k < 8) (hphase : (stackOf k s).phase = .done)
    (hslot : recalTime s % 1000000 = 125000 * k) (hnone : ∀ j, j < 8 → flag (HBM_STACK_STATUS_RECAL j) s = false) :
    recalibration k s = setFld (HBM_STACK_STATUS_RECAL k) 1 (onStack k (fun x => { x with since := s.now }) s) := by
  have hidle : ((List.range 8).any fun j => flag (HBM_STACK_STATUS_RECAL j) s) = false := by
    rw [List.any_eq_false]
    intro j hj
    simp [hnone j (List.mem_range.mp hj)]
  simp only [recalibration, loop_recalibrationEnd hnone, hphase, hslot, hidle, ne_eq, not_true, Bool.false_eq_true, or_false,
    if_neg (Nat.not_le.mpr hk)]

/-! ## The commands -/

theorem exec_stackIdentityRead_awake {t : Nat} {s u : State} (h : Awake t s u) (k : Nat) (ok : Bool) (rates : Nat) :
    exec (.stackIdentityRead t k ok rates) s = .next (after u (identityRead k ok rates u)) :=
  congrArg _ (command_awake h (identityRead k ok rates))

theorem exec_hbmTrainTimeout_awake {t : Nat} {s u : State} (h : Awake t s u) (k : Nat) :
    exec (.hbmTrainTimeout t k) s = .next (after u (trainTimeout k u)) := congrArg _ (command_awake h (trainTimeout k))

theorem exec_hbmVerifyEnd_awake {t : Nat} {s u : State} (h : Awake t s u) (k : Nat) (pass : Bool) (ch : Nat) :
    exec (.hbmVerifyEnd t k pass ch) s = .next (after u (verifyEnd k pass ch u)) :=
  congrArg _ (command_awake h (verifyEnd k pass ch))

theorem exec_stackLost_awake {t : Nat} {s u : State} (h : Awake t s u) (k : Nat) :
    exec (.stackLost t k) s = .next (after u (stackLost k u)) := congrArg _ (command_awake h (stackLost k))

theorem exec_refresh_awake {t : Nat} {s u : State} (h : Awake t s u) (k : Nat) (us : List Upset) :
    exec (.refresh t k us) s = .next (after u (refresh k us u)) := congrArg _ (command_awake h (refresh k us))

theorem exec_recalibration_awake {t : Nat} {s u : State} (h : Awake t s u) (k : Nat) :
    exec (.recalibration t k) s = .next (after u (recalibration k u)) := congrArg _ (command_awake h (recalibration k))

theorem exec_recalibrationEnd_awake {t : Nat} {s u : State} (h : Awake t s u) (k : Nat) :
    exec (.recalibrationEnd t k) s = .next (after u (recalibrationEnd k u)) :=
  congrArg _ (command_awake h (recalibrationEnd k))

/-- Settles O6: the stack's phase and its time decide each command's effect, and what a loss and a pause show is read off it. -/
theorem hbmStacksAnswer : Obligations.HbmStacksAnswer := by
  intro t k s u hu hk
  refine ⟨fun rates r hphase htime hrate => ?_, fun hphase htime => ?_, fun hphase htime => ?_,
    fun ch hphase htime => ⟨?_, ?_⟩, fun ch hphase htime => ⟨?_, ?_⟩,
    fun hphase => ⟨⟨_, exec_stackLost_awake hu k, stackLost_done hk hphase, ?_⟩, fun us => ?_,
      fun hslot hnone => ⟨_, exec_recalibration_awake hu k, ?_⟩⟩,
    fun hpause htime => ?_⟩
  · rw [exec_stackIdentityRead_awake hu, identityRead_trains hk hphase htime hrate]
  · rw [exec_hbmTrainTimeout_awake hu, trainTimeout_init hk hphase htime]
  · rw [exec_hbmTrainTimeout_awake hu, trainTimeout_train hk hphase htime]
  · rw [exec_hbmVerifyEnd_awake hu, verifyEnd_train hk hphase htime, if_pos rfl]
  · rw [exec_hbmVerifyEnd_awake hu, verifyEnd_train hk hphase htime, if_neg Bool.false_ne_true]
  · rw [exec_hbmVerifyEnd_awake hu, verifyEnd_verify hk hphase htime, if_pos rfl]
  · rw [exec_hbmVerifyEnd_awake hu, verifyEnd_verify hk hphase htime, if_neg Bool.false_ne_true]
  · rw [stackLost_done hk hphase]
    have hshown {x : Fld × Nat} (hx : x ∈ failedFields k 4) := fld_failStack hk hx u
    exact ⟨hshown (x := (HBM_STACK_STATUS_FAILED k, 1)) (.head _),
      hshown (x := (HBM_STACK_STATUS_DONE k, 0)) (.tail _ (.head _)),
      hshown (x := (HBM_STACK_STATUS_CAUSE k, 4)) (.tail _ (.tail _ (.head _))), failStack_phase k 4 u⟩
  · rw [exec_refresh_awake hu, refresh_done hk hphase]
  · rw [recalibration_pauses hk hphase hslot hnone]
    refine ⟨fld_setFld_same _ (fieldOk_of rfl) 1 _, ?_, ?_⟩
    · rw [stackOf_setFld, stackOf_onStack]
    · rw [setFld_hbm, onStack_byte]
  · rw [exec_recalibrationEnd_awake hu, recalibrationEnd_releases hk hpause htime]

end Sys2Proof.Machine
end

/-! SUPPORT. The Tally unit: its run, expiries, rebases and registers (R211, R214, R222–R224, R226). -/
section
namespace Sys2Proof.Machine

/-! ## The run of the unit -/

/-- The earliest cycle that is due takes effect first (R214). -/
theorem tallyRun_due {c : Nat} {s : State} (hnext : tallyNext s.tally.ops = some c) (hdue : c ≤ cycle s) :
    tallyRun s = tallyAdvance (3 * s.tally.ops.length + s.tally.watch.length) (tallyCycle c s) := by
  rw [tallyRun, tallyAdvance, hnext]
  exact if_neg (Nat.not_lt.mpr hdue)

/-- Before the earliest cycle the unit owes nothing. -/
theorem tallyRun_early {c : Nat} {s : State} (hnext : tallyNext s.tally.ops = some c) (hearly : cycle s < c) :
    tallyRun s = s := by
  rw [tallyRun, tallyAdvance, hnext]
  exact if_pos hearly

/-- A rebase that is owed to the entry runs the unit (R224). -/
theorem groupRebase_owed {c e : Nat} {w : Watch} {s : State} (howed : (c, TOp.rebase e w) ∈ s.tally.ops)
    (hdue : c ≤ cycle s) : groupRebase e s = tallyRun s :=
  if_pos (List.any_eq_true.mpr ⟨_, howed, by simpa using hdue⟩)

/-! ## Expiries -/

@[simp] theorem look_del_same {α : Type} (k : Nat) (m : Map α) : look k (del k m) = none := by
  induction m with
  | nil => rfl
  | cons p m ih =>
    unfold del
    split <;> simp_all [look]

/-- The record of an expiry is made of reports alone. -/
theorem unitPart_recordTmo (x : Watch) (v : Nat) (s : State) : unitPart (recordTmo x v s) = unitPart s := by
  unfold recordTmo
  simp only [unitPart_plotFault]
  split
  · simp
  · simp

/-- A watch whose time is over, not being rebased and not satisfied, frees its entry, is recorded and told (R223). -/
theorem expire_expires {e : Nat} {x : Watch} {s : State} (hwatch : look e s.tally.watch = some x)
    (hrebase : rebasing e s = false) (hover : tmoReached x s = true) (hholds : watchHolds x s = false) :
    expire e s = tellExpired x (tallyVal x.tally s) (recordTmo x (tallyVal x.tally s) (freeWatch e s)) := by
  simp [expire, hwatch, hrebase, hover, hholds]

/-- Of the Tally unit the telling of a waiter changes the wakes alone. -/
theorem tellExpired_tally (x : Watch) (v : Nat) (s : State) :
    ∃ wakes, (tellExpired x v s).tally = { s.tally with wakes := wakes } := by
  unfold tellExpired
  cases x.waiter with
  | slot k g => exact ⟨_, rfl⟩
  | host sq seq => exact ⟨s.tally.wakes, tally_of_queueless (queueless_complete ..)⟩

theorem tellExpired_wakes_slot {x : Watch} {k : Nat} {g : Bool} (hslot : x.waiter = .slot k g) (v : Nat) (s : State) :
    (tellExpired x v s).tally.wakes = s.tally.wakes ++ [⟨cycle s + 4, k, g, true, x.rel, v⟩] := by
  simp only [tellExpired, hslot]
  rfl

section
variable {e : Nat} {x : Watch} {s : State} (hwatch : look e s.tally.watch = some x)
  (hrebase : rebasing e s = false) (hover : tmoReached x s = true) (hholds : watchHolds x s = false)
include hwatch hrebase hover hholds

/-- Of the Tally unit an expiry changes the entry and the wakes. -/
theorem expire_tally : ∃ wakes, (expire e s).tally = { s.tally with watch := del e s.tally.watch, wakes := wakes } := by
  obtain ⟨wakes, htold⟩ := tellExpired_tally x (tallyVal x.tally s) (recordTmo x (tallyVal x.tally s) (freeWatch e s))
  refine ⟨wakes, ?_⟩
  rw [expire_expires hwatch hrebase hover hholds, htold, tally_of_unit (unitPart_recordTmo ..)]
  rfl

/-- A wait slot is sent its expiry four cycles later (R223). -/
theorem expire_wakes_slot {k : Nat} {g : Bool} (hslot : x.waiter = .slot k g) :
    (expire e s).tally.wakes = s.tally.wakes ++ [⟨cycle s + 4, k, g, true, x.rel, tallyVal x.tally s⟩] := by
  rw [expire_expires hwatch hrebase hover hholds, tellExpired_wakes_slot hslot, cycle,
    now_of_unit (unitPart_recordTmo ..), tally_of_unit (unitPart_recordTmo ..)]
  rfl

end

/-! ## The registers -/

/-- An offset of a register of the Tally unit. -/
abbrev tallyRegister (off : Nat) : Prop := off / 0x100000 = 3 ∧ off % 4 = 0 ∧ (regRow off).isSome = true

/-- A write of a register of the Tally unit that reaches it. -/
theorem regWrite_tally {a : Accessor} {off : Nat} {s : State} (h : Reaches a s) (hoff : tallyRegister off) (w : Word) :
    regWrite a off w [] s = hostFirst a off (tallyWrite a off w (writeLatches a off s)) := by
  obtain ⟨hunit, halign, hrow⟩ := hoff
  rw [regWrite_direct h halign (by omega) hrow]
  simp only [writeReg, hunit]

theorem runOf_writeLatches (n : Nat) (a : Accessor) (off : Nat) (s : State) :
    runOf n (writeLatches a off s) = runOf n s := by
  rw [runOf, writeLatches_seq, runOf]

theorem loadsProgram_writeLatches (n : Nat) (a : Accessor) (off : Nat) (s : State) :
    loadsProgram n (writeLatches a off s) = loadsProgram n s := by
  rw [loadsProgram, writeLatches_seq, loadsProgram]

theorem tallyWrite_ctrl (a : Accessor) {w : Word} (hgo : wfld TLY_CTRL_ZERO_GO w = 1) (s : State) :
    tallyWrite a rTLY_CTRL w s = zeroGo a (wfld TLY_CTRL_PLOT w) s := by
  rw [tallyWrite, if_pos rfl, if_pos hgo]

theorem zeroGo_zeroes {a : Accessor} {n : Nat} {s : State} (hrun : runOf n (setFld TLY_CTRL_PLOT n s) = false) :
    zeroGo a n s = touchWatches (zeroPlot n (tallyRun (setFld TLY_CTRL_PLOT n s))) :=
  if_neg (by simp [hrun])

theorem tallyRegister_tr : ∀ n < 16, tallyRegister (rTLY_TR n) := by decide

theorem tallyRegister_wr : ∀ n < 16, tallyRegister (rTLY_WR n) := by decide

theorem tallyWrite_tr {n : Nat} (hn : n < 16) (a : Accessor) (w : Word) (s : State) :
    tallyWrite a (rTLY_TR n) w s = tlyRegionWrite a false n w s := by
  have hoffsets : ∀ n < 16, rTLY_TR n ≠ rTLY_CTRL ∧ (rTLY_TR 0 ≤ rTLY_TR n ∧ rTLY_TR n ≤ rTLY_TR 15)
      ∧ (rTLY_TR n - rTLY_TR 0) / 4 = n := by decide
  obtain ⟨hctrl, hrange, hindex⟩ := hoffsets n hn
  rw [tallyWrite, if_neg hctrl, if_pos hrange, hindex]

theorem tallyWrite_wr {n : Nat} (hn : n < 16) (a : Accessor) (w : Word) (s : State) :
    tallyWrite a (rTLY_WR n) w s = tlyRegionWrite a true n w s := by
  have hoffsets : ∀ n < 16, rTLY_WR n ≠ rTLY_CTRL ∧ ¬ (rTLY_TR 0 ≤ rTLY_WR n ∧ rTLY_WR n ≤ rTLY_TR 15)
      ∧ (rTLY_WR 0 ≤ rTLY_WR n ∧ rTLY_WR n ≤ rTLY_WR 15) ∧ (rTLY_WR n - rTLY_WR 0) / 4 = n := by decide
  obtain ⟨hctrl, htr, hrange, hindex⟩ := hoffsets n hn
  rw [tallyWrite, if_neg hctrl, if_neg htr, if_pos hrange, hindex]

/-- Does the region a word names overlap another plot's, a region of watches or of tallies? -/
def regionClash (watch : Bool) (n : Nat) (w : Word) (s : State) : Bool :=
  if watch then
    regionOverlaps TLY_WR_VALID TLY_WR_BASE TLY_WR_LIMIT n (wfld (TLY_TR_BASE n) w) (wfld (TLY_TR_LIMIT n) w) s
  else regionOverlaps TLY_TR_VALID TLY_TR_BASE TLY_TR_LIMIT n (wfld (TLY_TR_BASE n) w) (wfld (TLY_TR_LIMIT n) w) s

/-- A region is accepted of a plot with no run and no load in progress, its limit not below its base, that, where valid,
overlaps no other plot's (R211). -/
theorem tlyRegionWrite_accepted {watch : Bool} {n : Nat} {w : Word} {s : State} (hrun : runOf n s = false)
    (hload : loadsProgram n s = false) (horder : wfld (TLY_TR_BASE n) w ≤ wfld (TLY_TR_LIMIT n) w)
    (hclash : wfld (TLY_TR_VALID n) w = 1 → regionClash watch n w s = false) (a : Accessor) :
    tlyRegionWrite a watch n w s =
      let v := plainWrite (if watch then rTLY_WR n else rTLY_TR n) w (tallyRun s)
      if watch then cancelHost n (some stCancelled) (cancelSeq n v) else touchWatches (zeroTallies n v) := by
  have hfree : ¬ (runOf n s = true ∨ loadsProgram n s = true ∨ wfld (TLY_TR_LIMIT n) w < wfld (TLY_TR_BASE n) w
      ∨ (wfld (TLY_TR_VALID n) w = 1 ∧ regionClash watch n w s = true)) := by
    simp only [hrun, hload, Nat.not_lt.mpr horder, Bool.false_eq_true, false_or]
    rintro ⟨hvalid, hoverlaps⟩
    exact absurd hoverlaps (by simp [hclash hvalid])
  exact if_neg hfree

theorem regWrite_tr {a : Accessor} {n : Nat} {s : State} (h : Reaches a s) (hn : n < 16) (w : Word) :
    regWrite a (rTLY_TR n) w [] s
      = hostFirst a (rTLY_TR n) (tlyRegionWrite a false n w (writeLatches a (rTLY_TR n) s)) := by
  rw [regWrite_tally h (tallyRegister_tr n hn), tallyWrite_tr hn]

theorem regWrite_wr {a : Accessor} {n : Nat} {s : State} (h : Reaches a s) (hn : n < 16) (w : Word) :
    regWrite a (rTLY_WR n) w [] s
      = hostFirst a (rTLY_WR n) (tlyRegionWrite a true n w (writeLatches a (rTLY_WR n) s)) := by
  rw [regWrite_tally h (tallyRegister_wr n hn), tallyWrite_wr hn]

/-! ## The commands -/

theorem exec_incrementApply_awake {t : Nat} {s u : State} (h : Awake t s u) :
    exec (.incrementApply t) s = .next (after u (tallyRun u)) := congrArg _ (command_awake h incrementApply)

theorem exec_groupRebase_awake {t : Nat} {s u : State} (h : Awake t s u) (e : Nat) :
    exec (.groupRebase t e) s = .next (after u (groupRebase e u)) := congrArg _ (command_awake h (groupRebase e))

theorem exec_watchExpiry_awake {t : Nat} {s u : State} (h : Awake t s u) (e : Nat) :
    exec (.watchExpiry t e) s = .next (after u (expire e (tallyRun u))) := congrArg _ (command_awake h (watchExpiry e))

theorem exec_zeroGo_awake {t : Nat} {s u : State} (h : Awake t s u) (a : Accessor) (w : Word) :
    exec (.zeroGo t a w) s = .next (after u (regWrite a rTLY_CTRL w [] u)) :=
  congrArg _ (command_awake h (regWrite a rTLY_CTRL w []))

theorem exec_tlyTrWrite_awake {t : Nat} {s u : State} (h : Awake t s u) (a : Accessor) (n : Nat) (w : Word) :
    exec (.tlyTrWrite t a n w) s = .next (after u (regWrite a (rTLY_TR n) w [] u)) :=
  congrArg _ (command_awake h (regWrite a (rTLY_TR n) w []))

theorem exec_tlyWrWrite_awake {t : Nat} {s u : State} (h : Awake t s u) (a : Accessor) (n : Nat) (w : Word) :
    exec (.tlyWrWrite t a n w) s = .next (after u (regWrite a (rTLY_WR n) w [] u)) :=
  congrArg _ (command_awake h (regWrite a (rTLY_WR n) w []))

/-- Settles O7: what is due runs the unit, what an expiry leaves is read off its entry and its waiter, and a write accepted has
its register's effect; that one of TLY_WR completes host watches CANCELLED is log entry 55. -/
theorem tallyCommandsAnswer : Obligations.TallyCommandsAnswer := by
  refine ⟨fun t s u hu => ⟨exec_incrementApply_awake hu, fun c => tallyRun_due, fun c => tallyRun_early,
      fun e c w howed hdue => ?_⟩,
    fun t e s u w x hu hw hwatch hrebase hover hholds => ?_,
    fun t a w s u z hu hr hgo hz hrun => ?_,
    fun t n a w s u z hu hr hn hrun hload horder => ⟨fun hz hclash => ?_, fun hz hclash => ?_⟩⟩
  · rw [exec_groupRebase_awake hu, groupRebase_owed howed hdue]
  · subst hw
    obtain ⟨wakes, htally⟩ := expire_tally hwatch hrebase hover hholds
    refine ⟨_, exec_watchExpiry_awake hu e, ?_, ?_, fun k g => expire_wakes_slot hwatch hrebase hover hholds⟩
    · rw [htally, look_del_same]
    · rw [htally]
  · subst hz
    rw [exec_zeroGo_awake hu, regWrite_tally hr (by decide), tallyWrite_ctrl a hgo,
      zeroGo_zeroes hrun]
  · subst hz
    rw [exec_tlyTrWrite_awake hu, regWrite_tr hr hn,
      tlyRegionWrite_accepted (watch := false) ((runOf_writeLatches ..).trans hrun)
        ((loadsProgram_writeLatches ..).trans hload) horder hclash]
    rfl
  · subst hz
    rw [exec_tlyWrWrite_awake hu, regWrite_wr hr hn,
      tlyRegionWrite_accepted (watch := true) ((runOf_writeLatches ..).trans hrun)
        ((loadsProgram_writeLatches ..).trans hload) horder hclash]
    rfl

end Sys2Proof.Machine
end

/-! SUPPORT. The links of a state: what an update of one link changes of it and leaves of the others. -/
section
namespace Sys2Proof.Machine

/-! ## Reading a link -/

theorem linkOf_congr {s v : State} (h : v.link = s.link) (p l : Nat) : linkOf p l v = linkOf p l s := by
  rw [linkOf, h, linkOf]

theorem linkOf_of_unit {s v : State} (h : unitPart v = unitPart s) (p l : Nat) : linkOf p l v = linkOf p l s :=
  linkOf_congr (link_of_unit h) p l

@[simp] theorem linkOf_onLink (p l : Nat) (f : Link → Link) (s : State) : linkOf p l (onLink p l f s) = f (linkOf p l s) :=
  get_upd_same ..

theorem linkOf_onLink_other {l m : Nat} (h : m ≠ l) (p : Nat) (f : Link → Link) (s : State) :
    linkOf p m (onLink p l f s) = linkOf p m s := get_upd_other _ (fun he => h (Nat.add_left_cancel he)) ..

@[simp] theorem linkOf_emit (p l : Nat) (o : Out) (s : State) : linkOf p l (emit o s) = linkOf p l s := rfl

@[simp] theorem linkOf_setFld (p l : Nat) (f : Fld) (v : Nat) (s : State) : linkOf p l (setFld f v s) = linkOf p l s := rfl

@[simp] theorem linkOf_setFlds (p l : Nat) (fs : List (Fld × Nat)) (s : State) :
    linkOf p l (setFlds fs s) = linkOf p l s := linkOf_of_unit (unitPart_setFlds ..) p l

@[simp] theorem linkOf_bump (p l : Nat) (f : Fld) (n : Nat) (s : State) : linkOf p l (bump f n s) = linkOf p l s :=
  linkOf_of_unit (unitPart_bump ..) p l

@[simp] theorem phaseOf_setPhase (p l : Nat) (ph : LinkPhase) (s : State) : phaseOf p l (setPhase p l ph s) = ph :=
  congrArg Link.phase (linkOf_onLink ..)

/-! ## Links in service -/

theorem framesRun_of_inService {p l : Nat} {s : State} (h : inService p l s = true) : framesRun p l s = true := by
  simp [framesRun, h]

theorem inService_of_mayTransmit {p l : Nat} {s : State} (h : mayTransmit p l s = true) : inService p l s = true := by
  simp only [mayTransmit, Bool.and_eq_true] at h
  simp [inService, h]

/-! ## Interruptions -/

/-- A link of which no interruption of a direction is being measured. -/
def onsetOver (dir : Nat) (k : Link) : Link := if dir = 1 then { k with txOnset := none } else { k with rxOnset := none }

theorem onsetOver_of_none {dir : Nat} {k : Link} (h : (if dir = 1 then k.txOnset else k.rxOnset) = none) :
    onsetOver dir k = k := by
  cases k
  unfold onsetOver
  split at h <;> simp_all

/-- The end of an interruption changes of the links the onset alone. -/
theorem linkOf_endFailover (p l m dir : Nat) (s : State) :
    linkOf p m (endFailover p l dir s) = linkOf p m (onLink p l (onsetOver dir) s) := by
  unfold endFailover
  split
  · next hnone =>
    by_cases hm : m = l
    · rw [hm, linkOf_onLink]
      refine (onsetOver_of_none ?_).symm
      split at hnone <;> simp_all
    · rw [linkOf_onLink_other hm]
  · extract_lets d gone
    split
    · exact linkOf_setFld ..
    · rfl

/-! ## Changes of a list -/

theorem forAll_of_fixed {α σ : Type} {f : α → σ → σ} {s : σ} {l : List α} (h : ∀ a ∈ l, f a s = s) :
    forAll f l s = s := by
  induction l with
  | nil => rfl
  | cons a l ih => rw [forAll, h a List.mem_cons_self, ih fun b hb => h b (List.mem_cons_of_mem _ hb)]

/-- Changes of which one alone, listed once, does anything, neither before it nor after it. -/
theorem forAll_only {α σ : Type} {f : α → σ → σ} {a : α} {s : σ} {l : List α} (hnodup : l.Nodup) (hmem : a ∈ l)
    (hbefore : ∀ b, b ≠ a → f b s = s) (hafter : ∀ b, b ≠ a → f b (f a s) = f a s) : forAll f l s = f a s := by
  induction l with
  | nil => cases hmem
  | cons b l ih =>
    obtain ⟨hb, hl⟩ := List.nodup_cons.mp hnodup
    rw [forAll]
    rcases List.mem_cons.mp hmem with rfl | hmem
    · exact forAll_of_fixed fun c hc => hafter c fun he => hb (he ▸ hc)
    · rw [hbefore b fun he => hb (he ▸ hmem), ih hl hmem]

end Sys2Proof.Machine
end

/-! SUPPORT. Flits, control frames and their time-outs (R238, R239, R252, R255–R257). -/
section
namespace Sys2Proof.Machine

/-! ## Flits sent -/

/-- Reading the data of a flit changes reports alone. -/
theorem unitPart_flitData (p l : Nat) (x : SendPart) (s : State) : unitPart (flitData p l x s).2 = unitPart s := by
  unfold flitData
  simp only
  split
  · exact congrArg (fun z : State => { z with cores := s.cores })
      (unitPart_sramCheck (some x.plot) _ _ _ (svcView s))
  · exact unitPart_linkFault ..

theorem link_flitCounted (l : Nat) (x : SendPart) (data : List Byte) (s : State) :
    (flitCounted l x data s).link = s.link := by
  unfold flitCounted
  simp only
  split <;> rfl

theorem link_sendOver (p : Nat) (x : SendPart) (s : State) : (sendOver p x s).link = s.link := by
  unfold sendOver
  split
  · rfl
  · extract_lets data cleared
    exact (link_of_eventless (eventless_capEvent ..)).trans (rfl : cleared.link = s.link)

theorem link_injConsume (s : State) : (injConsume s).link = s.link := link_of_eventless (eventless_injConsume s)

/-- A flit that goes out takes its credit, its SEQ and its place for retry, and ends an interruption of sending. -/
theorem linkOf_sendNext (p l : Nat) (x : SendPart) (s : State) :
    ∃ frame, ∀ m, linkOf p m (sendNext p l x s)
      = linkOf p m (onLink p l (onsetOver 1 ∘ flitGone x frame s.now) s) := by
  refine ⟨nextFrame p l x (flitData p l x s).1 (flitData p l x s).2, fun m => ?_⟩
  unfold sendNext
  extract_lets data read frame inj sent gone injected
  have hread := unitPart_flitData p l x s
  have hgone : linkOf p m gone = linkOf p m (onLink p l (onsetOver 1 ∘ flitGone x frame s.now) s) := by
    rw [linkOf_endFailover]
    by_cases hm : m = l
    · rw [hm, linkOf_onLink, linkOf_onLink, linkOf_congr (link_flitCounted ..), linkOf_onLink, linkOf_emit,
        linkOf_of_unit hread, now_of_unit hread, Function.comp]
    · rw [linkOf_onLink_other hm, linkOf_onLink_other hm, linkOf_congr (link_flitCounted ..), linkOf_onLink_other hm,
        linkOf_emit, linkOf_of_unit hread]
  have hinjected : linkOf p m injected = linkOf p m gone := by
    show linkOf p m (if inj then injConsume gone else gone) = _
    split
    · exact linkOf_congr (link_injConsume gone) p m
    · rfl
  split
  · rw [linkOf_congr (link_sendOver ..), hinjected, hgone]
  · rw [hinjected, hgone]

section
variable {p l : Nat} {s : State}

/-- Where frames run and flits may not be sent, idle frames are. -/
theorem flitSend_barred (hruns : framesRun p l s = true) (hbarred : mayTransmit p l s = false) :
    flitSend p l s = sendIdle p l s := by
  simp [flitSend, hruns, hbarred]

variable (hmay : mayTransmit p l s = true)
include hmay

theorem flitSend_replays {i : Nat} {f : RetryFlit} (hreplay : (linkOf p l s).replay = some i)
    (hflit : (linkOf p l s).retry[i]? = some f) : flitSend p l s = replayFlit p l i f s := by
  simp [flitSend, framesRun_of_inService (inService_of_mayTransmit hmay), hmay, hreplay, hflit]

theorem flitSend_empty (hreplay : (linkOf p l s).replay = none) (hsends : (linkOf p l s).sends = []) :
    flitSend p l s = sendIdle p l s := by
  simp [flitSend, framesRun_of_inService (inService_of_mayTransmit hmay), hmay, hreplay, hsends]

theorem flitSend_first {x : SendPart} {rest : List SendPart} (hreplay : (linkOf p l s).replay = none)
    (hsends : (linkOf p l s).sends = x :: rest) :
    flitSend p l s = if sendWaits p l x s then sendIdle p l s else sendNext p l x s := by
  simp [flitSend, framesRun_of_inService (inService_of_mayTransmit hmay), hmay, hreplay, hsends]

/-- Sending from its first SEND a link changes no other link. -/
theorem linkOf_flitSend_other {x : SendPart} {rest : List SendPart} (hreplay : (linkOf p l s).replay = none)
    (hsends : (linkOf p l s).sends = x :: rest) {m : Nat} (hm : m ≠ l) :
    linkOf p m (flitSend p l s) = linkOf p m s := by
  rw [flitSend_first hmay hreplay hsends]
  split
  · exact linkOf_emit ..
  · obtain ⟨frame, hlink⟩ := linkOf_sendNext p l x s
    rw [hlink, linkOf_onLink_other hm]

end

/-! ## Transfers started -/

theorem headOf_congr {p id l : Nat} {s v : State} (h : linkOf p l v = linkOf p l s) : headOf p id l v = headOf p id l s := by
  rw [headOf, h, headOf]

theorem headOf_first {p l : Nat} {s : State} {x : SendPart} {rest : List SendPart} (hreplay : (linkOf p l s).replay = none)
    (hsends : (linkOf p l s).sends = x :: rest) (hsent : x.sent = 0) : headOf p x.id l s = true := by
  simp [headOf, hsends, hreplay, hsent]

theorem headOf_absent {p id l : Nat} {s : State} (h : ∀ y ∈ (linkOf p l s).sends.head?, y.id ≠ id) :
    headOf p id l s = false := by
  unfold headOf
  split
  · next x _ hsends =>
    have hother : x.id ≠ id := h x (by simp [hsends])
    simp [hother]
  · rfl

/-- A SEND at the head of one link alone starts there (R252). -/
theorem transferStart_one {p l : Nat} {s : State} {x : SendPart} {rest : List SendPart} (hl : l < 17)
    (hmay : mayTransmit p l s = true) (hreplay : (linkOf p l s).replay = none) (hsends : (linkOf p l s).sends = x :: rest)
    (hsent : x.sent = 0) (hother : ∀ m, m ≠ l → ∀ y ∈ (linkOf p m s).sends.head?, y.id ≠ x.id) :
    transferStart p x.id s = flitSend p l s := by
  have hhead := headOf_first hreplay hsends hsent
  have habsent (m : Nat) (hm : m ≠ l) : headOf p x.id m s = false := headOf_absent (hother m hm)
  have hstarts := forAll_only (f := fun m z => if headOf p x.id m z then flitSend p m z else z) (a := l) (s := s)
    List.nodup_range (List.mem_range.mpr (show l < 32 by omega))
    (fun m hm => by simp [habsent m hm])
    (fun m hm => by
      simp only [hhead, if_true, headOf_congr (linkOf_flitSend_other hmay hreplay hsends hm), habsent m hm,
        Bool.false_eq_true, if_false])
  rw [transferStart, hstarts, if_pos hhead]

/-! ## Flits received -/

/-- A link whose receiver takes a flit in order into its buffer (R239). -/
def flitBuffered (frame : List Byte) (now : Nat) (k : Link) : Link :=
  { k with
    rxSeq := (k.rxSeq + 1) % 4096, discard := false, lostAt := none, acked := true
    rxBuf := k.rxBuf ++ [frame], waitAt := if k.rxBuf.isEmpty then now else k.waitAt }

/-- The state in which a good flit in order has reached its buffer, an interruption of receiving over. -/
def flitArrives (p l : Nat) (frame : List Byte) (s : State) : State :=
  let ready := if (linkOf p l s).rxOver then s else endFailover p l 0 s
  onLink p l (flitBuffered frame ready.now) ready

theorem linkOf_flitArrives (p l : Nat) (frame : List Byte) (s : State) :
    (linkOf p l (flitArrives p l frame s)).rxBuf = (linkOf p l s).rxBuf ++ [frame]
      ∧ (linkOf p l (flitArrives p l frame s)).rxSeq = ((linkOf p l s).rxSeq + 1) % 4096 := by
  unfold flitArrives
  extract_lets ready
  rw [linkOf_onLink]
  show (linkOf p l ready).rxBuf ++ [frame] = _ ∧ ((linkOf p l ready).rxSeq + 1) % 4096 = _
  by_cases hover : (linkOf p l s).rxOver = true
  · simp [ready, hover]
  · simp [ready, hover, linkOf_endFailover, onsetOver]

section
variable {p l : Nat} {s : State} {words bad : List Codeword} {frame : List Byte} (hserves : inService p l s = true)
  (hquar : quarantined p s = false)
  (hbad : bad = words.filter fun w => darkGap p l s || uncorrectable (linkOf p l s).detect w)
include hserves hquar hbad

/-- A frame with codewords past correction is counted by those that begin in it, and refused (R234, R239). -/
theorem flitReceive_uncorrectable (hsome : bad ≠ []) : flitReceive p l words frame s
    = rejectFlit p l (bump (LNK_LINK_CNT_UNCORR p l) (bad.filter (·.first)).length s) := by
  simp [flitReceive, ← hbad, hserves, hquar, hsome]

/-- A good frame in order reaches its buffer, which is then emptied as far as it can be (R239, R255). -/
theorem flitReceive_inOrder (hnone : bad = []) (hok : flitOk frame = true)
    (hkind : (fcwOf frame).kind = 1 ∨ (fcwOf frame).kind = 2) (hseq : (fcwOf frame).seq = (linkOf p l s).rxSeq) :
    flitReceive p l words frame s = drainLink p l ((linkOf p l s).rxBuf.length + 1) (flitArrives p l frame s) := by
  have hopen : ¬ ((!(inService p l s || phaseOf p l s == .failed)) = true ∨ quarantined p s = true) := by
    simp [hserves, hquar]
  have hdata : ¬ ((fcwOf frame).kind = 0 ∨ (fcwOf frame).kind = 3) := by omega
  have hlength : (linkOf p l (flitArrives p l frame s)).rxBuf.length = (linkOf p l s).rxBuf.length + 1 := by
    rw [(linkOf_flitArrives p l frame s).1, List.length_append, List.length_singleton]
  rw [← hlength]
  unfold flitReceive
  extract_lets k lost w ready taken
  rw [if_neg hopen, if_neg (by simp [lost, k, ← hbad, hnone]), if_neg (by simp [hok]), if_neg hdata,
    if_neg (fun hother => hother hseq)]
  rfl

end

/-! ## Control frames -/

section
variable {p l : Nat} {s : State}

theorem controlSend_flow (hruns : framesRun p l s = true)
    (h : linkFenced p l s = true ∨ ((linkOf p l s).failDue = none ∧ (linkOf p l s).mapDue = none)) :
    controlSend p l s = sendFlow p l s := by
  rcases h with hfenced | ⟨hfail, hmap⟩
  · simp [controlSend, hruns, hfenced]
  · simp [controlSend, hruns, hfail, hmap]

/-- FLOW returns what is owed, at most 512 credits, and its NAK (R237, R238). -/
theorem linkOf_sendFlow (p l : Nat) (s : State) : linkOf p l (sendFlow p l s)
    = { linkOf p l s with owed := (linkOf p l s).owed - min (linkOf p l s).owed 512, nakDue := false } := by
  simp only [sendFlow, linkOf_emit, linkOf_onLink, Nat.min_def]

variable (hruns : framesRun p l s = true) (hopen : linkFenced p l s = false)
include hruns hopen

theorem controlSend_laneFail (hfirst : (linkOf p l s).mapFirst = false) {lane : Nat}
    (hfail : (linkOf p l s).failDue = some lane) : controlSend p l s = emit (.frame p l (ctlFrame 3 ([0] ++ bytesLE 1 lane)))
      (onLink p l (fun k => { k with failDue := none }) s) := by
  simp [controlSend, hruns, hopen, hfirst, hfail]

theorem controlSend_laneMap {lane count : Nat} (hfail : (linkOf p l s).failDue = none)
    (hmap : (linkOf p l s).mapDue = some (lane, count)) : controlSend p l s = mapSent p l lane count s := by
  simp [controlSend, hruns, hopen, hfail, hmap]

end

/-- A map that changes the one in force waits for its count (R246). -/
theorem linkOf_mapSent {p l : Nat} {s : State} (hfirst : (linkOf p l s).mapFirst = false) (lane count : Nat) :
    linkOf p l (mapSent p l lane count s)
      = { linkOf p l s with mapDue := none, mapFirst := false, txMap := some (lane, count) } := by
  simp [mapSent, hfirst]

/-- Locking on a map leaves credits and the retry buffer. -/
theorem linkOf_mapOver (p l : Nat) (s : State) : (linkOf p l (mapOver p l s)).credits = (linkOf p l s).credits
    ∧ (linkOf p l (mapOver p l s)).retry = (linkOf p l s).retry := by
  rw [mapOver, linkOf_onLink]
  split <;> exact ⟨rfl, rfl⟩

/-- FLOW without a NAK adds its credits, up to 512, and its ACK takes from the retry buffer what it covers (R238, R239). -/
theorem linkOf_flowReceive {p l : Nat} {frame : List Byte} {s : State} (hok : ctlFrameOk 1 frame = true)
    (hruns : framesRun p l s = true) (hnak : leAt frame 6 2 < 2 ^ 15) :
    (linkOf p l (flowReceive p l frame s)).credits = min ((linkOf p l s).credits + leAt frame 2 2) 512
    ∧ (linkOf p l (flowReceive p l frame s)).retry
      = if 2 ^ 15 ≤ leAt frame 4 2 then (retryPos (leAt frame 4 2 % 4096) (linkOf p l s)).elim (linkOf p l s).retry
          fun i => (linkOf p l s).retry.drop (i + 1)
        else (linkOf p l s).retry := by
  have htaken : ¬ ((!ctlFrameOk 1 frame) = true ∨ (!framesRun p l s) = true) := by simp [hok, hruns]
  unfold flowReceive
  rw [if_neg htaken]
  extract_lets credit ack nak credited acked
  rw [if_neg (Nat.not_le.mpr hnak)]
  have hcredits : (linkOf p l credited).credits = min ((linkOf p l s).credits + leAt frame 2 2) 512 :=
    (congrArg Link.credits (linkOf_onLink ..)).trans (Nat.min_def ..).symm
  have hretry : (linkOf p l credited).retry = (linkOf p l s).retry := by simp only [credited, linkOf_onLink]
  have hpos : retryPos (ack % 4096) (linkOf p l credited) = retryPos (ack % 4096) (linkOf p l s) := by
    rw [retryPos, hretry, retryPos]
  by_cases hack : 2 ^ 15 ≤ ack
  · simp only [acked, if_pos hack, hpos]
    rw [if_pos hack]
    cases retryPos (ack % 4096) (linkOf p l s) with
    | none => exact ⟨hcredits, hretry⟩
    | some i =>
      obtain ⟨hkeptCredits, hkeptRetry⟩ := linkOf_mapOver p l credited
      simp only [linkOf_onLink, hkeptCredits, hkeptRetry, hcredits, hretry, Option.elim_some, and_self]
  · simp only [acked, if_neg hack]
    rw [if_neg hack]
    exact ⟨hcredits, hretry⟩

/-! ## Time-outs -/

/-- A replay from a flit replayed less than eight times is counted and begins (R239). -/
theorem startReplay_counted {p l i : Nat} {s : State} {f : RetryFlit} (hflit : (linkOf p l s).retry[i]? = some f)
    (hreplays : f.replays < 8) :
    startReplay p l i s = onLink p l (fun k => { k with replay := some i }) (bump (LNK_LINK_CNT_RETRY p l) 1 s) := by
  simp [startReplay, hflit, Nat.not_le.mpr hreplays]

/-- 4 µs without an ACK start a replay of the flits that wait for one, counted (R239). -/
theorem retryTimeout_replays {p l : Nat} {s : State} {f : RetryFlit} {fs : List RetryFlit}
    (hserves : inService p l s = true) (hretry : (linkOf p l s).retry = f :: fs) (hreplays : f.replays < 8)
    (hguard : cscMode s ≠ 3) (htime : (linkOf p l s).ackAt + 44000 ≤ s.now) :
    retryTimeout p l s = onLink p l (fun k => { k with replay := some 0 })
      (bump (LNK_LINK_CNT_RETRY p l) 1 (onLink p l (fun k => { k with ackAt := s.now }) s)) := by
  have hover : (!(linkOf p l s).retry.isEmpty) = true ∧ inService p l s = true ∧ cscMode s ≠ 3
      ∧ (linkOf p l s).ackAt + 4 * usT ≤ s.now := ⟨by simp [hretry], hserves, hguard, htime⟩
  unfold retryTimeout
  extract_lets k
  rw [if_pos hover, startReplay_counted (f := f) (by simp [hretry]) hreplays]

/-- A flit whose plot may receive waits while its link has no POST (R257). -/
theorem takeFlit_waits {p l : Nat} {f : List Byte} {s : State} (hskip : (linkOf p l s).skip = false)
    (hposts : (linkOf p l s).posts = []) (hplot : plotPasses (fcwOf f).plot s = true) : takeFlit p l f s = (false, s) := by
  simp [takeFlit, hskip, hposts, hplot]

/-- While its first flit waits a link takes none. -/
theorem drainLink_waits {p l : Nat} {f : List Byte} {fs : List (List Byte)} {s : State}
    (hbuf : (linkOf p l s).rxBuf = f :: fs) (hwaits : takeFlit p l f s = (false, s)) (n : Nat) : drainLink p l n s = s := by
  cases n with
  | zero => rfl
  | succ n => simp [drainLink, hbuf, hwaits]

/-- The transfer that has waited too long is dropped, its credits returned, with a NO_POST fault (R257). -/
theorem nopostTimeout_drops {p l n : Nat} {ended : Bool} {f : List Byte} {fs rest : List (List Byte)} {s : State}
    (hbuf : (linkOf p l s).rxBuf = f :: fs) (hwaits : takeFlit p l f s = (false, s))
    (htime : (linkOf p l s).waitAt + 2 ^ fld LNK_CTRL_NOPOST_TMO s * 11000 ≤ s.now)
    (hdrop : dropTransfer (f :: fs) = (n, ended, rest)) :
    nopostTimeout p l s = linkFault 5 (fcwOf f).plot p l 0 (onLink p l (fun k => { k with
      rxBuf := rest, skip := !ended, owed := k.owed + n, waitAt := s.now }) s) := by
  have hover : ¬ s.now < (linkOf p l s).waitAt + 2 ^ fld LNK_CTRL_NOPOST_TMO s * usT := Nat.not_lt.mpr htime
  simp only [nopostTimeout, hbuf, drainLink_waits hbuf hwaits, ne_eq, not_true, if_false, if_neg hover, hdrop]

/-! ## The commands -/

theorem exec_flitSend_awake {t : Nat} {s u : State} (h : Awake t s u) (p l : Nat) :
    exec (.flitSend t p l) s = .next (after u (flitSend p l u)) := congrArg _ (command_awake h (flitSend p l))

theorem exec_transferStart_awake {t : Nat} {s u : State} (h : Awake t s u) (p id : Nat) :
    exec (.transferStart t p id) s = .next (after u (transferStart p id u)) :=
  congrArg _ (command_awake h (transferStart p id))

theorem exec_flitReceive_awake {t : Nat} {s u : State} (h : Awake t s u) (p l : Nat) (words : List Codeword)
    (frame : List Byte) : exec (.flitReceive t p l words frame) s = .next (after u (flitReceive p l words frame u)) :=
  congrArg _ (command_awake h (flitReceive p l words frame))

theorem exec_flow_awake {t : Nat} {s u : State} (h : Awake t s u) (p l : Nat) (frame : List Byte) :
    exec (.flow t p l frame) s = .next (after u (flowReceive p l frame u)) :=
  congrArg _ (command_awake h (flowReceive p l frame))

theorem exec_controlFrameSend_awake {t : Nat} {s u : State} (h : Awake t s u) (p l : Nat) :
    exec (.controlFrameSend t p l) s = .next (after u (controlSend p l u)) := congrArg _ (command_awake h (controlSend p l))

theorem exec_retryTimeout_awake {t : Nat} {s u : State} (h : Awake t s u) (p l : Nat) :
    exec (.retryTimeout t p l) s = .next (after u (retryTimeout p l u)) := congrArg _ (command_awake h (retryTimeout p l))

theorem exec_nopostTimeout_awake {t : Nat} {s u : State} (h : Awake t s u) (p l : Nat) :
    exec (.nopostTimeout t p l) s = .next (after u (nopostTimeout p l u)) :=
  congrArg _ (command_awake h (nopostTimeout p l))

/-- Settles O8: what a link may do and what stands in its queues decide each command's effect, and what a flit, a FLOW and
a map take is read off the link; that a codeword counts by its symbols in error is log entry 39. -/
theorem linkTransfersAnswer : Obligations.LinkTransfersAnswer := by
  refine ⟨fun t p l s u hu => ⟨fun hmay => ⟨fun x rest hreplay hsends hready => ?_, fun i f hreplay hflit => ?_,
      fun hreplay hnone => ?_, fun id x rest hl hreplay hsends hid hsent hother => ?_⟩, fun hruns hbarred => ?_⟩,
    fun t p l frame s u hu hserves => ⟨fun words bad hquar hbad => ⟨fun hsome => ?_, fun hnone hok hkind hseq => ?_⟩,
      fun hok hnak => ?_, fun lane hopen hfirst hfail => ?_, fun lane count hopen hfirst hfail hmap => ?_, fun hflow => ?_,
      fun f fs hretry hreplays hguard htime => ?_⟩,
    fun t p l n ended f fs rest s u hu hbuf hskip hposts hplot htime hdrop => ?_⟩
  · obtain ⟨frame, hlink⟩ := linkOf_sendNext p l x u
    have hsent : flitSend p l u = sendNext p l x u := by
      rw [flitSend_first hmay hreplay hsends, if_neg (by simp [hready])]
    refine ⟨_, exec_flitSend_awake hu p l, ?_⟩
    rw [hsent, hlink, linkOf_onLink]
    simp [onsetOver, flitGone, lastFlit, hsends]
  · rw [exec_flitSend_awake hu, flitSend_replays hmay hreplay hflit, replayFlit]
  · rw [exec_flitSend_awake hu]
    rcases hnone with hempty | ⟨x, rest, hsends, hwaits⟩
    · rw [flitSend_empty hmay hreplay hempty, sendIdle]
    · rw [flitSend_first hmay hreplay hsends, if_pos hwaits, sendIdle]
  · subst hid
    rw [exec_transferStart_awake hu, transferStart_one hl hmay hreplay hsends hsent hother]
  · rw [exec_flitSend_awake hu, flitSend_barred hruns hbarred, sendIdle]
  · rw [exec_flitReceive_awake hu, flitReceive_uncorrectable hserves hquar hbad hsome]
  · refine ⟨flitArrives p l frame u, ?_, linkOf_flitArrives p l frame u⟩
    rw [exec_flitReceive_awake hu, flitReceive_inOrder hserves hquar hbad hnone hok hkind hseq]
  · obtain ⟨hcredits, hretry⟩ := linkOf_flowReceive hok (framesRun_of_inService hserves) hnak
    refine ⟨_, exec_flow_awake hu p l frame, hcredits, fun hack => ?_, fun i hack hpos => ?_⟩
    · rw [hretry, if_neg (Nat.not_le.mpr hack)]
    · rw [hretry, if_pos hack, hpos, Option.elim_some]
  · rw [exec_controlFrameSend_awake hu, controlSend_laneFail (framesRun_of_inService hserves) hopen hfirst hfail]
  · refine ⟨_, exec_controlFrameSend_awake hu p l, ?_⟩
    rw [controlSend_laneMap (framesRun_of_inService hserves) hopen hfail hmap, linkOf_mapSent hfirst]
    exact ⟨rfl, rfl, rfl⟩
  · have hsent := controlSend_flow (framesRun_of_inService hserves) hflow
    refine ⟨_, exec_controlFrameSend_awake hu p l, hsent, ?_⟩
    rw [hsent, linkOf_sendFlow]
    exact ⟨rfl, rfl⟩
  · rw [exec_retryTimeout_awake hu, retryTimeout_replays hserves hretry hreplays hguard htime]
  · rw [exec_nopostTimeout_awake hu, nopostTimeout_drops hbuf (takeFlit_waits hskip hposts hplot) htime hdrop]

end Sys2Proof.Machine
end

/-! SUPPORT. Lane, transceiver and fibre failovers (R245, R246, R248, R311). -/
section
namespace Sys2Proof.Machine

theorem phaseOf_ne_failed_of_inService {p l : Nat} {s : State} (h : inService p l s = true) : phaseOf p l s ≠ .failed := by
  intro hfailed
  simp [inService, hfailed] at h

/-! ## Lanes -/

theorem unitPart_recordFailover (kind p l lane dir : Nat) (s : State) :
    unitPart (recordFailover kind p l lane dir s) = unitPart s := by
  rw [recordFailover, unitPart_holdFirst, unitPart_bump]

/-- A failover that begins does not change whether the sender has yet to state its map. -/
theorem mapFirst_beginFailover (kind p l lane dir : Nat) (s : State) :
    (linkOf p l (beginFailover kind p l lane dir s)).mapFirst = (linkOf p l s).mapFirst := by
  unfold beginFailover
  extract_lets held from_ reported
  have hlink : linkOf p l reported = linkOf p l s :=
    linkOf_of_unit ((unitPart_meshFault ..).trans (unitPart_recordFailover ..)) p l
  split <;> rw [linkOf_onLink, ← hlink]

section
variable {p l lane : Nat} {s : State}

/-- While wavelength 8 is free a lane given up begins a failover, and its sender owes the map and stops new flits (R246). -/
theorem moveLane_begins (hserves : inService p l s = true) (hlane : txLane p l s ≠ lane)
    (hspare : txSpareGone p l s = false) (hfirst : (linkOf p l s).mapFirst = false) (count : Nat) :
    moveLane true p l lane count s = onLink p l (fun k => { k with gaveUp := some lane })
      (onLink p l (fun k => { k with mapDue := some (lane, count), txHold := true, txOver := true })
        (beginFailover 1 p l lane 1 s)) := by
  simp [moveLane, hserves, hlane, hspare, nameMap, mapFirst_beginFailover, hfirst]

theorem laneFail_moves {frame : List Byte} (hok : ctlFrameOk 3 frame = true) (hnames : lane = leAt frame 2 1)
    (hlane : lane < 8) (count : Nat) : laneFail p l count frame s = moveLane true p l lane count s := by
  subst hnames
  exact if_pos ⟨hok, hlane⟩

section
variable (hserves : inService p l s = true) (hguard : cscMode s ≠ 3)
include hserves hguard

theorem laneGiveUp_tx {why : LaneFault} (hgives : givesUp p l 1 lane why s = true) (hlane : lane < 8) (count : Nat) :
    laneGiveUp p l 1 lane why count s = moveLane true p l lane count s := by
  simp [laneGiveUp, hserves, hguard, hgives, txGiveUp, hlane]

/-- A lane its receiver gives up, wavelength 8 being free, is asked of the sender by LANE_FAIL (R246). -/
theorem laneGiveUp_rx {why : LaneFault} (hgives : givesUp p l 0 lane why s = true) (hlane : lane < 8)
    (hspare : rxLane p l s = 15) (count : Nat) : laneGiveUp p l 0 lane why count s = onLink p l
      (fun k => { k with failDue := some lane, rxGiven := some lane, rxOver := true }) (beginFailover 1 p l lane 0 s) := by
  have hother : (15 : Nat) ≠ lane := by omega
  simp [laneGiveUp, hserves, hguard, hgives, rxGiveUp, hspare, hother, hlane]

end

section
variable {frame : List Byte} (hok : ctlFrameOk 4 frame = true) (hserves : inService p l s = true)
include hok hserves

theorem laneMap_kept (hnew : (linkOf p l s).newRx = false) : laneMap p l frame s
    = onLink p l (fun k => { k with rxMap := some (leAt frame 2 1 % 16, leAt frame 4 4) }) s := by
  simp [laneMap, hok, hserves, hnew]

theorem laneMap_states (hnew : (linkOf p l s).newRx = true) : laneMap p l frame s
    = setFld (LNK_LINK_STATUS_RX_SPARE_FOR p l) (leAt frame 2 1 % 16)
      (onLink p l (fun k => { k with newRx := false }) s) := by
  simp [laneMap, hok, hserves, hnew]

end

theorem laneMapApply_tx {count : Nat} (htx : (linkOf p l s).txMap = some (lane, count)) (hrx : (linkOf p l s).rxMap = none) :
    laneMapApply p l count s
      = setFld (LNK_LINK_STATUS_TX_SPARE_FOR p l) lane (onLink p l (fun k => { k with txMap := none }) s) := by
  simp [laneMapApply, htx, hrx]

theorem laneMapApply_rx {count : Nat} (htx : (linkOf p l s).txMap = none) (hrx : (linkOf p l s).rxMap = some (lane, count)) :
    laneMapApply p l count s = setFld (LNK_LINK_STATUS_RX_SPARE_FOR p l) lane
      (onLink p l (fun k => { k with rxMap := none, rxGiven := none }) s) := by
  simp [laneMapApply, htx, hrx]

/-- A receiver that has locked resumes, its NAK due (R246, R283). -/
theorem reAcquire_resumes (hphase : phaseOf p l s = .recovering) (hlit : rerouteDark p l s = false) : reAcquire p l s
    = onLink p l (fun k => { k with phase := .up, nakDue := true, discard := true, rxOver := false }) s :=
  if_pos ⟨by simp [hlit], .inl hphase⟩

end

/-! ## Transceivers and fibres -/

section
variable {p l : Nat} {s : State}

/-- A fault of a transceiver in use on a link in service is its failure. -/
theorem xcvrFault_fails (hl : l ≠ 16)
    (hinUse : flag (CSC_SUBST_XCVR_VALID p) s = true → fld (CSC_SUBST_XCVR_FOR p) s ≠ l)
    (hserves : inService p l s = true) (dir : Nat) : xcvrFault p l dir s = xcvrFail p l dir s := by
  have hfree : ¬ (flag (CSC_SUBST_XCVR_VALID p) s = true ∧ l = fld (CSC_SUBST_XCVR_FOR p) s) :=
    fun ⟨hvalid, hfor⟩ => hinUse hvalid hfor.symm
  simp only [xcvrFault, if_neg hl, if_neg hfree, if_pos hserves]

variable (hserves : inService p l s = true) (hguard : cscMode s ≠ 3)
include hserves hguard

/-- The spare transceiver, unused and sound, takes the link (R248). -/
theorem xcvrFail_substitutes (hvalid : flag (CSC_SUBST_XCVR_VALID p) s = false)
    (hbad : flag (CSC_SUBST_XCVR_SPARE_BAD p) s = false) (dir : Nat) :
    xcvrFail p l dir s = rerouteAll (toSpare p l (setFlds [(CSC_SUBST_XCVR_VALID p, 1), (CSC_SUBST_XCVR_FOR p, l)]
      (beginFailover 2 p l 0 dir s))) := by
  simp [xcvrFail, phaseOf_ne_failed_of_inService hserves, hguard, hvalid, hbad]

theorem xcvrFail_spareless (hvalid : flag (CSC_SUBST_XCVR_VALID p) s = true) (dir : Nat) :
    xcvrFail p l dir s = failLink p l s := by
  simp [xcvrFail, phaseOf_ne_failed_of_inService hserves, hguard, hvalid]

end

/-- Is the entry the circuit whose light comes in on fibre f of port p, a PASS or a DROP? -/
def litBy (p f : Nat) (q : Nat × Entry) : Bool :=
  (q.2.kind == 1 || q.2.kind == 2) && q.2.inPort == p && q.2.inIdx == f

/-- The fibre pair of a DROP whose link is in service moves to its spare (R248). -/
theorem lossOfLight_substitutes {p f b e : Nat} {y : Entry} {s : State} (hactive : activeBank s = some b)
    (hguard : cscMode s ≠ 3) (hvalid : flag (CSC_SUBST_FIBRE_VALID p) s = false)
    (hbad : flag (CSC_SUBST_FIBRE_SPARE_BAD p) s = false) (hlit : (entriesOf b s).find? (litBy p f) = some (e, y))
    (hdrop : y.kind = 2) (hserves : inService p y.llink s = true) :
    lossOfLight p f s = rerouteAll (fibreMoves b p f (setFlds [(CSC_SUBST_FIBRE_VALID p, 1), (CSC_SUBST_FIBRE_FOR p, f)]
      (beginFailover 3 p y.llink 0 0 (onCsc (fun c => { c with blocked := ins (17 * p + f) true c.blocked }) s)))) := by
  have hfound : (entriesOf b s).find? (fun (_, x) => (x.kind == 1 || x.kind == 2) && x.inPort == p && x.inIdx == f)
      = some (e, y) := hlit
  have hblocked (c : Csc → Csc) : inService p y.llink (onCsc c s) = true := hserves
  simp [lossOfLight, hactive, hguard, hvalid, hbad, hfound, hdrop, hblocked]

/-! ## The commands -/

theorem exec_laneFail_awake {t : Nat} {s u : State} (h : Awake t s u) (p l count : Nat) (frame : List Byte) :
    exec (.laneFail t p l count frame) s = .next (after u (laneFail p l count frame u)) :=
  congrArg _ (command_awake h (laneFail p l count frame))

theorem exec_laneGiveUp_awake {t : Nat} {s u : State} (h : Awake t s u) (p l dir lane : Nat) (why : LaneFault)
    (count : Nat) : exec (.laneGiveUp t p l dir lane why count) s = .next (after u (laneGiveUp p l dir lane why count u)) :=
  congrArg _ (command_awake h (laneGiveUp p l dir lane why count))

theorem exec_laneMap_awake {t : Nat} {s u : State} (h : Awake t s u) (p l : Nat) (frame : List Byte) :
    exec (.laneMap t p l frame) s = .next (after u (laneMap p l frame u)) := congrArg _ (command_awake h (laneMap p l frame))

theorem exec_laneMapApply_awake {t : Nat} {s u : State} (h : Awake t s u) (p l count : Nat) :
    exec (.laneMapApply t p l count) s = .next (after u (laneMapApply p l count u)) :=
  congrArg _ (command_awake h (laneMapApply p l count))

theorem exec_reAcquisition_awake {t : Nat} {s u : State} (h : Awake t s u) (p l : Nat) :
    exec (.reAcquisition t p l) s = .next (after u (reAcquire p l u)) := congrArg _ (command_awake h (reAcquire p l))

theorem exec_transceiverFault_awake {t : Nat} {s u : State} (h : Awake t s u) (p x dir : Nat) :
    exec (.transceiverFault t p x dir) s = .next (after u (xcvrFault p x dir u)) :=
  congrArg _ (command_awake h (xcvrFault p x dir))

theorem exec_lossOfLight_awake {t : Nat} {s u : State} (h : Awake t s u) (p f : Nat) :
    exec (.lossOfLight t p f) s = .next (after u (lossOfLight p f u)) := congrArg _ (command_awake h (lossOfLight p f))

/-- Settles O9: whether the spare of the lane, the transceiver or the fibre that failed is free decides the failover; that an
interruption is measured from what this end sees of it is log entry 26. -/
theorem laneFailoversAnswer : Obligations.LaneFailoversAnswer := by
  intro t p l s u hu
  refine ⟨fun hserves => ⟨fun lane count frame hlane htx hspare hfirst v hv =>
        ⟨fun hok hnames => ?_, fun why hguard hgives => ?_⟩,
      fun lane count why hguard hgives hlane hspare => ?_, fun frame hok => ⟨fun hnew => ?_, fun hnew => ?_⟩,
      fun dir hl hinUse hguard => ⟨fun hvalid hbad => ?_, fun hvalid => ?_⟩⟩,
    fun lane count htx hrx => ?_, fun lane count htx hrx => ?_, fun hphase hlit => ?_,
    fun f b e y hactive hguard hvalid hbad hlit hdrop hserves => ?_⟩
  · rw [exec_laneFail_awake hu, laneFail_moves hok hnames hlane, moveLane_begins hserves htx hspare hfirst, hv]
  · rw [exec_laneGiveUp_awake hu, laneGiveUp_tx hserves hguard hgives hlane, moveLane_begins hserves htx hspare hfirst, hv]
  · rw [exec_laneGiveUp_awake hu, laneGiveUp_rx hserves hguard hgives hlane hspare]
  · rw [exec_laneMap_awake hu, laneMap_kept hok hserves hnew]
  · rw [exec_laneMap_awake hu, laneMap_states hok hserves hnew]
  · rw [exec_transceiverFault_awake hu, xcvrFault_fails hl hinUse hserves, xcvrFail_substitutes hserves hguard hvalid hbad]
  · rw [exec_transceiverFault_awake hu, xcvrFault_fails hl hinUse hserves, xcvrFail_spareless hserves hguard hvalid]
  · rw [exec_laneMapApply_awake hu, laneMapApply_tx htx hrx]
  · rw [exec_laneMapApply_awake hu, laneMapApply_rx htx hrx]
  · refine ⟨_, exec_reAcquisition_awake hu p l, ?_⟩
    rw [reAcquire_resumes hphase hlit, phaseOf, linkOf_onLink]
    exact ⟨rfl, rfl, rfl, rfl⟩
  · rw [exec_lossOfLight_awake hu, lossOfLight_substitutes hactive hguard hvalid hbad hlit hdrop hserves]

end Sys2Proof.Machine
end

/-! SUPPORT. Training, its time-outs and the hello (R241, R242, R262). -/
section
namespace Sys2Proof.Machine

/-! ## Training -/

section
variable {p l b : Nat} {x : Entry} {i : TrainInfo} {s : State} (hbank : circuitBank s = some b)
  (hcircuit : dropEntry b p l s = some x) (htrains : portTrains p s = true)
include hbank hcircuit htrains

theorem trainingAdvance_signal (hphase : phaseOf p l s = .signal)
    (hlight : 8 ≤ (i.powers.filter fun x => decide (-1800 < x)).length) :
    trainingAdvance p l i s = setPhase p l .acquire s := by
  rw [phaseOf] at hphase
  simp only [trainingAdvance, hbank, hcircuit, htrains, hphase, if_pos hlight, Bool.not_true, Bool.false_eq_true, if_false]

theorem trainingAdvance_acquire (hphase : phaseOf p l s = .acquire) (hlocked : i.locked = true) :
    trainingAdvance p l i s = setPhase p l .negotiate s := by
  rw [phaseOf] at hphase
  simp [trainingAdvance, hbank, hcircuit, htrains, hphase, hlocked]

theorem trainingAdvance_negotiate {m : Nat} (hphase : phaseOf p l s = .negotiate)
    (hmode : commonMode i.caps i.lanes8 (fld (LNK_PORT_CTRL_MODE_CEIL p) s) = some m) :
    trainingAdvance p l i s
      = setPhase p l .verify (setMode p l m (m < 2 && bit i.caps 4 && flag LNK_CTRL_GEN1_DETECT s) s) := by
  rw [phaseOf] at hphase
  simp [trainingAdvance, hbank, hcircuit, htrains, hphase, hmode]

/-- Above the bit error limit the next lower mode is verified, where there is one. -/
theorem trainingAdvance_verifyFails (hphase : phaseOf p l s = .verify) (hfails : verifyPass i = false)
    (hmode : (linkOf p l s).mode ≠ 0) : trainingAdvance p l i s = setPhase p l .verify
      (setMode p l ((linkOf p l s).mode - 1) ((linkOf p l s).detect && (linkOf p l s).mode - 1 < 2) s) := by
  rw [phaseOf] at hphase
  simp [trainingAdvance, hbank, hcircuit, htrains, hphase, hfails, lowerMode, hmode]

end

/-- The states whose end of time returns a link to DOWN, each with its limit. -/
def downLimits : List (LinkPhase × Nat) := [(.signal, 44000000), (.acquire, 11000000), (.negotiate, 2200000)]

/-- In these states a link that outlasts its limit ends its training of this phase (R241). -/
theorem trainingTimeout_over {p l d : Nat} {s : State} (hlimit : (phaseOf p l s, d) ∈ downLimits)
    (htime : (linkOf p l s).since + d ≤ s.now) : trainingTimeout p l s = trainOver p l s := by
  have hover : ¬ s.now < (linkOf p l s).since + d := Nat.not_lt.mpr htime
  have hcases : phaseOf p l s = .signal ∧ d = 44000000 ∨ phaseOf p l s = .acquire ∧ d = 11000000
      ∨ phaseOf p l s = .negotiate ∧ d = 2200000 := by simpa [downLimits] using hlimit
  unfold trainingTimeout
  extract_lets k
  rcases hcases with ⟨hphase, rfl⟩ | ⟨hphase, rfl⟩ | ⟨hphase, rfl⟩
  all_goals
    have hk : k.phase = _ := hphase
    simp only [hk, trainLimit]
    exact if_neg hover

theorem linkOf_trainOver (p l : Nat) (s : State) :
    phaseOf p l (trainOver p l s) = .down ∧ (linkOf p l (trainOver p l s)).tried = true := by
  rw [phaseOf, trainOver, linkOf_onLink]
  exact ⟨phaseOf_setPhase .., rfl⟩

/-! ## The hello -/

/-- What a port records of a hello on a home circuit that agrees, none of its circuits in quarantine (R242). -/
def helloFields (p : Nat) (f : List Byte) : List (Fld × Nat) :=
  [(LNK_HELLO_PEER_VALID p, 1), (LNK_HELLO_PEER_X p, leAt f 2 2 % 16), (LNK_HELLO_PEER_Y p, leAt f 2 2 / 16 % 16),
    (LNK_HELLO_PEER_Z p, leAt f 2 2 / 256 % 8), (LNK_HELLO_PEER_PORT p, leAt f 4 1), (LNK_HELLO_MFST_VERSION p, leAt f 12 4),
    (LNK_HELLO_PEER_LINK p, leAt f 5 1), (LNK_PORT_STATUS_ITEM p, 0)]

theorem helloFields_ok (p : Nat) (f : List Byte) : ∀ x ∈ helloFields p f, fieldOk x.1 := by
  simp [helloFields, fieldOk]

theorem helloFields_apart (p : Nat) (f : List Byte) : (helloFields p f).Pairwise fun x y => fieldsApart x.1 y.1 := by
  simp [helloFields, fieldsApart]

/-- A link comes up with all its credits and its retry state anew (R241, R306). -/
theorem linkOf_linkUp (p l : Nat) (s : State) :
    phaseOf p l (linkUp p l s) = .up ∧ (linkOf p l (linkUp p l s)).credits = 512
    ∧ (linkOf p l (linkUp p l s)).txSeq = 0 ∧ (linkOf p l (linkUp p l s)).rxSeq = 0 := by
  have hdrawn (z : State) : linkOf p l (drawn z) = linkOf p l z := rfl
  simp [phaseOf, linkUp, newCircuit, newReceiver, newSender, setPhase, hdrawn]

theorem fld_linkUp (g : Fld) (p l : Nat) (s : State) : fld g (linkUp p l s) = fld g s := fld_congr rfl g

/-- No circuit of a port out of quarantine disagrees. -/
theorem others_agree {p : Nat} {s : State} (h : quarantined p s = false) (l : Nat) :
    ((List.range 16).any fun i => i != l && (linkOf p i s).quar) = false := by
  rw [quarantined, List.any_eq_false] at h
  rw [List.any_eq_false]
  exact fun i hi hboth => h i hi (Bool.and_eq_true_iff.mp hboth).2

theorem setFlds_append (fs gs : List (Fld × Nat)) : ∀ s, setFlds (fs ++ gs) s = setFlds gs (setFlds fs s) := by
  induction fs with
  | nil => exact fun _ => rfl
  | cons x fs ih => exact fun s => ih _

/-- A hello on a home circuit whose items agree is recorded, and brings its link up (R242). -/
theorem helloReceive_agrees {p l b : Nat} {f : List Byte} {s : State} (hbank : circuitBank s = some b)
    (hok : ctlFrameOk 2 f = true) (hphase : phaseOf p l s = .hello) (hhome : isHome b p l s = true)
    (hitem : helloItem b p l f s = 0) (hquar : quarantined p s = false) :
    helloReceive p l f s = linkUp p l (setFlds (helloFields p f) s) := by
  have hwaits : (linkOf p l (setFlds (helloFields p f) s)).phase = .hello := by rw [linkOf_setFlds, ← hphase, phaseOf]
  have hup : helloAgrees p l (setFlds (helloFields p f) s) = linkUp p l (setFlds (helloFields p f) s) :=
    if_pos (.inl hwaits)
  have htaken : ¬ ((!ctlFrameOk 2 f) = true
      ∨ (!decide (phaseOf p l s = .hello ∨ (linkOf p l s).quar = true ∨ phaseOf p l s = .up)) = true) := by
    simp [hok, hphase]
  rw [← hup]
  simp only [helloReceive, hbank]
  rw [if_neg htaken, if_pos hhome]
  simp only [hitem, others_agree hquar, if_true, Bool.false_eq_true, if_false, ← setFlds_append]
  rfl

theorem quarantineRehello_repeats {p : Nat} {s : State} (h : quarantined p s = true) :
    quarantineRehello p s = resendHello p s := if_pos h

/-- A write of LNK_PORT_CTRL that reaches it. -/
theorem regWrite_portCtrl {a : Accessor} {p : Nat} {s : State} (h : Reaches a s) (hp : p < 6) (w : Word) :
    regWrite a (rLNK_PORT_CTRL p) w [] s
      = hostFirst a (rLNK_PORT_CTRL p) (portCtrlWrite p w (writeLatches a (rLNK_PORT_CTRL p) s)) := by
  have hoffsets : ∀ p < 6, (rLNK_PORT_CTRL p % 4 = 0 ∧ (regRow (rLNK_PORT_CTRL p)).isSome = true)
      ∧ rLNK_PORT_CTRL p / 0x100000 = 6 ∧ rLNK_PORT_CTRL p ≠ rLNK_CTRL ∧ rLNK_PORT_CTRL p ≠ rLNK_CFG 0
      ∧ (0x600100 ≤ rLNK_PORT_CTRL p ∧ rLNK_PORT_CTRL p < 0x600160 ∧ rLNK_PORT_CTRL p % 16 = 0)
      ∧ (rLNK_PORT_CTRL p - 0x600100) / 16 = p := by decide
  obtain ⟨⟨halign, hrow⟩, hunit, hctrl, hcfg, hrange, hindex⟩ := hoffsets p hp
  rw [regWrite_direct h halign (by omega) hrow]
  simp only [writeReg, hunit]
  rw [linkRegWrite, if_neg hctrl, if_neg hcfg, if_pos hrange, hindex]

/-- REHELLO of a port that stays enabled repeats its hello alone (R262). -/
theorem portCtrlWrite_rehello {p : Nat} {w : Word} {s : State} (hgo : wfld (LNK_PORT_CTRL_REHELLO p) w = 1)
    (henable : flag (LNK_PORT_CTRL_ENABLE p) (plainWrite (rLNK_PORT_CTRL p) w s) = true) :
    portCtrlWrite p w s = resendHello p (plainWrite (rLNK_PORT_CTRL p) w s) := by
  simp [portCtrlWrite, hgo, henable]

/-! ## The commands -/

theorem exec_linkTrainingAdvance_awake {t : Nat} {s u : State} (h : Awake t s u) (p l : Nat) (i : TrainInfo) :
    exec (.linkTrainingAdvance t p l i) s = .next (after u (trainingAdvance p l i u)) :=
  congrArg _ (command_awake h (trainingAdvance p l i))

theorem exec_trainingTimeout_awake {t : Nat} {s u : State} (h : Awake t s u) (p l : Nat) :
    exec (.trainingTimeout t p l) s = .next (after u (trainingTimeout p l u)) :=
  congrArg _ (command_awake h (trainingTimeout p l))

theorem exec_hello_awake {t : Nat} {s u : State} (h : Awake t s u) (p l : Nat) (frame : List Byte) :
    exec (.hello t p l frame) s = .next (after u (helloReceive p l frame u)) :=
  congrArg _ (command_awake h (helloReceive p l frame))

theorem exec_quarantineRehello_awake {t : Nat} {s u : State} (h : Awake t s u) (p : Nat) :
    exec (.quarantineRehello t p) s = .next (after u (quarantineRehello p u)) :=
  congrArg _ (command_awake h (quarantineRehello p))

theorem exec_rehello_awake {t : Nat} {s u : State} (h : Awake t s u) (a : Accessor) (p : Nat) (w : Word) :
    exec (.rehello t a p w) s = .next (after u (regWrite a (rLNK_PORT_CTRL p) w [] u)) :=
  congrArg _ (command_awake h (regWrite a (rLNK_PORT_CTRL p) w []))

/-- Settles O10: the link's phase and its time decide each step of training, and what a hello that agrees records and starts
is read off the port and the link. -/
theorem linkTrainingAnswer : Obligations.LinkTrainingAnswer := by
  intro t p l b s u x hu hbank hcircuit
  refine ⟨fun htrains i => ⟨fun hphase hlight => ?_, fun hphase hlocked => ?_, fun m hphase hmode => ?_,
      fun hphase hfails hmode => ?_⟩,
    fun d hlimit htime => ⟨_, exec_trainingTimeout_awake hu p l, trainingTimeout_over hlimit htime, ?_⟩,
    fun f hok hphase hhome hitem hquar hp => ⟨_, exec_hello_awake hu p l f, ?_⟩,
    fun hquar => ?_, fun a w z hp hr hgo hz henable => ?_⟩
  · rw [exec_linkTrainingAdvance_awake hu, trainingAdvance_signal hbank hcircuit htrains hphase hlight]
  · rw [exec_linkTrainingAdvance_awake hu, trainingAdvance_acquire hbank hcircuit htrains hphase hlocked]
  · rw [exec_linkTrainingAdvance_awake hu, trainingAdvance_negotiate hbank hcircuit htrains hphase hmode]
  · rw [exec_linkTrainingAdvance_awake hu, trainingAdvance_verifyFails hbank hcircuit htrains hphase hfails hmode]
  · rw [trainingTimeout_over hlimit htime]
    exact linkOf_trainOver p l u
  · obtain ⟨hup, hcredits, htx, hrx⟩ := linkOf_linkUp p l (setFlds (helloFields p f) u)
    have hshown {y : Fld × Nat} (hy : y ∈ helloFields p f) :=
      fld_setFlds_mem _ u (helloFields_ok p f) (helloFields_apart p f) y hy
    rw [helloReceive_agrees hbank hok hphase hhome hitem hquar, fld_linkUp, fld_linkUp]
    exact ⟨hup, hcredits, htx, hrx, hshown (y := (LNK_PORT_STATUS_ITEM p, 0)) (by simp [helloFields]),
      hshown (y := (LNK_HELLO_PEER_VALID p, 1)) (.head _)⟩
  · rw [exec_quarantineRehello_awake hu, quarantineRehello_repeats hquar]
  · subst hz
    rw [exec_rehello_awake hu, regWrite_portCtrl hr hp, portCtrlWrite_rehello hgo henable]

end Sys2Proof.Machine
end

/-! SUPPORT. The registers of the circuit switch (R275, R278, R285, R288): what a write of each does. -/
section
namespace Sys2Proof.Machine

/-! ## Reading after a write -/

/-- Of two writes of one cycle the register they reach alone tells. -/
theorem reg_hostFirst {o off : Nat} (h : o ≠ off) (a : Accessor) (s : State) : reg o (hostFirst a off s) = reg o s := by
  unfold hostFirst
  split
  · rfl
  · simp only
    split
    · exact reg_setUpds ..
    · split
      · exact reg_setReg_other h _ _
      · rfl

theorem fld_hostFirst {f : Fld} {off : Nat} (h : f.off ≠ off) (a : Accessor) (s : State) :
    fld f (hostFirst a off s) = fld f s := by
  rw [fld, reg_hostFirst h, fld]

theorem hostFirst_csc (a : Accessor) (off : Nat) (s : State) : (hostFirst a off s).csc = s.csc :=
  csc_of_unit (unitPart_hostFirst ..)

theorem writeLatches_csc (a : Accessor) (off : Nat) (s : State) : (writeLatches a off s).csc = s.csc :=
  (congrArg State.csc (latchless_writeLatches a off s) : (latchlessPart (writeLatches a off s)).csc = (latchlessPart s).csc)

/-! ## The registers -/

/-- An offset of a register of the circuit switch. -/
abbrev cscRegister (off : Nat) : Prop := off / 0x100000 = 7 ∧ off % 4 = 0 ∧ (regRow off).isSome = true

/-- A write of a register of the circuit switch that reaches it. -/
theorem regWrite_csc {a : Accessor} {off : Nat} {s : State} (h : Reaches a s) (hoff : cscRegister off) (w : Word) :
    regWrite a off w [] s = hostFirst a off (cscRegWrite a off w (writeLatches a off s)) := by
  obtain ⟨hunit, halign, hrow⟩ := hoff
  rw [regWrite_direct h halign (by omega) hrow]
  simp only [writeReg, hunit]

theorem regWrite_cscCtrl {a : Accessor} {s : State} (h : Reaches a s) (w : Word) :
    regWrite a rCSC_CTRL w [] s
      = hostFirst a rCSC_CTRL (cscCtrl a w (plainWrite rCSC_CTRL w (writeLatches a rCSC_CTRL s))) := by
  rw [regWrite_csc h (by decide), cscRegWrite, if_pos rfl]

theorem regWrite_trigCtrl {a : Accessor} {s : State} (h : Reaches a s) (w : Word) :
    regWrite a rCSC_TRIG_CTRL w [] s
      = hostFirst a rCSC_TRIG_CTRL (cscTrigCtrl a w (plainWrite rCSC_TRIG_CTRL w (writeLatches a rCSC_TRIG_CTRL s))) := by
  rw [regWrite_csc h (by decide), cscRegWrite, if_neg (by decide), if_pos rfl]

/-! ## The entries -/

/-- The offset of a word of entry e of bank b. -/
abbrev entryOffset (b e : Nat) (hi : Bool) : Nat := if hi then rCSC_ENTRY_HI b e else rCSC_ENTRY_LO b e

theorem entryOffset_eq (b e : Nat) (hi : Bool) : entryOffset b e hi = (if hi then 0x710004 else 0x710000) + 2048 * b + 8 * e := by
  cases hi <;> rfl

theorem cscRegister_entry {b e : Nat} (hb : b < 8) (he : e < 256) (hi : Bool) : cscRegister (entryOffset b e hi) := by
  have hunit : entryOffset b e hi / 0x100000 = 7 ∧ entryOffset b e hi % 4 = 0 := by
    rw [entryOffset_eq]
    split <;> omega
  have hrow (base mask : Nat) (hlisted : ⟨base, 8, 2048, 256, 8, 0, 0, mask, 0, 0, 0⟩ ∈ regCsc)
      (hbase : entryOffset b e hi = base + 2048 * b + 8 * e) : (regRow (entryOffset b e hi)).isSome = true := by
    refine row_of _ (block_csc hunit.1) hlisted ?_
    rw [hbase, Nat.mul_comm 2048, Nat.mul_comm 8]
    exact rowIndex_two (r := ⟨base, 8, 2048, 256, 8, 0, 0, mask, 0, 0, 0⟩) (by simp) hb he (by simp) (by simp)
  refine ⟨hunit.1, hunit.2, ?_⟩
  cases hi
  case false => exact hrow 0x710000 0xE7FFFFF8 (by decide) (entryOffset_eq ..)
  case true => exact hrow 0x710004 0xFFE00000 (by decide) (entryOffset_eq ..)

/-- A word of an entry of a bank that is not protected is stored, and the bank is WRITTEN (R275). -/
theorem cscRegWrite_entry {b e : Nat} {s : State} (hb : b < 8) (he : e < 256) (hfree : bankProtected b s = false)
    (a : Accessor) (hi : Bool) (w : Word) : cscRegWrite a (entryOffset b e hi) w s
      = entryWritten b (plainWrite (entryOffset b e hi) w s) := by
  have hrange : 0x710000 ≤ entryOffset b e hi ∧ entryOffset b e hi < 0x714000
      ∧ (entryOffset b e hi - 0x710000) / 2048 = b := by
    rw [entryOffset_eq]
    split <;> omega
  obtain ⟨hlow, hhigh, hbank⟩ := hrange
  generalize entryOffset b e hi = off at hlow hhigh hbank
  have hother : off ≠ rCSC_CTRL ∧ off ≠ rCSC_TRIG_CTRL ∧ ¬ (off = rCSC_TRIG_TIME_LO ∨ off = rCSC_TRIG_TIME_HI)
      ∧ ¬ (rCSC_PLOT 0 ≤ off ∧ off ≤ rCSC_PLOT 15) := by
    simp only [rCSC_CTRL, rCSC_TRIG_CTRL, rCSC_TRIG_TIME_LO, rCSC_TRIG_TIME_HI, rCSC_PLOT]
    omega
  obtain ⟨hctrl, htrig, htime, hplot⟩ := hother
  rw [cscRegWrite, if_neg hctrl, if_neg htrig, if_neg htime, if_neg hplot, if_pos ⟨hlow, hhigh⟩, hbank]
  exact if_neg (by simp [hfree])

/-! ## The actions of CSC_CTRL -/

section
variable {a : Accessor} {w : Word} (s : State)

/-- STAGE_GO alone (R275). -/
theorem cscCtrl_stage (hstage : wfld CSC_CTRL_STAGE_GO w = 1) (hunfence : wfld CSC_CTRL_UNFENCE w = 0)
    (hgo : wfld CSC_CTRL_REPLAN_GO w = 0) (hnow : wfld CSC_CTRL_REPLAN_NOW w = 0) :
    cscCtrl a w s = stageGo (wfld CSC_CTRL_STAGE_BANK w) s := by
  simp [cscCtrl, replanWrite, hstage, hunfence, hgo, hnow]

/-- UNFENCE alone (R288). -/
theorem cscCtrl_unfence (hstage : wfld CSC_CTRL_STAGE_GO w = 0) (hunfence : wfld CSC_CTRL_UNFENCE w = 1)
    (hgo : wfld CSC_CTRL_REPLAN_GO w = 0) (hnow : wfld CSC_CTRL_REPLAN_NOW w = 0) : cscCtrl a w s = unfence s := by
  simp [cscCtrl, replanWrite, hstage, hunfence, hgo, hnow]

/-- REPLAN_GO and REPLAN_NOW without the other actions (R285). -/
theorem cscCtrl_replan (hstage : wfld CSC_CTRL_STAGE_GO w = 0) (hunfence : wfld CSC_CTRL_UNFENCE w = 0) :
    cscCtrl a w s = replanWrite a (wfld CSC_CTRL_REPLAN_GO w == 1) (wfld CSC_CTRL_REPLAN_NOW w == 1) s := by
  simp [cscCtrl, hstage, hunfence]

end

end Sys2Proof.Machine
end

/-! SUPPORT. The banks of the circuit switch: entry writes, checks and re-routes (R275–R277, R290). -/
section
namespace Sys2Proof.Machine

/-! ## What a bank shows -/

/-- Protection of a bank is read off the registers and the switch alone. -/
theorem bankProtected_congr {s v : State} (hregs : v.regs = s.regs) (hcsc : v.csc = s.csc) (b : Nat) :
    bankProtected b v = bankProtected b s := by
  simp only [bankProtected, bankState, fld_congr hregs, hcsc]

/-- A bank that is neither STAGED nor ACTIVE is not READY. -/
theorem bankReady_of_state {b n : Nat} {s : State} (h : bankState b s = n) (hstaged : n ≠ 3) (hactive : n ≠ 6) :
    bankReady b s = false := by
  simp [bankReady, h, hstaged, hactive]

/-! ## Entry writes -/

/-- An entry write of a bank that is not protected (R275). -/
theorem regWrite_entry {a : Accessor} {b e : Nat} {s : State} (h : Reaches a s) (hb : b < 8) (he : e < 256)
    (hfree : bankProtected b s = false) (hi : Bool) (w : Word) : regWrite a (entryOffset b e hi) w [] s
      = hostFirst a (entryOffset b e hi)
        (entryWritten b (plainWrite (entryOffset b e hi) w (writeLatches a (entryOffset b e hi) s))) := by
  rw [regWrite_csc h (cscRegister_entry hb he hi), cscRegWrite_entry hb he]
  exact (bankProtected_congr (writeLatches_regs ..) (writeLatches_csc ..) b).trans hfree

theorem bankStatus_ne_entryOffset {b : Nat} (hb : b < 8) (c e : Nat) (hi : Bool) : rCSC_BANK_STATUS b ≠ entryOffset c e hi := by
  rw [entryOffset_eq, rCSC_BANK_STATUS]
  split <;> omega

theorem bankState_entryWritten (b : Nat) (s : State) : bankState b (entryWritten b s) = 1 := by
  have hdigest : ∀ i t, bankState b (setReg (rCSC_BANK_DIG b i) 0 t) = bankState b t := fun i t => by
    rw [bankState, fld, reg_setReg_other (by simp only [rCSC_BANK_STATUS, rCSC_BANK_DIG]; omega)]
    rfl
  rw [entryWritten, loop_keeps hdigest]
  exact fld_setFld_same (CSC_BANK_STATUS_STATE b) (fieldOk_of rfl) 1 s

/-! ## STAGE_GO -/

/-- What CSC_BANK_STATUS shows as a check begins. -/
def checkingFields (b : Nat) : List (Fld × Nat) :=
  [(CSC_BANK_STATUS_STATE b, 2), (CSC_BANK_STATUS_REASON b, 0), (CSC_BANK_STATUS_ENTRY b, 0)]

/-- STAGE_GO for a bank that is not protected (R275). -/
theorem stageGo_checks {b : Nat} {s : State} (hfree : bankProtected b s = false) :
    stageGo b s = onCsc (fun c => { c with checking := ins b s.now c.checking }) (setFlds (checkingFields b) s) :=
  if_neg (by simp [hfree])

theorem fld_stageGo {b : Nat} {s : State} (hfree : bankProtected b s = false) {x : Fld × Nat} (hx : x ∈ checkingFields b) :
    fld x.1 (stageGo b s) = x.2 % 2 ^ (x.1.hi + 1 - x.1.lo) := by
  rw [stageGo_checks hfree, fld_onCsc]
  exact fld_setFlds_mem _ s (by simp [checkingFields, fieldOk]) (by simp [checkingFields, fieldsApart]) x hx

theorem stageGo_checking {b : Nat} {s : State} (hfree : bankProtected b s = false) :
    (stageGo b s).csc.checking = ins b s.now s.csc.checking := by
  rw [stageGo_checks hfree]
  exact congrArg (fun c : Csc => ins b s.now c.checking) (csc_of_unit (unitPart_setFlds (checkingFields b) s))

/-! ## The end of a check, and of a re-route -/

/-- The end of the check of a bank that is CHECKING gives the verdict and reports it (R276, R277). -/
theorem bankChecked_reports {b : Nat} {s : State} (hstate : bankState b s = 2) :
    bankChecked b s = planReported b (verdict b (refusal b (checkingOver b s)) (checkingOver b s)) := by
  rw [bankChecked, checkingEnd, if_neg (not_not_intro hstate)]

theorem verdict_refused (b r e : Nat) (s : State) : verdict b (some (r, e)) s
    = setFlds [(CSC_BANK_STATUS_STATE b, 4), (CSC_BANK_STATUS_REASON b, r), (CSC_BANK_STATUS_ENTRY b, e)] s := by
  rw [verdict]

theorem verdict_mismatch {b : Nat} {s : State} (h : digestDiffers b s = true) :
    verdict b none s = setFld (CSC_BANK_STATUS_STATE b) 5 s := if_pos h

theorem verdict_staged {b : Nat} {s : State} (h : digestDiffers b s = false) :
    verdict b none s = setFld (CSC_BANK_STATUS_STATE b) 3 s := if_neg (by simp [h])

/-- A bank that no plan message staged is not reported (R26). -/
theorem planReported_unplanned {b : Nat} {s : State} (h : s.fw.planned.contains b = false) : planReported b s = s :=
  if_pos (.inl (by rw [h]; rfl))

theorem rerouteBank_regs (b : Nat) (s : State) : (rerouteBank b s).regs = s.regs := by
  unfold rerouteBank
  extract_lets
  split
  split <;> rfl

/-- The first bank to be re-routed, not the active one: its paths move, and its re-route is over (R290). -/
theorem rerouteDone_inactive {b : Nat} {s : State} (howed : s.csc.reroute.testBit b = true)
    (hfirst : s.csc.reroute % 2 ^ b = 0) (hinactive : activeBank s ≠ some b) :
    rerouteDone b s = onCsc (fun c => { c with reroute := c.reroute - 2 ^ b }) (rerouteBank b s) := by
  have hsame : activeBank (onCsc (fun c => { c with reroute := c.reroute - 2 ^ b }) (rerouteBank b s)) = activeBank s := by
    simp only [activeBank, flag, fld_congr (s := onCsc _ _) (rerouteBank_regs b s)]
    rfl
  rw [rerouteDone, if_neg (by simp [howed, hfirst])]
  exact if_pos (hsame ▸ hinactive)

/-! ## The commands -/

theorem exec_entryWrite_awake {t : Nat} {s u : State} (h : Awake t s u) (a : Accessor) (b e : Nat) (hi : Bool) (w : Word) :
    exec (.entryWrite t a b e hi w) s = .next (after u (regWrite a (entryOffset b e hi) w [] u)) :=
  congrArg _ (command_awake h (regWrite a (entryOffset b e hi) w []))

theorem exec_stageGo_awake {t : Nat} {s u : State} (h : Awake t s u) (a : Accessor) (w : Word) :
    exec (.stageGo t a w) s = .next (after u (regWrite a rCSC_CTRL w [] u)) :=
  congrArg _ (command_awake h (regWrite a rCSC_CTRL w []))

theorem exec_checkingEnd_awake {t : Nat} {s u : State} (h : Awake t s u) (b : Nat) :
    exec (.checkingEnd t b) s = .next (after u (bankChecked b u)) :=
  congrArg _ (command_awake h (bankChecked b))

theorem exec_rerouteDone_awake {t : Nat} {s u : State} (h : Awake t s u) (b : Nat) :
    exec (.rerouteDone t b) s = .next (after u (rerouteDone b u)) :=
  congrArg _ (command_awake h (rerouteDone b))

/-- Settles O11: a bank that is not protected takes the entry or begins its check, and the end of the check is the verdict on
what routing left, reported. -/
theorem circuitBanksAnswer : Obligations.CircuitBanksAnswer := by
  refine ⟨?entry, ?stage, ?checked, ?rerouted⟩
  case entry =>
    intro t b e off a hi w s u z hu ha hb he hoff hfree hz
    have hoffset : off = entryOffset b e hi := hoff
    subst hz hoffset
    have heffect := regWrite_entry ha hb he hfree hi w
    have hstate := (fld_hostFirst (f := CSC_BANK_STATUS_STATE b) (bankStatus_ne_entryOffset hb b e hi) a _).trans
      (bankState_entryWritten b (plainWrite (entryOffset b e hi) w (writeLatches a (entryOffset b e hi) u)))
    refine ⟨_, exec_entryWrite_awake hu a b e hi w, heffect, ?_⟩
    rw [heffect]
    exact ⟨hstate, bankReady_of_state hstate (by decide) (by decide)⟩
  case stage =>
    intro t b a w s u z hu ha hstage hunfence hgo hnow hz hb hfree
    subst hz
    have heffect := regWrite_cscCtrl ha w
    rw [cscCtrl_stage _ hstage hunfence hgo hnow, ← hb] at heffect
    have hstatus : rCSC_BANK_STATUS b ≠ rCSC_CTRL := by
      rw [rCSC_BANK_STATUS, rCSC_CTRL]
      omega
    have hstate : bankState b (hostFirst a rCSC_CTRL _) = 2 :=
      (fld_hostFirst hstatus a _).trans (fld_stageGo hfree (x := (CSC_BANK_STATUS_STATE b, 2)) (.head _))
    refine ⟨_, exec_stageGo_awake hu a w, heffect, ?_⟩
    rw [heffect]
    exact ⟨hstate, bankReady_of_state hstate (by decide) (by decide),
      (fld_hostFirst hstatus a _).trans (fld_stageGo hfree (x := (CSC_BANK_STATUS_REASON b, 0)) (.tail _ (.head _))),
      (congrArg Csc.checking (hostFirst_csc ..)).trans (stageGo_checking hfree)⟩
  case checked =>
    intro t b s u w hu hstate hw
    subst hw
    rw [exec_checkingEnd_awake hu, bankChecked_reports hstate]
    refine ⟨fun r e hrefused => ?_, fun hrefused hdiffers => ?_, fun hrefused hagrees => ?_, fun x hunplanned hsame => ?_⟩
    · rw [hrefused, verdict_refused]
    · rw [hrefused, verdict_mismatch hdiffers]
    · rw [hrefused, verdict_staged hagrees]
    · exact planReported_unplanned (hsame ▸ hunplanned)
  case rerouted =>
    intro t b s u hu howed hfirst hinactive
    rw [exec_rerouteDone_awake hu, rerouteDone_inactive howed hfirst hinactive]

end Sys2Proof.Machine
end

/-! SUPPORT. Triggers and the guard of the circuit switch (R278–R283, R288, R292). -/
section
namespace Sys2Proof.Machine

/-! ## The armed trigger -/

/-- What CSC_STATUS shows of an armed trigger. -/
def armedFields (x : Trig) : List (Fld × Nat) :=
  [(CSC_STATUS_ARMED, 1), (CSC_STATUS_ARMED_BANK, x.bank), (CSC_STATUS_ARM_SRC, x.src), (CSC_STATUS_ARM_PLOT, x.plot)]

theorem setTrig_csc (x : Option Trig) (s : State) : (setTrig x s).csc = { s.csc with trig := x } := by
  cases x <;> exact csc_of_unit (unitPart_setFlds _ (onCsc _ s))

theorem fld_setTrig_some (x : Trig) (s : State) {y : Fld × Nat} (hy : y ∈ armedFields x) :
    fld y.1 (setTrig (some x) s) = y.2 % 2 ^ (y.1.hi + 1 - y.1.lo) :=
  fld_setFlds_mem (armedFields x) _ (by simp [armedFields, fieldOk]) (by simp [armedFields, fieldsApart]) y hy

theorem fld_setTrig_none (s : State) : fld CSC_STATUS_ARMED (setTrig none s) = 0 :=
  fld_setFlds_mem _ _ (by decide) (by decide) (CSC_STATUS_ARMED, 0) (.head _)

theorem wfld_lt (f : Fld) (w : Word) : wfld f w < 2 ^ (f.hi + 1 - f.lo) := bits_lt ..

/-! ## CSC_TRIG_CTRL -/

theorem cscTrigCtrl_arm {w : Word} (harm : wfld CSC_TRIG_CTRL_ARM w = 1) (hdisarm : wfld CSC_TRIG_CTRL_DISARM w = 0)
    (a : Accessor) (s : State) : cscTrigCtrl a w s = registerArm a (wfld CSC_TRIG_CTRL_BANK w) s := by
  simp [cscTrigCtrl, harm, hdisarm]

theorem cscTrigCtrl_disarm {w : Word} (harm : wfld CSC_TRIG_CTRL_ARM w = 0) (hdisarm : wfld CSC_TRIG_CTRL_DISARM w = 1)
    (a : Accessor) (s : State) : cscTrigCtrl a w s = registerDisarm s := by
  simp [cscTrigCtrl, harm, hdisarm]

/-- An arm that no check refuses (R279). -/
theorem cscArm_arms {src plot bank t : Nat} {s : State} (h : armRefused src plot bank t s = none) (pc : Nat) :
    cscArm src plot bank pc t s = setTrig (some ⟨bank, t, src, plot, pc⟩) s := by
  rw [cscArm, h]

theorem registerArm_arms {bank : Nat} {s : State}
    (h : armRefused 0 0 bank (reg64 rCSC_TRIG_TIME_LO rCSC_TRIG_TIME_HI s) s = none) (a : Accessor) : registerArm a bank s
      = setTrig (some ⟨bank, reg64 rCSC_TRIG_TIME_LO rCSC_TRIG_TIME_HI s, 0, 0, 0⟩) s := by
  rw [registerArm, cscArm_arms h, h]
  rfl

/-- DISARM of a register trigger whose time has not come (R292). -/
theorem registerDisarm_disarms {x : Trig} {s : State} (htrig : s.csc.trig = some x) (hsrc : x.src = 0)
    (hearly : fireDue x s = false) : registerDisarm s = setTrig none s := by
  simp [registerDisarm, htrig, hsrc, hearly]

/-! ## Operations of the circuit slot -/

/-- The effect of an operation of the circuit slot whose run is still in progress (R278). -/
def circuitOp (o : CscOp) (s : State) : State :=
  match o.op with
  | 1 => cscArm 1 o.plot o.bank o.pc (s.slice.number * sliceNs s + o.tofs) s
  | 2 => cscArm 1 o.plot o.bank o.pc ((mstM s + 1016 * nsM - 1) / (16 * nsM) * 16) s
  | _ => slotDisarm o.plot s

/-- ARM: at TOFS from the start of the slice in progress. -/
theorem circuitOp_arm {o : CscOp} (h : o.op = 1) (s : State) :
    circuitOp o s = cscArm 1 o.plot o.bank o.pc (s.slice.number * sliceNs s + o.tofs) s := by
  simp only [circuitOp, h]

/-- SWAP: 1.0 µs after the arrival, on a multiple of 16 ns. -/
theorem circuitOp_swap {o : CscOp} (h : o.op = 2) (s : State) :
    circuitOp o s = cscArm 1 o.plot o.bank o.pc ((mstM s + 1016 * nsM - 1) / (16 * nsM) * 16) s := by
  simp only [circuitOp, h]

theorem circuitOp_disarm {o : CscOp} (h : o.op = 3) (s : State) : circuitOp o s = slotDisarm o.plot s := by
  simp only [circuitOp, h]

section
variable {o : CscOp} {os : List CscOp} {s : State} (hops : s.csc.ops = o :: os) (harrived : o.at_ ≤ s.now)
include hops harrived

theorem circuitOpArrival_dropped (hended : runOf o.plot s = false) :
    circuitOpArrival s = onCsc (fun c => { c with ops := os }) s := by
  have hrun : runOf o.plot (onCsc (fun c => { c with ops := os }) s) = false := hended
  simp only [circuitOpArrival, hops, if_neg (Nat.not_lt.mpr harrived), hrun]
  rfl

theorem circuitOpArrival_acts (hrun : runOf o.plot s = true) (hno : s.seq.runNo = o.run) :
    circuitOpArrival s = circuitOp o (onCsc (fun c => { c with ops := os }) s) := by
  have hruns : (!(runOf o.plot (onCsc (fun c => { c with ops := os }) s)
      && (onCsc (fun c => { c with ops := os }) s).seq.runNo == o.run)) = false := by
    simp only [onCsc_seq, hno, beq_self_eq_true, Bool.and_true, Bool.not_eq_false']
    exact hrun
  simp only [circuitOpArrival, hops, if_neg (Nat.not_lt.mpr harrived), hruns]
  rfl

end

/-! ## Fires -/

theorem fire_due {x : Trig} {s : State} (htrig : s.csc.trig = some x) (hdue : x.at_ * nsM ≤ mstM s) :
    fire s = fireBank x.src x.plot x.bank x.pc x.at_ (setTrig none s) := by
  simp [fire, htrig, fireDue, hdue]

section
variable {bank : Nat} {s : State} (src plot pc t : Nat)

theorem fireBank_missed (hready : bankReady bank s = false) :
    fireBank src plot bank pc t s = missFire 7 src plot bank pc s := if_pos (.inl (by simp [hready]))

theorem fireBank_active (hready : bankReady bank s = true) (hmode : cscMode s = 2) (hactive : activeBank s = some bank) :
    fireBank src plot bank pc t s = setFld CSC_STATUS_MISS_FENCE 0 s := by
  simp [fireBank, hready, hmode, hactive]

theorem fireBank_swaps (hready : bankReady bank s = true) (hmode : cscMode s = 2) (hother : activeBank s ≠ some bank) :
    fireBank src plot bank pc t s = beginGuard bank t s := by
  simp [fireBank, hready, hmode, hother]

end

/-! ## The guard -/

/-- A guard past its switch: the elements are driven, and the outputs that leave use are dark (R281). -/
def guardDriven (g : Guard) (s : State) : State :=
  closeShutters (((g.old.map (bankOuts · s)).getD []).filter fun o => !(bankOuts g.bank s).contains o)
    (driveBank g.bank (onCsc (fun c => { c with guard := some { g with switched := true } }) s))

theorem guardDriven_regs (g : Guard) (s : State) : (guardDriven g s).regs = s.regs := rfl

theorem guardDriven_guard (g : Guard) (s : State) : (guardDriven g s).csc.guard = some { g with switched := true } := rfl

theorem guardDriven_fabDue (g : Guard) (s : State) : (guardDriven g s).csc.fabDue = s.csc.fabDue := rfl

theorem bankElems_onGuard (g : Option Guard) (b : Nat) (s : State) :
    bankElems b (onCsc (fun c => { c with guard := g }) s) = bankElems b s := rfl

theorem guardDriven_elem (g : Guard) (s : State) : (guardDriven g s).csc.elem = (driveBank g.bank s).csc.elem := by
  show (driveBank g.bank (onCsc _ s)).csc.elem = _
  unfold driveBank
  rw [bankElems_onGuard]
  rfl

theorem fabricLater_csc (t : Nat) (a : FabAct) (s : State) :
    (fabricLater t a s).csc = { s.csc with fabDue := s.csc.fabDue ++ [(t, a)] } := rfl

/-- The entries of a bank are words of registers, and so is what a change of banks alters. -/
theorem endEntries_congr {s v : State} (h : v.regs = s.regs) (b p l : Nat) : endEntries b p l v = endEntries b p l s := by
  simp only [endEntries, entriesOf, entryAt, reg_congr h]

theorem alteredLinks_congr {s v : State} (h : v.regs = s.regs) (old : Option Nat) (new : Nat) :
    alteredLinks old new v = alteredLinks old new s := by
  have hends (b : Option Nat) (p l : Nat) : endsOf b p l v = endsOf b p l s := by
    cases b with
    | none => rfl
    | some b => simp only [endsOf, endEntries_congr h]
  have haltered (p l : Nat) : altered old new p l v = altered old new p l s := by
    rw [altered, hends, hends, altered]
  simp only [alteredLinks, haltered]

section
variable {g : Guard} {s : State} (hguard : s.csc.guard = some g)
include hguard

/-- At T + 200 ns the elements switch; 60 ns later the shutters of the new outputs open, and 240 ns later the receivers load
what was kept (R281). -/
theorem guardSwitched_switches (hfirst : g.switched = false) (hdue : (g.at_ + 200) * nsM ≤ mstM s) :
    guardSwitched s = (fabricLater (s.now + 2640) (.load g.bank (alteredLinks g.old g.bank s))
      (fabricLater (s.now + 660) (.open_ (bankOuts g.bank s)) (guardDriven g s)), true) := by
  have hnow : ¬ (g.switched = true ∨ mstM s < (g.at_ + 200) * nsM) := by simp [hfirst, hdue]
  rw [← alteredLinks_congr (guardDriven_regs g s)]
  simp only [guardSwitched, hguard, if_neg hnow]
  rfl

theorem guardSwitched_state (hfirst : g.switched = false) (hdue : (g.at_ + 200) * nsM ≤ mstM s) :
    (guardSwitched s).1.csc.guard = some { g with switched := true }
      ∧ (guardSwitched s).1.csc.elem = (driveBank g.bank s).csc.elem
      ∧ (guardSwitched s).1.csc.fabDue = s.csc.fabDue ++ [(s.now + 660, .open_ (bankOuts g.bank s)),
          (s.now + 2640, .load g.bank (alteredLinks g.old g.bank s))]
      ∧ (guardSwitched s).1.regs = s.regs := by
  rw [guardSwitched_switches hguard hfirst hdue]
  simp only [fabricLater_csc, guardDriven_guard, guardDriven_elem, guardDriven_fabDue, List.append_assoc]
  exact ⟨trivial, trivial, rfl, guardDriven_regs g s⟩

theorem guardSwitch_switches (hfirst : g.switched = false) (hdue : (g.at_ + 200) * nsM ≤ mstM s) (counts : Map Nat) :
    guardSwitch counts s = boundary 1 counts (guardSwitched s).1 :=
  if_pos (congrArg Prod.snd (guardSwitched_switches hguard hfirst hdue))

/-- At T + 2.0 µs the bank becomes the active one and its links enter their circuits (R281–R283). -/
theorem guardEnd_enters (hdue : (g.at_ + 2000) * nsM ≤ mstM s) (unlocked : List (Nat × Nat)) (counts : Map Nat) :
    guardEnd unlocked counts s = forAll (fun (x : Nat × Nat) => checkMap x.1 x.2 (get 0 (32 * x.1 + x.2) counts)) allLinks
      (lateFailures (forAll (fun (x : Nat × Nat) => enterCircuit g.bank x.1 x.2 (s.now - 22000) (!unlocked.contains x))
        (alteredLinks g.old g.bank s)
        (setFld CSC_STATUS_MODE 2 (makeActive g.bank (onCsc (fun c => { c with guard := none }) s))))) := by
  simp only [guardEnd, hguard, if_neg (Nat.not_lt.mpr hdue)]
  rfl

end

/-- A receiver that has not locked by T + 8.44 µs falls back to acquisition (R283). -/
theorem uncachedTimeout_falls {p l : Nat} {s : State} (hphase : phaseOf p l s = .recovering)
    (hfrom : (linkOf p l s).sendFrom ≠ 0) (hdue : (linkOf p l s).sendFrom ≤ s.now + 660)
    (hsince : (linkOf p l s).since < (linkOf p l s).sendFrom) : uncachedTimeout p l s = setPhase p l .recovering s :=
  if_pos ⟨hphase, hfrom, hdue, hsince⟩

/-! ## The commands -/

theorem exec_circuitOpArrival_awake {t : Nat} {s u : State} (h : Awake t s u) :
    exec (.circuitOpArrival t) s = .next (after u (circuitOpArrival u)) :=
  congrArg _ (command_awake h circuitOpArrival)

theorem exec_cscTrigArm_awake {t : Nat} {s u : State} (h : Awake t s u) (a : Accessor) (w : Word) :
    exec (.cscTrigArm t a w) s = .next (after u (regWrite a rCSC_TRIG_CTRL w [] u)) :=
  congrArg _ (command_awake h (regWrite a rCSC_TRIG_CTRL w []))

theorem exec_cscTrigDisarm_awake {t : Nat} {s u : State} (h : Awake t s u) (a : Accessor) (w : Word) :
    exec (.cscTrigDisarm t a w) s = .next (after u (regWrite a rCSC_TRIG_CTRL w [] u)) :=
  congrArg _ (command_awake h (regWrite a rCSC_TRIG_CTRL w []))

theorem exec_fire_awake {t : Nat} {s u : State} (h : Awake t s u) : exec (.fire t) s = .next (after u (fire u)) :=
  congrArg _ (command_awake h fire)

theorem exec_guardSwitch_awake {t : Nat} {s u : State} (h : Awake t s u) (counts : Map Nat) :
    exec (.guardSwitch t counts) s = .next (after u (guardSwitch counts u)) :=
  congrArg _ (command_awake h (guardSwitch counts))

theorem exec_guardEnd_awake {t : Nat} {s u : State} (h : Awake t s u) (unlocked : List (Nat × Nat)) (counts : Map Nat) :
    exec (.guardEnd t unlocked counts) s = .next (after u (guardEnd unlocked counts u)) :=
  congrArg _ (command_awake h (guardEnd unlocked counts))

theorem exec_uncachedAcquireTimeout_awake {t : Nat} {s u : State} (h : Awake t s u) (p l : Nat) :
    exec (.uncachedAcquireTimeout t p l) s = .next (after u (uncachedTimeout p l u)) :=
  congrArg _ (command_awake h (uncachedTimeout p l))

theorem exec_unfence_awake {t : Nat} {s u : State} (h : Awake t s u) (a : Accessor) (w : Word) :
    exec (.unfence t a w) s = .next (after u (regWrite a rCSC_CTRL w [] u)) :=
  congrArg _ (command_awake h (regWrite a rCSC_CTRL w []))

/-- Settles O12: an operation's opcode, a trigger's time and bank, and the instants of the guard decide each step of a swap. -/
theorem circuitTriggersAnswer : Obligations.CircuitTriggersAnswer := by
  refine ⟨?arrival, ?register, ?fire, ?guard, ?acquire, ?unfence⟩
  case arrival =>
    intro t s u w o os hu hops harrived hw
    subst hw
    rw [exec_circuitOpArrival_awake hu]
    refine ⟨fun hended => ?_, fun hrun hno hop => ?_, fun hrun hno hop => ?_, fun hrun hno hop => ?_⟩
    · rw [circuitOpArrival_dropped hops harrived hended]
    · rw [circuitOpArrival_acts hops harrived hrun hno, circuitOp_arm hop]
    · rw [circuitOpArrival_acts hops harrived hrun hno, circuitOp_disarm hop]
    · rw [circuitOpArrival_acts hops harrived hrun hno, circuitOp_swap hop]
  case register =>
    intro t a w s u z hu ha hz
    have heffect := regWrite_trigCtrl ha w
    rw [← hz] at heffect
    refine ⟨fun harm hdisarm haccepted => ?_, fun x harm hdisarm htrig hsrc hearly => ?_⟩
    · rw [cscTrigCtrl_arm harm hdisarm, registerArm_arms haccepted] at heffect
      refine ⟨_, exec_cscTrigArm_awake hu a w, ?_⟩
      rw [heffect, hostFirst_csc, fld_hostFirst (by decide), fld_hostFirst (by decide), setTrig_csc]
      exact ⟨rfl, fld_setTrig_some _ z (y := (CSC_STATUS_ARMED, 1)) (.head _),
        (fld_setTrig_some _ z (y := (CSC_STATUS_ARMED_BANK, _)) (.tail _ (.head _))).trans (Nat.mod_eq_of_lt (wfld_lt ..))⟩
    · rw [cscTrigCtrl_disarm harm hdisarm, registerDisarm_disarms htrig hsrc hearly] at heffect
      refine ⟨_, exec_cscTrigDisarm_awake hu a w, heffect, ?_⟩
      rw [heffect, hostFirst_csc, fld_hostFirst (by decide), setTrig_csc]
      exact ⟨rfl, fld_setTrig_none z⟩
  case fire =>
    intro t s u w x hu htrig hdue hw
    subst hw
    rw [exec_fire_awake hu, fire_due htrig hdue]
    refine ⟨fun hready hmode hother => ?_, fun hready hmode hactive => ?_, fun hready => ?_⟩
    · rw [fireBank_swaps _ _ _ _ hready hmode hother]
    · rw [fireBank_active _ _ _ _ hready hmode hactive]
    · rw [fireBank_missed _ _ _ _ hready]
  case guard =>
    intro t counts s u g hu hguard
    refine ⟨fun hfirst hdue => ?_, fun unlocked hdue => ?_⟩
    · rw [exec_guardSwitch_awake hu, guardSwitch_switches hguard hfirst hdue]
      exact ⟨_, rfl, rfl, guardSwitched_state hguard hfirst hdue⟩
    · rw [exec_guardEnd_awake hu, guardEnd_enters hguard hdue]
  case acquire =>
    intro t p l s u hu hphase hfrom hdue hsince
    rw [exec_uncachedAcquireTimeout_awake hu, uncachedTimeout_falls hphase hfrom hdue hsince]
  case unfence =>
    intro t a w s u z hu ha hunfence hstage hgo hnow hz
    subst hz
    have heffect := regWrite_cscCtrl ha w
    rw [cscCtrl_unfence _ hstage hunfence hgo hnow] at heffect
    refine ⟨_, exec_unfence_awake hu a w, heffect, ?_⟩
    rw [heffect, fld_hostFirst (by decide)]
    exact fld_setFld_same CSC_STATUS_MISS_FENCE (by decide) 0 _

end Sys2Proof.Machine
end

/-! SUPPORT. Slow re-plans: their start, their phases and their end (R285, R312, R342). -/
section
namespace Sys2Proof.Machine

/-! ## Frames -/

theorem onCsc_csc (f : Csc → Csc) (s : State) : (onCsc f s).csc = f s.csc := rfl

theorem linkless_setFld (f : Fld) (v : Nat) (s : State) : linklessPart (setFld f v s) = linklessPart s :=
  linkless_of_unit (unitPart_setFld ..)

theorem now_plainWrite_writeLatches (a : Accessor) (off : Nat) (w : Word) (s : State) :
    (plainWrite off w (writeLatches a off s)).now = s.now :=
  (now_of_unit (unitPart_plainWrite ..)).trans (writeLatches_now ..)

/-! ## A start that is pending -/

theorem notPending_csc (s : State) : (notPending s).csc = { s.csc with replanAt := none } := rfl

theorem fld_notPending {f : Fld} (h : f.off ≠ rCSC_STATUS) (s : State) : fld f (notPending s) = fld f s := by
  rw [fld, notPending, reg_setFld_other h, reg_onCsc, fld]

theorem bankStatus_ne_status (b : Nat) : rCSC_BANK_STATUS b ≠ rCSC_STATUS := by
  rw [rCSC_BANK_STATUS, rCSC_STATUS]
  omega

theorem trainable_notPending (b : Nat) (s : State) : trainable b (notPending s) = trainable b s := by
  simp only [trainable, bankState, fld_notPending (f := CSC_BANK_STATUS_STATE b) (bankStatus_ne_status b)]

theorem replanTodo_notPending (s : State) : replanTodo (notPending s) = replanTodo s := by
  have hctrl (f : Fld) (hf : f.off = rCSC_CTRL) : fld f (notPending s) = fld f s := fld_notPending (by rw [hf]; decide) s
  simp only [replanTodo, hctrl CSC_CTRL_REPLAN_MASK rfl, hctrl CSC_CTRL_REPLAN_TARGET rfl, trainable_notPending]

/-! ## The start -/

theorem linkless_replanLink (p l : Nat) (s : State) : linklessPart (replanLink p l s) = linklessPart s := by
  rw [replanLink, linkless_onLink, linkless_setPhase, linkless_cutAltered]

theorem linkless_replanLinks (l : List (Nat × Nat)) (s : State) :
    linklessPart (forAll (fun (x : Nat × Nat) => replanLink x.1 x.2) l s) = linklessPart s :=
  forAll_keeps (g := linklessPart) (f := fun (x : Nat × Nat) => replanLink x.1 x.2)
    (fun x => linkless_replanLink x.1 x.2) l s

theorem unitPart_clearSubsts (s : State) : unitPart (clearSubsts s) = unitPart s :=
  loop_keeps (fun _ _ => unitPart_setFlds ..) 6 s

/-- The re-plan a start makes. -/
def replanOf (s : State) : Replan := { todo := replanTodo s, target := fld CSC_CTRL_REPLAN_TARGET s, phaseAt := s.now }

/-- The links down, and no trigger armed and nothing substituted, as a re-plan starts. -/
def replanSwept (s : State) : State := clearSubsts (forAll (fun (x : Nat × Nat) => replanLink x.1 x.2) allLinks (setTrig none s))

theorem replanSwept_csc (s : State) : (replanSwept s).csc = { s.csc with trig := none } := by
  rw [replanSwept, csc_of_unit (unitPart_clearSubsts _), csc_of_linkless (linkless_replanLinks ..), setTrig_csc]

theorem replanBegin_eq (s : State) : replanBegin s = onCsc (fun c => { c with
      replan := some (replanOf s), guard := none, blocked := [], reroute := 0, shut := [], fabDue := [], late := [] })
    (setFlds [(CSC_STATUS_MODE, 1), (CSC_STATUS_MISS_FENCE, 0)] (replanSwept s)) := rfl

/-- The trigger is disarmed, a guard is over, every shutter is closed, and what was to come in the switch is dropped (R285). -/
theorem replanBegin_csc (s : State) : (replanBegin s).csc = { s.csc with
    trig := none, replan := some (replanOf s), guard := none, blocked := [], reroute := 0, shut := [], fabDue := []
    late := [] } := by
  rw [replanBegin_eq, onCsc_csc, csc_of_unit (unitPart_setFlds ..), replanSwept_csc]

theorem cscMode_replanBegin (s : State) : cscMode (replanBegin s) = 1 := by
  rw [cscMode, replanBegin_eq, fld_onCsc]
  exact fld_setFlds_mem _ _ (by decide) (by decide) (CSC_STATUS_MODE, 1) (.head _)

theorem fenceless_replanBegin (s : State) : fld CSC_STATUS_MISS_FENCE (replanBegin s) = 0 := by
  rw [replanBegin_eq, fld_onCsc]
  exact fld_setFlds_mem _ _ (by decide) (by decide) (CSC_STATUS_MISS_FENCE, 0) (.tail _ (.head _))

/-- A start that R285 does not refuse. -/
theorem replanStart_begins {now_ : Bool} {s : State} (htarget : trainable (fld CSC_CTRL_REPLAN_TARGET s) s = true)
    (hmst : (now_ || mstValid s) = true) (a : Option Accessor) : replanStart a now_ s = replanBegin (notPending s) := by
  simp [replanStart, htarget, hmst]

theorem replanOf_notPending (s : State) : replanOf (notPending s) = replanOf s := by
  simp only [replanOf, replanTodo_notPending, fld_notPending (f := CSC_CTRL_REPLAN_TARGET) (by decide)]
  rfl

/-! ## REPLAN_GO, REPLAN_NOW and the scheduled start -/

/-- REPLAN_GO with a time still to come makes the re-plan pending. -/
theorem replanWrite_go {s : State} (hidle : s.csc.replan = none)
    (hearly : mstM s < reg64 rCSC_REPLAN_TIME_LO rCSC_REPLAN_TIME_HI s * nsM) (a : Accessor) : replanWrite a true false s
      = setFld CSC_STATUS_REPLAN_PENDING 1
        (onCsc (fun c => { c with replanAt := some (reg64 rCSC_REPLAN_TIME_LO rCSC_REPLAN_TIME_HI s) }) s) := by
  have hfree : ¬ (s.csc.replan.isSome = true ∨ (false = true ∧ fld GLB_STARTUP_STATUS_STAGE s < 6)) := by
    rw [hidle]
    rintro (hbusy | ⟨hnow, -⟩) <;> contradiction
  rw [replanWrite, if_neg (by decide), if_neg hfree, if_neg Bool.false_ne_true]
  exact if_neg (Nat.not_le.mpr hearly)

/-- REPLAN_NOW from stage REPLAN on. -/
theorem replanWrite_now {s : State} (hidle : s.csc.replan = none) (hstage : 6 ≤ fld GLB_STARTUP_STATUS_STAGE s)
    (a : Accessor) (go : Bool) : replanWrite a go true s = replanStart (some a) true s := by
  have hfree : ¬ (s.csc.replan.isSome = true ∨ (true = true ∧ fld GLB_STARTUP_STATUS_STAGE s < 6)) := by
    rw [hidle]
    rintro (hbusy | ⟨-, hearly⟩)
    · contradiction
    · exact Nat.not_lt.mpr hstage hearly
  have hasked : ¬ (!go && !true) = true := by cases go <;> decide
  rw [replanWrite, if_neg hasked, if_neg hfree, if_pos rfl]

theorem replanDue_starts {x : Nat} {s : State} (hpending : s.csc.replanAt = some x) (hdue : x * nsM ≤ mstM s) :
    replanDue s = replanStart none false s := by
  rw [replanDue, hpending]
  exact if_neg (Nat.not_lt.mpr hdue)

/-! ## Phases -/

/-- A phase ends when it has run its 17.4 ms; before the first one there is nothing to wait for. -/
theorem phaseOver_due {r : Replan} {s : State} (hreplan : s.csc.replan = some r)
    (hover : r.phase = none ∨ r.phaseAt + 191400000 ≤ s.now) : phaseOver s = some r := by
  have hends : (!(r.phase.isSome && decide (s.now < r.phaseAt + phaseT))) = true := by
    rcases hover with hnone | htime
    · simp [hnone]
    · simp [show ¬ s.now < r.phaseAt + phaseT from Nat.not_lt.mpr htime]
  rw [phaseOver, hreplan, Option.filter_some, if_pos hends]

theorem linkless_phaseClose (r : Replan) (spares : List (Nat × Bool × Bool)) (s : State) :
    linklessPart (phaseClose r spares s) = linklessPart s := by
  unfold phaseClose
  split
  · rfl
  · exact linkless_setFld ..
  · refine (forAll_keeps (g := linklessPart) (fun x t => ?_) spares _).trans (linkless_setFld ..)
    split
    · rw [linkless_setPhase, linkless_setFlds]
    · rfl

/-! ### The end -/

theorem unitPart_makeActive (b : Nat) (s : State) : unitPart (makeActive b s) = unitPart s := by
  unfold makeActive
  rw [unitPart_setFlds]
  split
  · split
    · exact unitPart_setFld ..
    · rfl
  · rfl

/-- Links that still train when a re-plan ends go down. -/
def trainingDown (s : State) : State := forAll (fun (x : Nat × Nat) s =>
  if (trainLimit (phaseOf x.1 x.2 s)).isSome then setPhase x.1 x.2 .down s else s) allLinks s

/-- The target of a re-plan becomes the active bank where it still is trainable. -/
def targetActive (r : Replan) (s : State) : State := if trainable r.target s then makeActive r.target s else s

/-- The paths and shutters of the active bank are set. -/
def activeFabric (s : State) : State :=
  match activeBank s with
  | some b => makeFabric b s
  | none => s

theorem replanEnd_eq (r : Replan) (s : State) : replanEnd r s
    = irq 20 (setFlds [(CSC_STATUS_MODE, 2), (CSC_STATUS_REPLAN_BANK, 0)] (activeFabric (targetActive r (trainingDown
      (onCsc (fun c => { c with replan := none, replanned := true, fabDue := [] }) s))))) := rfl

theorem trainingDown_csc (s : State) : (trainingDown s).csc = s.csc := by
  refine csc_of_linkless (forAll_keeps (g := linklessPart) (fun x t => ?_) allLinks s)
  split
  · exact linkless_setPhase ..
  · rfl

theorem targetActive_csc (r : Replan) (s : State) : (targetActive r s).csc = s.csc := by
  unfold targetActive
  split
  · exact csc_of_unit (unitPart_makeActive ..)
  · rfl

theorem activeFabric_replan (s : State) : (activeFabric s).csc.replan = s.csc.replan := by
  unfold activeFabric
  split <;> rfl

/-- After the last phase no re-plan is in progress. -/
theorem replanEnd_replan (r : Replan) (s : State) : (replanEnd r s).csc.replan = none := by
  rw [replanEnd_eq, csc_of_unit (unitPart_irq ..), csc_of_unit (unitPart_setFlds ..), activeFabric_replan, targetActive_csc,
    trainingDown_csc, onCsc_csc]

/-- After the last phase MODE is RUN. -/
theorem cscMode_replanEnd (r : Replan) (s : State) : cscMode (replanEnd r s) = 2 := by
  rw [cscMode, replanEnd_eq, fld_irq (by decide)]
  exact fld_setFlds_mem _ _ (by decide) (by decide) (CSC_STATUS_MODE, 2) (.head _)

/-! ### The next phase -/

/-- Re-plan r in a phase that begins now. -/
def inPhase (r : Replan) (ph : Option Nat) (rest : List (Option Nat)) (back : Nat) (s : State) : State :=
  onCsc (fun c => { c with replan := some { r with todo := rest, phaseAt := s.now, phase := some ph, back := back } }) s

/-- The links down and the shutters closed, as a phase begins. -/
def phaseSwept (s : State) : State :=
  forAll (fun (x : Nat × Nat) => phaseLink x.1 x.2) allLinks (onCsc (fun c => { c with shut := [] }) s)

theorem phaseLinks_now (l : List (Nat × Nat)) (s : State) :
    (forAll (fun (x : Nat × Nat) => phaseLink x.1 x.2) l s).now = s.now :=
  forAll_keeps (g := State.now) (f := fun (x : Nat × Nat) => phaseLink x.1 x.2) (fun _ _ => rfl) l s

theorem phaseSwept_now (s : State) : (phaseSwept s).now = s.now := by
  rw [phaseSwept, phaseLinks_now, onCsc_now]

theorem routeBank_now (b : Nat) (s : State) : (routeBank b s).now = s.now := by
  unfold routeBank
  split <;> rfl

theorem phaseBegin_bank (r : Replan) (b : Nat) (rest : List (Option Nat)) (s : State) :
    ∃ t a, phaseBegin r (some b) rest s = fabricLater t a (inPhase r (some b) rest (bankState b (phaseSwept s))
      (setFlds [(CSC_BANK_STATUS_STATE b, 7), (CSC_STATUS_REPLAN_BANK, b)] (driveBank b (routeBank b (phaseSwept s))))) :=
  ⟨_, _, rfl⟩

theorem phaseBegin_spares (r : Replan) (rest : List (Option Nat)) (s : State) :
    ∃ t a, phaseBegin r none rest s = fabricLater t a (inPhase r none rest 0
      (setFlds [(CSC_STATUS_SPARE_PHASE, 1), (CSC_STATUS_REPLAN_BANK, 0)] (phaseSwept s))) :=
  ⟨_, _, rfl⟩

theorem inPhase_replan (r : Replan) (ph : Option Nat) (rest : List (Option Nat)) (back : Nat) (s : State) :
    (inPhase r ph rest back s).csc.replan = some { r with todo := rest, phaseAt := s.now, phase := some ph, back := back } := rfl

/-- The phase that begins is the first of those to come, and the target stays. -/
theorem phaseBegin_replan (r : Replan) (ph : Option Nat) (rest : List (Option Nat)) (s : State) :
    ∃ back, (phaseBegin r ph rest s).csc.replan
      = some { r with todo := rest, phaseAt := s.now, phase := some ph, back := back } := by
  cases ph with
  | none =>
    obtain ⟨t, a, heq⟩ := phaseBegin_spares r rest s
    rw [heq, fabricLater_csc, inPhase_replan, now_of_unit (unitPart_setFlds ..), phaseSwept_now]
    exact ⟨_, rfl⟩
  | some b =>
    obtain ⟨t, a, heq⟩ := phaseBegin_bank r b rest s
    rw [heq, fabricLater_csc, inPhase_replan, now_of_unit (unitPart_setFlds ..), driveBank, onCsc_now, routeBank_now,
      phaseSwept_now]
    exact ⟨_, rfl⟩

/-! ### A step of the re-plan -/

section
variable {r : Replan} {s : State} (hover : phaseOver s = some r) {spares : List (Nat × Bool × Bool)}
include hover

theorem replanNext_ends (hlast : phasesLeft (phaseClose r spares s) r.todo = []) :
    replanNext spares s = (replanEnd r (phaseClose r spares s), none) := by
  simp only [replanNext, hover, hlast]

theorem replanNext_begins {ph : Option Nat} {rest : List (Option Nat)}
    (hleft : phasesLeft (phaseClose r spares s) r.todo = ph :: rest) : ∃ moves,
    replanNext spares s = (phaseBegin r ph rest (phaseClose r spares s), some moves) := by
  simp only [replanNext, hover, hleft]
  exact ⟨_, rfl⟩

end

theorem replanPhase_ends {spares : List (Nat × Bool × Bool)} {s z : State} (hnext : replanNext spares s = (z, none))
    (counts : Map Nat) : replanPhase spares counts s = z := by
  simp only [replanPhase, hnext]

/-- A phase that begins is a boundary of trims and lanes; the first one homes failed elements again (R312, R342). -/
theorem replanPhase_begins {r : Replan} {spares : List (Nat × Bool × Bool)} {s z : State} {moves : List (Nat × Bool)}
    (hreplan : s.csc.replan = some r) (hnext : replanNext spares s = (z, some moves)) (counts : Map Nat) :
    replanPhase spares counts s = moveElements moves
      (if r.phase.isNone then rehomeFailed (boundary 3 counts z) else boundary 3 counts z) := by
  simp only [replanPhase, hnext, hreplan, Option.any_some]

/-! ## The commands -/

theorem exec_replanGo_awake {t : Nat} {s u : State} (h : Awake t s u) (a : Accessor) (w : Word) :
    exec (.replanGo t a w) s = .next (after u (regWrite a rCSC_CTRL w [] u)) :=
  congrArg _ (command_awake h (regWrite a rCSC_CTRL w []))

theorem exec_replanNow_awake {t : Nat} {s u : State} (h : Awake t s u) (a : Accessor) (w : Word) :
    exec (.replanNow t a w) s = .next (after u (regWrite a rCSC_CTRL w [] u)) :=
  congrArg _ (command_awake h (regWrite a rCSC_CTRL w []))

theorem exec_replanStart_awake {t : Nat} {s u : State} (h : Awake t s u) :
    exec (.replanStart t) s = .next (after u (replanDue u)) :=
  congrArg _ (command_awake h replanDue)

theorem exec_replanPhase_awake {t : Nat} {s u : State} (h : Awake t s u) (spares : List (Nat × Bool × Bool))
    (counts : Map Nat) : exec (.replanPhase t spares counts) s = .next (after u (replanPhase spares counts u)) :=
  congrArg _ (command_awake h (replanPhase spares counts))

/-- Settles O13: a start sweeps the switch and lists the phases, and each step of a re-plan closes one phase and begins the next
or ends it. -/
theorem replansAnswer : Obligations.ReplansAnswer := by
  refine ⟨?write, ?start, ?phase⟩
  case write =>
    intro t a w s u z hu ha hstage hunfence hz hidle
    have heffect := regWrite_cscCtrl ha w
    rw [← hz, cscCtrl_replan _ hstage hunfence] at heffect
    refine ⟨fun hgo hnow hearly => ?_, fun hnow hstage htarget => ?_⟩
    · rw [hgo, hnow, beq_self_eq_true, show ((0 : Nat) == 1) = false from rfl, replanWrite_go hidle hearly] at heffect
      refine ⟨_, exec_replanGo_awake hu a w, ?_⟩
      rw [heffect, hostFirst_csc, setFld_csc, onCsc_csc, fld_hostFirst (by decide)]
      exact ⟨rfl, fld_setFld_same CSC_STATUS_REPLAN_PENDING (by decide) 1 _⟩
    · rw [hnow, beq_self_eq_true, replanWrite_now hidle hstage, replanStart_begins htarget (by rfl)] at heffect
      have hclock : z.now = u.now := hz ▸ now_plainWrite_writeLatches ..
      refine ⟨_, replanOf z, exec_replanNow_awake hu a w, ?_⟩
      rw [heffect, hostFirst_csc, cscMode, fld_hostFirst (by decide), fld_hostFirst (by decide), replanBegin_csc,
        notPending_csc, replanOf_notPending]
      exact ⟨rfl, rfl, rfl, hclock, rfl, rfl, rfl, cscMode_replanBegin _, fenceless_replanBegin _⟩
  case start =>
    intro t x s u hu hpending hdue hmst htarget
    refine ⟨_, replanOf u, exec_replanStart_awake hu, replanDue_starts hpending hdue, ?_⟩
    rw [replanDue_starts hpending hdue, replanStart_begins htarget (by rw [hmst]; rfl), replanBegin_csc, notPending_csc,
      replanOf_notPending]
    exact ⟨rfl, rfl, rfl, rfl, rfl, rfl, rfl, cscMode_replanBegin _⟩
  case phase =>
    intro t spares counts s u z r m hu hreplan hends hnext
    have hover := phaseOver_due hreplan hends
    rw [exec_replanPhase_awake hu]
    refine ⟨fun hlast => ?_, fun ph rest hleft => ?_⟩
    · have hend := hnext.symm.trans (replanNext_ends hover hlast)
      obtain ⟨rfl, rfl⟩ := Prod.mk.inj hend
      rw [replanPhase_ends hnext]
      exact ⟨rfl, rfl, replanEnd_replan .., cscMode_replanEnd ..⟩
    · obtain ⟨moves, hbegin⟩ := replanNext_begins hover hleft
      obtain ⟨rfl, rfl⟩ := Prod.mk.inj (hnext.symm.trans hbegin)
      obtain ⟨back, hphase⟩ := phaseBegin_replan r ph rest (phaseClose r spares u)
      have hclock := now_of_linkless (linkless_phaseClose r spares u)
      exact ⟨moves, _, rfl, hphase, rfl, rfl, hclock, rfl,
        congrArg (fun v => Host.Outcome.next (after u v)) (replanPhase_begins hreplan hnext counts)⟩

end Sys2Proof.Machine
end

/-! SUPPORT. Laser banks, lasers and spares (R301, R302, R311, R313). -/
section
namespace Sys2Proof.Machine

/-! ## States of lasers -/

@[simp] theorem fld_onLaser (p j : Nat) (f : Laser → Laser) (g : Fld) (s : State) : fld g (onLaser p j f s) = fld g s := (rfl)

@[simp] theorem fld_onLoop (k : Nat) (f : Loop → Loop) (g : Fld) (s : State) : fld g (onLoop k f s) = fld g s := (rfl)

theorem fld_startLaserLoop (p j w : Nat) (f : Fld) (s : State) : fld f (startLaserLoop p j w s) = fld f s := by
  unfold startLaserLoop
  split
  · rfl
  · exact fld_onLoop ..

theorem fld_stopLoop (k : Nat) (f : Fld) (s : State) : fld f (stopLoop k s) = fld f s := fld_onLoop ..

theorem fld_homeOff (k : Nat) (f : Fld) (s : State) : fld f (homeOff k s) = fld f s := by
  unfold homeOff
  split
  · exact fld_onLoop ..
  · rfl

theorem fld_homeRings (p w : Nat) (f : Fld) (s : State) : fld f (homeRings p w s) = fld f s :=
  forAll_keeps (g := fld f) (fun k => fld_homeOff k f) _ s

theorem reg_setLaser {off p j : Nat} (hlaser : off ≠ rOPT_LASER_STATUS p j) (hspare : off ≠ rOPT_SPARE_STATUS p) (st : Nat)
    (s : State) : reg off (setLaser p j st s) = reg off s := by
  unfold setLaser
  extract_lets z
  have hz : reg off z = reg off s := reg_setFld_other hlaser ..
  split
  · rw [reg_setFld_other hspare, hz]
  · split
    · rw [reg_setFld_other hspare, hz]
    · exact hz

theorem laserState_setLaser_other {p j k : Nat} (h : k ≠ j) (st : Nat) (s : State) :
    laserState p k (setLaser p j st s) = laserState p k s := by
  rw [laserState, fld, reg_setLaser (by simp only [rOPT_LASER_STATUS]; omega)
    (by simp only [rOPT_LASER_STATUS, rOPT_SPARE_STATUS]; omega), laserState, fld]

theorem laserState_setLaser_grid {p j : Nat} (hgrid : j < 9) (st : Nat) (s : State) :
    laserState p j (setLaser p j st s) = st % 8 := by
  rw [setLaser, if_neg (by omega), if_neg (by omega)]
  exact fld_setFld_same (OPT_LASER_STATUS_STATE p j) (fieldOk_of rfl) st s

theorem laserState_onOpt (p k : Nat) (f : Optics → Optics) (s : State) : laserState p k (onOpt f s) = laserState p k s := (rfl)

theorem laserState_onLaser (p k j : Nat) (f : Laser → Laser) (s : State) :
    laserState p k (onLaser p j f s) = laserState p k s := (rfl)

/-- The bias of a laser lies apart from every laser's state. -/
theorem laserState_setBias {k : Nat} (hk : k < 11) (p j req : Nat) (s : State) :
    laserState p k (setBias p j req s) = laserState p k s := by
  unfold setBias
  extract_lets high was code
  refine fld_setFlds_other (fieldOk_of rfl) _ s fun x hx => ?_
  have htrim : rOPT_LASER_STATUS p k ≠ rTRM_LASER p j := by simp only [rOPT_LASER_STATUS, rTRM_LASER]; omega
  simp only [List.mem_cons, List.not_mem_nil, or_false] at hx
  rcases hx with rfl | rfl | rfl | rfl
  · exact ⟨fieldOk_of rfl, .inl htrim⟩
  · exact ⟨fieldOk_of rfl, .inl htrim⟩
  · exact ⟨fieldOk_of rfl, fieldsApart_of rfl⟩
  · exact ⟨fieldOk_of rfl, fieldsApart_of rfl⟩

theorem laserState_powerOff {k : Nat} (hk : k < 11) (p j : Nat) (s : State) :
    laserState p k (powerOff p j s) = laserState p k s := by
  have htrim : rOPT_LASER_STATUS p k ≠ rTRM_LASER p j := by simp only [rOPT_LASER_STATUS, rTRM_LASER]; omega
  simp only [powerOff, laserState_onOpt, laserState_onLaser, laserState_setBias hk]
  exact fld_setFld_other (fieldOk_of rfl) (fieldOk_of rfl) (.inl htrim) 0 s

theorem laserState_startLaserLoop (p k j w : Nat) (s : State) :
    laserState p k (startLaserLoop p j w s) = laserState p k s := fld_startLaserLoop ..

theorem laserState_homeRings (p k w : Nat) (s : State) : laserState p k (homeRings p w s) = laserState p k s := fld_homeRings ..

/-! ## Banks -/

/-- What BANK_ENABLE does to grid laser w. -/
def startGrid (p w : Nat) (s : State) : State :=
  if laserState p w s = 3 then s
  else startLaserLoop p w w (setBias p w (calOf 5 (11 * p + w) s).toNat
    (setLaser p w 1 (onLaser p w (fun x => { x with at_ := s.now, strikes := 0, ramp := some (s.now + 2 * msT) }) s)))

/-- What BANK_ENABLE does to spare i. -/
def retuneSpare (p i : Nat) (s : State) : State :=
  if spareState p i s = 1 ∨ spareState p i s = 2 then
    startLaserLoop p (9 + i) (spareFor p i s) (setBias p (9 + i) (calOf 5 (11 * p + 9 + i) s).toNat
      (setLaser p (9 + i) 5 (onLaser p (9 + i) (fun x => { x with at_ := s.now, held := false }) s)))
  else s

/-- What BANK_DISABLE does to the loop of laser j. -/
def stopLaserLoop (p j : Nat) (s : State) : State :=
  if (loopOf (laserLoop p j) s).st = .failed then s else stopLoop (laserLoop p j) s

/-- What BANK_DISABLE does to laser j. -/
def darken (p j : Nat) (s : State) : State :=
  let v := powerOff p j (stopLaserLoop p j s)
  if j < 9 then (if laserState p j v = 3 then v else setLaser p j 0 v) else onLaser p j (fun x => { x with held := true }) v

theorem bankEnable_on {p : Nat} {s : State} (h : flag (OPT_BANK_CTRL_ENABLE p) s = true) :
    bankEnable p false s = loop (retuneSpare p) 2 (loop (startGrid p) 9 s) := by
  rw [bankEnable, h]
  rfl

theorem bankEnable_off {p : Nat} {s : State} (h : flag (OPT_BANK_CTRL_ENABLE p) s = false) :
    bankEnable p true s = loop (darken p) 11 s := by
  unfold bankEnable
  extract_lets on_ grid spare off
  have hoff : on_ = false := h
  rw [if_neg (by simp [hoff]), if_pos (by simp [hoff])]
  exact congrArg (fun f => loop f 11 s) (rfl : off = darken p)

theorem laserState_startGrid_other {p w k : Nat} (hk : k < 11) (h : k ≠ w) (s : State) :
    laserState p k (startGrid p w s) = laserState p k s := by
  unfold startGrid
  split
  · rfl
  · rw [laserState_startLaserLoop, laserState_setBias hk, laserState_setLaser_other h, laserState_onLaser]

theorem laserState_startGrid {p w : Nat} (hw : w < 9) {s : State} (hsound : laserState p w s ≠ 3) :
    laserState p w (startGrid p w s) = 1 := by
  rw [startGrid, if_neg hsound, laserState_startLaserLoop, laserState_setBias (by omega), laserState_setLaser_grid hw]

theorem laserState_retuneSpare {p k : Nat} (hk : k < 9) (i : Nat) (s : State) :
    laserState p k (retuneSpare p i s) = laserState p k s := by
  unfold retuneSpare
  split
  · rw [laserState_startLaserLoop, laserState_setBias (by omega), laserState_setLaser_other (by omega), laserState_onLaser]
  · rfl

theorem laserState_stopLaserLoop (p k j : Nat) (s : State) : laserState p k (stopLaserLoop p j s) = laserState p k s := by
  unfold stopLaserLoop
  split
  · rfl
  · exact fld_stopLoop ..

theorem laserState_powerOff_stopLaserLoop {k : Nat} (hk : k < 11) (p j : Nat) (s : State) :
    laserState p k (powerOff p j (stopLaserLoop p j s)) = laserState p k s :=
  (laserState_powerOff hk ..).trans (laserState_stopLaserLoop ..)

theorem laserState_darken_other {p j k : Nat} (hk : k < 11) (h : k ≠ j) (s : State) :
    laserState p k (darken p j s) = laserState p k s := by
  have hdark := laserState_powerOff_stopLaserLoop hk p j s
  unfold darken
  extract_lets v
  split
  · split
    · exact hdark
    · rw [laserState_setLaser_other h, hdark]
  · rw [laserState_onLaser, hdark]

theorem laserState_darken {p j : Nat} (hj : j < 9) {s : State} (hsound : laserState p j s ≠ 3) :
    laserState p j (darken p j s) = 0 := by
  have hdark := laserState_powerOff_stopLaserLoop (by omega : j < 11) p j s
  rw [darken, if_pos hj, if_neg (hdark ▸ hsound), laserState_setLaser_grid hj]

/-- Of a loop whose rounds change a part each of their own, round j alone decides part j. -/
theorem loop_part {σ β : Type} {g : σ → β} {f : Nat → σ → σ} {j : Nat} (hother : ∀ i s, i ≠ j → g (f i s) = g s) {n : Nat}
    (hj : j < n) (s : σ) : ∃ v, g v = g s ∧ g (loop f n s) = g (f j v) := by
  induction n with
  | zero => omega
  | succ n ih =>
    by_cases hlast : j = n
    · subst hlast
      have hbefore (m : Nat) (hm : m ≤ j) : g (loop f m s) = g s := by
        induction m with
        | zero => rfl
        | succ m ihm => rw [loop, hother m _ (by omega), ihm (by omega)]
      exact ⟨loop f j s, hbefore j (Nat.le_refl j), rfl⟩
    · obtain ⟨v, hv, hround⟩ := ih (by omega)
      exact ⟨v, hv, by rw [loop, hother n _ (Ne.symm hlast), hround]⟩

/-- A bank that is enabled starts its grid lasers that have not failed (R301). -/
theorem laserState_bankEnable_on {p j : Nat} {s : State} (hon : flag (OPT_BANK_CTRL_ENABLE p) s = true) (hj : j < 9)
    (hsound : laserState p j s ≠ 3) : laserState p j (bankEnable p false s) = 1 := by
  obtain ⟨v, hv, hround⟩ := loop_part (g := laserState p j) (f := startGrid p)
    (fun w s hw => laserState_startGrid_other (by omega) (Ne.symm hw) s) hj s
  rw [bankEnable_on hon, loop_keeps (g := laserState p j) (laserState_retuneSpare hj), hround,
    laserState_startGrid hj (hv ▸ hsound)]

/-- A bank that is disabled turns its grid lasers that have not failed off (R313). -/
theorem laserState_bankEnable_off {p j : Nat} {s : State} (hoff : flag (OPT_BANK_CTRL_ENABLE p) s = false) (hj : j < 9)
    (hsound : laserState p j s ≠ 3) : laserState p j (bankEnable p true s) = 0 := by
  obtain ⟨v, hv, hround⟩ := loop_part (g := laserState p j) (f := darken p) (n := 11)
    (fun i s hi => laserState_darken_other (by omega) (Ne.symm hi) s) (by omega) s
  rw [bankEnable_off hoff, hround, laserState_darken hj (hv ▸ hsound)]

theorem laserState_hostFirst_bankCtrl (a : Accessor) (p j : Nat) (s : State) :
    laserState p j (hostFirst a (rOPT_BANK_CTRL p) s) = laserState p j s :=
  fld_hostFirst (by simp only [rOPT_LASER_STATUS, rOPT_BANK_CTRL]; omega) a s

/-- A write of a bank's control moves the lasers and their loops alone. -/
theorem optless_hostFirst_bankEnable (a : Accessor) (off p : Nat) (was : Bool) (s : State) :
    optlessPart (hostFirst a off (bankEnable p was s)) = optlessPart s :=
  (optless_of_unit (unitPart_hostFirst ..)).trans (optless_bankEnable ..)

/-! ## Locks, losses and time-outs -/

section
variable {p : Nat} {s : State}

theorem laserLock_locks {w : Nat} (hstarting : laserState p w s = 1) (hw : w < 9)
    (hearly : s.now ≤ (get {} (11 * p + w) s.opt.laser).at_ + 30 * msT) :
    laserLock p w s = homeRings p w (setLaser p w 2 s) := if_pos ⟨hstarting, hw, hearly⟩

theorem laserStartTimeout_loses {w : Nat} (hstarting : laserState p w s = 1) (hw : w < 9)
    (hlate : (get {} (11 * p + w) s.opt.laser).at_ + 30 * msT ≤ s.now) (counts : Map Nat) :
    laserStartTimeout p w counts s = loseLaser p w 5 counts s := if_pos ⟨hstarting, hw, hlate⟩

/-- A grid laser or a spare that is LOCKED is lost for the cause it fails by (R311). -/
theorem laserFails_loses {j : Nat} (hlocked : (j < 9 ∧ laserState p j s = 2) ∨ (9 ≤ j ∧ laserState p j s = 6)) (cause : Nat)
    (counts : Map Nat) : laserFails p j cause counts s = loseLaser p j cause counts s := by
  rcases hlocked with ⟨hgrid, hstate⟩ | ⟨hspare, hstate⟩
  · exact if_pos (by rw [if_pos hgrid, hstate]; rfl)
  · exact if_pos (by rw [if_neg (by omega), hstate]; rfl)

section
variable {i : Nat} (htuning : spareState p i s = 1) (hheld : (get {} (11 * p + 9 + i) s.opt.laser).held = false)
include htuning hheld

/-- A spare that locks in time lights its wavelength (R302, R311). -/
theorem spareLock_lights (hearly : s.now ≤ (get {} (11 * p + 9 + i) s.opt.laser).at_ + 30 * msT)
    (hlost : (fld (OPT_BANK_STATUS_LOST p) s).testBit (spareFor p i s) = true) :
    spareLock p i s = homeRings p (spareFor p i s) (holdLoops false (ringLoops p (spareFor p i s))
      (setFld (OPT_BANK_STATUS_LOST p) (fld (OPT_BANK_STATUS_LOST p) s - 2 ^ spareFor p i s) (setLaser p (9 + i) 6 s))) := by
  simp [spareLock, htuning, hheld, Nat.not_lt.mpr hearly, hlost]

/-- A spare that does not lock in time, or stays dark, is BAD, and the other is called (R302). -/
theorem spareTimeout_bad {dark : Bool} (hlate : (get {} (11 * p + 9 + i) s.opt.laser).at_ + 30 * msT ≤ s.now
      ∨ (dark = true ∧ (get {} (11 * p + 9 + i) s.opt.laser).at_ + 3 * msT ≤ s.now)) :
    spareTimeout p i dark s = (callSpare p (spareFor p i s) (devFault 9 6 (2 ^ 11 * p + 9 + i)
      (raise OPT_WARN_STATUS_SPARE_BAD (2 ^ p)
        (stopLoop (laserLoop p (9 + i)) (powerOff p (9 + i) (setLaser p (9 + i) 7 s)))))).2 :=
  if_pos ⟨htuning, by rw [hheld]; rfl, hlate⟩

end

end

/-! ## The commands -/

section
variable {t : Nat} {s u : State} (h : Awake t s u)
include h

theorem exec_bankEnable_awake (a : Accessor) (p : Nat) (w : Word) :
    exec (.bankEnable t a p w) s = .next (after u (regWrite a (rOPT_BANK_CTRL p) w [] u)) :=
  congrArg _ (command_awake h (regWrite a (rOPT_BANK_CTRL p) w []))

theorem exec_bankDisable_awake (a : Accessor) (p : Nat) (w : Word) :
    exec (.bankDisable t a p w) s = .next (after u (regWrite a (rOPT_BANK_CTRL p) w [] u)) :=
  congrArg _ (command_awake h (regWrite a (rOPT_BANK_CTRL p) w []))

theorem exec_laserLock_awake (p w : Nat) : exec (.laserLock t p w) s = .next (after u (laserLock p w u)) :=
  congrArg _ (command_awake h (laserLock p w))

theorem exec_laserStartTimeout_awake (p w : Nat) (counts : Map Nat) :
    exec (.laserStartTimeout t p w counts) s = .next (after u (laserStartTimeout p w counts u)) :=
  congrArg _ (command_awake h (laserStartTimeout p w counts))

theorem exec_comparatorTrip_awake (p j : Nat) (counts : Map Nat) :
    exec (.comparatorTrip t p j counts) s = .next (after u (laserFails p j 1 counts u)) :=
  congrArg _ (command_awake h (laserFails p j 1 counts))

theorem exec_driverFault_awake (p j : Nat) (counts : Map Nat) :
    exec (.driverFault t p j counts) s = .next (after u (laserFails p j 3 counts u)) :=
  congrArg _ (command_awake h (laserFails p j 3 counts))

theorem exec_spareLock_awake (p i : Nat) : exec (.spareLock t p i) s = .next (after u (spareLock p i u)) :=
  congrArg _ (command_awake h (spareLock p i))

theorem exec_spareTuneTimeout_awake (p i : Nat) (dark : Bool) :
    exec (.spareTuneTimeout t p i dark) s = .next (after u (spareTimeout p i dark u)) :=
  congrArg _ (command_awake h (spareTimeout p i dark))

end

/-- Settles O14: a round of a bank's write decides the state of its own laser alone, and state and time decide what a lock, a
failure or a time-out does. -/
theorem lasersAnswer : Obligations.LasersAnswer := by
  intro t p s u hu hp
  refine ⟨fun a w z hr hz => ?bank, fun w hstarting hw => ⟨fun hearly => ?lock, fun counts hlate => ?start⟩,
    fun j counts hlocked => ?fail, fun i x hx htuning hheld => ⟨fun hearly hlost => ?light, fun dark hlate => ?bad⟩⟩
  case bank =>
    have hwrite := bankCtrl_write a hp w hr []
    have hpart (was : Bool) := optless_hostFirst_bankEnable a (rOPT_BANK_CTRL p) p was z
    rw [← hz] at hwrite
    refine ⟨fun hwas hnow => ?_, fun hwas hnow => ?_⟩
    · rw [exec_bankEnable_awake hu, hwrite, hwas]
      refine ⟨_, rfl, rfl, link_of_optless (hpart false), csc_of_optless (hpart false), fun j hj hsound => ?_⟩
      rw [laserState_hostFirst_bankCtrl, laserState_bankEnable_on hnow hj hsound]
    · rw [exec_bankDisable_awake hu, hwrite, hwas]
      refine ⟨_, rfl, rfl, link_of_optless (hpart true), csc_of_optless (hpart true), fun j hj hsound => ?_⟩
      rw [laserState_hostFirst_bankCtrl, laserState_bankEnable_off hnow hj hsound]
  case lock =>
    rw [exec_laserLock_awake hu, laserLock_locks hstarting hw hearly]
    exact ⟨_, rfl, rfl, by rw [laserState_homeRings, laserState_setLaser_grid hw]⟩
  case start => rw [exec_laserStartTimeout_awake hu, laserStartTimeout_loses hstarting hw hlate]
  case fail =>
    rw [exec_comparatorTrip_awake hu, exec_driverFault_awake hu, laserFails_loses hlocked, laserFails_loses hlocked]
    exact ⟨rfl, rfl⟩
  case light =>
    subst hx
    rw [exec_spareLock_awake hu, spareLock_lights htuning hheld hearly hlost]
  case bad =>
    subst hx
    rw [exec_spareTuneTimeout_awake hu, spareTimeout_bad htuning hheld hlate]

end Sys2Proof.Machine
end

/-! SUPPORT. Monitors, measurements, ageing steps and trims (R308–R310, R315, R342, R343). -/
section
namespace Sys2Proof.Machine

/-! ## Of two writes of one cycle -/

/-- With no write of the sideband's before it in the cycle, a write stands. -/
theorem reg_hostFirst_first {off : Nat} {s : State} (h : look off (updates s).sideband = none) (a : Accessor) (o : Nat) :
    reg o (hostFirst a off s) = reg o s := by
  unfold hostFirst
  split
  · rfl
  · simp only
    split
    · exact reg_setUpds ..
    · rw [h]

/-- Bits that are not RW stand. -/
theorem getLsbD_reg_hostFirst {off i : Nat} {r : RegRow} (hrow : regRow off = some r) (hi : i < 32)
    (hbit : r.rw.testBit i = false) (a : Accessor) (s : State) :
    (reg off (hostFirst a off s)).getLsbD i = (reg off s).getLsbD i := by
  have hmask : (BitVec.ofNat 32 r.rw).getLsbD i = false := by rw [BitVec.getLsbD_ofNat, hbit, Bool.and_false]
  simp only [hostFirst, hrow]
  split
  · rw [reg_setUpds]
  · split
    · rw [reg_setReg_same, BitVec.getLsbD_or, BitVec.getLsbD_and, BitVec.getLsbD_and, BitVec.getLsbD_not, hmask]
      simp [hi]
    · rfl

theorem fld_bit (off i : Nat) (s : State) : fld ⟨off, i, i⟩ s = ((reg off s).getLsbD i).toNat := by
  rw [fld, bits, show i + 1 - i = 1 by omega, Nat.pow_one, BitVec.getLsbD, Nat.toNat_testBit, Nat.shiftRight_eq_div_pow]

/-- A one-bit field that is not RW stands. -/
theorem fld_bit_hostFirst {off i : Nat} {r : RegRow} (hrow : regRow off = some r) (hi : i < 32)
    (hbit : r.rw.testBit i = false) (a : Accessor) (s : State) : fld ⟨off, i, i⟩ (hostFirst a off s) = fld ⟨off, i, i⟩ s := by
  rw [fld_bit, fld_bit, getLsbD_reg_hostFirst hrow hi hbit]

theorem updates_noteWrite_sideband (off mask : Nat) (s : State) :
    (updates (noteWrite off mask s)).sideband = (updates s).sideband := by
  have hat : (updates s).at_ = cycle s := by
    unfold updates
    split
    · assumption
    · rfl
  show (if (updates s).at_ = cycle s then { updates s with wrote := _ } else { at_ := cycle s }).sideband = _
  rw [if_pos hat]

theorem updates_setFlds (fs : List (Fld × Nat)) : ∀ s, updates (setFlds fs s) = updates s := by
  induction fs with
  | nil => intro s; rfl
  | cons x fs ih => intro s; exact (ih _).trans (updates_setReg ..)

theorem updates_writeLatches (a : Accessor) (off : Nat) (s : State) : updates (writeLatches a off s) = updates s :=
  (congrArg updates (latchless_writeLatches a off s) : updates (latchlessPart (writeLatches a off s)) = updates (latchlessPart s))

/-! ## Readings -/

/-- The fields a scan of channel i reports in. -/
abbrev scanFields (i int v : Nat) : List (Fld × Nat) :=
  [(OPT_MON_VALUE_VALID i, 1), (OPT_MON_VALUE_INT i, int), (OPT_MON_VALUE_POWER i, v)]

theorem fld_scanFields (i int v : Nat) (s : State) {x : Fld × Nat} (hx : x ∈ scanFields i int v) :
    fld x.1 (setFlds (scanFields i int v) s) = x.2 % 2 ^ (x.1.hi + 1 - x.1.lo) :=
  fld_setFlds_mem _ s (by simp [fieldOk]) (by simp [fieldsApart]) x hx

/-- A laser's own channel shows in its status; no other register hears of it. -/
theorem reg_laserReading {off i : Nat} (h : ∀ p j, p < 6 → j < 11 → off ≠ rOPT_LASER_STATUS p j) (v : Nat) (s : State) :
    reg off (laserReading i v s) = reg off s := by
  unfold laserReading
  split
  case isTrue hlaser =>
    exact reg_setFld_other (f := OPT_LASER_STATUS_POWER _ _) (h _ _ (by omega) (by omega)) v s
  case isFalse => rfl

/-- The value of a channel is no register of a report. -/
theorem monValue_not_reported {i : Nat} (hi : i ≤ 2105) : rOPT_MON_VALUE i ≠ rOPT_WARN_STATUS
    ∧ rOPT_MON_VALUE i ≠ rOPT_RX_LOW_LOC ∧ rOPT_MON_VALUE i ∉ faultRegs := by
  simp only [rOPT_MON_VALUE, rOPT_WARN_STATUS, rOPT_RX_LOW_LOC, faultRegs, rGLB_SFIFO_STATUS, rHMK_STATUS, rHMK_DROP_COUNT,
    rGLB_IRQ_PEND, List.mem_cons, List.not_mem_nil, or_false]
  omega

/-- What a scan does beside its channel's value leaves that value. -/
theorem reg_monitorScan {i : Nat} (hi : i ≤ 2105) (x : Int) (s : State) :
    reg (rOPT_MON_VALUE i) (monitorScan i x s) = reg (rOPT_MON_VALUE i)
      (setFlds (scanFields i (fld OPT_CTRL_MON_INT s) (reading x)) s) := by
  obtain ⟨hwarn, hloc, hfault⟩ := monValue_not_reported hi
  rw [monitorScan, if_neg (by omega)]
  extract_lets v z k n low p new warned held
  have hheld : reg (rOPT_MON_VALUE i) held = reg (rOPT_MON_VALUE i) z :=
    (reg_holdFirst hloc (by simp only [List.forall_mem_cons]; exact ⟨hloc, hloc, hloc, hloc, nofun⟩) warned).trans
      ((reg_raise hwarn ..).trans (reg_onOpt ..))
  split
  · refine reg_laserReading (fun p j hp hj => ?_) v z
    simp only [rOPT_MON_VALUE, rOPT_LASER_STATUS]
    omega
  · split
    · split
      · split
        · exact reg_onOpt ..
        · split
          · rw [reg_devFault hfault, hheld]
          · exact hheld
      · exact reg_onOpt ..
    · rfl

theorem fld_monitorScan {i : Nat} (hi : i ≤ 2105) (x : Int) (s : State) :
    fld (OPT_MON_VALUE_VALID i) (monitorScan i x s) = 1
      ∧ fld (OPT_MON_VALUE_INT i) (monitorScan i x s) = fld OPT_CTRL_MON_INT s % 8
      ∧ fld (OPT_MON_VALUE_POWER i) (monitorScan i x s) = reading x % 2 ^ 16 := by
  have hshown {y : Fld × Nat} (hy : y ∈ scanFields i (fld OPT_CTRL_MON_INT s) (reading x))
      (hoff : y.1.off = rOPT_MON_VALUE i) : fld y.1 (monitorScan i x s) = y.2 % 2 ^ (y.1.hi + 1 - y.1.lo) := by
    rw [fld, hoff, reg_monitorScan hi, ← hoff, ← fld, fld_scanFields _ _ _ s hy]
  exact ⟨hshown (y := (OPT_MON_VALUE_VALID i, 1)) (.head _) rfl, hshown (y := (OPT_MON_VALUE_INT i, _)) (.tail _ (.head _)) rfl,
    hshown (y := (OPT_MON_VALUE_POWER i, _)) (.tail _ (.tail _ (.head _))) rfl⟩

/-! ## Measurements -/

/-- The fields a measurement that starts shows. -/
abbrev measFields : List (Fld × Nat) := [(OPT_MEAS_CTRL_BUSY, 1), (OPT_MEAS_RESULT_VALID, 0)]

/-- GO of a measurement that is accepted (R308). -/
theorem opticsWrite_measGo {w : Word} {s z : State} (hgo : wfld OPT_MEAS_CTRL_GO w = 1) (hint : wfld OPT_MEAS_CTRL_INT w ≤ 4)
    (hchannel : wfld OPT_MEAS_CTRL_CHANNEL w ≤ 2105) (hidle : flag OPT_MEAS_CTRL_BUSY s = false)
    (hz : z = plainWrite rOPT_MEAS_CTRL w s) (hfree : flag OPT_MEAS_CTRL_BUSY z = false) (a : Accessor) :
    opticsWrite a rOPT_MEAS_CTRL w s = onOpt (fun o => { o with meas := wfld OPT_MEAS_CTRL_CHANNEL w })
      (setFlds measFields z) := by
  have haccepted : ¬ (4 < wfld OPT_MEAS_CTRL_INT w ∨ (flag OPT_MEAS_CTRL_BUSY s = true ∧ wfld OPT_MEAS_CTRL_GO w = 1)) := by
    simp only [hidle, Bool.false_eq_true, false_and, or_false]
    omega
  have hstarts : ¬ (flag OPT_MEAS_CTRL_BUSY z = true ∨ 2105 < wfld OPT_MEAS_CTRL_CHANNEL w) := by
    simp only [hfree, Bool.false_eq_true, false_or]
    omega
  rw [opticsWrite, if_neg (by decide), if_pos rfl, if_neg haccepted, ← hz, measGo, if_neg (by omega), if_neg hstarts]

theorem fld_measFields (a : Accessor) (f : Optics → Optics) (s : State) :
    fld OPT_MEAS_CTRL_BUSY (hostFirst a rOPT_MEAS_CTRL (onOpt f (setFlds measFields s))) = 1
      ∧ fld OPT_MEAS_RESULT_VALID (hostFirst a rOPT_MEAS_CTRL (onOpt f (setFlds measFields s))) = 0 := by
  have hrow : regRow rOPT_MEAS_CTRL = some ⟨0x900008, 1, 1, 1, 1, 0x20000000, 0x0, 0x38000FFF, 0x0, 0x0, 0x80000000⟩ := by
    decide
  have hshown := fld_setFlds_mem measFields s (by decide) (by decide)
  rw [fld_bit_hostFirst hrow (by decide) (by decide), fld_hostFirst (by decide), fld_onOpt, fld_onOpt]
  exact ⟨hshown (OPT_MEAS_CTRL_BUSY, 1) (.head _), hshown (OPT_MEAS_RESULT_VALID, 0) (.tail _ (.head _))⟩

/-- MEAS_DONE of a measurement in progress (R308). -/
theorem measDone_busy {s : State} (hbusy : flag OPT_MEAS_CTRL_BUSY s = true) (x : Int) :
    measDone x s = raise OPT_MEAS_RESULT_VALID 1 (setFlds [(OPT_MEAS_CTRL_BUSY, 0), (OPT_MEAS_RESULT_POWER, reading x)]
      (laserReading s.opt.meas (reading x) s)) := by
  rw [measDone, hbusy]
  rfl

theorem fld_measDone {s : State} (hbusy : flag OPT_MEAS_CTRL_BUSY s = true) (x : Int) :
    fld OPT_MEAS_CTRL_BUSY (measDone x s) = 0 ∧ fld OPT_MEAS_RESULT_VALID (measDone x s) = 1
      ∧ fld OPT_MEAS_RESULT_POWER (measDone x s) = reading x % 2 ^ 16 := by
  rw [measDone_busy hbusy]
  generalize reading x = v
  have hshown := fld_setFlds_mem [(OPT_MEAS_CTRL_BUSY, 0), (OPT_MEAS_RESULT_POWER, v)] (laserReading s.opt.meas v s)
    (by simp [fieldOk]) (by simp [fieldsApart])
  rw [fld_raise_other (by decide) (by decide) (by decide), fld_raise_bit _ (by decide) rfl,
    fld_raise_other (by decide) (by decide) (by decide)]
  exact ⟨hshown (OPT_MEAS_CTRL_BUSY, 0) (.head _), rfl, hshown (OPT_MEAS_RESULT_POWER, v) (.tail _ (.head _))⟩

/-! ## Ageing -/

section
variable {p j : Nat} {power : Int} {s : State}

/-- The power an ageing step measures shows in the laser's status alone. -/
theorem fld_measured {f : Fld} (h : f.off ≠ rOPT_LASER_STATUS p j) (v : Nat) :
    fld f (setFld (OPT_LASER_STATUS_POWER p j) v s) = fld f s := by
  rw [fld, reg_setFld_other h, fld]

theorem biasOf_measured (v : Nat) : biasOf p j (setFld (OPT_LASER_STATUS_POWER p j) v s) = biasOf p j s := by
  have htrim : rTRM_LASER p j ≠ rOPT_LASER_STATUS p j := by
    simp only [rTRM_LASER, rOPT_LASER_STATUS]
    omega
  rw [biasOf, flag, fld_measured htrim, fld_measured htrim, biasOf, flag]

theorem ceiling_measured (hp : p < 6) (v : Nat) :
    fld (OPT_EOL_CEIL_CEIL p) (setFld (OPT_LASER_STATUS_POWER p j) v s) = fld (OPT_EOL_CEIL_CEIL p) s :=
  fld_measured (by simp only [rOPT_EOL_CEIL, rOPT_LASER_STATUS]; omega) v

/-- The bias request of an ageing step that measures `power`. -/
def ageRequest (p j : Nat) (power : Int) (s : State) : State :=
  let target := calOf 4 (11 * p + j) s
  let top := 40 * fld (OPT_EOL_CEIL_CEIL p) s
  if power < target - 20 then
    if top < biasOf p j s + 160 then
      let new := !bit (fld OPT_WARN_STATUS_EOL s) p
      let s := requestBias p j (top / 20) s
      let s := raise OPT_WARN_STATUS_EOL (2 ^ p) (setFld (OPT_BANK_STATUS_EOL p) 1 s)
      if new then devFault 9 8 (2 ^ 11 * p + j) s else s
    else requestBias p j ((biasOf p j s + 160) / 20) s
  else if target + 50 < power then requestBias p j ((biasOf p j s - 160) / 20) s
  else s

/-- An ageing step of a laser below its ceiling, or not far under its target, ends its strikes (R310). -/
theorem ageStep_requests (hp : p < 6) (hage : flag OPT_CTRL_AGE_PERIOD s = true)
    (hlocked : laserState p j s = 2 ∨ laserState p j s = 6)
    (hsound : ¬ (biasOf p j s = 40 * fld (OPT_EOL_CEIL_CEIL p) s ∧ power < calOf 4 (11 * p + j) s - 200)) (counts : Map Nat) :
    ageStep p j power counts s = onLaser p j (fun x => { x with strikes := 0 })
      (ageRequest p j power (setFld (OPT_LASER_STATUS_POWER p j) (reading power) s)) := by
  rw [ageStep, if_neg (by simp [hage, hlocked])]
  extract_lets z target b top new asked warned requested strikes struck
  have hb : b = biasOf p j s := biasOf_measured _
  have htop : top = 40 * fld (OPT_EOL_CEIL_CEIL p) s := congrArg (40 * ·) (ceiling_measured hp _)
  have hstrikes : strikes = 0 := if_neg (by rw [hb, htop]; exact hsound)
  rw [if_neg (by omega)]
  show onLaser p j (fun x => { x with strikes := strikes }) (ageRequest p j power z) = _
  rw [hstrikes]

theorem ageRequest_raises (hp : p < 6) (hlow : power < calOf 4 (11 * p + j) s - 20)
    (hroom : biasOf p j s + 160 ≤ 40 * fld (OPT_EOL_CEIL_CEIL p) s) (v : Nat) :
    ageRequest p j power (setFld (OPT_LASER_STATUS_POWER p j) v s)
      = requestBias p j ((biasOf p j s + 160) / 20) (setFld (OPT_LASER_STATUS_POWER p j) v s) := by
  rw [ageRequest, biasOf_measured, ceiling_measured hp]
  exact (if_pos hlow).trans (if_neg (Nat.not_lt.mpr hroom))

theorem ageRequest_lowers (hhigh : calOf 4 (11 * p + j) s + 50 < power) (v : Nat) :
    ageRequest p j power (setFld (OPT_LASER_STATUS_POWER p j) v s)
      = requestBias p j ((biasOf p j s - 160) / 20) (setFld (OPT_LASER_STATUS_POWER p j) v s) := by
  rw [ageRequest, biasOf_measured]
  exact (if_neg (by rw [Int.not_lt]; exact (by omega : calOf 4 (11 * p + j) s - 20 ≤ power))).trans (if_pos hhigh)

end

/-! ## Trims -/

/-- The fields a bias request shows. -/
abbrev requestFields (p j req : Nat) : List (Fld × Nat) := [(TRM_LASER_REQ p j, req), (TRM_LASER_PEND p j, 1)]

section
variable {w : Word} {s : State} (a : Accessor)

theorem trimWrite_laser {p j : Nat} (hp : p < 6) (hj : j < 11) (hreq : wfld (TRM_LASER_REQ p j) w ≤ 8190)
    (hage : flag OPT_CTRL_AGE_PERIOD s = false) : trimWrite a (rTRM_LASER p j) w s
      = noteWrite (rTRM_LASER p j) 0x1FFF0000
        (trimPend (rTRM_LASER p j) (setFlds (requestFields p j (wfld (TRM_LASER_REQ p j) w)) s)) := by
  have hkind : isLaserTrim (rTRM_LASER p j) = true := by
    simp only [isLaserTrim, rTRM_LASER, Bool.and_eq_true, decide_eq_true_eq]
    omega
  have hport : (rTRM_LASER p j - 0xE01000) / 64 = p := by simp only [rTRM_LASER]; omega
  have hlaser : (rTRM_LASER p j - 0xE01000) % 64 / 4 = j := by simp only [rTRM_LASER]; omega
  simp only [trimWrite, hkind, hport, hlaser, hage, Nat.not_lt.mpr hreq, if_true, Bool.false_eq_true, false_and, or_false,
    if_false]

theorem trimWrite_ring {i : Nat} (hi : i < 918) : trimWrite a (rTRM_RING i) w s
    = trimPend (rTRM_RING i) (setFlds [(TRM_RING_REQ i, wfld (TRM_RING_REQ i) w), (TRM_RING_PEND i, 1)] s) := by
  have hlaser : isLaserTrim (rTRM_RING i) = false := by
    simp only [isLaserTrim, rTRM_RING, Bool.and_eq_false_iff, decide_eq_false_iff_not]
    omega
  have hkind : isRingTrim (rTRM_RING i) = true := by
    simp only [isRingTrim, rTRM_RING, Bool.and_eq_true, decide_eq_true_eq]
    omega
  have hindex : (rTRM_RING i - 0xE02000) / 4 = i := by simp only [rTRM_RING]; omega
  simp only [trimWrite, hlaser, hkind, hindex, if_true, Bool.false_eq_true, if_false]

theorem trimWrite_swing {i : Nat} (hi : i < 918) : trimWrite a (rTRM_SWING i) w s
    = trimPend (rTRM_SWING i) (setFlds [(TRM_SWING_REQ i, wfld (TRM_SWING_REQ i) w), (TRM_SWING_PEND i, 1)] s) := by
  have hlaser : isLaserTrim (rTRM_SWING i) = false := by
    simp only [isLaserTrim, rTRM_SWING, Bool.and_eq_false_iff, decide_eq_false_iff_not]
    omega
  have hkind : isRingTrim (rTRM_SWING i) = false := by
    simp only [isRingTrim, rTRM_SWING, Bool.and_eq_false_iff, decide_eq_false_iff_not]
    omega
  have hindex : (rTRM_SWING i - 0xE03000) / 4 = i := by simp only [rTRM_SWING]; omega
  simp only [trimWrite, hlaser, hkind, hindex, Bool.false_eq_true, if_false]

end

theorem regRow_laserTrim : ∀ p < 6, ∀ j < 11,
    regRow (rTRM_LASER p j) = some ⟨0xE01000, 6, 64, 11, 4, 0x0, 0x0, 0x1FFF0000, 0x0, 0x0, 0x0⟩ := by decide

section
variable {p j : Nat} {req : Nat} {s : State}

/-- Noting a write and keeping its request change no register. -/
theorem reg_noted (off o mask : Nat) (s : State) : reg o (noteWrite off mask (trimPend off s)) = reg o s :=
  (reg_noteWrite ..).trans (reg_onOpt ..)

theorem fld_requestFields {x : Fld × Nat} (hx : x ∈ requestFields p j req) (s : State) :
    fld x.1 (setFlds (requestFields p j req) s) = x.2 % 2 ^ (x.1.hi + 1 - x.1.lo) :=
  fld_setFlds_mem _ s (by simp [fieldOk]) (by simp [fieldsApart]) x hx

/-- A request pends, whatever the sideband asks of the same register in the cycle (R400). -/
theorem fld_pend_requested (hp : p < 6) (hj : j < 11) (a : Accessor) (mask : Nat) :
    fld (TRM_LASER_PEND p j) (hostFirst a (rTRM_LASER p j) (noteWrite (rTRM_LASER p j) mask
      (trimPend (rTRM_LASER p j) (setFlds (requestFields p j req) s)))) = 1 := by
  rw [fld_bit_hostFirst (regRow_laserTrim p hp j hj) (by decide) (by decide), fld, reg_noted, ← fld]
  exact fld_requestFields (x := (TRM_LASER_PEND p j, 1)) (.tail _ (.head _)) s

/-- With no write of the sideband's before it in the cycle, a request shows. -/
theorem fld_req_requested (hfirst : look (rTRM_LASER p j) (updates s).sideband = none) (a : Accessor) (mask : Nat) :
    fld (TRM_LASER_REQ p j) (hostFirst a (rTRM_LASER p j) (noteWrite (rTRM_LASER p j) mask
      (trimPend (rTRM_LASER p j) (setFlds (requestFields p j req) s)))) = req % 2 ^ 13 := by
  have hpends (z : State) : updates (trimPend (rTRM_LASER p j) z) = updates z := rfl
  rw [fld, reg_hostFirst_first (by rw [updates_noteWrite_sideband, hpends, updates_setFlds, hfirst]), reg_noted, ← fld]
  exact fld_requestFields (x := (TRM_LASER_REQ p j, req)) (.head _) s

end

/-! ## The commands -/

section
variable {t : Nat} {s u : State} (h : Awake t s u)
include h

theorem exec_monitorScan_awake (i : Nat) (x : Int) : exec (.monitorScan t i x) s = .next (after u (monitorScan i x u)) :=
  congrArg _ (command_awake h (monitorScan i x))

theorem exec_measGo_awake (a : Accessor) (w : Word) :
    exec (.measGo t a w) s = .next (after u (regWrite a rOPT_MEAS_CTRL w [] u)) :=
  congrArg _ (command_awake h (regWrite a rOPT_MEAS_CTRL w []))

theorem exec_measDone_awake (x : Int) : exec (.measDone t x) s = .next (after u (measDone x u)) :=
  congrArg _ (command_awake h (measDone x))

theorem exec_ageStep_awake (p j : Nat) (power : Int) (counts : Map Nat) :
    exec (.ageStep t p j power counts) s = .next (after u (ageStep p j power counts u)) :=
  congrArg _ (command_awake h (ageStep p j power counts))

theorem exec_trimRequest_awake (a : Accessor) (off : Nat) (w : Word) :
    exec (.trimRequest t a off w) s = .next (after u (regWrite a off w [] u)) :=
  congrArg _ (command_awake h (regWrite a off w []))

theorem exec_noWork_awake : exec (.noWork t) s = .next (after u (noWork u)) := congrArg _ (command_awake h noWork)

end

/-- Settles O15: a reading, a measurement and a request are read off the registers they set, and an ageing step off its one
comparison of power with target. -/
theorem monitorsAnswer : Obligations.MonitorsAnswer := by
  intro t s u hu
  refine ⟨fun i x hi => ⟨_, exec_monitorScan_awake hu i x, fld_monitorScan hi x u⟩,
    fun a w z hr hgo hint hchannel hidle hz hfree => ?go,
    fun x hbusy => ⟨_, exec_measDone_awake hu x, fld_measDone hbusy x⟩,
    fun p j power counts hp _ hage hlocked => ⟨fun hlow hroom => ?raises, fun hhigh => ?lowers⟩,
    fun a w hr => ⟨fun p j hp hj hreq hage => ?laser, fun i hi => ?ring, fun i hi => ?swing⟩, fun hidle => ?work⟩
  case go =>
    have hstarted := opticsWrite_measGo hgo hint hchannel ((flag_writeLatches ..).trans hidle) hz hfree a
    rw [exec_measGo_awake hu, measCtrl_write a w hr, hstarted]
    exact ⟨_, rfl, rfl, fld_measFields ..⟩
  case raises =>
    rw [exec_ageStep_awake hu, ageStep_requests hp hage hlocked (by omega), ageRequest_raises hp hlow hroom]
  case lowers => rw [exec_ageStep_awake hu, ageStep_requests hp hage hlocked (by omega), ageRequest_lowers hhigh]
  case laser =>
    have hrow := laserTrim_row hp hj
    rw [exec_trimRequest_awake hu, trim_write a w hr (by simp only [rTRM_LASER]; omega) (by simp only [rTRM_LASER]; omega)
      (by simp only [rTRM_LASER]; omega) hrow, trimWrite_laser a hp hj hreq ((flag_writeLatches ..).trans hage)]
    refine ⟨_, rfl, rfl, fld_pend_requested hp hj a _, fun hfirst => ?_⟩
    rw [fld_req_requested (by rw [updates_writeLatches, hfirst])]
    exact Nat.mod_eq_of_lt (wfld_lt ..)
  case ring =>
    rw [exec_trimRequest_awake hu, trim_write a w hr (by simp only [rTRM_RING]; omega) (by simp only [rTRM_RING]; omega)
      (by simp only [rTRM_RING]; omega) (ring_row hi), trimWrite_ring a hi]
  case swing =>
    rw [exec_trimRequest_awake hu, trim_write a w hr (by simp only [rTRM_SWING]; omega) (by simp only [rTRM_SWING]; omega)
      (by simp only [rTRM_SWING]; omega) (swing_row hi), trimWrite_swing a hi]
  case work => rw [exec_noWork_awake hu, noWork, if_neg (by simp [hidle])]

end Sys2Proof.Machine
end

/-! SUPPORT. Heater loops: samples, updates and gain windows (R324–R338). -/
section
namespace Sys2Proof.Machine

/-! ## A loop -/

@[simp] theorem loopOf_onLoop_same (k : Nat) (f : Loop → Loop) (s : State) : loopOf k (onLoop k f s) = f (loopOf k s) :=
  get_upd_same ..
@[simp] theorem onLoop_regs (k : Nat) (f : Loop → Loop) (s : State) : (onLoop k f s).regs = s.regs := onAnl_regs ..
@[simp] theorem onLoop_link (k : Nat) (f : Loop → Loop) (s : State) : (onLoop k f s).link = s.link := onAnl_link ..

/-- The guard of the engine's commands does not stop a loop of an engine that is on. -/
theorem not_stopped {k : Nat} {s : State} (hk : k ≤ 3821) (hon : flag ANL_CTRL_ENABLE s = true) :
    ¬ (3821 < k ∨ (!flag ANL_CTRL_ENABLE s) = true) := by
  simp only [hon, Bool.not_true, Bool.false_eq_true, or_false]
  omega

/-! ## Samples -/

/-- The pilot on the heater of loop k at the present tick: none of a loop that does not run (R325). -/
def pilotNow (k : Nat) (s : State) : Int :=
  if (loopOf k s).st = .ramp ∨ (loopOf k s).st = .locked ∨ (loopOf k s).st = .hold then
    pilot (ampOf k (loopOf k s) s) (toneOf k) (freeNs s / 2000)
  else 0

/-- A loop after sample x at tick q, with pilot p on its heater (R324; the demodulators by log entry 28). -/
def sampled (k q x : Nat) (p : Int) (l : Loop) : Loop :=
  demodulate k q x { l with
    sum := l.sum + x, count := l.count + 1, dac := (clamp 0 65535 ((l.code : Int) + p)).toNat }

theorem frontEndTick_on {k : Nat} {s : State} (hk : k ≤ 3821) (hon : flag ANL_CTRL_ENABLE s = true) (sample : Nat) :
    frontEndTick k sample s
      = onLoop k (sampled k (freeNs s / 2000) (sample % 65536) (pilotNow k s)) s := by
  rw [frontEndTick, if_neg (not_stopped hk hon)]
  rfl

theorem pilotNow_running {k : Nat} {s : State}
    (hrun : (loopOf k s).st = .ramp ∨ (loopOf k s).st = .locked ∨ (loopOf k s).st = .hold) :
    pilotNow k s = pilot (ampOf k (loopOf k s) s) (toneOf k) (freeNs s / 2000) := if_pos hrun

/-! ## Updates -/

/-- Loop k at the start of its next period: no sample taken, no update to skip. -/
abbrev periodBegun (k : Nat) (s : State) : State := onLoop k (fun l => { l with sum := 0, count := 0, skip := false }) s

/-- An update that SELFTEST skips (R344). -/
theorem loopUpdate_skipped {k : Nat} {s : State} (hk : k ≤ 3821) (hon : flag ANL_CTRL_ENABLE s = true)
    (hskip : (loopOf k s).skip = true) (power : Nat) (lit : Bool) (counts : Map Nat) :
    loopUpdate k power lit counts s = periodBegun k s := by
  rw [loopUpdate, if_neg (not_stopped hk hon)]
  exact if_pos hskip

section
variable {k : Nat} {s : State} (hk : k ≤ 3821) (hon : flag ANL_CTRL_ENABLE s = true) (hskip : (loopOf k s).skip = false)
  (power : Nat) (lit : Bool) (counts : Map Nat)
include hk hon hskip

/-- A loop that homes, has failed, or is OFF with its heater at rest has no law to apply (R332). -/
theorem loopUpdate_idle
    (hst : (loopOf k s).st = .homing ∨ (loopOf k s).st = .failed ∨ ((loopOf k s).st = .off ∧ (loopOf k s).down = none)) :
    loopUpdate k power lit counts s = periodBegun k s := by
  rw [loopUpdate, if_neg (not_stopped hk hon)]
  rcases hst with hst | hst | ⟨hst, hdown⟩
  · simp only [hskip, hst, Bool.false_eq_true, if_false]
  · simp only [hskip, hst, Bool.false_eq_true, if_false]
  · simp only [hskip, hst, hdown, Bool.false_eq_true, if_false]

/-- The heater of a disabled loop falls in its ramp (R332). -/
theorem loopUpdate_lowers {a n : Nat} (hst : (loopOf k s).st = .off) (hdown : (loopOf k s).down = some (a, n)) :
    loopUpdate k power lit counts s = onLoop k (fun l => { l with
      code := (frac (a * (rampLen (loopClass k) s - (n + 1))) (rampLen (loopClass k) s)).round.toNat
      down := if n + 1 < rampLen (loopClass k) s then some (a, n + 1) else none }) (periodBegun k s) := by
  rw [loopUpdate, if_neg (not_stopped hk hon)]
  simp only [hskip, hst, hdown, Bool.false_eq_true, if_false]
  rfl

/-- A running loop whose owner holds it goes to HOLD (R336). -/
theorem loopUpdate_held (hst : (loopOf k s).st = .ramp ∨ (loopOf k s).st = .locked) (hheld : (loopOf k s).held = true) :
    loopUpdate k power lit counts s
      = onLoop k (fun l => { l with st := .hold, spoiled := true, s := none, gaincal := 0 }) (periodBegun k s) := by
  rw [loopUpdate, if_neg (not_stopped hk hon)]
  rcases hst with hst | hst <;> simp only [hskip, hst, hheld, Bool.true_or, Bool.false_eq_true, if_false, if_true]

/-- A LOCKED ring or laser that is not held is updated by its mean power (R327). -/
theorem loopUpdate_locked (hc : loopClass k = 0 ∨ loopClass k = 3) (hst : (loopOf k s).st = .locked)
    (hheld : (loopOf k s).held = false) :
    loopUpdate k power lit counts s = activeUpdate k (measFrac (meanPower (loopOf k s)))
      (if loopClass k = 0 then measFrac ((power : Int) - calOf 2 k s) else {}) counts (periodBegun k s) := by
  have hpower : ¬ (loopClass k = 1 ∨ loopClass k = 2) := by omega
  have hlight : ∀ z, noLight k true lit (meanPower (loopOf k s)) z = false := by
    intro z
    rcases hc with hc | hc <;> simp [noLight, hc]
  rw [loopUpdate, if_neg (not_stopped hk hon)]
  simp only [hskip, hst, hheld, hlight, if_neg hpower, Bool.or_false, Bool.false_eq_true, if_false]

end

/-! ## The control law on a LOCKED loop -/

theorem controlLaw_st (k : Nat) (m dd : Frac) (l : Loop) (s : State) : (controlLaw k m dd l s).1.st = l.st := rfl

theorem plausible_st (c : Nat) (m : Frac) (l : Loop) (s : State) : (plausible c m l s).1.st = l.st := by
  unfold plausible
  split <;> rfl

section
variable {k : Nat} {m dd : Frac} {s : State} {law : Loop × Frac} {phys : Loop × Bool}
  (hst : (loopOf k s).st = .locked) (hlaw : law = controlLaw k m dd (loopOf k s) s)
  (hphys : phys = plausible (loopClass k) m law.1 s)
include hst hlaw hphys

theorem st_of_law : phys.1.st = .locked := by rw [hphys, plausible_st, hlaw, controlLaw_st, hst]

variable (hstart : (loopOf k s).start = false) (hfresh : (loopOf k s).fresh = false) (hmove : (loopOf k s).move = none)
  (hinj : injArmed 10 s = false) (hsound : phys.2 = false) (counts : Map Nat)
include hstart hfresh hmove hinj hsound

/-- A LOCKED loop the model finds plausible counts its updates out of tolerance, and fails at LOST_N of them (R332). -/
theorem activeUpdate_locked : activeUpdate k m dd counts s =
    let bad := if law.2.abs.le (coef (loopClass k) 10 s) then 0 else phys.1.bad + 1
    let y := setLoop k { phys.1 with bad := bad } s
    if lostN (loopClass k) s ≤ bad then loopFails k 4 counts y else y := by
  have hlocked := st_of_law hst hlaw hphys
  unfold activeUpdate
  simp only [hstart, hfresh, hmove, hinj, ← hlaw, ← hphys, hsound, hlocked, Bool.or_self, Bool.false_and,
    Bool.false_eq_true, if_false]
  rfl

theorem activeUpdate_within (hok : law.2.abs.le (coef (loopClass k) 10 s) = true) (hn : lostN (loopClass k) s ≠ 0) :
    activeUpdate k m dd counts s = setLoop k { phys.1 with bad := 0 } s := by
  rw [activeUpdate_locked hst hlaw hphys hstart hfresh hmove hinj hsound]
  simp only [hok, if_true]
  exact if_neg (by omega)

theorem activeUpdate_lost (hbad : law.2.abs.le (coef (loopClass k) 10 s) = false)
    (hn : lostN (loopClass k) s ≤ phys.1.bad + 1) : activeUpdate k m dd counts s
      = loopFails k 4 counts (setLoop k { phys.1 with bad := phys.1.bad + 1 } s) := by
  rw [activeUpdate_locked hst hlaw hphys hstart hfresh hmove hinj hsound]
  simp only [hbad, Bool.false_eq_true, if_false]
  exact if_pos hn

end

/-! ## Gain windows -/

/-- Loop k at the end of its window, with the estimate of s and what GAINCAL waits for. -/
def windowOver (k : Nat) (est : Option (Int × Int)) (gc : Nat) (s : State) : State :=
  onLoop k (fun l => { l with s := est, spoiled := false, gaincal := gc, win1 := 0, win2 := 0 }) s

/-- Is the present window of a loop one to estimate s by (R326)? -/
def windowGood (l : Loop) : Bool := !l.spoiled && (l.st == .ramp || l.st == .locked)

theorem windowGood_spoiled {l : Loop} (h : l.spoiled = true) : windowGood l = false := by simp [windowGood, h]

theorem windowGood_ramp {l : Loop} (h : l.spoiled = false) (hst : l.st = .ramp) : windowGood l = true := by
  simp [windowGood, h, hst]

/-- The window of a loop ends without a failure unless it gives the s of a LOCKED one (R326). -/
theorem windowEnd_over {k : Nat} {s : State} (hk : k ≤ 3821) (hon : flag ANL_CTRL_ENABLE s = true)
    (hsafe : ¬ (windowGood (loopOf k s) = true ∧ (loopOf k s).st = .locked)) (counts : Map Nat) :
    ∃ gc, windowEnd k counts s = windowOver k
      (if windowGood (loopOf k s) then windowGain k (loopOf k s) s else (loopOf k s).s) gc s := by
  rw [windowEnd, if_neg (not_stopped hk hon)]
  extract_lets c l good est gc z
  refine ⟨gc, ?_⟩
  split
  · rfl
  · exact if_neg fun hfails => hsafe ⟨hfails.1, hfails.2.1⟩

/-! ## The commands -/

section
variable {t : Nat} {s u : State} (h : Awake t s u)
include h

theorem exec_frontEndTick_awake (k sample : Nat) :
    exec (.frontEndTick t k sample) s = .next (after u (frontEndTick k sample u)) :=
  congrArg _ (command_awake h (frontEndTick k sample))

theorem exec_loopUpdate_awake (k power : Nat) (lit : Bool) (counts : Map Nat) :
    exec (.loopUpdate t k power lit counts) s = .next (after u (loopUpdate k power lit counts u)) :=
  congrArg _ (command_awake h (loopUpdate k power lit counts))

theorem exec_windowEnd_awake (k : Nat) (counts : Map Nat) :
    exec (.windowEnd t k counts) s = .next (after u (windowEnd k counts u)) :=
  congrArg _ (command_awake h (windowEnd k counts))

end

/-- Settles O16: a sample and a window's end are read off the loop they leave, and an update off the loop's state; that of a
LOCKED loop is its control law and its thermal model. -/
theorem loopUpdatesAnswer : Obligations.LoopUpdatesAnswer := by
  intro t k s u hu hk hon
  refine ⟨fun sample => ?sample, fun power lit counts z hz => ?update, fun counts hwhole hramp => ?window,
    fun counts hspoiled => ?spoiled⟩
  case sample =>
    refine ⟨_, exec_frontEndTick_awake hu k sample, ?_⟩
    rw [frontEndTick_on hk hon, loopOf_onLoop_same]
    exact ⟨rfl, rfl, rfl, rfl, fun hrun => by rw [← pilotNow_running hrun]; rfl⟩
  case update =>
    subst hz
    simp only [exec_loopUpdate_awake hu]
    refine ⟨fun hskip => ?_, fun hskip hst => ?_, fun a n hskip hst hdown => ?_, fun hskip hst hheld => ?_,
      fun m dd law phys hc hskip hst hheld hstart hfresh hmove hinj hm hdd hlaw hphys hsound => ?locked⟩
    · rw [loopUpdate_skipped hk hon hskip]
    · rw [loopUpdate_idle hk hon hskip _ _ _ hst]
    · rw [loopUpdate_lowers hk hon hskip _ _ _ hst hdown]
    · rw [loopUpdate_held hk hon hskip _ _ _ hst hheld]
    case locked =>
      have hl := loopOf_onLoop_same k (fun l => { l with sum := 0, count := 0, skip := false }) u
      have hst' : (loopOf k (periodBegun k u)).st = .locked := by rw [hl, hst]
      rw [loopUpdate_locked hk hon hskip _ _ _ hc hst hheld, ← hm, ← hdd]
      refine ⟨st_of_law hst' hlaw hphys, fun hok hn => ?_, fun hbad hn => ?_⟩
      · rw [activeUpdate_within hst' hlaw hphys (by rw [hl, hstart]) (by rw [hl, hfresh]) (by rw [hl, hmove]) hinj hsound counts
          hok hn]
        rfl
      · rw [activeUpdate_lost hst' hlaw hphys (by rw [hl, hstart]) (by rw [hl, hfresh]) (by rw [hl, hmove]) hinj hsound counts
          hbad hn]
        exact ⟨_, rfl, loopOf_onLoop_same .., by rw [setLoop, onLoop_regs, onLoop_regs],
          by rw [setLoop, onLoop_link, onLoop_link]⟩
  case window =>
    obtain ⟨gc, hend⟩ := windowEnd_over hk hon (fun h => by rw [hramp] at h; cases h.2) counts
    refine ⟨_, exec_windowEnd_awake hu k counts, ?_⟩
    rw [hend, windowOver, loopOf_onLoop_same, windowGood_ramp hwhole hramp]
    exact ⟨rfl, rfl, rfl, rfl, rfl⟩
  case spoiled =>
    have hbad := windowGood_spoiled hspoiled
    obtain ⟨gc, hend⟩ := windowEnd_over hk hon (fun h => by rw [hbad] at h; cases h.1) counts
    refine ⟨_, exec_windowEnd_awake hu k counts, ?_⟩
    rw [hend, windowOver, loopOf_onLoop_same, hbad]
    exact ⟨rfl, rfl⟩

end Sys2Proof.Machine
end

/-! SUPPORT. Loop owners, homing, coefficient banks and calibration requests (R329–R347). -/
section
namespace Sys2Proof.Machine

/-! ## Enabling and disabling a loop -/

theorem loopDisable_failed {k : Nat} {s : State} (hc : loopClass k = 2) (hst : (loopOf k s).st = .failed) :
    loopDisable k s = s := if_pos (.inr ⟨hc, hst⟩)

section
variable {k : Nat} {s : State} (hk : k ≤ 3821)
include hk

/-- The guard of LOOP_ENABLE does not stop a loop that is OFF, of an engine that is on. -/
theorem not_barred (hon : flag ANL_CTRL_ENABLE s = true) (hoff : (loopOf k s).st = .off) :
    ¬ (3821 < k ∨ (!flag ANL_CTRL_ENABLE s) = true ∨ (loopOf k s).st ≠ .off) := by
  simp only [hon, hoff, Bool.not_true, Bool.false_eq_true, ne_eq, not_true_eq_false, or_false]
  omega

/-- The owner of a ring whose wavelength is lit enables its loop (R332). -/
theorem loopEnable_ring (hon : flag ANL_CTRL_ENABLE s = true) (hoff : (loopOf k s).st = .off)
    (hc : loopClass k = 0 ∨ loopClass k = 1) (hlit : wlLit (k % 918 / 153) (k % 9) s = true) (cross : Bool) :
    loopEnable k cross s = homeStart k false s := by
  rw [loopEnable, if_neg (not_barred hk hon hoff)]
  rcases hc with hc | hc <;> simp only [hc, hlit, if_true]

/-- An element that is not stuck homes in the state it is given (R341). -/
theorem loopEnable_element (hon : flag ANL_CTRL_ENABLE s = true) (hoff : (loopOf k s).st = .off) (hc : loopClass k = 2)
    (hcsc : cscMode s = 0) (hfree : look (k - 1836) s.csc.stuck = none) (cross : Bool) :
    loopEnable k cross s = homeStart k false (onLoop k (fun l => { l with cross := cross }) s) := by
  rw [loopEnable, if_neg (not_barred hk hon hoff)]
  simp only [hc]
  exact if_pos ⟨hcsc, by rw [hfree]; rfl⟩

/-- The loop of a laser is enabled for the wavelength it serves (R332). -/
theorem loopEnable_laser (hon : flag ANL_CTRL_ENABLE s = true) (hoff : (loopOf k s).st = .off) (hc : loopClass k = 3)
    (cross : Bool) : ∃ w, loopEnable k cross s = startLaserLoop ((k - 3756) / 11) ((k - 3756) % 11) w s := by
  rw [loopEnable, if_neg (not_barred hk hon hoff)]
  simp only [hc]
  exact ⟨_, rfl⟩

theorem loopDisable_stops (h : ¬ (loopClass k = 2 ∧ (loopOf k s).st = .failed)) : loopDisable k s = stopLoop k s := by
  rw [loopDisable, if_neg]
  rintro (hover | hfailed)
  · omega
  · exact h hfailed

theorem loopHold_sets (held : Bool) : loopHold k held s = onLoop k (fun l => { l with held := held }) s :=
  if_neg (by omega)

end

/-- A loop of class 3 is that of a laser (R322). -/
theorem laserLoop_of_class {k : Nat} (hc : loopClass k = 3) : laserLoop ((k - 3756) / 11) ((k - 3756) % 11) = k := by
  have hlow : 3756 ≤ k := by
    unfold loopClass at hc
    split at hc
    · cases hc
    · split at hc
      · cases hc
      · split at hc
        · cases hc
        · omega
  unfold laserLoop
  omega

/-- A loop begins a coarse sweep (R339). -/
theorem homeStart_coarse (k : Nat) (s : State) : (loopOf k (homeStart k false s)).st = .homing
    ∧ (loopOf k (homeStart k false s)).code = 128 ∧ (loopOf k (homeStart k false s)).cross = (loopOf k s).cross := by
  rw [homeStart, loopOf_onLoop_same]
  exact ⟨rfl, rfl, rfl⟩

/-- With the engine on, the loop of a laser ramps from the measurement at its next update (R332). -/
theorem startLaserLoop_ramps {s : State} (hon : flag ANL_CTRL_ENABLE s = true) (p j w : Nat) :
    (loopOf (laserLoop p j) (startLaserLoop p j w s)).st = .ramp
      ∧ (loopOf (laserLoop p j) (startLaserLoop p j w s)).start = true
      ∧ (loopOf (laserLoop p j) (startLaserLoop p j w s)).code = (loopOf (laserLoop p j) s).code := by
  rw [startLaserLoop, if_neg (by simp [hon]), loopOf_onLoop_same]
  exact ⟨rfl, rfl, rfl⟩

/-- A loop its owner disables is OFF; its heater falls over the next updates, or at once with the engine off (R332). -/
theorem stopLoop_stops (k : Nat) (s : State) : (loopOf k (stopLoop k s)).st = .off
    ∧ ((loopOf k s).st ≠ .off → flag ANL_CTRL_ENABLE s = true →
      (loopOf k (stopLoop k s)).down = some ((loopOf k s).code, 0) ∧ (loopOf k (stopLoop k s)).code = (loopOf k s).code)
    ∧ ((loopOf k s).st ≠ .off → flag ANL_CTRL_ENABLE s = false → (loopOf k (stopLoop k s)).code = 0) := by
  rw [stopLoop, loopOf_onLoop_same]
  split
  case isTrue hoff => exact ⟨hoff, fun h => absurd hoff h, fun h => absurd hoff h⟩
  case isFalse =>
    refine ⟨rfl, fun _ hon => ?_, fun _ hon => ?_⟩
    · simp only [hon, if_true, and_self]
    · simp only [hon, Bool.false_eq_true, if_false]

/-! ## Homing -/

section
variable {k m : Nat} {s : State} {h : Homing} (hst : (loopOf k s).st = .homing) (hsweep : (loopOf k s).sweep = some h)
  (counts : Map Nat)
include hst hsweep

/-- A coarse step whose reading is no new extreme goes on by 256 codes (R339). -/
theorem homingStep_coarse (hcoarse : h.coarse = true) (hroom : h.code + 256 < 65536) (hfirst : h.code ≠ 128) (hlo : h.lo ≤ m)
    (hhi : m ≤ h.hi) : homingStep k m counts s
      = onLoop k (fun l => { l with sweep := some { h with code := h.code + 256 }, code := h.code + 256 }) s := by
  simp only [homingStep, hsweep, hst, hcoarse, beq_eq_false_iff_ne.mpr hfirst, Nat.not_lt.mpr hlo, Nat.not_lt.mpr hhi, hroom,
    ne_eq, not_true_eq_false, decide_false, Bool.or_self, Bool.false_eq_true, if_false, if_true]

/-- The fine step that completes the run beyond the second edge ramps from the mean of the edges (R339). -/
theorem homingStep_found (hfine : h.coarse = false) (hinside : h.inside = true)
    (hfar : beyondEdge (loopClass k == 0) m (loopOf k s).thr true (2 * homeHyst (loopClass k) s) = true)
    (hrun : h.run + 1 = homeDeb (loopClass k) s) : homingStep k m counts s = onLoop k (fun l => { l with
      st := .ramp, start := true, sweep := none, spoiled := true
      home := some ((h.h1.getD 0 + (h.code - 16 * (homeDeb (loopClass k) s - 1))) / 2)
      code := (h.h1.getD 0 + (h.code - 16 * (homeDeb (loopClass k) s - 1))) / 2 }) s := by
  simp only [homingStep, hsweep, hst, hfine, hinside, hfar, hrun, ne_eq, not_true_eq_false, Bool.false_eq_true, if_false,
    if_true, and_self]

end

/-! ## Register writes of the engine -/

theorem writeLatches_anl (a : Accessor) (off : Nat) (s : State) : (writeLatches a off s).anl = s.anl :=
  (congrArg State.anl (latchless_writeLatches a off s) : (latchlessPart (writeLatches a off s)).anl = (latchlessPart s).anl)

theorem hostFirst_anl (a : Accessor) (off : Nat) (s : State) : (hostFirst a off s).anl = s.anl :=
  anl_of_unit (unitPart_hostFirst ..)

/-- What loops are is what the engine holds. -/
theorem loopOf_congr {s v : State} (h : v.anl = s.anl) (k : Nat) : loopOf k v = loopOf k s := by rw [loopOf, h, loopOf]

section
variable {a : Accessor} {s : State} (h : Reaches a s) (w : Word)
include h

theorem regWrite_anl {off : Nat} (hoff : off / 0x100000 = 8 ∧ off % 4 = 0 ∧ (regRow off).isSome = true) :
    regWrite a off w [] s = hostFirst a off (annealWrite a off w (writeLatches a off s)) := by
  obtain ⟨hunit, halign, hrow⟩ := hoff
  rw [regWrite_direct h halign (by omega) hrow]
  simp only [writeReg, hunit]

theorem regWrite_anlCtrl : regWrite a rANL_CTRL w [] s = hostFirst a rANL_CTRL
    (anlSwap a (wfld ANL_CTRL_SWAP w) (anlEnable (plainWrite rANL_CTRL w (writeLatches a rANL_CTRL s)))) := by
  rw [regWrite_anl h w (by decide), annealWrite, if_pos rfl]

theorem regWrite_calCtrl : regWrite a rANL_CAL_CTRL w [] s
    = hostFirst a rANL_CAL_CTRL (calGo a w (plainWrite rANL_CAL_CTRL w (writeLatches a rANL_CAL_CTRL s))) := by
  rw [regWrite_anl h w (by decide), annealWrite, if_neg (by decide), if_pos rfl]

theorem regWrite_setpt : regWrite a rANL_LOOP_SETPT w [] s
    = hostFirst a rANL_LOOP_SETPT (setptWrite a w (writeLatches a rANL_LOOP_SETPT s)) := by
  rw [regWrite_anl h w (by decide), annealWrite, if_neg (by decide), if_neg (by decide), if_pos rfl]

end

/-! ## ENABLE and SWAP -/

theorem anlEnable_on {s : State} (hon : flag ANL_CTRL_ENABLE s = true) : anlEnable s = s := if_pos hon

/-- A write with no bit of SWAP set makes no swap pending (R329). -/
theorem anlSwap_none (a : Accessor) (s : State) : anlSwap a 0 s = s :=
  loop_keeps (g := id) (fun c s => if_pos (by simp)) 4 s

/-- One bit of SWAP makes the swap of its class pending (R329). -/
theorem anlSwap_one {c : Nat} {s : State} (hc : c < 4) (hidle : (fld ANL_STATUS_SWAP_PENDING s).testBit c = false)
    (a : Accessor) : anlSwap a (2 ^ c) s
      = setFld ANL_STATUS_SWAP_PENDING (fld ANL_STATUS_SWAP_PENDING s ||| 2 ^ c) s := by
  rw [anlSwap, loop_only (c := c), if_pos hc]
  · simp only [Nat.testBit_two_pow_self, bit, hidle, Bool.not_true, Bool.false_eq_true, if_false]
  · intro i z hi
    exact if_pos (by simp [Nat.testBit_two_pow_of_ne hi.symm])

/-- A loop at rest: OFF with its heater at 0. -/
abbrev AtRest (l : Loop) : Prop := l.st = .off ∧ l.code = 0

/-- Loops put at rest one after another are at rest, and those not reached stand. -/
theorem get_forAll_put_rest (k : Nat) (f : Nat × Loop → Loop) (hf : ∀ x, AtRest (f x)) (xs : Map Loop) :
    ∀ m, (AtRest (get {} k m) ∨ ∃ x ∈ xs, x.1 = k) →
      AtRest (get {} k (forAll (fun (x : Nat × Loop) => put {} x.1 (f x)) xs m)) := by
  induction xs with
  | nil =>
    rintro m (h | ⟨x, hx, -⟩)
    · exact h
    · cases hx
  | cons x xs ih =>
    intro m h
    refine ih _ ?_
    by_cases hx : k = x.1
    · subst hx
      exact .inl (by rw [get_put_same]; exact hf x)
    · rw [get_put_other _ hx]
      refine h.imp id ?_
      rintro ⟨y, hy, rfl⟩
      rcases List.mem_cons.mp hy with rfl | hy
      · exact absurd rfl hx
      · exact ⟨y, hy, rfl⟩

/-- With ENABLE cleared every loop is OFF with its heater at 0 (R347). -/
theorem anlEnable_off {s : State} (hoff : flag ANL_CTRL_ENABLE s = false) (k : Nat) : AtRest (loopOf k (anlEnable s)) := by
  rw [anlEnable, if_neg (by simp [hoff])]
  refine get_forAll_put_rest k _ (fun x => ⟨rfl, rfl⟩) _ _ ?_
  exact (get_default_or_listed ({} : Loop) k s.anl.loop).imp (fun h => by rw [h]; exact ⟨rfl, rfl⟩) id

/-! ## SETPT -/

/-- A set-point of a ring's or a laser's loop is stored (R332). -/
theorem setptWrite_stores {s : State} (hk : fld ANL_LOOP_SEL_LOOP s ≤ 3821)
    (hc : loopClass (fld ANL_LOOP_SEL_LOOP s) = 0 ∨ loopClass (fld ANL_LOOP_SEL_LOOP s) = 3) (a : Accessor) (w : Word) :
    setptWrite a w s = onLoop (fld ANL_LOOP_SEL_LOOP s) (fun l => { l with
      setpt := bits w.toNat 17 0, fresh := l.st == .ramp || l.st == .locked || l.fresh }) s :=
  if_neg (by omega)

/-! ## Coefficient banks -/

/-- The fields of a bank swap of class c (R329). -/
abbrev swapFields (c : Nat) (s : State) : List (Fld × Nat) :=
  [(ANL_STATUS_SWAP_PENDING, fld ANL_STATUS_SWAP_PENDING s ^^^ 2 ^ c),
    (ANL_STATUS_ACTIVE_BANK, fld ANL_STATUS_ACTIVE_BANK s ^^^ 2 ^ c)]

theorem coefSwapApply_swaps {c : Nat} {s : State} (hc : c < 4) (hpending : (fld ANL_STATUS_SWAP_PENDING s).testBit c = true)
    (hhoming : classHoming c s = false) : coefSwapApply c s = setFlds (swapFields c s) s :=
  if_pos ⟨hc, hpending, by rw [hhoming]; rfl⟩

theorem fld_swapFields {c : Nat} {s : State} {x : Fld × Nat} (hx : x ∈ swapFields c s) :
    fld x.1 (setFlds (swapFields c s) s) = x.2 % 2 ^ (x.1.hi + 1 - x.1.lo) :=
  fld_setFlds_mem _ s (by simp [fieldOk]) (by simp [fieldsApart]) x hx

/-! ## Calibration requests -/

/-- The fields a request that begins at once shows (R345). -/
abbrev atOnceFields : List (Fld × Nat) :=
  [(ANL_CAL_STATUS_AT_ONCE, 1), (ANL_CAL_STATUS_MOVED, 0), (ANL_CAL_STATUS_ST_FAIL, 0), (ANL_CAL_STATUS_BOUNDARY, 0)]

/-- Request r, accepted with no run in progress: it is about to begin. -/
def calAtOnce (r : CalReq) (s : State) : State :=
  setFlds atOnceFields (setReg64 rANL_CAL_TIME_LO rANL_CAL_TIME_HI (mstNs s) (onAnl (fun x => { x with cal := some r }) s))

theorem calAtOnce_anl (r : CalReq) (s : State) : (calAtOnce r s).anl = { s.anl with cal := some r } :=
  anl_of_unit (unitPart_setFlds atOnceFields _)

theorem fld_calAtOnce (r : CalReq) (s : State) : fld ANL_CAL_STATUS_AT_ONCE (calAtOnce r s) = 1 :=
  fld_setFlds_mem atOnceFields _ (by decide) (by decide) (ANL_CAL_STATUS_AT_ONCE, 1) (.head _)

theorem calGo_atOnce {w : Word} {s : State} (hgo : wfld ANL_CAL_CTRL_GO w = 1) (hkind : wfld ANL_CAL_CTRL_KIND w ≤ 1)
    (hport : wfld ANL_CAL_CTRL_PORT w ≤ 5) (hpending : flag ANL_CAL_STATUS_PENDING s = false)
    (hrunning : flag ANL_CAL_STATUS_RUNNING s = false) (hidle : runOn s = false) (a : Accessor) :
    calGo a w s = calBegin (calAtOnce ⟨wfld ANL_CAL_CTRL_KIND w, wfld ANL_CAL_CTRL_PORT w⟩ s) := by
  have haccepted : ¬ (1 < wfld ANL_CAL_CTRL_KIND w ∨ 5 < wfld ANL_CAL_CTRL_PORT w ∨ flag ANL_CAL_STATUS_PENDING s = true
      ∨ flag ANL_CAL_STATUS_RUNNING s = true) := by
    simp only [hpending, hrunning, Bool.false_eq_true, or_false]
    omega
  rw [calGo, if_neg (by omega), if_neg haccepted]
  exact if_pos (by rw [runOn, onAnl_seq, ← runOn, hidle]; rfl)

/-- The fields of an action that begins (R345). -/
abbrev begunFields : List (Fld × Nat) := [(ANL_CAL_STATUS_PENDING, 0), (ANL_CAL_STATUS_RUNNING, 1)]

/-- A loop whose next update SELFTEST skips, unless it is OFF (R344). -/
def skipsNext (l : Loop) : Loop := if l.st = .off then l else { l with skip := true }

/-- A SELFTEST that begins skips the next update of every loop (R344). -/
theorem calBegin_selftest {s : State} {r : CalReq} (hr : s.anl.cal = some r) (hkind : r.kind = 0) :
    calBegin s = onAnl (fun a => { a with loop := a.loop.map fun x => (x.1, skipsNext x.2) }) (setFlds begunFields s) := by
  simp only [calBegin, hr]
  exact if_pos hkind

/-- What a SELFTEST that begins at once shows (R344, R345). -/
theorem calBegin_selftest_shows {r : CalReq} (hkind : r.kind = 0) (s : State) :
    (calBegin (calAtOnce r s)).anl.cal = some r ∧ fld ANL_CAL_STATUS_RUNNING (calBegin (calAtOnce r s)) = 1
      ∧ fld ANL_CAL_STATUS_AT_ONCE (calBegin (calAtOnce r s)) = 1 := by
  have hcal : (calAtOnce r s).anl.cal = some r := by rw [calAtOnce_anl]
  rw [calBegin_selftest hcal hkind, fld_onAnl, fld_onAnl]
  refine ⟨?_, ?_, ?_⟩
  · show (setFlds begunFields (calAtOnce r s)).anl.cal = some r
    rw [anl_of_unit (unitPart_setFlds begunFields _), hcal]
  · exact fld_setFlds_mem begunFields _ (by decide) (by decide) (ANL_CAL_STATUS_RUNNING, 1) (.tail _ (.head _))
  · rw [fld_setFlds_other (by decide) begunFields _ (by decide), fld_calAtOnce]

/-- The boundary of a deferred request at a slice start has come (R345). -/
theorem calStart_begins {s : State} (hpending : flag ANL_CAL_STATUS_PENDING s = true)
    (hslice : fld ANL_CAL_STATUS_BOUNDARY s = 2)
    (htime : reg64 rANL_CAL_TIME_LO rANL_CAL_TIME_HI s ≤ mstNs s) : calStart s = calBegin s := by
  simp only [calStart, hslice, hpending, htime, decide_true, and_self, if_true]

/-! ### The end of an action -/

/-- What a SELFTEST found failing, which its command gives (log entry 87), is reported (R344). -/
def selftestReport (lanes loops : List Nat) (s : State) : State :=
  forAll (fun k s => selftestFail k (loopOf k s).code s) loops (forAll (fun k => selftestFail k 0) lanes s)

/-- An action that has ended: its status (R345). -/
def calEnded (s : State) : State := raise ANL_CAL_STATUS_DONE 1 (setFld ANL_CAL_STATUS_RUNNING 0 s)

/-- The request of an action is gone. -/
abbrev calDropped (s : State) : State := onAnl (fun x => { x with cal := none }) s

section
variable {r : CalReq} {s : State} (hr : s.anl.cal = some r) (hrunning : flag ANL_CAL_STATUS_RUNNING s = true)
  (hover : calWaits r s = false)
include hr hrunning hover

theorem calDone_ends (lanes loops : List Nat) : calDone lanes loops s
    = irq 24 (calEnded (if r.kind ≠ 0 then calDropped s else selftestReport lanes loops (calDropped s))) := by
  simp only [calDone, hr, hrunning, hover, Bool.not_true, Bool.false_eq_true, or_self, if_false]
  rfl

theorem calDone_clean : calDone [] [] s = irq 24 (calEnded (calDropped s)) := by
  rw [calDone_ends hr hrunning hover]
  split <;> rfl

theorem calDone_selftest (hkind : r.kind = 0) (lanes loops : List Nat) :
    calDone lanes loops s = irq 24 (calEnded (selftestReport lanes loops (calDropped s))) := by
  rw [calDone_ends hr hrunning hover, if_neg (by simp [hkind])]

end

theorem fld_calEnded_done (s : State) : fld ANL_CAL_STATUS_DONE (calEnded s) = 1 := fld_raise_bit _ (by decide) rfl _

theorem fld_calEnded_running (s : State) : fld ANL_CAL_STATUS_RUNNING (calEnded s) = 0 := by
  rw [calEnded, fld_raise_other (by decide) (by decide) (by decide)]
  exact fld_setFld_same _ (by decide) _ _

theorem fld_calEnded_fail (s : State) : fld ANL_CAL_STATUS_ST_FAIL (calEnded s) = fld ANL_CAL_STATUS_ST_FAIL s := by
  rw [calEnded, fld_raise_other (by decide) (by decide) (by decide), fld_setFld_other (by decide) (by decide) (by decide)]

theorem calEnded_anl (s : State) : (calEnded s).anl = s.anl := by
  rw [calEnded, anl_of_unit (unitPart_raise ..), setFld_anl]

theorem fld_selftestFail (k code : Nat) (s : State) : fld ANL_CAL_STATUS_ST_FAIL (selftestFail k code s) = 1 :=
  fld_setFld_same _ (by decide) _ _

/-- A failure that a report comes to stays in ST_FAIL. -/
theorem fld_selftestReport {lanes loops : List Nat} (h : lanes ++ loops ≠ []) (s : State) :
    fld ANL_CAL_STATUS_ST_FAIL (selftestReport lanes loops s) = 1 := by
  have hkept (f : Nat → State → Nat) (ks : List Nat) (z : State) (hz : fld ANL_CAL_STATUS_ST_FAIL z = 1) :
      fld ANL_CAL_STATUS_ST_FAIL (forAll (fun k s => selftestFail k (f k s) s) ks z) = 1 :=
    forAll_induct (P := fun z => fld ANL_CAL_STATUS_ST_FAIL z = 1) (fun k z _ => fld_selftestFail k (f k z) z) ks z hz
  unfold selftestReport
  cases lanes with
  | cons k lanes =>
    exact hkept _ loops _ (hkept (fun _ _ => 0) lanes _ (fld_selftestFail ..))
  | nil =>
    cases loops with
    | nil => exact absurd rfl h
    | cons k loops => exact hkept (fun k s => (loopOf k s).code) loops _ (fld_selftestFail ..)

/-! ## The commands -/

section
variable {t : Nat} {s u : State} (h : Awake t s u)
include h

theorem exec_loopEnable_awake (k : Nat) (cross : Bool) :
    exec (.loopEnable t k cross) s = .next (after u (loopEnable k cross u)) := congrArg _ (command_awake h (loopEnable k cross))

theorem exec_loopDisable_awake (k : Nat) : exec (.loopDisable t k) s = .next (after u (loopDisable k u)) :=
  congrArg _ (command_awake h (loopDisable k))

theorem exec_loopHold_awake (k : Nat) : exec (.loopHold t k) s = .next (after u (loopHold k true u)) :=
  congrArg _ (command_awake h (loopHold k true))

theorem exec_loopRelease_awake (k : Nat) : exec (.loopRelease t k) s = .next (after u (loopHold k false u)) :=
  congrArg _ (command_awake h (loopHold k false))

theorem exec_homingStep_awake (k m : Nat) (counts : Map Nat) :
    exec (.homingStep t k m counts) s = .next (after u (homingStep k m counts u)) :=
  congrArg _ (command_awake h (homingStep k m counts))

theorem exec_coefSwapApply_awake (c : Nat) : exec (.coefSwapApply t c) s = .next (after u (coefSwapApply c u)) :=
  congrArg _ (command_awake h (coefSwapApply c))

theorem exec_calStart_awake : exec (.calStart t) s = .next (after u (calStart u)) := congrArg _ (command_awake h calStart)

theorem exec_calDone_awake (lanes loops : List Nat) :
    exec (.calDone t lanes loops) s = .next (after u (calDone lanes loops u)) :=
  congrArg _ (command_awake h (calDone lanes loops))

variable {a : Accessor} (hr : Reaches a u) (w : Word)
include hr

theorem exec_anlEnable_awake : exec (.anlEnable t a w) s = .next (after u (hostFirst a rANL_CTRL
    (anlSwap a (wfld ANL_CTRL_SWAP w) (anlEnable (plainWrite rANL_CTRL w (writeLatches a rANL_CTRL u)))))) :=
  congrArg _ ((command_awake h _).trans (congrArg _ (regWrite_anlCtrl hr w)))

theorem exec_anlSwap_awake : exec (.anlSwap t a w) s = .next (after u (hostFirst a rANL_CTRL
    (anlSwap a (wfld ANL_CTRL_SWAP w) (anlEnable (plainWrite rANL_CTRL w (writeLatches a rANL_CTRL u)))))) :=
  congrArg _ ((command_awake h _).trans (congrArg _ (regWrite_anlCtrl hr w)))

theorem exec_setptWrite_awake : exec (.setptWrite t a w) s = .next (after u (hostFirst a rANL_LOOP_SETPT
    (setptWrite a w (writeLatches a rANL_LOOP_SETPT u)))) :=
  congrArg _ ((command_awake h _).trans (congrArg _ (regWrite_setpt hr w)))

theorem exec_selftest_awake : exec (.selftest t a w) s = .next (after u (hostFirst a rANL_CAL_CTRL
    (calGo a w (plainWrite rANL_CAL_CTRL w (writeLatches a rANL_CAL_CTRL u))))) :=
  congrArg _ ((command_awake h _).trans (congrArg _ (regWrite_calCtrl hr w)))

theorem exec_gaincal_awake : exec (.gaincal t a w) s = .next (after u (hostFirst a rANL_CAL_CTRL
    (calGo a w (plainWrite rANL_CAL_CTRL w (writeLatches a rANL_CAL_CTRL u))))) :=
  congrArg _ ((command_awake h _).trans (congrArg _ (regWrite_calCtrl hr w)))

end

/-- Settles O17: each command is read off the one branch of its rule that it takes; a register write, off the state its
plain part leaves. -/
theorem loopOwnersAnswer : Obligations.LoopOwnersAnswer := by
  refine ⟨fun t k s u hu hk => ?loops, fun t a w s u z hu hr => ?writes, fun t c s u hu => ?events⟩
  case loops =>
    simp only [exec_loopEnable_awake hu, exec_loopDisable_awake hu, exec_homingStep_awake hu]
    refine ⟨fun cross hon hoff => ⟨fun hc hlit => ?_, fun hc hcsc hfree => ?_, fun hc => ?_⟩, fun hc hst => ?_,
      fun hruns => ?_, ?_, ?_,
      fun h m counts hst hsweep => ⟨fun hcoarse hroom hfirst hlo hhi => ?_, fun hfine hinside hfar hrun => ?_⟩⟩
    · rw [loopEnable_ring hk hon hoff hc hlit]
    · obtain ⟨hhoming, hcode, hcross⟩ := homeStart_coarse k (onLoop k (fun l => { l with cross := cross }) u)
      rw [loopEnable_element hk hon hoff hc hcsc hfree]
      exact ⟨_, rfl, hhoming, hcode, by rw [hcross, loopOf_onLoop_same]⟩
    · obtain ⟨w, henable⟩ := loopEnable_laser hk hon hoff hc cross
      have hramps := startLaserLoop_ramps hon ((k - 3756) / 11) ((k - 3756) % 11) w
      rw [laserLoop_of_class hc] at hramps
      rw [henable]
      exact ⟨_, rfl, hramps⟩
    · rw [loopDisable_failed hc hst]
    · rw [loopDisable_stops hk hruns]
      exact ⟨_, rfl, stopLoop_stops k u⟩
    · rw [exec_loopHold_awake hu, loopHold_sets hk]
    · rw [exec_loopRelease_awake hu, loopHold_sets hk]
    · rw [homingStep_coarse hst hsweep counts hcoarse hroom hfirst hlo hhi]
    · rw [homingStep_found hst hsweep counts hfine hinside hfar hrun]
  case writes =>
    refine ⟨fun hz hon => ⟨fun hswap => ?keeps, fun c hc hswap hidle hstands => ?swaps⟩, fun hz hoff hswap => ?rest,
      fun k hz hsel hk hc => ?setpt,
      fun hz hgo hport hpending hrunning hidle => ⟨fun hkind => ?selftest, fun hkind => ?gaincal⟩⟩
    case keeps => rw [exec_anlEnable_awake hu hr, ← hz, anlEnable_on hon, hswap, anlSwap_none]
    case swaps =>
      rw [exec_anlSwap_awake hu hr, ← hz, anlEnable_on hon, hswap, anlSwap_one hc (by rw [hstands]; exact hidle), hstands]
    case rest =>
      rw [exec_anlEnable_awake hu hr, ← hz, hswap, anlSwap_none]
      refine ⟨_, rfl, fun k => ?_⟩
      rw [loopOf_congr (hostFirst_anl ..)]
      exact anlEnable_off hoff k
    case setpt =>
      have hsel' : fld ANL_LOOP_SEL_LOOP z = k := by rw [hz, fld_writeLatches, hsel]
      rw [exec_setptWrite_awake hu hr, ← hz, setptWrite_stores (by rw [hsel']; exact hk) (by rw [hsel']; exact hc), hsel']
      refine ⟨_, rfl, ?_, ?_, fun o ho => ?_⟩
      · rw [loopOf_congr (hostFirst_anl ..), loopOf_onLoop_same]
      · rw [loopOf_congr (hostFirst_anl ..), loopOf_onLoop_same, hz, loopOf_congr (writeLatches_anl ..)]
      · rw [reg_hostFirst ho, reg_congr (onLoop_regs ..), hz, reg_writeLatches]
    case selftest =>
      obtain ⟨hcal, hrun, honce⟩ := calBegin_selftest_shows (r := ⟨0, wfld ANL_CAL_CTRL_PORT w⟩) rfl z
      rw [exec_selftest_awake hu hr, ← hz, calGo_atOnce hgo (by omega) hport hpending hrunning hidle, hkind]
      exact ⟨_, rfl, by rw [hostFirst_anl, hcal], by rw [fld_hostFirst (by decide), hrun],
        by rw [fld_hostFirst (by decide), honce]⟩
    case gaincal =>
      rw [exec_gaincal_awake hu hr, ← hz, calGo_atOnce hgo (by omega) hport hpending hrunning hidle, hkind]
      refine ⟨_, rfl, by rw [calAtOnce_anl], ?_, fld_calAtOnce ..⟩
      rw [calAtOnce_anl, hz, anl_of_unit (unitPart_plainWrite ..), writeLatches_anl]
  case events =>
    simp only [exec_calDone_awake hu]
    refine ⟨fun hc hpending hhoming => ?swap, fun hpending hslice htime => ?start, fun r hcal hrunning hover => ⟨?clean,
      fun lanes loops hkind hfound => ?failed⟩⟩
    case swap =>
      rw [exec_coefSwapApply_awake hu, coefSwapApply_swaps hc hpending hhoming]
      exact ⟨_, rfl, fld_swapFields (x := (ANL_STATUS_ACTIVE_BANK, _)) (.tail _ (.head _)),
        fld_swapFields (x := (ANL_STATUS_SWAP_PENDING, _)) (.head _), anl_of_unit (unitPart_setFlds ..)⟩
    case start => rw [exec_calStart_awake hu, calStart_begins hpending hslice htime]
    case clean =>
      rw [calDone_clean hcal hrunning hover]
      exact ⟨_, rfl, fld_calEnded_running _, fld_calEnded_done _, by rw [calEnded_anl]; rfl⟩
    case failed =>
      rw [calDone_selftest hcal hrunning hover hkind]
      exact ⟨_, rfl, by rw [fld_calEnded_fail, fld_selftestReport hfound], fld_calEnded_done _⟩

end Sys2Proof.Machine
end

/-! SUPPORT. What the end of a run leaves of Sundial and of the state of MST. -/
section
namespace Sys2Proof.Machine

/-- Sundial, and the state of MST. -/
def mstView (s : State) : Sundial × Nat := (s.sdl, mstState s)

theorem mstView_congr {s v : State} (hsdl : v.sdl = s.sdl) (hstatus : reg rSDL_STATUS v = reg rSDL_STATUS s) :
    mstView v = mstView s := by
  unfold mstView mstState fld
  rw [hsdl, hstatus]

/-- A report that writes no SDL_STATUS. -/
theorem mstView_of_unit {s v : State} (hunit : unitPart v = unitPart s) (hstatus : reg rSDL_STATUS v = reg rSDL_STATUS s) :
    mstView v = mstView s := mstView_congr (sdl_of_unit hunit) hstatus

/-- SDL_STATUS is no register of a plot's faults, whatever the plot. -/
theorem sdlStatus_not_plotFaultRegs (n : Nat) : rSDL_STATUS ∉ plotFaultRegs n := by
  simp only [List.mem_cons, List.not_mem_nil, or_false, not_or, rSDL_STATUS, rPLOT_FAULT_STATUS, rPLOT_FAULT_FIRST,
    rPLOT_FAULT_COUNT]
  refine ⟨by omega, by omega, by omega, by decide, by decide, by decide, by decide⟩

@[simp] theorem mstView_plotFault (n c k d pc : Nat) (s : State) : mstView (plotFault n c k d pc s) = mstView s :=
  mstView_of_unit (unitPart_plotFault ..) (reg_plotFault (sdlStatus_not_plotFaultRegs n) ..)

@[simp] theorem mstView_devFault (c k d : Nat) (s : State) : mstView (devFault c k d s) = mstView s :=
  mstView_of_unit (unitPart_devFault ..) (reg_devFault (by decide) ..)

theorem mstView_setFld {f : Fld} (h : f.off ≠ rSDL_STATUS) (v : Nat) (s : State) : mstView (setFld f v s) = mstView s :=
  mstView_of_unit (unitPart_setFld ..) (reg_setFld_other h.symm ..)

/-- None of the fields lies in SDL_STATUS, by evaluation. -/
abbrev offStatus (fs : List (Fld × Nat)) : Bool := fs.all fun x => !Nat.beq rSDL_STATUS x.1.off

theorem off_ne_of_offStatus {fs : List (Fld × Nat)} (h : offStatus fs = true) : ∀ x ∈ fs, rSDL_STATUS ≠ x.1.off := by
  intro x hx he
  have hoff : (!Nat.beq rSDL_STATUS x.1.off) = true := List.all_eq_true.mp h x hx
  rw [← he, Nat.beq_refl] at hoff
  exact Bool.false_ne_true hoff

theorem mstView_setFlds {fs : List (Fld × Nat)} (h : offStatus fs = true) (s : State) :
    mstView (setFlds fs s) = mstView s :=
  mstView_of_unit (unitPart_setFlds ..) (reg_setFlds_other fs s (off_ne_of_offStatus h))

theorem mstView_bump {f : Fld} (h : f.off ≠ rSDL_STATUS) (n : Nat) (s : State) : mstView (bump f n s) = mstView s :=
  mstView_of_unit (unitPart_bump ..) (reg_bump h.symm ..)

theorem mstView_addSat {f : Fld} (h : f.off ≠ rSDL_STATUS) (n : Nat) (s : State) : mstView (addSat f n s) = mstView s :=
  mstView_of_unit (unitPart_addSat ..) (reg_addSat h.symm ..)

theorem mstView_raise {f : Fld} (h : f.off ≠ rSDL_STATUS) (v : Nat) (s : State) : mstView (raise f v s) = mstView s :=
  mstView_of_unit (unitPart_raise ..) (reg_raise h.symm ..)

theorem mstView_holdFirst {f : Fld} {fs : List (Fld × Nat)} (h : f.off ≠ rSDL_STATUS)
    (hs : offStatus fs = true) (s : State) : mstView (holdFirst f fs s) = mstView s :=
  mstView_of_unit (unitPart_holdFirst ..) (reg_holdFirst h.symm (off_ne_of_offStatus hs) ..)

@[simp] theorem mstView_onTally (f : Tally → Tally) (s : State) : mstView (onTally f s) = mstView s := rfl
@[simp] theorem mstView_onSeq (f : Seq → Seq) (s : State) : mstView (onSeq f s) = mstView s := rfl
@[simp] theorem mstView_onQueue (n : Nat) (f : Queue → Queue) (s : State) : mstView (onQueue n f s) = mstView s := rfl
@[simp] theorem mstView_onCsc (f : Csc → Csc) (s : State) : mstView (onCsc f s) = mstView s := rfl
@[simp] theorem mstView_onHbm (f : Hbm → Hbm) (s : State) : mstView (onHbm f s) = mstView s := rfl
@[simp] theorem mstView_leave (d : Due) (s : State) : mstView (leave d s) = mstView s := rfl

/-! ## Completions -/

@[simp] theorem mstView_msix (f v : Nat) (s : State) : mstView (msix f v s) = mstView s :=
  mstView_of_unit (unitPart_msix ..) (reg_msix ..)

@[simp] theorem mstView_cqCoalesce (n : Nat) (s : State) : mstView (cqCoalesce n s) = mstView s := by
  unfold cqCoalesce
  split
  · rw [cqSignal, mstView_onQueue, mstView_msix]
  · rfl

theorem cqState_off_ne (n : Nat) : rPLOT_CQ_STATE n ≠ rSDL_STATUS := by
  unfold rPLOT_CQ_STATE rSDL_STATUS
  omega

@[simp] theorem mstView_postNow (n : Nat) (c : Cpl) (s : State) : mstView (postNow n c s) = mstView s := by
  unfold postNow
  extract_lets tail phase base s1 wrap s2 s3
  have htail : mstView s2 = mstView s := mstView_setFld (cqState_off_ne n) _ s1
  have hphase : mstView s3 = mstView s := by
    show mstView (if _ then _ else _) = _
    split
    · rw [mstView_setFld (cqState_off_ne n), htail]
    · exact htail
  rw [mstView_cqCoalesce, mstView_onQueue, hphase]

/-- The count of held completions, in PLOT_Q_STATUS, shares no bit with MST_STATE at any offset. -/
theorem mstView_held (n v : Nat) (s : State) : mstView (setFld (PLOT_Q_STATUS_HELD n) v s) = mstView s := by
  rw [mstView, mstState, setFld_sdl, fld_setFld_other (fieldOk_of rfl) (by decide) (fieldsApart_of rfl)]
  rfl

@[simp] theorem mstView_post (n : Nat) (c : Cpl) (s : State) : mstView (post n c s) = mstView s := by
  unfold post
  extract_lets s1 s2
  split
  · rfl
  · split
    · exact mstView_held n _ s2
    · exact mstView_postNow n c s1

@[simp] theorem mstView_complete (n q k st d x : Nat) (s : State) : mstView (complete n q k st d x s) = mstView s := by
  unfold complete
  split
  · rfl
  · rw [mstView_post, remember, mstView_onQueue, mstView_onQueue]

@[simp] theorem mstView_completeCmd (c : Option (Nat × Nat × Nat)) (st d x : Nat) (s : State) :
    mstView (completeCmd c st d x s) = mstView s := by
  cases c with
  | none => rfl
  | some c => exact mstView_complete ..

/-! ## Captures

A capture lies within HBM, so that the error counts its writes may change are those of the eight stacks. -/

theorem stack_of_address {a : Nat} (h : a < hbmBytes) : a / 32 * 32 / stackBytes < 8 := by
  unfold hbmBytes at h
  unfold stackBytes at *
  omega

theorem hbmCount_off_ne {k : Nat} (h : k < 8) : rHBM_UE_COUNT k ≠ rSDL_STATUS ∧ rHBM_CE_COUNT k ≠ rSDL_STATUS := by
  unfold rHBM_UE_COUNT rHBM_CE_COUNT rSDL_STATUS
  omega

theorem mstView_hbmErr {w : Nat} (hstack : w * 32 / stackBytes < 8) (x : HAcc) (unc : Nat) (s : State) :
    mstView (hbmErr x w unc s) = mstView s := by
  unfold hbmErr
  extract_lets k s1 s2
  have hcount : mstView s1 = mstView s := mstView_bump (by
    split
    · exact (hbmCount_off_ne hstack).1
    · exact (hbmCount_off_ne hstack).2) 1 s
  have hheld : mstView s2 = mstView s := by
    show mstView (if _ then _ else _) = _
    split
    · exact hcount
    · rw [mstView_setFld (by decide), mstView_holdFirst (by decide) rfl, hcount]
  split
  · rw [mstView_plotFault, hheld]
  · exact hheld

@[simp] theorem mstView_injHbm (w : Nat) (s : State) : mstView (injHbm w s) = mstView s := by
  unfold injHbm
  extract_lets k target
  split
  · rw [injConsume, mstView_devFault, mstView_raise (by decide), mstView_setFld (by decide)]
    rfl
  · rfl

@[simp] theorem mstView_hbmPut (w e a : Nat) (bs : List Byte) (s : State) : mstView (hbmPut w e a bs s) = mstView s := by
  rw [hbmPut, mstView_injHbm, mstView_onHbm]

theorem mstView_hbmWriteWord {a : Nat} {bs : List Byte} (h : bs ≠ [] → a < hbmBytes) (x : HAcc) (s : State) :
    mstView (hbmWriteWord x a bs s) = mstView s := by
  unfold hbmWriteWord
  extract_lets w
  split
  · rfl
  case isFalse hbytes =>
    have hstack : w * 32 / stackBytes < 8 := stack_of_address (h (by simpa using hbytes))
    split
    · rfl
    · split
      · exact mstView_hbmPut ..
      · split
        · exact mstView_hbmErr hstack ..
        · rw [hbmPart, mstView_hbmPut, mstView_onHbm]
          split
          · exact mstView_hbmErr hstack ..
          · rfl

theorem mstView_hbmWrite {a : Nat} {bs : List Byte} (h : a + bs.length ≤ hbmBytes) (x : HAcc) (s : State) :
    mstView (hbmWrite x a bs s) = mstView s := by
  unfold hbmWrite
  split
  · rfl
  case isFalse hbytes =>
    have hpos : 0 < bs.length := List.length_pos_iff.mpr (by simpa using hbytes)
    split
    · exact mstView_hbmErr (stack_of_address (by omega)) ..
    · extract_lets n0 b0 r1 s1 s2
      have hrest : r1.length = bs.length - n0 := List.length_drop
      have hfirst : mstView s1 = mstView s := mstView_hbmWriteWord (fun _ => by omega) x s
      have hsecond : mstView s2 = mstView s1 := mstView_hbmWriteWord (fun hne => by
        have := List.length_pos_iff.mpr hne
        rw [List.length_take, hrest] at this
        omega) x s1
      rw [mstView_hbmWriteWord (fun hne => ?_), hsecond, hfirst]
      have := List.length_pos_iff.mpr hne
      rw [List.length_drop, hrest] at this
      omega

/-- Each access lies within the bytes asked for. -/
theorem accesses_within {fuel a n : Nat} {p : Nat × Nat} (hp : p ∈ accesses fuel a n) : a ≤ p.1 ∧ p.1 + p.2 ≤ a + n := by
  induction fuel generalizing a n with
  | zero => cases hp
  | succ fuel ih =>
    unfold accesses at hp
    split at hp
    · cases hp
    · rcases List.mem_cons.mp hp with rfl | hrest
      · dsimp only
        omega
      · have := ih hrest
        omega

theorem mstView_hbmWriteAll {a : Nat} {bs : List Byte} (h : a + bs.length ≤ hbmBytes) (x : HAcc) (s : State) :
    mstView (hbmWriteAll x a bs s) = mstView s := by
  unfold hbmWriteAll
  have hall : ∀ p ∈ accessesOf a bs.length, p.1 + p.2 ≤ hbmBytes := fun p hp => by
    have := accesses_within hp
    omega
  generalize accessesOf a bs.length = l at hall
  induction l generalizing s with
  | nil => rfl
  | cons p l ih =>
    rw [forAll, ih _ fun q hq => hall q (List.mem_cons_of_mem _ hq)]
    refine mstView_hbmWrite ?_ x s
    have := hall p List.mem_cons_self
    have := List.length_take_le p.2 (bs.drop (p.1 - a))
    omega

theorem mstView_capBytes {a : Nat} {bs : List Byte} (h : a + bs.length ≤ hbmBytes) (s : State) :
    mstView (capBytes a bs s) = mstView s := by
  unfold capBytes
  split
  · exact mstView_hbmWriteAll h ..
  · split
    · exact mstView_setFld (by decide) _ s
    · rfl

theorem mstView_capWrite {rec_ data : List Byte} (hrec : rec_.length = 32) (s : State) :
    mstView (capWrite rec_ data s) = mstView s := by
  unfold capWrite
  extract_lets used s1
  split
  · exact mstView_setFld (by decide) _ s
  case isFalse hroom =>
    have hbytes : mstView s1 = mstView s := mstView_capBytes (by
      rw [List.length_append, hrec]
      omega) s
    split
    · rw [mstView_setFld (by decide), hbytes]
    · exact hbytes

theorem capRecord_length (kind plot extra a b c d : Nat) : (capRecord kind plot extra a b c d).length = 32 := by
  simp [capRecord]

@[simp] theorem mstView_diverge (p k : Nat) (s : State) : mstView (diverge p k s) = mstView s := by
  unfold diverge
  split
  · rfl
  · rw [mstView_leave, mstView_raise (by decide), mstView_setFlds rfl]

@[simp] theorem mstView_replayNext (r : List Byte) (s : State) : mstView (replayNext r s) = mstView s :=
  mstView_congr rfl (reg_congr rfl _)

@[simp] theorem mstView_replayCompare (p k a b c d : Nat) (s : State) : mstView (replayCompare p k a b c d s) = mstView s := by
  unfold replayCompare
  extract_lets r same s1
  split
  · exact mstView_diverge ..
  · rw [mstView_replayNext]
    show mstView (if _ then _ else _) = _
    split
    · rfl
    · exact mstView_diverge ..

@[simp] theorem mstView_capEvent (k p b c d : Nat) (data : List Byte) (s : State) :
    mstView (capEvent k p b c d data s) = mstView s := by
  unfold capEvent
  split
  · exact mstView_capWrite (capRecord_length ..) s
  · split
    · exact mstView_replayCompare ..
    · rfl

/-! ## The Tally unit -/

@[simp] theorem mstView_tallyFault (n kind src id rel : Nat) (s : State) : mstView (tallyFault n kind src id rel s) = mstView s := by
  rw [tallyFault, mstView_plotFault, mstView_holdFirst (by decide) rfl, mstView_bump (by decide)]

@[simp] theorem mstView_refuseSlot (u : Nat) (w : Waiter) (s : State) : mstView (refuseSlot u w s) = mstView s := by
  unfold refuseSlot
  split
  · rfl
  · split <;> rfl

@[simp] theorem mstView_moveTally (i v : Nat) (s : State) : mstView (moveTally i v s) = mstView s := rfl
@[simp] theorem mstView_noteSrc (i n : Nat) (src : Word) (s : State) : mstView (noteSrc i n src s) = mstView s := rfl

@[simp] theorem mstView_tallyOp (u : Nat) (due : List TOp) (op : TOp) (s : State) :
    mstView (tallyOp u due op s) = mstView s := by
  cases op with
  | register e w =>
    simp only [tallyOp]
    split
    · split
      · rw [mstView_refuseSlot, mstView_tallyFault]
      · rfl
    · rfl
  | fault n kind rel => exact mstView_tallyFault ..
  | touch => rfl
  | unwatch e gen => rfl
  | inc n rel v src cmd =>
    simp only [tallyOp]
    split
    · rw [mstView_completeCmd, mstView_tallyFault]
    · rw [mstView_completeCmd]
      split
      · exact mstView_capEvent ..
      · rfl
  | rebase e w =>
    simp only [tallyOp, mstView_onTally, mstView_noteSrc]
    exact forAll_keeps (g := mstView) (fun _ _ => mstView_moveTally ..) ..
  | hostWake n sq seq v =>
    simp only [tallyOp]
    exact mstView_complete ..

@[simp] theorem mstView_groupWake (u : Nat) (op : TOp) (s : State) : mstView (groupWake u op s) = mstView s := by
  unfold groupWake
  split
  · split <;> rfl
  · rfl

@[simp] theorem mstView_satisfy (u e : Nat) (w : Watch) (s : State) : mstView (satisfy u e w s) = mstView s := by
  unfold satisfy
  split
  · split <;> rfl
  · split <;> rfl

@[simp] theorem mstView_evalWatches (u : Nat) (s : State) : mstView (evalWatches u s) = mstView s := by
  refine forAll_keeps (g := mstView) (fun p t => ?_) ..
  split
  · exact mstView_satisfy ..
  · rfl

@[simp] theorem mstView_tallyCycle (u : Nat) (s : State) : mstView (tallyCycle u s) = mstView s := by
  unfold tallyCycle
  extract_lets due s1 s2 s3
  have hopen : mstView s1 = mstView s := by
    show mstView (openCycle _ _) = _
    unfold openCycle
    split <;> rfl
  have hops : mstView s2 = mstView s1 := forAll_keeps (g := mstView) (fun _ _ => mstView_tallyOp ..) ..
  have hwakes : mstView s3 = mstView s2 := forAll_keeps (g := mstView) (fun _ _ => mstView_groupWake ..) ..
  rw [mstView_evalWatches, hwakes, hops, hopen]

@[simp] theorem mstView_tallyRun (s : State) : mstView (tallyRun s) = mstView s := by
  unfold tallyRun
  generalize 3 * s.tally.ops.length + s.tally.watch.length + 1 = fuel
  induction fuel generalizing s with
  | zero => rfl
  | succ fuel ih =>
    unfold tallyAdvance
    split
    · rfl
    · split
      · rfl
      · rw [ih, mstView_tallyCycle]

/-! ## The end of a run -/

@[simp] theorem mstView_countHolds (c : Nat) (s : State) : mstView (countHolds c s) = mstView s := by
  show mstView (accrueHold c s) = _
  unfold accrueHold
  split
  · rfl
  · split
    · rfl
    · rw [onRun, mstView_onSeq, mstView_addSat (by decide), mstView_addSat (by decide)]

@[simp] theorem mstView_meterRun (upTo : Nat) (s : State) : mstView (meterRun upTo s) = mstView s := by
  unfold meterRun
  split
  · split <;> rfl
  · rfl

@[simp] theorem mstView_cancelSeq (n : Nat) (s : State) : mstView (cancelSeq n s) = mstView s := rfl

@[simp] theorem mstView_runDisarm (n : Nat) (s : State) : mstView (runDisarm n s) = mstView s := by
  unfold runDisarm
  split
  · split
    · rw [setTrig, mstView_setFlds rfl, mstView_onCsc]
    · rfl
  · rfl

theorem mstView_transfersClosed (plot : Option Nat) (told : List (Nat × Nat × Nat)) (s : State) :
    mstView { s with linkPlot := plot, reported := told } = mstView s := mstView_congr rfl (reg_congr rfl _)

/-- The end of a run leaves Sundial and the state of MST. -/
theorem mstView_runEnd (cause : Nat) (s : State) : mstView (runEnd cause s) = mstView s := by
  unfold runEnd
  split
  · rfl
  · extract_lets s1 s2 s3 s4 s5 s6 s7 cmd s8 s9
    have hheld : mstView s2 = mstView s := (mstView_countHolds ..).trans (mstView_tallyRun s)
    have hcaptured : mstView s4 = mstView s := (mstView_capEvent ..).trans ((mstView_meterRun ..).trans hheld)
    have hdisarmed : mstView s6 = mstView s := (mstView_runDisarm ..).trans ((mstView_cancelSeq ..).trans hcaptured)
    have hstatus : mstView s7 = mstView s := (mstView_setFlds rfl s6).trans hdisarmed
    have hcleared : mstView s8 = mstView s := (mstView_onSeq ..).trans ((mstView_onTally ..).trans hstatus)
    have h : mstView s9 = mstView s := (mstView_transfersClosed ..).trans hcleared
    split
    · exact h
    · rw [mstView_completeCmd, h]

end Sys2Proof.Machine
end

/-! SUPPORT. Mesh time: messages, time-outs, steps and skew (R354–R358, R360, R367, R368). -/
section
namespace Sys2Proof.Machine

/-! ## The state of MST -/

theorem mstState_rate_of_view {s v : State} (h : mstView v = mstView s) :
    mstState v = mstState s ∧ v.sdl.rate = s.sdl.rate := ⟨congrArg Prod.snd h, congrArg (·.1.rate) h⟩

/-- The slice has no owner. -/
def sliceFreed (s : State) : State := { s with slice := { s.slice with owner := none } }

@[simp] theorem mstView_sliceFreed (s : State) : mstView (sliceFreed s) = mstView s := mstView_congr rfl (reg_congr rfl _)

/-- MST has left its slice, with the run in it. -/
def sliceLeft (s : State) : State := setFld SEQ_SLICE_STATUS_IDLE 1 (sliceFreed (runEnd 2 s))

theorem mstView_sliceLeft (s : State) : mstView (sliceLeft s) = mstView s := by
  rw [sliceLeft, mstView_setFld (by decide), mstView_sliceFreed, mstView_runEnd]

theorem resumeSlices_cases (s : State) :
    resumeSlices s = renumber s ∨ resumeSlices s = sliceLeft (renumber s) := by
  by_cases hslice : sliceNs (renumber s) ≠ 0 ∧ mstNs (renumber s) / sliceNs (renumber s) = (renumber s).slice.number
  · exact .inl (if_pos hslice)
  · exact .inr (if_neg hslice)

/-- Slices that go on leave the state of MST and its rate. -/
theorem resumeSlices_keeps (s : State) :
    mstState (resumeSlices s) = mstState s ∧ (resumeSlices s).sdl.rate = s.sdl.rate := by
  have hstate : mstState (renumber s) = mstState s := fld_onSdl ..
  have hrate : (renumber s).sdl.rate = s.sdl.rate := rfl
  rcases resumeSlices_cases s with he | he
  · rw [he, hstate, hrate]
    exact ⟨rfl, rfl⟩
  · rw [he, ← hstate, ← hrate]
    exact mstState_rate_of_view (mstView_sliceLeft _)

/-- MST shows HOLDOVER, a valid state (R354). -/
def holdoverShown (s : State) : State := setFld SDL_STATUS_MST_SEEN_VALID 1 (setFld SDL_STATUS_MST_STATE 3 s)

theorem mstState_holdoverShown (s : State) : mstState (holdoverShown s) = 3 :=
  (fld_setFld_other (by decide) (by decide) (by decide) 1 _).trans (fld_setFld_same _ (by decide) 3 s)

theorem setMst_holdover_cases (s : State) :
    setMst 3 s = resumeSlices (holdoverShown s) ∨ setMst 3 s = holdoverShown s := by
  cases hvalid : mstValid s <;> simp [setMst, holdoverShown, hvalid]

/-- In HOLDOVER MST keeps its rate (R354). -/
theorem setMst_holdover (s : State) : mstState (setMst 3 s) = 3 ∧ (setMst 3 s).sdl.rate = s.sdl.rate := by
  have hrate : (holdoverShown s).sdl.rate = s.sdl.rate := by rw [holdoverShown, setFld_sdl, setFld_sdl]
  rcases setMst_holdover_cases s with he | he
  · obtain ⟨hst, hr⟩ := resumeSlices_keeps (holdoverShown s)
    rw [he, hst, hr]
    exact ⟨mstState_holdoverShown s, hrate⟩
  · rw [he]
    exact ⟨mstState_holdoverShown s, hrate⟩

/-! ## Messages -/

theorem syncReceive_unread {cell : List Byte} (h : readCell cell = none) (p l : Nat) (s : State) :
    syncReceive p l cell s = s := by simp only [syncReceive, h]

theorem announceReceive_unread {cell : List Byte} (h : readCell cell = none) (p l : Nat) (s : State) :
    announceReceive p l cell s = s := by simp only [announceReceive, h]

theorem localSync_unread {cell : List Byte} (h : readCell cell = none) (p l : Nat) (s : State) :
    localSync p l cell s = s := by simp only [localSync, h]

/-- The link of a Sync holds its relay count and its instant (R358). -/
abbrev syncMarked (p l : Nat) (m : TimeMsg) (s : State) : State :=
  onSdl (fun d => { d with link := (upd ⟨0, none, 0⟩ (linkKey m.domain p l)
    (fun x => { x with relays := m.relays, syncAt := some s.now }) d.link) }) s

/-- A Sync of the package's origin has chosen the upstream again (R358). -/
abbrev originHeard (m : TimeMsg) (s : State) : State :=
  chooseUpstream m.domain (onSdl (fun d => { d with lastSync := some s.now }) s)

section
variable {cell : List Byte} {p l : Nat} {m : TimeMsg} {s : State} (hread : readCell cell = some m)
  (hcell : cellLink p l s = true)
include hread hcell

theorem syncReceive_marks (htype : m.type = 0) (hrelays : relays m s = true) :
    syncReceive p l cell s = if upstream m.domain (syncMarked p l m s) = some (p, l)
      then relayCell p l (timestamp s) cell m (useSync p l m (syncMarked p l m s)) else useSync p l m (syncMarked p l m s) := by
  simp only [syncReceive, hread]
  exact if_neg (by simp [htype, hcell, hrelays])

/-- The last Announce on a link tells whether its partner is locked (R368, log entry 45). -/
abbrev partnerHeard (p l : Nat) (m : TimeMsg) (s : State) : State :=
  onSdl (fun d => { d with peer := (upd ⟨none, 0, false⟩ (32 * p + l)
    (fun x => { x with locked := m.state == 2 || m.state == 4 }) d.peer) }) s

/-- The link of an Announce that is relayed holds the state of MST at its origin (R356). -/
abbrev announceMarked (p l : Nat) (m : TimeMsg) (s : State) : State :=
  onSdl (fun d => { d with link := (upd ⟨m.relays, none, 0⟩ (linkKey m.domain p l)
    (fun x => { x with annState := m.state }) d.link) }) s

theorem announceReceive_marks (htype : m.type = 0xB) (hdomain : m.domain ≤ 1) :
    announceReceive p l cell s = if !relays m (partnerHeard p l m s) then partnerHeard p l m s
      else if upstream m.domain (announceMarked p l m (partnerHeard p l m s)) = some (p, l)
        then relayCell p l (timestamp s) cell m (announceMarked p l m (partnerHeard p l m s))
        else announceMarked p l m (partnerHeard p l m s) := by
  simp only [announceReceive, hread]
  exact if_neg (by simp [htype, hcell]; omega)

/-- A local Sync tells the skew of the partner (R368). -/
theorem localSync_sdl (htype : m.type = 0) (hdomain : m.domain = 2) :
    (localSync p l cell s).sdl = { s.sdl with peer := (upd ⟨none, 0, false⟩ (32 * p + l)
      (fun x => { x with at_ := some s.now, skew := -syncOffset p l m s }) s.sdl.peer) } := by
  simp only [localSync, hread]
  rw [if_neg (by simp [htype, hdomain, hcell])]
  split <;> rfl

end

/-! ### The offset of a Sync -/

section
variable {p l : Nat} {m : TimeMsg} {s : State}

theorem useSync_other (h : originOf s ≠ some (m.domain, m.origin)) : useSync p l m s = s := if_pos h

section
variable (horigin : originOf s = some (m.domain, m.origin))
include horigin

theorem useSync_elsewhere (hup : upstream m.domain (originHeard m s) ≠ some (p, l)) : useSync p l m s = originHeard m s := by
  rw [useSync, if_neg (not_not_intro horigin)]
  exact if_pos hup

theorem useSync_upstream (hup : upstream m.domain (originHeard m s) = some (p, l)) : useSync p l m s
    = syncState (syncOffset p l m (originHeard m s)) (onSdl (fun d => { d with
        skewOs := d.skewOs ++ [syncOffset p l m (originHeard m s)] })
      (setReg rSDL_OFFSET (offsetReg (syncOffset p l m (originHeard m s))) (originHeard m s))) := by
  rw [useSync, if_neg (not_not_intro horigin)]
  exact if_neg (not_not_intro hup)

end
end

/-! ### Partners -/

@[simp] theorem look_ins_same {α : Type} (k : Nat) (v : α) (m : Map α) : look k (ins k v m) = some v := by
  induction m with
  | nil => simp [ins, look]
  | cons x m ih =>
    unfold ins
    split
    · simp [look]
    · split
      · simp [look]
      · simp_all [look]

/-- A value other than the default is listed. -/
theorem look_upd_same {α : Type} [DecidableEq α] {d : α} {k : Nat} {f : α → α} {m : Map α} (h : f (get d k m) ≠ d) :
    look k (upd d k f m) = some (f (get d k m)) := by
  rw [upd, put, if_neg h, look_ins_same]

/-! ## Sends, time-outs, evaluations and steps -/

/-- The cells a package sends change what it has sent alone. -/
theorem syncSend_sdl {s : State} (hon : flag SDL_CTRL_ENABLE s = true) :
    (syncSend s).sdl = { s.sdl with sends := s.sdl.sends + 1 } := by
  rw [syncSend, if_neg (by simp [hon]), onSdl]
  have hcells (e : Nat × Nat) (z : State) : (emit (.cell e.1 e.2 none)
      (forAll (fun c => emit (.cell e.1 e.2 (some c))) (ownCells s) z)).sdl = z.sdl :=
    (emit_sdl ..).trans (forAll_keeps (g := State.sdl) (fun _ _ => emit_sdl ..) ..)
  have hlinks := forAll_keeps (g := State.sdl) hcells (allLinks.filter fun e => cellLink e.1 e.2 s) s
  dsimp only
  rw [hlinks]

/-- MST goes on at the rate fi, with no Sync to follow (R354). -/
def heldRate (s : State) : State :=
  onSdl (fun d => { d with rate := d.fi, evalAt := s.now, inRow := 0, outRow := 0 }) (rebaseClocks s)

theorem syncTimeout_late {r : Nat} {s : State} (hlast : s.sdl.lastSync = some r) (hlate : r + msT ≤ s.now)
    (hstate : mstState s = 1 ∨ mstState s = 2) :
    syncTimeout s = devFault 13 1 0 (raise SDL_EVENT_HOLDOVER 1 (setMst 3 (heldRate s))) := by
  simp only [syncTimeout, hlast, hlate, decide_true, Bool.true_and]
  exact if_pos (by simpa using hstate)

/-- HOLDOVER at the rate fi, with its entry (R354, R360). -/
theorem syncTimeout_holdover (s : State) :
    mstState (devFault 13 1 0 (raise SDL_EVENT_HOLDOVER 1 (setMst 3 (heldRate s)))) = 3
      ∧ (devFault 13 1 0 (raise SDL_EVENT_HOLDOVER 1 (setMst 3 (heldRate s)))).sdl.rate = s.sdl.fi
      ∧ fld SDL_EVENT_HOLDOVER (devFault 13 1 0 (raise SDL_EVENT_HOLDOVER 1 (setMst 3 (heldRate s)))) = 1 := by
  obtain ⟨hstate, hrate⟩ := setMst_holdover (heldRate s)
  have hview := (mstView_devFault 13 1 0 (raise SDL_EVENT_HOLDOVER 1 (setMst 3 (heldRate s)))).trans
    (mstView_raise (by decide) 1 (setMst 3 (heldRate s)))
  refine ⟨(congrArg Prod.snd hview).trans hstate, (congrArg (·.1.rate) hview).trans hrate, ?_⟩
  rw [fld_devFault (by decide)]
  exact fld_raise_bit _ (by decide) rfl _

/-- Eight offsets make an evaluation (R368). -/
theorem skewEvaluation_eight {s : State} (hholdover : mstState s ≠ 3) (hmaster : mstState s ≠ 4)
    (height : 8 ≤ s.sdl.skewOs.length) : skewEvaluation s
      = skewMove (s.sdl.skewOs.take 8) (onSdl (fun d => { d with skewOs := d.skewOs.drop 8 }) s) := by
  rw [skewEvaluation, if_neg hholdover, if_neg]
  rintro (hfew | hmst)
  · omega
  · exact hmaster hmst

theorem stepApply_deferred {o : Int} {s : State} (hstep : s.sdl.step = some o) (hidle : runOn s = false) :
    stepApply s = stepMst o s := by
  simp only [stepApply, hstep, hidle, Bool.false_eq_true, if_false]

theorem refMismatch_marks {p l b : Nat} {s : State} (hbank : activeBank s = some b) (hup : phaseOf p l s = .up)
    (hmeso : (dropEntry b p l s).any (·.plesio) = false) : refMismatch p l s
      = devFault 13 3 p (raise SDL_EVENT_REF_MISMATCH 1 (setFld (SDL_PEER_REF_MISMATCH p) 1 s)) := by
  simp only [refMismatch, hbank, hup, hmeso, ne_eq, not_true_eq_false, Bool.false_eq_true, or_self, if_false]

/-! ## SDL_CTRL -/

/-- A write of SDL_CTRL, its plain part (R375). -/
def sdlCtrlPlain (w : Word) (s : State) : State :=
  setFlds [(SDL_CTRL_VT_PLOT, wfld SDL_CTRL_VT_PLOT w), (SDL_CTRL_TOD_SRC, wfld SDL_CTRL_TOD_SRC w),
    (SDL_CTRL_ENABLE, wfld SDL_CTRL_ENABLE w)] (rebaseClocks s)

theorem regWrite_sdlCtrl {a : Accessor} {s : State} (h : Reaches a s) (w : Word) : regWrite a rSDL_CTRL w [] s
    = hostFirst a rSDL_CTRL (sdlCtrlWrite a w (writeLatches a rSDL_CTRL s)) := by
  rw [regWrite_direct h (by decide) (by decide) (by decide)]
  rfl

section
variable {w : Word} (a : Accessor) (s : State)

section
variable (hbad : wfld SDL_CTRL_TOD_SRC w ≠ 3) (hnone : wfld SDL_CTRL_TOD_SRC w ≠ 0)
  (htod : wfld SDL_CTRL_SET_TOD w = 0) (hvt : wfld SDL_CTRL_VT_ZERO w = 0)
include hbad hnone htod hvt

theorem sdlCtrlWrite_setMst (hset : wfld SDL_CTRL_SET_MST w = 1) (hfrom : wfld SDL_CTRL_MST_FROM_TOD w = 0) :
    sdlCtrlWrite a w s = mstSet a false (sdlCtrlPlain w s) := by
  simp [sdlCtrlWrite, sdlCtrlPlain, hbad, hnone, htod, hvt, hset, hfrom]

theorem sdlCtrlWrite_mstFromTod (hset : wfld SDL_CTRL_SET_MST w = 0) (hfrom : wfld SDL_CTRL_MST_FROM_TOD w = 1) :
    sdlCtrlWrite a w s = mstSet a true (sdlCtrlPlain w s) := by
  simp [sdlCtrlWrite, sdlCtrlPlain, hbad, hnone, htod, hvt, hset, hfrom]

end
end

/-- MST runs as the reference does (R354). -/
abbrev undisciplined (s : State) : State := onSdl (fun d => { d with rate := 0, fi := 0 }) (rebaseClocks s)

section
variable {s : State} (hmesh : isMesh s = true) (hidle : runOn s = false) (hstate : mstState s = 0 ∨ mstState s = 4)
include hmesh hidle hstate

/-- The mesh master gives MST a value (R354). -/
theorem mstSet_master {fromTod : Bool} (hvalue : fromTod = true → todState s ≠ 0) (a : Accessor) : mstSet a fromTod s
    = setMst 4 (stepMst ((mstM (undisciplined s) : Int) - (if fromTod then todM s else reg64 rSDL_SET_LO rSDL_SET_HI s * nsM : Nat))
        (undisciplined s)) := by
  have haccepted : ¬ ((!isMesh s) = true ∨ runOn s = true ∨ (fromTod = true ∧ todState s = 0)
      ∨ (!(decide (mstState s = 0 ∨ mstState s = 4))) = true) := by
    simp only [hmesh, hidle, hstate, Bool.not_true, Bool.false_eq_true, decide_true, false_or, or_false, not_and]
    exact hvalue
  rw [mstSet]
  exact if_neg (by simpa using haccepted)

end

/-! ## The commands -/

section
variable {t : Nat} {s u : State} (h : Awake t s u)
include h

theorem exec_sync_awake (p l : Nat) (cell : List Byte) :
    exec (.sync t p l cell) s = .next (after u (syncReceive p l cell u)) := congrArg _ (command_awake h _)

theorem exec_announce_awake (p l : Nat) (cell : List Byte) :
    exec (.announce t p l cell) s = .next (after u (announceReceive p l cell u)) := congrArg _ (command_awake h _)

theorem exec_localSync_awake (p l : Nat) (cell : List Byte) :
    exec (.localSync t p l cell) s = .next (after u (localSync p l cell u)) := congrArg _ (command_awake h _)

theorem exec_syncSend_awake : exec (.syncSend t) s = .next (after u (syncSend u)) := congrArg _ (command_awake h _)

theorem exec_syncTimeout_awake : exec (.syncTimeout t) s = .next (after u (syncTimeout u)) :=
  congrArg _ (command_awake h _)

theorem exec_skewEvaluation_awake : exec (.skewEvaluation t) s = .next (after u (skewEvaluation u)) :=
  congrArg _ (command_awake h _)

theorem exec_stepApply_awake : exec (.stepApply t) s = .next (after u (stepApply u)) := congrArg _ (command_awake h _)

theorem exec_refMismatch_awake (p l : Nat) : exec (.refMismatch t p l) s = .next (after u (refMismatch p l u)) :=
  congrArg _ (command_awake h _)

variable {a : Accessor} (hr : Reaches a u) (w : Word)
include hr

/-- A write of SDL_CTRL, as one of its commands. -/
theorem command_sdlCtrl : command t (regWrite a rSDL_CTRL w []) s
    = after u (hostFirst a rSDL_CTRL (sdlCtrlWrite a w (writeLatches a rSDL_CTRL u))) :=
  (command_awake h _).trans (congrArg _ (regWrite_sdlCtrl hr w))

theorem exec_setMst_awake : exec (.setMst t a w) s
    = .next (after u (hostFirst a rSDL_CTRL (sdlCtrlWrite a w (writeLatches a rSDL_CTRL u)))) :=
  congrArg _ (command_sdlCtrl h hr w)

theorem exec_mstFromTod_awake : exec (.mstFromTod t a w) s
    = .next (after u (hostFirst a rSDL_CTRL (sdlCtrlWrite a w (writeLatches a rSDL_CTRL u)))) :=
  congrArg _ (command_sdlCtrl h hr w)

end

/-- Settles O18: each message, event and write takes the one branch of its rule that its conditions name; HOLDOVER stands
because the end of a run, which a valid MST may bring, leaves Sundial and the state of MST. -/
theorem meshTimeAnswers : Obligations.MeshTimeAnswers := by
  refine ⟨fun t p l cell s u hu => ⟨fun hread => ?unread, fun m z y hread htype hcell hrelays hz hother hup helse => ?sync,
      fun m z y hread htype hdomain hcell hz hy => ?announce, fun m hread htype hdomain hcell => ?partner⟩,
    fun t s u hu => ⟨fun hon => ?send, fun r hlast hlate hstate => ?timeout, fun hholdover hmaster height => ?evaluation,
      fun o hstep hidle => ?step, fun p l b hbank hphase hmeso => ?mismatch⟩,
    fun t a w s u z hu hr hbad hnone htod hvt hz hmesh hidle hstate => ⟨fun hset hfrom => ?setMst, fun hset hfrom hvalue => ?fromTod⟩⟩
  case unread =>
    rw [exec_sync_awake hu, exec_announce_awake hu, exec_localSync_awake hu, syncReceive_unread hread,
      announceReceive_unread hread, localSync_unread hread]
    exact ⟨rfl, rfl, rfl⟩
  case sync =>
    have hmarked : z = syncMarked p l m u := hz
    have hused : useSync p l m z = y := by
      by_cases horigin : originOf z = some (m.domain, m.origin)
      · by_cases hchosen : upstream m.domain (originHeard m z) = some (p, l)
        · rw [useSync_upstream horigin hchosen, hup _ _ horigin rfl hchosen rfl]
        · rw [useSync_elsewhere horigin hchosen, helse _ horigin rfl hchosen]
      · rw [useSync_other horigin, hother horigin]
    rw [exec_sync_awake hu, syncReceive_marks hread hcell htype hrelays, ← hmarked, hused]
  case announce =>
    have hheard : z = partnerHeard p l m u := hz
    have hmarked : y = announceMarked p l m z := hy
    rw [exec_announce_awake hu, announceReceive_marks hread hcell htype hdomain, ← hheard, ← hmarked]
    refine ⟨fun hforeign => ?_, fun hown => ?_⟩
    · rw [if_pos (by rw [hforeign]; rfl)]
    · rw [if_neg (by rw [hown]; decide), show timestamp z = timestamp u by rw [hz]; rfl]
  case partner =>
    refine ⟨_, exec_localSync_awake hu p l cell, ?_⟩
    rw [localSync_sdl hread hcell htype hdomain, look_upd_same (by simp)]
    exact ⟨rfl, rfl⟩
  case send =>
    refine ⟨_, exec_syncSend_awake hu, ?_⟩
    rw [syncSend_sdl hon]
  case timeout =>
    rw [exec_syncTimeout_awake hu, syncTimeout_late hlast hlate hstate]
    exact ⟨_, rfl, syncTimeout_holdover u⟩
  case evaluation => rw [exec_skewEvaluation_awake hu, skewEvaluation_eight hholdover hmaster height]
  case step => rw [exec_stepApply_awake hu, stepApply_deferred hstep hidle]
  case mismatch => rw [exec_refMismatch_awake hu, refMismatch_marks hbank hphase hmeso]
  case setMst =>
    rw [exec_setMst_awake hu hr, sdlCtrlWrite_setMst _ _ hbad hnone htod hvt hset hfrom, sdlCtrlPlain, ← hz,
      mstSet_master hmesh hidle hstate (by simp)]
    exact ⟨_, rfl, rfl⟩
  case fromTod =>
    rw [exec_mstFromTod_awake hu hr, sdlCtrlWrite_mstFromTod _ _ hbad hnone htod hvt hset hfrom, sdlCtrlPlain, ← hz,
      mstSet_master hmesh hidle hstate (fun _ => hvalue)]
    exact ⟨_, rfl, rfl⟩

end Sys2Proof.Machine
end

/-! SUPPORT. Service time, virtual time, schedule slots and time pins (R361–R364, R369, R370). -/
section
namespace Sys2Proof.Machine

/-! ## SDL_CTRL -/

section
variable {w : Word} (hhost : wfld SDL_CTRL_TOD_SRC w = 2) (hset : wfld SDL_CTRL_SET_MST w = 0)
  (hfrom : wfld SDL_CTRL_MST_FROM_TOD w = 0) (a : Accessor) (s : State)
include hhost hset hfrom

/-- The host gives TOD a value (R362). -/
theorem sdlCtrlWrite_setTod (htod : wfld SDL_CTRL_SET_TOD w = 1) (hvt : wfld SDL_CTRL_VT_ZERO w = 0) : sdlCtrlWrite a w s
    = setTod (reg64 rSDL_SET_LO rSDL_SET_HI (sdlCtrlPlain w s) * nsM) 3 (sdlCtrlPlain w s) := by
  simp [sdlCtrlWrite, sdlCtrlPlain, hhost, hset, hfrom, htod, hvt]

theorem sdlCtrlWrite_vtZero (htod : wfld SDL_CTRL_SET_TOD w = 0) (hvt : wfld SDL_CTRL_VT_ZERO w = 1) :
    sdlCtrlWrite a w s = vtZero a (wfld SDL_CTRL_VT_PLOT w) (sdlCtrlPlain w s) := by
  simp [sdlCtrlWrite, sdlCtrlPlain, hhost, hset, hfrom, htod, hvt]

end

/-- The virtual time of plot n begins again (R363). -/
def vtZeroed (n : Nat) (s : State) : State :=
  onSdl (fun d => { d with
    vt := put 0 n 0 d.vt
    vtPlot := d.vtPlot.map fun (p, r) => if p = n then (p, mstRun s) else (p, r) }) s

theorem vtZero_idle {n : Nat} {s : State} (hidle : runOf n s = false) (a : Accessor) : vtZero a n s = vtZeroed n s :=
  if_neg (by simp [hidle])

theorem vtNs_vtZeroed (n : Nat) (s : State) : vtNs n (vtZeroed n s) = 0 := by
  have hvt : get 0 n (vtZeroed n s).sdl.vt = 0 := get_put_same 0 n 0 s.sdl.vt
  have hrun : mstRun (vtZeroed n s) = mstRun s := rfl
  have hplot : (vtZeroed n s).sdl.vtPlot
      = s.sdl.vtPlot.map fun (p, r) => if p = n then (p, mstRun s) else (p, r) := rfl
  simp only [vtNs, hvt, hrun, hplot]
  cases s.sdl.vtPlot with
  | none => simp
  | some x =>
    by_cases hx : x.1 = n
    · simp [hx]
    · simp [hx]

/-! ## The service port -/

section
variable {domain src : Nat} {s : State} (hon : svcOn domain s = true)
include hon

section
variable (hmaster : s.sdl.svcMaster = some src)
include hmaster

theorem svcFrom_master : svcFrom domain src s = true := by simp [svcFrom, hon, hmaster]

section
variable {log : Int} (hlow : -4 ≤ log) (hhigh : log ≤ 0)
include hlow hhigh

/-- The Sync of a two-step master waits for its Follow_Up (R361). -/
theorem svcSync_twoStep (seq ns : Nat) (corr : Int) : svcSync domain src seq log ns corr true s
    = onSdl (fun d => { d with svcWait := some (seq, todM s) }) s := by
  rw [svcSync, if_neg (by simp [svcFrom_master hon hmaster]; omega)]
  rfl

theorem svcSync_oneStep (seq ns : Nat) (corr : Int) : svcSync domain src seq log ns corr false s
    = delayRequest (svcOffset (todM s) ((ns : Int) * nsM + corr * (nsM / 2 ^ 16 : Nat)) s) := by
  rw [svcSync, if_neg (by simp [svcFrom_master hon hmaster]; omega)]
  rfl

end

theorem svcFollowUp_completes {seq rx : Nat} (hwait : s.sdl.svcWait = some (seq, rx)) (ns : Nat) (corr : Int) :
    svcFollowUp domain src seq ns corr s = delayRequest (svcOffset rx ((ns : Int) * nsM + corr * (nsM / 2 ^ 16 : Nat))
      (onSdl (fun d => { d with svcWait := none }) s)) := by
  simp only [svcFollowUp, hwait]
  exact if_neg (by simp [svcFrom_master hon hmaster])

theorem svcDelayResp_answers {seq t3 : Nat} (hreq : s.sdl.svcReq = some (seq, t3)) (ns : Nat) (corr : Int) :
    svcDelayResp domain src seq Config.svcIdentity ns corr s
      = onSdl (fun d => { d with svcReq := none, svcDelay := (s.sdl.svcT21 + ((ns : Int) * nsM
          - corr * (nsM / 2 ^ 16 : Nat) - t3)) / 2 }) s := by
  simp only [svcDelayResp, hreq]
  exact if_neg (by simp [svcFrom_master hon hmaster])

end

/-- An Announce is kept as the last of its master, with the instant of the one before (R361). -/
def announceKept (src : Nat) (data : ClockData) (interval : Nat) (s : State) : State :=
  onSdl (fun d => { d with svcSeen :=
    (⟨src, data, s.now, (s.sdl.svcSeen.find? fun m => m.src == src).map (·.at_), interval⟩
      :: s.sdl.svcSeen.filter fun m => m.src != src) }) s

theorem svcAnnounce_keeps (data : ClockData) (interval : Nat) :
    svcAnnounce domain src data interval s = chooseMaster (announceKept src data interval s) :=
  if_neg (by simp [hon])

end

theorem svcSeen_announceKept {src : Nat} {m : SvcMaster} {s : State} (hseen : s.sdl.svcSeen = [m]) (hsrc : m.src = src)
    (data : ClockData) (interval : Nat) :
    (announceKept src data interval s).sdl.svcSeen = [⟨src, data, s.now, some m.at_, interval⟩] := by
  simp [announceKept, onSdl, hseen, hsrc]

/-- The only master, which qualifies, is the best (R361, log entry 51). -/
theorem chooseMaster_only {m : SvcMaster} {s : State} (hseen : s.sdl.svcSeen = [m]) (hgood : svcQualified m s = true) :
    (chooseMaster s).sdl.svcMaster = some m.src := by
  simp [chooseMaster, hseen, hgood, onSdl]

/-- A master that is given up (R361). -/
def masterLost (src : Nat) (s : State) : State :=
  onSdl (fun d => { d with
    svcSeen := d.svcSeen.filter (fun m => m.src != src), svcMaster := none, svcRow := 0, svcWait := none, svcReq := none }) s

theorem announceTimeout_loses {src : Nat} {s : State} (hmaster : s.sdl.svcMaster = some src)
    (hlate : ∀ m ∈ s.sdl.svcSeen, m.src = src → m.at_ + 3 * m.interval ≤ s.now) (hsrc : fld SDL_CTRL_TOD_SRC s = 1)
    (htod : todState s ≠ 0) : announceTimeout s = setFld SDL_STATUS_TOD_STATE 2 (masterLost src s) := by
  have hnone : ¬ (s.sdl.svcSeen.any fun m => m.src == src && decide (s.now < m.at_ + 3 * m.interval)) = true := by
    simpa [List.any_eq_true] using hlate
  simp only [announceTimeout, hmaster]
  rw [if_neg hnone]
  exact if_pos ⟨hsrc, htod⟩

/-! ## Schedule slots -/

/-- The slot MST stands in has begun (R364). -/
abbrev slotCounted (s : State) : State := onSdl (fun d => { d with nextSlot := mstNs s / slotNs s + 1 }) s

theorem slotStart_counts {s : State} (hlen : slotNs s ≠ 0) (hdue : s.sdl.nextSlot * slotNs s ≤ mstNs s) : slotStart s
    = if flag TRM_CTRL_IDLE_EN s then applyTrims 4 (fun p => portIdle p (slotCounted s)) (slotCounted s) else slotCounted s :=
  if_neg (by omega)

/-! ## Time pins -/

/-- TOD is what Sundial holds, by SDL_STATUS and SDL_CTRL. -/
theorem todM_congr {s v : State} (hsdl : v.sdl = s.sdl) (hnow : v.now = s.now)
    (hstatus : reg rSDL_STATUS v = reg rSDL_STATUS s) (hctrl : reg rSDL_CTRL v = reg rSDL_CTRL s) : todM v = todM s := by
  unfold todM todStill todState clockNow fld
  rw [hsdl, hnow, hstatus, hctrl]

theorem mstM_congr {s v : State} (hsdl : v.sdl = s.sdl) (hnow : v.now = s.now) : mstM v = mstM s := by
  unfold mstM mstRun clockNow
  rw [hsdl, hnow]

theorem pinOf_onPin_same (n : Nat) (f : TimePin → TimePin) (s : State) : pinOf n (onPin n f s) = f (pinOf n s) :=
  get_upd_same ..

theorem pinOf_congr {s v : State} (h : v.sdl = s.sdl) (n : Nat) : pinOf n v = pinOf n s := by rw [pinOf, h, pinOf]

/-- The fields of a pin's control lie in its register, FIRED apart from the others. -/
theorem fld_raise_fired {n : Nat} {g : Fld} (hg : fieldOk g) (happart : fieldsApart g (SDL_TPO_CTRL_FIRED n)) (s : State) :
    fld g (raise (SDL_TPO_CTRL_FIRED n) 1 s) = fld g s := fld_raise_other (fieldOk_of rfl) hg happart 1 s

section
variable (n : Nat) (s : State)

theorem baseM_fired (tod : Bool) : baseM tod (raise (SDL_TPO_CTRL_FIRED n) 1 s) = baseM tod s := by
  have hsdl : (raise (SDL_TPO_CTRL_FIRED n) 1 s).sdl = s.sdl := sdl_of_unit (unitPart_raise ..)
  have hnow : (raise (SDL_TPO_CTRL_FIRED n) 1 s).now = s.now := now_of_unit (unitPart_raise ..)
  have hoff : rSDL_STATUS ≠ rSDL_TPO_CTRL n ∧ rSDL_CTRL ≠ rSDL_TPO_CTRL n := by
    unfold rSDL_STATUS rSDL_CTRL rSDL_TPO_CTRL
    omega
  unfold baseM
  rw [todM_congr hsdl hnow (reg_raise hoff.1 1 s) (reg_raise hoff.2 1 s), mstM_congr hsdl hnow]

/-- What the pin does with its fall is what it would do before FIRED. -/
theorem pinFall_fired : pinFall n (raise (SDL_TPO_CTRL_FIRED n) 1 s) = pinFall n s := by
  have hbase : flag (SDL_TPO_CTRL_BASE n) (raise (SDL_TPO_CTRL_FIRED n) 1 s) = flag (SDL_TPO_CTRL_BASE n) s :=
    congrArg (· != 0) (fld_raise_fired (fieldOk_of rfl) (fieldsApart_of rfl) s)
  have hwidth : fld (SDL_TPO_CTRL_WIDTH n) (raise (SDL_TPO_CTRL_FIRED n) 1 s) = fld (SDL_TPO_CTRL_WIDTH n) s :=
    fld_raise_fired (fieldOk_of rfl) (fieldsApart_of rfl) s
  have hnow : (raise (SDL_TPO_CTRL_FIRED n) 1 s).now = s.now := now_of_unit (unitPart_raise ..)
  simp only [pinFall, hbase, hwidth, hnow, baseM_fired]

/-- Pin n is high, until its fall (R369). -/
def pinRisen : State :=
  emit (.pin (.tpOut n) true) (onPin n (fun p => { p with fall := some (pinFall n s) }) (raise (SDL_TPO_CTRL_FIRED n) 1 s))

theorem fld_pinRisen (g : Fld) : fld g (pinRisen n s) = fld g (raise (SDL_TPO_CTRL_FIRED n) 1 s) := by
  rw [pinRisen, fld_emit, onPin, fld_onSdl]

theorem pinOf_pinRisen : (pinOf n (pinRisen n s)).fall = some (pinFall n s) := by
  rw [pinRisen, pinOf_congr (emit_sdl ..), pinOf_onPin_same]

theorem pinRisen_out : (pinRisen n s).out = .pin (.tpOut n) true :: s.out := by
  rw [← raise_out (SDL_TPO_CTRL_FIRED n) 1 s]
  rfl

theorem fld_pinRisen_fired : fld (SDL_TPO_CTRL_FIRED n) (pinRisen n s) = 1 := by
  rw [fld_pinRisen]
  exact fld_raise_bit _ (fieldOk_of rfl) rfl s

variable {n s}

/-- A pulse that is not periodic disarms its pin. -/
theorem pinFire_once (honce : flag (SDL_TPO_CTRL_PERIODIC n) s = false) :
    pinFire n false s = hwFld (SDL_TPO_CTRL_ENABLE n) 0 (pinRisen n s) := by
  have hperiodic : flag (SDL_TPO_CTRL_PERIODIC n) (pinRisen n s) = false := by
    rw [flag, fld_pinRisen, fld_raise_fired (fieldOk_of rfl) (fieldsApart_of rfl), ← flag, honce]
  have hrisen : pinFire n false s = if flag (SDL_TPO_CTRL_PERIODIC n) (pinRisen n s) = true
      then onPin n (fun p => { p with next := gridAfter n (pinBase n (pinRisen n s)) (pinRisen n s) }) (pinRisen n s)
      else hwFld (SDL_TPO_CTRL_ENABLE n) 0 (pinRisen n s) := by
    rw [pinRisen, ← pinFall_fired]
    rfl
  rw [hrisen, hperiodic]
  exact if_neg Bool.false_ne_true

end

@[simp] theorem hwFld_sdl (f : Fld) (v : Nat) (s : State) : (hwFld f v s).sdl = s.sdl := by
  unfold hwFld
  split <;> rfl

@[simp] theorem hwFld_out (f : Fld) (v : Nat) (s : State) : (hwFld f v s).out = s.out := by
  unfold hwFld
  split <;> rfl

theorem fld_hwFld_other {f g : Fld} (hf : fieldOk f) (hg : fieldOk g) (h : fieldsApart g f) (v : Nat) (s : State) :
    fld g (hwFld f v s) = fld g s := by
  unfold hwFld
  split
  · exact fld_setFld_other hf hg h v s
  · rfl

theorem tpOutFire_due {n : Nat} {s : State} (hn : n < 4) (hon : flag (SDL_TPO_CTRL_ENABLE n) s = true)
    (hruns : pinStill n s = false) (hdue : (pinOf n s).next ≤ pinBase n s) : tpOutFire n s = pinFire n false s :=
  if_pos ⟨hn, hon, by rw [hruns]; rfl, hdue⟩

/-- A pulse falls as its base comes to the fall, or as the reference does where the base stands still. -/
theorem fallDue_due {f : Fall} {s : State} (hvalue : f.tod = false ∨ todStill s = false → f.value ≤ baseM f.tod s)
    (hstill : f.tod = true → todStill s = true → f.at_ ≤ s.now) : fallDue f s = true := by
  unfold fallDue
  split
  case isTrue h =>
    rw [Bool.and_eq_true] at h
    exact decide_eq_true (hstill h.1 h.2)
  case isFalse h =>
    rw [Bool.not_eq_true, Bool.and_eq_false_iff] at h
    exact decide_eq_true (hvalue h)

theorem tpOutFall_falls {n : Nat} {f : Fall} {s : State} (hn : n < 4) (hfall : (pinOf n s).fall = some f)
    (hdue : fallDue f s = true) :
    tpOutFall n s = emit (.pin (.tpOut n) false) (onPin n (fun p => { p with fall := none }) s) := by
  simp only [tpOutFall, hfall]
  exact if_pos ⟨hn, hdue⟩

/-! ### SDL_TPO_CTRL -/

theorem regWrite_tpoCtrl {a : Accessor} {n : Nat} {s : State} (h : Reaches a s) (hn : n < 4) (w : Word) :
    regWrite a (rSDL_TPO_CTRL n) w [] s
      = hostFirst a (rSDL_TPO_CTRL n) (tpoWrite a n w (writeLatches a (rSDL_TPO_CTRL n) s)) := by
  have hoffsets : ∀ n < 4, rSDL_TPO_CTRL n / 0x100000 = 10 ∧ (regRow (rSDL_TPO_CTRL n)).isSome = true := by decide
  obtain ⟨hunit, hrow⟩ := hoffsets n hn
  have hoff : rSDL_TPO_CTRL n = 0xA00100 + 16 * n := rfl
  have hindex : (rSDL_TPO_CTRL n - 0xA00100) / 16 = n := by omega
  rw [regWrite_direct h (by omega) (by omega) hrow]
  simp only [writeReg, hunit, sundialWrite]
  rw [if_neg (show rSDL_TPO_CTRL n ≠ 0xA00000 by omega),
    if_neg (show ¬ (rSDL_TPO_CTRL n = 0xA00038 ∨ rSDL_TPO_CTRL n = 0xA0003C) by omega),
    if_neg (show rSDL_TPO_CTRL n ≠ 0xA00040 by omega), if_pos (by omega), hindex]

/-- ENABLE of an unarmed pin, written 1 with a width, arms it (R369). -/
theorem tpoWrite_arms {n : Nat} {w : Word} {s : State} (hwidth : wfld (SDL_TPO_CTRL_WIDTH n) w ≠ 0)
    (hwas : flag (SDL_TPO_CTRL_ENABLE n) s = false)
    (hon : flag (SDL_TPO_CTRL_ENABLE n) (plainWrite (rSDL_TPO_CTRL n) w s) = true) (a : Accessor) :
    tpoWrite a n w s = pinArm n (plainWrite (rSDL_TPO_CTRL n) w s) := by
  simp only [tpoWrite, hwas, hon]
  exact if_neg hwidth

/-! ### Captures -/

theorem reg64_congr {lo hi : Nat} {s v : State} (hlo : reg lo v = reg lo s) (hhi : reg hi v = reg hi s) :
    reg64 lo hi v = reg64 lo hi s := by rw [reg64, hlo, hhi, reg64]

theorem reg64_setReg64_same {lo hi v : Nat} (hne : lo ≠ hi) (hv : v < 2 ^ 64) (s : State) :
    reg64 lo hi (setReg64 lo hi v s) = v := by
  rw [reg64, setReg64, reg_setReg_same, reg_setReg_other hne, reg_setReg_same, BitVec.toNat_ofNat, BitVec.toNat_ofNat]
  omega

theorem reg_setReg64_other {o lo hi : Nat} (hlo : o ≠ lo) (hhi : o ≠ hi) (v : Nat) (s : State) :
    reg o (setReg64 lo hi v s) = reg o s := by
  rw [setReg64, reg_setReg_other hhi, reg_setReg_other hlo]

theorem mstNs_lt (s : State) : mstNs s < 2 ^ 64 := Nat.mod_lt _ (by decide)
theorem todNs_lt (s : State) : todNs s < 2 ^ 64 := Nat.mod_lt _ (by decide)

/-- MST as an edge of TP_IN_n finds it (R370). -/
def mstCaptured (n : Nat) (s : State) : State := setReg64 (rSDL_TPI_MST_LO n) (rSDL_TPI_MST_HI n) (mstNs s) s

/-- Both times as an edge of TP_IN_n finds them. -/
def bothCaptured (n : Nat) (s : State) : State :=
  setReg64 (rSDL_TPI_TOD_LO n) (rSDL_TPI_TOD_HI n) (todNs (mstCaptured n s)) (mstCaptured n s)

theorem todNs_mstCaptured (n : Nat) (s : State) : todNs (mstCaptured n s) = todNs s := by
  have hstatus : rSDL_STATUS ≠ rSDL_TPI_MST_LO n ∧ rSDL_STATUS ≠ rSDL_TPI_MST_HI n := by
    unfold rSDL_STATUS rSDL_TPI_MST_LO rSDL_TPI_MST_HI
    omega
  have hctrl : rSDL_CTRL ≠ rSDL_TPI_MST_LO n ∧ rSDL_CTRL ≠ rSDL_TPI_MST_HI n := by
    unfold rSDL_CTRL rSDL_TPI_MST_LO rSDL_TPI_MST_HI
    omega
  have htod : todM (mstCaptured n s) = todM s :=
    todM_congr rfl rfl (reg_setReg64_other hstatus.1 hstatus.2 ..) (reg_setReg64_other hctrl.1 hctrl.2 ..)
  rw [todNs, htod, todNs]

theorem mst_bothCaptured (n : Nat) (s : State) : reg64 (rSDL_TPI_MST_LO n) (rSDL_TPI_MST_HI n) (bothCaptured n s) = mstNs s := by
  have hlo : rSDL_TPI_MST_LO n ≠ rSDL_TPI_TOD_LO n ∧ rSDL_TPI_MST_LO n ≠ rSDL_TPI_TOD_HI n := by
    unfold rSDL_TPI_MST_LO rSDL_TPI_TOD_LO rSDL_TPI_TOD_HI
    omega
  have hhi : rSDL_TPI_MST_HI n ≠ rSDL_TPI_TOD_LO n ∧ rSDL_TPI_MST_HI n ≠ rSDL_TPI_TOD_HI n := by
    unfold rSDL_TPI_MST_HI rSDL_TPI_TOD_LO rSDL_TPI_TOD_HI
    omega
  have hne : rSDL_TPI_MST_LO n ≠ rSDL_TPI_MST_HI n := by
    unfold rSDL_TPI_MST_LO rSDL_TPI_MST_HI
    omega
  rw [bothCaptured, reg64_congr (reg_setReg64_other hlo.1 hlo.2 ..) (reg_setReg64_other hhi.1 hhi.2 ..), mstCaptured,
    reg64_setReg64_same hne (mstNs_lt s)]

theorem tod_bothCaptured (n : Nat) (s : State) : reg64 (rSDL_TPI_TOD_LO n) (rSDL_TPI_TOD_HI n) (bothCaptured n s) = todNs s := by
  have hne : rSDL_TPI_TOD_LO n ≠ rSDL_TPI_TOD_HI n := by
    unfold rSDL_TPI_TOD_LO rSDL_TPI_TOD_HI
    omega
  rw [bothCaptured, reg64_setReg64_same hne (todNs_lt _), todNs_mstCaptured]

/-- The registers of a capture stand under CAPTURED. -/
theorem reg64_raise_captured {lo hi : Nat} (hlo : lo ≠ rSDL_TPI_STATUS) (hhi : hi ≠ rSDL_TPI_STATUS) (v : Nat) (s : State) :
    reg64 lo hi (raise SDL_TPI_STATUS_CAPTURED v s) = reg64 lo hi s := reg64_congr (reg_raise hlo v s) (reg_raise hhi v s)

theorem tpInCapture_free {n : Nat} {s : State} (hn : n < 2) (hfree : bit (fld SDL_TPI_STATUS_CAPTURED s) n = false) :
    tpInCapture n s = trigger 4 0 none (raise SDL_TPI_STATUS_CAPTURED (2 ^ n) (bothCaptured n s)) := by
  rw [tpInCapture, if_neg (by omega), if_neg (by simp [hfree])]
  rfl

/-! ## The commands -/

section
variable {t : Nat} {s u : State} (h : Awake t s u)
include h

theorem exec_svcSync_awake (domain src seq : Nat) (log : Int) (ns : Nat) (corr : Int) (twoStep : Bool) :
    exec (.svcSync t domain src seq log ns corr twoStep) s
      = .next (after u (svcSync domain src seq log ns corr twoStep u)) := congrArg _ (command_awake h _)

theorem exec_svcFollowUp_awake (domain src seq ns : Nat) (corr : Int) : exec (.svcFollowUp t domain src seq ns corr) s
    = .next (after u (svcFollowUp domain src seq ns corr u)) := congrArg _ (command_awake h _)

theorem exec_svcDelayResp_awake (domain src seq asker ns : Nat) (corr : Int) :
    exec (.svcDelayResp t domain src seq asker ns corr) s
      = .next (after u (svcDelayResp domain src seq asker ns corr u)) := congrArg _ (command_awake h _)

theorem exec_svcAnnounce_awake (domain src : Nat) (data : ClockData) (interval : Nat) :
    exec (.svcAnnounce t domain src data interval) s = .next (after u (svcAnnounce domain src data interval u)) :=
  congrArg _ (command_awake h _)

theorem exec_announceTimeout_awake : exec (.announceTimeout t) s = .next (after u (announceTimeout u)) :=
  congrArg _ (command_awake h _)

theorem exec_slotStart_awake : exec (.slotStart t) s = .next (after u (slotStart u)) := congrArg _ (command_awake h _)

theorem exec_tpOutFire_awake (n : Nat) : exec (.tpOutFire t n) s = .next (after u (tpOutFire n u)) :=
  congrArg _ (command_awake h _)

theorem exec_tpOutFall_awake (n : Nat) : exec (.tpOutFall t n) s = .next (after u (tpOutFall n u)) :=
  congrArg _ (command_awake h _)

theorem exec_tpInCapture_awake (n : Nat) : exec (.tpInCapture t n) s = .next (after u (tpInCapture n u)) :=
  congrArg _ (command_awake h _)

variable {a : Accessor} (hr : Reaches a u) (w : Word)
include hr

theorem exec_setTod_awake : exec (.setTod t a w) s
    = .next (after u (hostFirst a rSDL_CTRL (sdlCtrlWrite a w (writeLatches a rSDL_CTRL u)))) :=
  congrArg _ (command_sdlCtrl h hr w)

theorem exec_vtZero_awake : exec (.vtZero t a w) s
    = .next (after u (hostFirst a rSDL_CTRL (sdlCtrlWrite a w (writeLatches a rSDL_CTRL u)))) :=
  congrArg _ (command_sdlCtrl h hr w)

theorem exec_tpoEnable_awake {n : Nat} (hn : n < 4) : exec (.tpoEnable t a n w) s
    = .next (after u (hostFirst a (rSDL_TPO_CTRL n) (tpoWrite a n w (writeLatches a (rSDL_TPO_CTRL n) u)))) :=
  congrArg _ ((command_awake h _).trans (congrArg _ (regWrite_tpoCtrl hr hn w)))

end

/-- Settles O19: each message, event and write takes the one branch of its rule that its conditions name; what a pin and a
capture keep is read off registers and stores that the rest of the branch does not write. -/
theorem serviceTimeAnswers : Obligations.ServiceTimeAnswers := by
  refine ⟨fun t a w s u z hu hr hhost hset hfrom hz => ⟨fun htod hvt => ?setTod, fun htod hvt hidle => ?vtZero⟩,
    fun t domain src seq ns corr s u hu hon => ⟨fun hmaster => ⟨fun log hlow hhigh => ?sync, fun rx hwait => ?followUp,
      fun t3 hreq => ?delayResp⟩, fun data interval => ?announce, fun data interval m hseen hsrc hsteps hsoon => ?best⟩,
    fun t s u hu => ⟨fun src hmaster hlate hsrc htod => ?timeout, fun hlen hdue hoff => ?slot, fun z hlen hdue hon hz => ?trims⟩,
    fun t n s u hu hn => ⟨fun hon hruns hdue honce => ?fire, fun f hfall hvalue hstill => ?fall,
      fun a w z hr hwidth hz hwas hon => ?arm, fun hn2 hfree => ?capture⟩⟩
  case setTod => rw [exec_setTod_awake hu hr, sdlCtrlWrite_setTod hhost hset hfrom _ _ htod hvt, sdlCtrlPlain, ← hz]
  case vtZero =>
    rw [exec_vtZero_awake hu hr, sdlCtrlWrite_vtZero hhost hset hfrom _ _ htod hvt, sdlCtrlPlain, ← hz, vtZero_idle hidle]
    exact ⟨_, rfl, vtNs_vtZeroed .., rfl⟩
  case sync =>
    rw [exec_svcSync_awake hu, exec_svcSync_awake hu, svcSync_twoStep hon hmaster hlow hhigh,
      svcSync_oneStep hon hmaster hlow hhigh]
    exact ⟨rfl, rfl⟩
  case followUp => rw [exec_svcFollowUp_awake hu, svcFollowUp_completes hon hmaster hwait]
  case delayResp => rw [exec_svcDelayResp_awake hu, svcDelayResp_answers hon hmaster hreq]
  case announce =>
    rw [exec_svcAnnounce_awake hu, svcAnnounce_keeps hon]
    rfl
  case best =>
    have honly := svcSeen_announceKept hseen hsrc data interval
    refine ⟨_, exec_svcAnnounce_awake hu .., ?_⟩
    rw [svcAnnounce_keeps hon, chooseMaster_only honly]
    simp [svcQualified, announceKept, hsteps, hsoon]
  case timeout =>
    refine ⟨_, exec_announceTimeout_awake hu, ?_⟩
    rw [announceTimeout_loses hmaster hlate hsrc htod]
    exact ⟨by rw [setFld_sdl]; rfl, fld_setFld_same _ (by decide) 2 _⟩
  case slot => rw [exec_slotStart_awake hu, slotStart_counts hlen hdue, if_neg (by simp [hoff])]
  case trims => rw [exec_slotStart_awake hu, slotStart_counts hlen hdue, if_pos hon, hz]
  case fire =>
    refine ⟨_, exec_tpOutFire_awake hu n, ?_⟩
    rw [tpOutFire_due hn hon hruns hdue, pinFire_once honce, fld_hwFld_other (fieldOk_of rfl) (fieldOk_of rfl) (fieldsApart_of rfl),
      pinOf_congr (hwFld_sdl ..), hwFld_out]
    exact ⟨fld_pinRisen_fired n u, pinOf_pinRisen n u, pinRisen_out n u⟩
  case fall => rw [exec_tpOutFall_awake hu, tpOutFall_falls hn hfall (fallDue_due hvalue hstill)]
  case arm =>
    subst hz
    rw [exec_tpoEnable_awake hu hr w hn, tpoWrite_arms hwidth (by rw [flag_writeLatches]; exact hwas) hon]
  case capture =>
    have hoff : rSDL_TPI_MST_LO n ≠ rSDL_TPI_STATUS ∧ rSDL_TPI_MST_HI n ≠ rSDL_TPI_STATUS
        ∧ rSDL_TPI_TOD_LO n ≠ rSDL_TPI_STATUS ∧ rSDL_TPI_TOD_HI n ≠ rSDL_TPI_STATUS := by
      unfold rSDL_TPI_MST_LO rSDL_TPI_MST_HI rSDL_TPI_TOD_LO rSDL_TPI_TOD_HI rSDL_TPI_STATUS
      omega
    obtain ⟨hmlo, hmhi, htlo, hthi⟩ := hoff
    rw [exec_tpInCapture_awake hu, tpInCapture_free hn2 hfree]
    exact ⟨_, rfl, by rw [reg64_raise_captured hmlo hmhi, mst_bothCaptured], by rw [reg64_raise_captured htlo hthi, tod_bothCaptured]⟩

end Sys2Proof.Machine
end

/-! SUPPORT. The sideband's messages: register messages and MCTP control (R397, R399, R400). -/
section
namespace Sys2Proof.Machine

/-! ## Register messages -/

section
variable {s : State} (hreach : reaches .sideband s = true)
include hreach

theorem read32_words {off count : Nat} (hlow : 1 ≤ count) (hhigh : count ≤ 8) (halign : off % 4 = 0) :
    read32 off count s = emit (.mctp (0 :: (readWords off count s).1)) (readWords off count s).2 := by
  rw [read32, if_neg (by simp [hreach]), if_neg (by omega), if_neg (by omega)]

theorem read32_miscounted {off count : Nat} (h : count = 0 ∨ 8 < count) : read32 off count s = emit (.mctp [2]) s := by
  rw [read32, if_neg (by simp [hreach]), if_pos h]

theorem write32_writes (off : Nat) (w : Word) (counts : Map Nat) :
    write32 off w counts s = emit (.mctp [0]) (regWrite .sideband off w counts s) := if_neg (by simp [hreach])

theorem getStatus_reads {a b : Word × State} (ha : a = readReg .sideband rGLB_SFIFO_STATUS s)
    (hb : b = readReg .sideband rGLB_PCIE_STATUS a.2) :
    getStatus s = emit (.mctp (bytesLE 4 a.1.toNat ++ bytesLE 4 b.1.toNat)) b.2 := by
  subst hb ha
  exact if_neg (by simp [hreach])

theorem readFifo_miscounted {count : Nat} (h : count = 0 ∨ 14 < count) : readFifo count s = emit (.mctp [2]) s := by
  rw [readFifo, if_neg (by simp [hreach]), if_pos h]

theorem readFifo_empty {count : Nat} (hlow : 1 ≤ count) (hhigh : count ≤ 14) (hempty : s.sfifo = []) :
    readFifo count s = emit (.mctp ([0, 1, 1] ++ bytesLE 4 (fld GLB_SFIFO_LAST_ENTRY (raise GLB_SFIFO_STATUS_UNDERRUN 1 s))))
      (raise GLB_SFIFO_STATUS_UNDERRUN 1 s) := by
  rw [readFifo, if_neg (by simp [hreach]), if_neg (by omega), if_pos (by simp [hempty])]

end

/-- The oldest `count` entries of the FIFO have been taken and answered, and the last of them kept (R397). -/
def fifoTaken (count : Nat) (s : State) : State :=
  emit (.mctp ([0, BitVec.ofNat 8 (s.sfifo.take count).length, 0] ++ (s.sfifo.take count).flatMap fun e => bytesLE 4 e.toNat))
    (setReg rGLB_SFIFO_LAST ((s.sfifo.take count).getLastD 0) { s with sfifo := s.sfifo.drop count })

theorem readFifo_takes {count : Nat} {s : State} (hreach : reaches .sideband s = true) (hlow : 1 ≤ count) (hhigh : count ≤ 14)
    (hsome : s.sfifo ≠ []) : readFifo count s = sfHold (fifoTaken count s) := by
  have hentries : (s.sfifo.take count).isEmpty = false := by
    rw [List.isEmpty_eq_false_iff, Ne, List.take_eq_nil_iff]
    rintro (h | h)
    · omega
    · exact hsome h
  rw [readFifo, if_neg (by simp [hreach]), if_neg (by omega), if_neg (by simp [hentries])]
  rfl

/-! ## The commands -/

section
variable {t : Nat} {s u : State} (h : Awake t s u)
include h

theorem exec_read32_awake (off count : Nat) : exec (.read32 t off count) s = .next (after u (read32 off count u)) :=
  congrArg _ (command_awake h _)

theorem exec_write32_awake (off : Nat) (w : Word) (counts : Map Nat) :
    exec (.write32 t off w counts) s = .next (after u (write32 off w counts u)) := congrArg _ (command_awake h _)

theorem exec_readFifo_awake (count : Nat) : exec (.readFifo t count) s = .next (after u (readFifo count u)) :=
  congrArg _ (command_awake h _)

theorem exec_getStatus_awake : exec (.getStatus t) s = .next (after u (getStatus u)) := congrArg _ (command_awake h _)

theorem exec_setEndpointId_awake (op eid : Nat) : exec (.setEndpointId t op eid) s = .next (after u (setEndpointId op eid u)) :=
  congrArg _ (command_awake h _)

theorem exec_getEndpointId_awake : exec (.getEndpointId t) s = .next (after u (getEndpointId u)) :=
  congrArg _ (command_awake h _)

theorem exec_getMctpVersionSupport_awake (type : Nat) :
    exec (.getMctpVersionSupport t type) s = .next (after u (getVersions type u)) := congrArg _ (command_awake h _)

theorem exec_getMessageTypeSupport_awake : exec (.getMessageTypeSupport t) s = .next (after u (getMessageTypes u)) :=
  congrArg _ (command_awake h _)

theorem exec_getVendorDefinedMessageSupport_awake (sel : Nat) :
    exec (.getVendorDefinedMessageSupport t sel) s = .next (after u (getVendorSupport sel u)) := congrArg _ (command_awake h _)

theorem exec_entdaa_awake (addr : Nat) : exec (.entdaa t addr) s = .next (after u (entdaa addr u)) :=
  congrArg _ (command_awake h _)

end

/-- Settles O22: each message takes the branch its count names; what READ_FIFO leaves of the FIFO and of the last entry
read is read off the state before FLOW_HOLD_N is judged. -/
theorem sidebandAnswers : Obligations.SidebandAnswers := by
  intro t s u hu hreach
  refine ⟨fun off count hlow hhigh halign => ?words, fun off count hcount => ?miscounted, fun off w counts => ?write,
    fun a b ha hb => ?status, fun count hlow hhigh => ⟨fun hsome => ⟨fifoTaken count u, ?takes, rfl, rfl, ?last⟩, fun hempty => ?empty⟩,
    fun count hcount => ?fifoMiscounted⟩
  case words => rw [exec_read32_awake hu, read32_words hreach hlow hhigh halign]
  case miscounted => rw [exec_read32_awake hu, read32_miscounted hreach hcount]
  case write => rw [exec_write32_awake hu, write32_writes hreach]
  case status => rw [exec_getStatus_awake hu, getStatus_reads hreach ha hb]
  case takes => rw [exec_readFifo_awake hu, readFifo_takes hreach hlow hhigh hsome]
  case last => rw [fifoTaken, reg_emit, reg_setReg_same]
  case empty => rw [exec_readFifo_awake hu, readFifo_empty hreach hlow hhigh hempty]
  case fifoMiscounted => rw [exec_readFifo_awake hu, readFifo_miscounted hreach hcount]

/-! ## MCTP control -/

section
variable {s : State} (hup : mctpUp s = true)
include hup

theorem setEndpointId_assigns {op eid : Nat} (hop : op ≤ 1) (hlow : 8 ≤ eid) (hhigh : eid ≤ 254) :
    setEndpointId op eid s = emit (.mctp [0, 0, BitVec.ofNat 8 eid, 0]) { s with eid := eid } := by
  rw [setEndpointId, if_neg (by simp [hup]), if_pos ⟨hop, hlow, hhigh⟩]

theorem setEndpointId_unknown {op eid : Nat} (h : 1 < op ∨ eid < 8 ∨ 254 < eid) :
    setEndpointId op eid s = emit (.mctp [2]) s := by
  rw [setEndpointId, if_neg (by simp [hup]), if_neg (by omega)]

theorem getEndpointId_answers : getEndpointId s = emit (.mctp [0, BitVec.ofNat 8 s.eid, 0, 0]) s := if_pos hup

theorem getVersions_answers (type : Nat) :
    getVersions type s = emit (.mctp (if type = 0xFF ∨ type = 0 then [0, 1, 0xF1, 0xF3, 0xF1, 0x00] else [0x80])) s := by
  rw [getVersions, if_neg (by simp [hup])]
  split <;> rfl

theorem getMessageTypes_answers : getMessageTypes s = emit (.mctp [0, 2, 0x00, 0x7F]) s := if_pos hup

theorem getVendorSupport_answers (sel : Nat) : getVendorSupport sel s = emit (.mctp (if sel = 0 then
    [0, 0xFF, 1] ++ (bytesLE 4 (reg rGLB_IANA s).toNat).reverse ++ [0, 0] else [2])) s := by
  rw [getVendorSupport, if_neg (by simp [hup])]
  split <;> rfl

end

/-- Settles O49: while Chous does not restart each request is answered, by the branch its operand names. -/
theorem controlMessagesAnswer : Obligations.ControlMessagesAnswer := by
  intro t s u hu
  refine ⟨fun hup => ⟨fun op eid hop hlow hhigh => ?assigns, fun op eid hbad => ?unknown, ?endpoint, fun type => ?versions, ?types,
    fun sel => ?vendor⟩, fun addr hi3c => ?address⟩
  case assigns => rw [exec_setEndpointId_awake hu, setEndpointId_assigns hup hop hlow hhigh]
  case unknown => rw [exec_setEndpointId_awake hu, setEndpointId_unknown hup hbad]
  case endpoint => rw [exec_getEndpointId_awake hu, getEndpointId_answers hup]
  case versions => rw [exec_getMctpVersionSupport_awake hu, getVersions_answers hup]
  case types => rw [exec_getMessageTypeSupport_awake hu, getMessageTypes_answers hup]
  case vendor => rw [exec_getVendorDefinedMessageSupport_awake hu, getVendorSupport_answers hup]
  case address => rw [exec_entdaa_awake hu, entdaa, if_pos hi3c]

end Sys2Proof.Machine
end

/-! SUPPORT. Functions of the device: tags, Bus Master Enable, the PCIe link and the aperture (R376–R381, R392–R396). -/
section
namespace Sys2Proof.Machine

/-! ## Functions and queues as stores -/

@[simp] theorem func_onFunc_same (f : Nat) (g : Func → Func) (s : State) : func f (onFunc f g s) = g (func f s) :=
  get_upd_same ..

theorem func_onFunc_other {f k : Nat} (h : k ≠ f) (g : Func → Func) (s : State) : func k (onFunc f g s) = func k s :=
  get_upd_other _ h ..

theorem func_congr {s v : State} (h : v.func = s.func) (f : Nat) : func f v = func f s := by rw [func, h, func]

@[simp] theorem queueOf_onQueue_same (n : Nat) (f : Queue → Queue) (s : State) : queueOf n (onQueue n f s) = f (queueOf n s) :=
  get_upd_same ..

theorem queueOf_onQueue_other {m n : Nat} (h : m ≠ n) (f : Queue → Queue) (s : State) :
    queueOf m (onQueue n f s) = queueOf m s := get_upd_other _ h ..

theorem queueOf_congr {s v : State} (h : v.queue = s.queue) (n : Nat) : queueOf n v = queueOf n s := by
  rw [queueOf, h, queueOf]

/-! ## Completions and time-outs of a tag -/

section
variable {f id : Nat} {g : Tag} {s : State} (htag : (func f s).tags.find? (fun x => x.id == id) = some g)
include htag

theorem readCompletion_fenced (hfenced : g.fenced = true) (data : Option (List Byte)) : readCompletion f id data s = s := by
  simp [readCompletion, htag, hfenced]

theorem readCompletion_error (hfree : g.fenced = false) :
    readCompletion f id none s = requestFails (f - 1) g (freeTag f id s) := by
  simp [readCompletion, htag, hfree]

/-- The entry of a fetch has arrived at its place in the ring (R392). -/
def entryArrived (n : Nat) (g : Tag) (bs : List Byte) (s : State) : State :=
  onQueue n (fun x => { x with
    arrived := put none (4096 * g.sq + g.piece) (some (BitVec.ofNat 512 (natLE (bs.take 64)))) x.arrived }) s

theorem readCompletion_entry (hfree : g.fenced = false) (hfetch : g.copy = false) (hon : sqOn (f - 1) g.sq s = true)
    (hopen : (ringOpen (f - 1) g.sq s).contains g.piece = true) (bs : List Byte) :
    readCompletion f id (some bs) s = entryArrived (f - 1) g bs (freeTag f id s) := by
  have hon' : sqOn (f - 1) g.sq (freeTag f id s) = true := hon
  have hopen' : (ringOpen (f - 1) g.sq (freeTag f id s)).contains g.piece = true := hopen
  simp only [readCompletion, htag, hfree, hfetch, hon', hopen']
  rfl

theorem completionTimeout_late (hfree : g.fenced = false) (hlate : g.at_ + tagLife f s ≤ s.now) :
    completionTimeout f id s = requestFails (f - 1) g (freeTag f id s) := by
  simp only [completionTimeout, htag]
  exact if_neg (by simp [hfree, hlate])

theorem tagTimeout_late (hfenced : g.fenced = true) (hlate : g.at_ + tagLife f s ≤ s.now) :
    tagTimeout f id s = flrOver f (freeTag f id s) := by
  simp only [tagTimeout, htag]
  exact if_neg (by simp [hfenced, hlate])

end

/-! ## Bus Master Enable -/

/-- Bus Master Enable is cleared and every tag of the function is fenced (R394). -/
def busLeft (f : Nat) (c : PciConfig) (s : State) : State :=
  fenceTags f false (onFunc f (fun g => { g with bme := false }) (configure f c s))

theorem bmeClear_clears {f : Nat} {s : State} (hbme : (func f s).bme = true) (c : PciConfig) :
    bmeClear f c s = devFault 0 5 f (busLeft f c s) := if_neg (by simp [configure, hbme])

theorem func_busLeft (f : Nat) (c : PciConfig) (s : State) :
    (func f (busLeft f c s)).bme = false ∧ ∀ x ∈ (func f (busLeft f c s)).tags, x.fenced = true := by
  simp [busLeft, fenceTags]

/-- Bus Master Enable is set, with the configuration fields of the write. -/
def busTaken (f : Nat) (c : PciConfig) (s : State) : State := onFunc f (fun g => { g with bme := true }) (configure f c s)

theorem func_busTaken (f : Nat) (c : PciConfig) (s : State) : (func f (busTaken f c s)).bme = true
    ∧ (func f (busTaken f c s)).cfg.d3 = c.d3 ∧ (func f (busTaken f c s)).flr = (func f s).flr := by
  simp [busTaken, configure]

/-- What was held of the function's plot is written, where its queues may write again (R394). -/
def heldWritten (f : Nat) (s : State) : State := if f ≠ 0 ∧ !paused (f - 1) s then writeHeld (f - 1) s else s

theorem bmeSet_eq (f : Nat) (c : PciConfig) (s : State) : bmeSet f c s = sendPending f (heldWritten f (busTaken f c s)) := rfl

/-- Bus Master Enable and the configuration fields of function f. -/
def funcSettings (f : Nat) (s : State) : Bool × PciConfig := ((func f s).bme, (func f s).cfg)

theorem funcSettings_congr {s v : State} (h : v.func = s.func) (f : Nat) : funcSettings f v = funcSettings f s := by
  rw [funcSettings, func_congr h, funcSettings]

/-- A signalled vector is sent or left pending; the function's settings stand. -/
theorem funcSettings_msix (f k v : Nat) (s : State) : funcSettings f (msix k v s) = funcSettings f s := by
  unfold msix
  extract_lets fn e
  split
  · rfl
  · unfold funcSettings
    by_cases h : f = k
    · rw [h, func_onFunc_same]
    · rw [func_onFunc_other h]

theorem funcSettings_onQueue (f n : Nat) (g : Queue → Queue) (s : State) :
    funcSettings f (onQueue n g s) = funcSettings f s := rfl

theorem funcSettings_setFld (f : Nat) (g : Fld) (v : Nat) (s : State) : funcSettings f (setFld g v s) = funcSettings f s :=
  funcSettings_congr (setFld_func ..) f

theorem funcSettings_cqCoalesce (f n : Nat) (s : State) : funcSettings f (cqCoalesce n s) = funcSettings f s := by
  unfold cqCoalesce
  split
  · rw [cqSignal, funcSettings_onQueue, funcSettings_msix]
  · rfl

theorem funcSettings_postNow (f n : Nat) (c : Cpl) (s : State) : funcSettings f (postNow n c s) = funcSettings f s := by
  unfold postNow
  extract_lets tail phase base s1 wrap s2 s3
  have hphase : funcSettings f s3 = funcSettings f s2 := by
    show funcSettings f (if _ then _ else _) = _
    split
    · exact funcSettings_setFld ..
    · rfl
  rw [funcSettings_cqCoalesce, funcSettings_onQueue, hphase]
  exact funcSettings_setFld ..

/-- The completions held of plot n, and their count in PLOT_Q_STATUS. -/
def heldView (n : Nat) (s : State) : List Cpl × Nat := ((queueOf n s).hold, fld (PLOT_Q_STATUS_HELD n) s)

theorem heldView_congr {s v : State} {n : Nat} (hold : (queueOf n v).hold = (queueOf n s).hold)
    (hreg : fld (PLOT_Q_STATUS_HELD n) v = fld (PLOT_Q_STATUS_HELD n) s) : heldView n v = heldView n s := by
  rw [heldView, hold, hreg, heldView]

theorem heldView_onQueue {f : Queue → Queue} (hf : ∀ q, (f q).hold = q.hold) (n : Nat) (s : State) :
    heldView n (onQueue n f s) = heldView n s := heldView_congr (by rw [queueOf_onQueue_same, hf]) (fld_congr rfl _)

theorem heldView_msix (n f v : Nat) (s : State) : heldView n (msix f v s) = heldView n s := by
  refine heldView_congr ?_ (congrArg (fun w : Word => bits w.toNat 27 16) (reg_msix ..))
  rw [queueOf_congr (queue_of_unit (unitPart_msix ..))]

theorem heldView_cqCoalesce (n : Nat) (s : State) : heldView n (cqCoalesce n s) = heldView n s := by
  unfold cqCoalesce
  split
  · rw [cqSignal, heldView_onQueue, heldView_msix]
    exact fun _ => rfl
  · rfl

theorem heldStatus_apart (n : Nat) : rPLOT_Q_STATUS n ≠ rPLOT_CQ_STATE n := by
  unfold rPLOT_Q_STATUS rPLOT_CQ_STATE
  omega

theorem heldView_cqState {f : Fld} {n : Nat} (h : f.off = rPLOT_CQ_STATE n) (v : Nat) (s : State) :
    heldView n (setFld f v s) = heldView n s := by
  refine heldView_congr (by rw [queueOf_congr (setFld_queue ..)]) ?_
  rw [fld, reg_setFld_other (by rw [h]; exact heldStatus_apart n), fld]

theorem heldView_postNow (n : Nat) (c : Cpl) (s : State) : heldView n (postNow n c s) = heldView n s := by
  unfold postNow
  extract_lets tail phase base s1 wrap s2 s3
  have hsent : heldView n s1 = heldView n s := heldView_congr rfl (fld_congr rfl _)
  have hphase : heldView n s3 = heldView n s2 := by
    show heldView n (if _ then _ else _) = _
    split
    · exact heldView_cqState rfl _ s2
    · rfl
  rw [heldView_cqCoalesce, heldView_onQueue, hphase, heldView_cqState rfl _ s1, hsent]
  exact fun _ => rfl

theorem funcSettings_writeHeld (f n : Nat) (s : State) : funcSettings f (writeHeld n s) = funcSettings f s := by
  unfold writeHeld
  extract_lets h s1
  rw [forAll_keeps (g := funcSettings f) fun c v => funcSettings_postNow f n c v]
  exact funcSettings_setFld ..

theorem heldView_writeHeld (n : Nat) (s : State) : heldView n (writeHeld n s) = ([], 0) := by
  unfold writeHeld
  extract_lets h s1
  rw [forAll_keeps (g := heldView n) fun c v => heldView_postNow n c v]
  refine Prod.ext ?_ (fld_setFld_same _ (fieldOk_of rfl) 0 _)
  show (queueOf n s1).hold = []
  rw [queueOf_congr (setFld_queue ..), queueOf_onQueue_same]

theorem funcSettings_heldWritten (f : Nat) (s : State) : funcSettings f (heldWritten f s) = funcSettings f s := by
  unfold heldWritten
  split
  · exact funcSettings_writeHeld ..
  · rfl

theorem heldWritten_empties {f : Nat} {s : State} (hvf : f ≠ 0) (hbme : (func f s).bme = true) (hflr : (func f s).flr = false)
    (hd3 : (func f s).cfg.d3 = false) : heldView (f - 1) (heldWritten f s) = ([], 0) := by
  have hf : f - 1 + 1 = f := by omega
  have hruns : paused (f - 1) s = false := by simp [paused, hf, hbme, hflr, hd3]
  rw [heldWritten, if_pos ⟨hvf, by simp [hruns]⟩, heldView_writeHeld]

/-! ## Resets and the link -/

theorem flrFunc_vf {f : Nat} {s : State} (hvf : f ≠ 0) (hon : f ≤ s.vfs) : flrFunc f s = flrVf (f - 1) s := by
  rw [flrFunc, if_neg hvf, if_pos (by rw [vfOn, decide_eq_true_eq]; omega)]

theorem pcieChange_reports {rate width : Nat} {s : State} (hup : flag GLB_PCIE_STATUS_LINK_UP s = true)
    (hnew : ¬(fld GLB_PCIE_STATUS_RATE s = rate ∧ fld GLB_PCIE_STATUS_WIDTH s = width)) (flit : Bool) (tagBits : Nat) :
    pcieChange rate width flit tagBits s
      = devFault 0 3 (2 ^ 11 * rate + 2 ^ 6 * width) (setLink rate width flit tagBits s) := by
  rw [pcieChange, if_neg (by simp [hup]), if_neg hnew]

/-! ## The aperture -/

section
variable {x l n : Nat} {s : State} (hreach : reaches .host s = true) (hl : l = fld GLB_APER_BASE_BASE s * 2 ^ 30 + x)
include hreach hl

theorem apertureAccess_within (write : Option (List Byte)) {k : Nat} (hk : (write.map (·.length)).getD n = k)
    (hbar : x + k ≤ 2 ^ (30 + (func 0 s).cfg.bar2)) (hhbm : l + k ≤ hbmBytes) :
    apertureAccess x write n s = apertureServe l write n s := by
  unfold apertureAccess
  rw [hk, if_neg (by simp [hreach]; omega), ← hl]
  exact if_pos hhbm

theorem apertureAccess_beyond (hbar : x + n ≤ 2 ^ (30 + (func 0 s).cfg.bar2)) (hhbm : hbmBytes < l + n) :
    apertureAccess x none n s = emit (.aperture (List.replicate n 0xFF) false) s := by
  unfold apertureAccess
  rw [if_neg (by simp [hreach]; omega), ← hl]
  exact if_neg (by simp; omega)

end

theorem apertureServe_made {l n : Nat} {write : Option (List Byte)} {s : State}
    (hruns : hbmPaused l ((write.map (·.length)).getD n) s = false) : apertureServe l write n s = apertureMade l write n s :=
  if_neg (by simp [hruns])

theorem apertureServe_waits {l n : Nat} {write : Option (List Byte)} {s : State}
    (hpaused : hbmPaused l ((write.map (·.length)).getD n) s = true) :
    apertureServe l write n s = onHbm (fun h => { h with wait := h.wait ++ [(l, write, n)] }) s := if_pos hpaused

/-! ## The commands -/

section
variable {t : Nat} {s u : State} (h : Awake t s u)
include h

theorem exec_readCompletion_awake (f id : Nat) (data : Option (List Byte)) :
    exec (.readCompletion t f id data) s = .next (after u (readCompletion f id data u)) := congrArg _ (command_awake h _)

theorem exec_completionTimeout_awake (f id : Nat) :
    exec (.completionTimeout t f id) s = .next (after u (completionTimeout f id u)) := congrArg _ (command_awake h _)

theorem exec_tagTimeout_awake (f id : Nat) : exec (.tagTimeout t f id) s = .next (after u (tagTimeout f id u)) :=
  congrArg _ (command_awake h _)

theorem exec_bmeClear_awake (f : Nat) (c : PciConfig) : exec (.bmeClear t f c) s = .next (after u (bmeClear f c u)) :=
  congrArg _ (command_awake h _)

theorem exec_bmeSet_awake (f : Nat) (c : PciConfig) : exec (.bmeSet t f c) s = .next (after u (bmeSet f c u)) :=
  congrArg _ (command_awake h _)

theorem exec_msixEnable_awake (f : Nat) : exec (.msixEnable t f) s = .next (after u (msixEnable f u)) :=
  congrArg _ (command_awake h _)

theorem exec_flr_awake (f : Nat) : exec (.flr t f) s = .next (after u (flrFunc f u)) := congrArg _ (command_awake h _)

theorem exec_linkUp_awake (rate width : Nat) (flit : Bool) (tagBits : Nat) :
    exec (.linkUp t rate width flit tagBits) s = .next (after u (pcieUp rate width flit tagBits u)) :=
  congrArg _ (command_awake h _)

theorem exec_linkRateChange_awake (rate width : Nat) (flit : Bool) (tagBits : Nat) :
    exec (.linkRateChange t rate width flit tagBits) s = .next (after u (pcieChange rate width flit tagBits u)) :=
  congrArg _ (command_awake h _)

theorem exec_linkDown_awake : exec (.linkDown t) s = .next (after u (pcieDown u)) := congrArg _ (command_awake h _)

theorem exec_numvfsWrite_awake (num : Nat) (enable ari : Bool) :
    exec (.numvfsWrite t num enable ari) s = .next (after u (numvfsWrite num enable ari u)) := congrArg _ (command_awake h _)

theorem exec_apertureAccess_awake (x : Nat) (write : Option (List Byte)) (n : Nat) :
    exec (.apertureAccess t x write n) s = .next (after u (apertureAccess x write n u)) := congrArg _ (command_awake h _)

end

/-- Settles O21: each event takes the branch its conditions name; what Bus Master Enable releases is read off the state in
which the held completions have been written. -/
theorem hostFunctionsAnswer : Obligations.HostFunctionsAnswer := by
  refine ⟨fun t f id g s u hu htag => ⟨fun hfenced data => ?fenced,
      fun bs hfree hfetch hvf hon hopen => ⟨entryArrived (f - 1) g bs (freeTag f id u), ?entry, ?arrived, ?tagFreed⟩,
      fun hfree => ?error, fun hfree hlate => ?timeout, fun hfenced hlate => ?freed⟩,
    fun t f s u hu => ⟨fun cfg hbme => ⟨busLeft f cfg u, ?clear, (func_busLeft ..).1, (func_busLeft ..).2, rfl⟩,
      fun cfg => ⟨heldWritten f (busTaken f cfg u), ?set, ?taken⟩,
      exec_msixEnable_awake hu f, fun hvf hon => ?flrVf, fun hpf => ?flrPf⟩,
    fun t rate width tagBits num x n flit enable ari s u hu => ⟨exec_linkUp_awake hu .., fun hup hnew => ?rate,
      exec_linkDown_awake hu, ⟨numvfsWrite num enable ari u, exec_numvfsWrite_awake hu .., rfl, rfl, rfl, rfl⟩,
      fun hreach l hl => ⟨fun bs hbar hhbm hruns => ?write, fun hbar hhbm hruns => ?read, fun v hbar hhbm hpaused hv => ?waits,
        fun hbar hhbm => ?beyond⟩⟩⟩
  case fenced => rw [exec_readCompletion_awake hu, readCompletion_fenced htag hfenced]
  case entry => rw [exec_readCompletion_awake hu, readCompletion_entry htag hfree hfetch hon hopen]
  case arrived => rw [entryArrived, queueOf_onQueue_same, get_put_same]
  case tagFreed =>
    show (func f (freeTag f id u)).tags = _
    rw [freeTag, func_onFunc_same]
  case error => rw [exec_readCompletion_awake hu, readCompletion_error htag hfree]
  case timeout => rw [exec_completionTimeout_awake hu, completionTimeout_late htag hfree hlate]
  case freed => rw [exec_tagTimeout_awake hu, tagTimeout_late htag hfenced hlate]
  case clear => rw [exec_bmeClear_awake hu, bmeClear_clears hbme]
  case set => rw [exec_bmeSet_awake hu, bmeSet_eq]
  case taken =>
    obtain ⟨hbme, hd3, hflr⟩ := func_busTaken f cfg u
    have hkept : (func f (heldWritten f (busTaken f cfg u))).bme = (func f (busTaken f cfg u)).bme
        ∧ (func f (heldWritten f (busTaken f cfg u))).cfg = (func f (busTaken f cfg u)).cfg :=
      Prod.mk.inj (funcSettings_heldWritten f (busTaken f cfg u))
    rw [hkept.1, hkept.2]
    exact ⟨hbme, hd3, fun hvf hidle hawake =>
      Prod.mk.inj (heldWritten_empties hvf hbme (hflr.trans hidle) (hd3.trans hawake))⟩
  case flrVf => rw [exec_flr_awake hu, flrFunc_vf hvf hon]
  case flrPf => rw [hpf, exec_flr_awake hu]
  case rate => rw [exec_linkRateChange_awake hu, pcieChange_reports hup hnew]
  case write =>
    rw [exec_apertureAccess_awake hu, apertureAccess_within hreach hl (some bs) rfl hbar hhbm, apertureServe_made hruns]
    rfl
  case read =>
    rw [exec_apertureAccess_awake hu, apertureAccess_within hreach hl none rfl hbar hhbm, apertureServe_made hruns]
    rfl
  case waits => rw [exec_apertureAccess_awake hu, apertureAccess_within hreach hl none rfl hbar hhbm, apertureServe_waits hpaused, hv]
  case beyond => rw [exec_apertureAccess_awake hu, apertureAccess_beyond hreach hl hbar hhbm]

end Sys2Proof.Machine
end

/-! SUPPORT and O20. Commands in staging: what follows a command never adds one (R387, R388, R433). -/
section
namespace Sys2Proof.Machine

/-- The commands of plot n in staging. -/
@[irreducible] def stagedOf (n : Nat) (s : State) : List Cmd := (queueOf n s).staged

theorem stagedOf_congr {n : Nat} {s v : State} (h : v.queue = s.queue) : stagedOf n v = stagedOf n s := by
  rw [stagedOf, queueOf_congr h, stagedOf]

theorem stagedOf_of_unit {n : Nat} {s v : State} (h : unitPart v = unitPart s) : stagedOf n v = stagedOf n s :=
  stagedOf_congr (queue_of_unit h)

/-- A change of a plot's queues that leaves its staging. -/
theorem stagedOf_onQueue (n m : Nat) (f : Queue → Queue) (s : State) (hf : ∀ q, (f q).staged = q.staged) :
    stagedOf n (onQueue m f s) = stagedOf n s := by
  by_cases h : n = m
  · rw [h, stagedOf, queueOf_onQueue_same, hf, stagedOf]
  · rw [stagedOf, queueOf_onQueue_other h, stagedOf]

@[simp] theorem stagedOf_setFld (n : Nat) (f : Fld) (v : Nat) (s : State) : stagedOf n (setFld f v s) = stagedOf n s :=
  stagedOf_congr (setFld_queue ..)

@[simp] theorem stagedOf_setFlds (n : Nat) (fs : List (Fld × Nat)) (s : State) : stagedOf n (setFlds fs s) = stagedOf n s :=
  stagedOf_of_unit (unitPart_setFlds ..)

theorem stagedOf_raise (n : Nat) (f : Fld) (v : Nat) (s : State) : stagedOf n (raise f v s) = stagedOf n s :=
  stagedOf_of_unit (by simp)

@[simp] theorem stagedOf_setReg (n off : Nat) (w : Word) (s : State) : stagedOf n (setReg off w s) = stagedOf n s :=
  stagedOf_congr (setReg_queue ..)

@[simp] theorem stagedOf_emit (n : Nat) (o : Out) (s : State) : stagedOf n (emit o s) = stagedOf n s :=
  stagedOf_congr (emit_queue ..)

@[simp] theorem stagedOf_leave (n : Nat) (d : Due) (s : State) : stagedOf n (leave d s) = stagedOf n s :=
  stagedOf_congr (leave_queue ..)

@[simp] theorem stagedOf_onFunc (n f : Nat) (g : Func → Func) (s : State) : stagedOf n (onFunc f g s) = stagedOf n s :=
  stagedOf_congr (onFunc_queue ..)

@[simp] theorem stagedOf_onSeq (n : Nat) (f : Seq → Seq) (s : State) : stagedOf n (onSeq f s) = stagedOf n s :=
  stagedOf_congr (onSeq_queue ..)

@[simp] theorem stagedOf_onRun (n : Nat) (f : Run → Run) (s : State) : stagedOf n (onRun f s) = stagedOf n s :=
  stagedOf_onSeq ..

@[simp] theorem stagedOf_onTally (n : Nat) (f : Tally → Tally) (s : State) : stagedOf n (onTally f s) = stagedOf n s :=
  stagedOf_congr (onTally_queue ..)

@[simp] theorem stagedOf_onLink (n p l : Nat) (f : Link → Link) (s : State) : stagedOf n (onLink p l f s) = stagedOf n s :=
  stagedOf_congr (onLink_queue ..)

@[simp] theorem stagedOf_meterAdd (n k p x : Nat) (s : State) : stagedOf n (meterAdd k p x s) = stagedOf n s :=
  stagedOf_congr (meterAdd_queue ..)

/-! ## Completions -/

theorem stagedOf_cqCoalesce (n m : Nat) (s : State) : stagedOf n (cqCoalesce m s) = stagedOf n s := by
  unfold cqCoalesce
  split
  · rw [cqSignal, stagedOf_onQueue, stagedOf_of_unit (unitPart_msix ..)]
    exact fun _ => rfl
  · rfl

theorem stagedOf_postNow (n m : Nat) (c : Cpl) (s : State) : stagedOf n (postNow m c s) = stagedOf n s := by
  unfold postNow
  extract_lets tail phase base s1 wrap s2 s3
  have hphase : stagedOf n s3 = stagedOf n s2 := by
    show stagedOf n (if _ then _ else _) = _
    split
    · exact stagedOf_setFld ..
    · rfl
  rw [stagedOf_cqCoalesce, stagedOf_onQueue, hphase]
  · exact (stagedOf_setFld ..).trans (stagedOf_congr rfl)
  · exact fun _ => rfl

theorem stagedOf_post (n m : Nat) (c : Cpl) (s : State) : stagedOf n (post m c s) = stagedOf n s := by
  unfold post
  extract_lets s1 s2
  have hcounted : stagedOf n s1 = stagedOf n s := stagedOf_onQueue _ _ _ _ fun _ => rfl
  split
  · exact hcounted
  · split
    · rw [stagedOf_setFld, ← hcounted]
      exact stagedOf_onQueue _ _ _ _ fun _ => rfl
    · rw [stagedOf_postNow, hcounted]

theorem stagedOf_complete (n m q k st d x : Nat) (s : State) : stagedOf n (complete m q k st d x s) = stagedOf n s := by
  unfold complete
  split
  · rfl
  · rw [stagedOf_post, remember, stagedOf_onQueue, stagedOf_onQueue] <;> exact fun _ => rfl

theorem stagedOf_completeCmd (n : Nat) (c : Option (Nat × Nat × Nat)) (st d x : Nat) (s : State) :
    stagedOf n (completeCmd c st d x s) = stagedOf n s := by
  cases c with
  | none => rfl
  | some c => exact stagedOf_complete ..

/-! ## The Tally unit -/

theorem stagedOf_capEvent (n k p b c d : Nat) (data : List Byte) (s : State) :
    stagedOf n (capEvent k p b c d data s) = stagedOf n s := stagedOf_congr (queue_of_eventless (eventless_capEvent ..))

theorem stagedOf_tallyFault (n m kind src id rel : Nat) (s : State) :
    stagedOf n (tallyFault m kind src id rel s) = stagedOf n s := stagedOf_of_unit (by simp [tallyFault])

theorem stagedOf_refuseSlot (n u : Nat) (w : Waiter) (s : State) : stagedOf n (refuseSlot u w s) = stagedOf n s := by
  unfold refuseSlot
  split
  · rfl
  · split <;> exact stagedOf_congr rfl

theorem stagedOf_moveTally (n i v : Nat) (s : State) : stagedOf n (moveTally i v s) = stagedOf n s := by
  simp only [moveTally, setTally, stagedOf_onTally]

theorem stagedOf_noteSrc (n i k : Nat) (src : Word) (s : State) : stagedOf n (noteSrc i k src s) = stagedOf n s := by
  simp only [noteSrc, stagedOf_onTally]

theorem stagedOf_tallyOp (n u : Nat) (due : List TOp) (op : TOp) (s : State) :
    stagedOf n (tallyOp u due op s) = stagedOf n s := by
  cases op with
  | register e w =>
    simp only [tallyOp]
    split
    · split
      · rw [stagedOf_refuseSlot, stagedOf_tallyFault]
      · exact stagedOf_onTally ..
    · exact stagedOf_onTally ..
  | fault m kind rel => exact stagedOf_tallyFault ..
  | touch => rfl
  | unwatch e gen =>
    simp only [tallyOp]
    exact stagedOf_onTally ..
  | inc m rel v src cmd =>
    simp only [tallyOp]
    split
    · rw [stagedOf_completeCmd, stagedOf_tallyFault]
    · rw [stagedOf_completeCmd]
      split
      · rw [stagedOf_capEvent, stagedOf_noteSrc, stagedOf_moveTally]
      · rw [stagedOf_noteSrc, stagedOf_moveTally]
  | rebase e w =>
    simp only [tallyOp]
    rw [stagedOf_onTally, stagedOf_noteSrc]
    exact forAll_keeps (g := stagedOf n) (fun _ _ => stagedOf_moveTally ..) ..
  | hostWake m sq seq v =>
    simp only [tallyOp]
    exact stagedOf_complete ..

theorem stagedOf_groupWake (n u : Nat) (op : TOp) (s : State) : stagedOf n (groupWake u op s) = stagedOf n s := by
  unfold groupWake
  split
  · split
    · exact stagedOf_onTally ..
    · rfl
  · rfl

theorem stagedOf_satisfy (n u e : Nat) (w : Watch) (s : State) : stagedOf n (satisfy u e w s) = stagedOf n s := by
  unfold satisfy
  split
  · split
    · rfl
    · exact stagedOf_onTally ..
  · split <;> simp only [stagedOf_onTally]

theorem stagedOf_evalWatches (n u : Nat) (s : State) : stagedOf n (evalWatches u s) = stagedOf n s := by
  refine forAll_keeps (g := stagedOf n) (fun p t => ?_) ..
  split
  · exact stagedOf_satisfy ..
  · rfl

theorem stagedOf_tallyCycle (n u : Nat) (s : State) : stagedOf n (tallyCycle u s) = stagedOf n s := by
  unfold tallyCycle
  extract_lets due s1 s2 s3
  have hopen : stagedOf n s1 = stagedOf n s := by
    show stagedOf n (openCycle _ _) = _
    unfold openCycle
    split <;> simp only [stagedOf_onTally]
  have hops : stagedOf n s2 = stagedOf n s1 := forAll_keeps (g := stagedOf n) (fun _ _ => stagedOf_tallyOp ..) ..
  have hwakes : stagedOf n s3 = stagedOf n s2 := forAll_keeps (g := stagedOf n) (fun _ _ => stagedOf_groupWake ..) ..
  rw [stagedOf_evalWatches, hwakes, hops, hopen]

theorem stagedOf_tallyRun (n : Nat) (s : State) : stagedOf n (tallyRun s) = stagedOf n s := by
  unfold tallyRun
  generalize 3 * s.tally.ops.length + s.tally.watch.length + 1 = fuel
  induction fuel generalizing s with
  | zero => rfl
  | succ fuel ih =>
    unfold tallyAdvance
    split
    · rfl
    · split
      · rfl
      · rw [ih, stagedOf_tallyCycle]

/-! ## The end of a run -/

theorem stagedOf_countHolds (n c : Nat) (s : State) : stagedOf n (countHolds c s) = stagedOf n s := by
  rw [countHolds, stagedOf_onRun, accrueHold]
  split
  · rfl
  · split
    · rfl
    · simp only [addSat, stagedOf_onRun, stagedOf_setFld]

theorem stagedOf_meterRun (n upTo : Nat) (s : State) : stagedOf n (meterRun upTo s) = stagedOf n s := by
  unfold meterRun
  split
  · split
    · rw [stagedOf_onSeq, stagedOf_meterAdd]
    · rfl
  · rfl

theorem stagedOf_runDisarm (n p : Nat) (s : State) : stagedOf n (runDisarm p s) = stagedOf n s := by
  unfold runDisarm
  split
  · split
    · exact (stagedOf_setFlds ..).trans (stagedOf_congr (onCsc_queue ..))
    · rfl
  · rfl

theorem stagedOf_runEnd (n cause : Nat) (s : State) : stagedOf n (runEnd cause s) = stagedOf n s := by
  unfold runEnd
  split
  · rfl
  · extract_lets s1 s2 s3 s4 s5 s6 s7 cmd s8 s9
    have hheld : stagedOf n s2 = stagedOf n s := (stagedOf_countHolds ..).trans (stagedOf_tallyRun n s)
    have hcaptured : stagedOf n s4 = stagedOf n s := (stagedOf_capEvent ..).trans ((stagedOf_meterRun ..).trans hheld)
    have hcancelled : stagedOf n s5 = stagedOf n s4 := stagedOf_onTally ..
    have hdisarmed : stagedOf n s6 = stagedOf n s5 := stagedOf_runDisarm ..
    have hstatus : stagedOf n s7 = stagedOf n s6 := stagedOf_setFlds ..
    have hcleared : stagedOf n s8 = stagedOf n s7 := (stagedOf_onSeq ..).trans (stagedOf_onTally ..)
    have h : stagedOf n s9 = stagedOf n s :=
      (stagedOf_congr rfl : stagedOf n s9 = stagedOf n s8).trans
        (hcleared.trans (hstatus.trans (hdisarmed.trans (hcancelled.trans hcaptured))))
    split
    · exact h
    · rw [stagedOf_completeCmd, h]

/-! ## An abort -/

theorem stagedOf_dropDescs (n m : Nat) (s : State) : stagedOf n (dropDescs m s) = stagedOf n s := by
  unfold dropDescs
  split
  · rfl
  · exact stagedOf_congr rfl

theorem stagedOf_dropLoads (n m : Nat) (s : State) : stagedOf n (dropLoads m s) = stagedOf n s := by
  unfold dropLoads
  extract_lets s1
  have hprogram : stagedOf n s1 = stagedOf n s := by
    show stagedOf n (if _ then _ else _) = _
    split <;> exact stagedOf_congr rfl
  split
  · rw [stagedOf_setFld, stagedOf_dropDescs, ← hprogram]
    exact stagedOf_congr rfl
  · exact hprogram

theorem stagedOf_cancelHost (n m : Nat) (status : Option Nat) (s : State) :
    stagedOf n (cancelHost m status s) = stagedOf n s := by
  refine forAll_keeps (g := stagedOf n) (fun p v => ?_) ..
  cases status with
  | none => exact stagedOf_congr rfl
  | some st => exact (stagedOf_complete ..).trans (stagedOf_congr rfl)

theorem stagedOf_of_linkless {n : Nat} {s v : State} (h : linklessPart v = linklessPart s) : stagedOf n v = stagedOf n s :=
  stagedOf_congr (queue_of_linkless h)

theorem stagedOf_cutPlot (n m : Nat) (record : Bool) (s : State) :
    stagedOf n (cutPlotPosts m record (cutPlotSends m record s)) = stagedOf n s :=
  (forAll_keeps (g := stagedOf n) (fun _ _ => stagedOf_of_linkless (linkless_cutPosts ..)) ..).trans
    (forAll_keeps (g := stagedOf n) (fun _ _ => stagedOf_of_linkless (linkless_cutSends ..)) ..)

theorem stagedOf_dropRunnable (n m : Nat) (s : State) : stagedOf n (dropRunnable m s) = stagedOf n s := stagedOf_onSeq ..

theorem stagedOf_cancelSeq (n m : Nat) (s : State) : stagedOf n (cancelSeq m s) = stagedOf n s := stagedOf_onTally ..

theorem stagedOf_endRequests (n m : Nat) (s : State) : stagedOf n (endRequests m s) = stagedOf n s := stagedOf_congr rfl

theorem stagedOf_fenceTags (n f : Nat) (copies : Bool) (s : State) : stagedOf n (fenceTags f copies s) = stagedOf n s :=
  stagedOf_onFunc ..

theorem stagedOf_abortObjects (n m : Nat) (s : State) : stagedOf n (abortObjects m s) = stagedOf n s := by
  unfold abortObjects
  extract_lets s1 s2 s3 s4
  have hrun : stagedOf n s1 = stagedOf n s := by
    show stagedOf n (if _ then _ else _) = _
    split
    · exact stagedOf_runEnd ..
    · rfl
  have hdropped : stagedOf n s2 = stagedOf n s1 := by
    rw [stagedOf_cancelSeq, stagedOf_tallyRun, stagedOf_runDisarm, stagedOf_dropLoads, stagedOf_dropRunnable]
  have hcut : stagedOf n s3 = stagedOf n s2 := (stagedOf_cutPlot ..).trans (stagedOf_endRequests ..)
  have hfenced : stagedOf n s4 = stagedOf n s3 := (stagedOf_fenceTags ..).trans (stagedOf_cancelHost ..)
  have hparted (x : Option Nat) (v : State) : stagedOf n { v with linkPlot := x } = stagedOf n v := stagedOf_congr rfl
  rw [hparted, hfenced, hcut, hdropped, hrun]

/-- An abort empties the staging of its plot, and leaves that of the others (R433). -/
theorem stagedOf_abortCmds (n m : Nat) (start : Option (Nat × Nat × Nat)) (s : State) :
    stagedOf n (abortCmds m start s) = if n = m then [] else stagedOf n s := by
  unfold abortCmds
  extract_lets x all s1 s2
  have hpassed : stagedOf n s1 = stagedOf n s := by
    refine forAll_keeps (g := stagedOf n) (fun c v => ?_) ..
    rw [passed, stagedOf_onQueue]
    exact fun _ => rfl
  have hcompleted (l : List Cmd) (v : State) :
      stagedOf n (forAll (fun c s => if arg c.entry 0 1 = 9 ∧ x.started.contains c then s
      else complete m c.sq c.seq stAborted 0 (abortValue m start c s) s) l v) = stagedOf n v := by
    refine forAll_keeps (g := stagedOf n) (fun c v => ?_) ..
    split
    · rfl
    · exact stagedOf_complete ..
  rw [hcompleted, ← hpassed, stagedOf, stagedOf]
  split
  · next h => rw [h, queueOf_onQueue_same]
  · next h => rw [queueOf_onQueue_other h]

theorem stagedOf_scrubStorage (n : Nat) (s : State) : stagedOf n (scrubStorage s) = stagedOf n s := stagedOf_congr rfl

theorem stagedOf_scrubBegin (n : Nat) (s : State) : stagedOf n (scrubBegin s) = stagedOf n s := by
  have htimed (x : Seq) (v : State) : stagedOf n { v with seq := x } = stagedOf n v := stagedOf_congr rfl
  unfold scrubBegin
  rw [htimed, stagedOf_scrubStorage, stagedOf_setFld]

theorem stagedOf_idleRest (n m : Nat) (s : State) : stagedOf n (idleRest m s) = stagedOf n s := by
  unfold idleRest
  split
  · rw [stagedOf_setFld, stagedOf_scrubBegin]
    exact stagedOf_congr rfl
  · rfl

/-- Plot n has no command in staging. -/
abbrev NoneStaged (n : Nat) (s : State) : Prop := stagedOf n s = []

theorem noneStaged_abortStart {n : Nat} {s : State} (h : NoneStaged n s) (m code : Nat) (cmd : Option (Nat × Nat)) :
    NoneStaged n (abortStart m code cmd s) := by
  unfold abortStart
  split
  · exact (stagedOf_congr rfl : stagedOf n (abortJoin m code cmd s) = stagedOf n s).trans h
  · extract_lets start s1 s2
    have hmarked : stagedOf n s1 = stagedOf n s := (stagedOf_setFld ..).trans (stagedOf_congr rfl)
    have hbegun : stagedOf n s2 = stagedOf n s1 := by
      show stagedOf n (if _ then _ else _) = _
      split
      · exact stagedOf_raise ..
      · rfl
    rw [NoneStaged, stagedOf_idleRest, stagedOf_abortCmds, stagedOf_abortObjects, hbegun, hmarked, h, ite_self]

/-! ## What follows a command -/

theorem stagedOf_replayEnd (n m : Nat) (s : State) : stagedOf n (replayEnd m s) = stagedOf n s := by
  unfold replayEnd
  split
  · rw [stagedOf_completeCmd, stagedOf_runEnd]
  · rfl

theorem stagedOf_flushWrite (n off : Nat) (bs : List Byte) (s : State) : stagedOf n (flushWrite off bs s) = stagedOf n s :=
  stagedOf_congr rfl

theorem stagedOf_flushFinish (n : Nat) (f : Flush) (s : State) : stagedOf n (flushFinish f s) = stagedOf n s := by
  have hended (x : Option Flush) (t : Option Nat) (v : State) : stagedOf n { v with flush := x, flushEnd := t } = stagedOf n v :=
    stagedOf_congr rfl
  have hpin (b : Bool) (v : State) : stagedOf n { v with thermtrip := b } = stagedOf n v := stagedOf_congr rfl
  unfold flushFinish
  extract_lets m s1 s2 s3 s4
  have hwritten : stagedOf n s2 = stagedOf n s := (hended ..).trans (stagedOf_flushWrite ..)
  have hdone : stagedOf n s3 = stagedOf n s2 := stagedOf_of_unit (by rw [unitPart_irq, unitPart_raise, unitPart_setFld])
  have htrip : stagedOf n s4 = stagedOf n s3 := by
    show stagedOf n (if _ then _ else _) = _
    split
    · exact (stagedOf_emit ..).trans (hpin ..)
    · rfl
  split
  · rw [stagedOf_leave, htrip, hdone, hwritten]
  · rw [htrip, hdone, hwritten]

theorem stagedOf_flushAdvance (n : Nat) (s : State) : stagedOf n (flushAdvance s) = stagedOf n s := by
  unfold flushAdvance
  split
  · rfl
  · extract_lets s1
    have htrace : stagedOf n s1 = stagedOf n s := by
      show stagedOf n (if _ then _ else _) = _
      split <;> exact stagedOf_congr rfl
    split
    · rw [stagedOf_flushFinish, htrace]
    · exact htrace

theorem stagedOf_flushHead (n : Nat) (s : State) : stagedOf n (flushHead s) = stagedOf n s := by
  unfold flushHead
  split
  · rfl
  · split <;> exact stagedOf_congr rfl

theorem stagedOf_flushBegin (n cause : Nat) (s : State) : stagedOf n (flushBegin cause s) = stagedOf n s := by
  unfold flushBegin
  extract_lets slot num f s1
  rw [stagedOf_flushAdvance, stagedOf_flushHead, stagedOf_setFlds]
  exact stagedOf_congr rfl

theorem stagedOf_flushDue (n cause : Nat) (s : State) : stagedOf n (flushDue cause s) = stagedOf n s := by
  have hwait (b : Bool) : stagedOf n (setWait b s) = stagedOf n s := (stagedOf_setFld ..).trans (stagedOf_congr rfl)
  unfold flushDue
  split
  · split
    · exact hwait true
    · rfl
  · split
    · exact hwait true
    · split
      · rw [stagedOf_flushBegin, hwait]
      · exact stagedOf_flushBegin ..

theorem noneStaged_settleOne {n : Nat} {s : State} (h : NoneStaged n s) (d : Due) : NoneStaged n (settleOne d s) := by
  cases d with
  | abort m code =>
    simp only [settleOne]
    split
    · exact h
    · exact noneStaged_abortStart h ..
  | replayEnd m => exact (stagedOf_replayEnd ..).trans h
  | flush cause => exact (stagedOf_flushDue ..).trans h

theorem noneStaged_settleDue {n : Nat} (k : Nat) {s : State} (h : NoneStaged n s) : NoneStaged n (settleDue k s) := by
  have hdue (ds : List Due) (v : State) : stagedOf n { v with due := ds } = stagedOf n v := stagedOf_congr rfl
  induction k generalizing s with
  | zero => exact h
  | succ k ih =>
    unfold settleDue
    split
    · exact h
    · exact ih (noneStaged_settleOne ((hdue ..).trans h) _)

theorem stagedOf_sweepLinks (n : Nat) (s : State) : stagedOf n (sweepLinks s) = stagedOf n s := by
  refine forAll_keeps (g := stagedOf n) (fun x v => ?_) ..
  unfold sweepLink
  extract_lets k kind
  split
  · rfl
  · exact (forAll_keeps (g := stagedOf n) (fun _ _ => stagedOf_of_unit (unitPart_linkFault ..)) ..).trans (stagedOf_onLink ..)

theorem stagedOf_signalPost (n : Nat) (q : Post) (l : Nat) (c : Coord) (s : State) :
    stagedOf n (signalPost q l c s) = stagedOf n s := by
  rw [signalPost, sendTally, stagedOf_onTally, stagedOf_capEvent]

theorem stagedOf_giveCredit (n p l : Nat) (s : State) : stagedOf n (giveCredit p l s) = stagedOf n s := stagedOf_onLink ..

theorem stagedOf_linkFault (n kind m p l pc : Nat) (s : State) : stagedOf n (linkFault kind m p l pc s) = stagedOf n s :=
  stagedOf_of_unit (unitPart_linkFault ..)

theorem stagedOf_closePart (n p l id : Nat) (dead : Bool) (s : State) :
    stagedOf n (closePart p l id dead s) = stagedOf n s :=
  stagedOf_of_linkless (linkless_closePart ..)

theorem stagedOf_sramWrite (n c a : Nat) (bs : List Byte) (s : State) : stagedOf n (sramWrite c a bs s) = stagedOf n s :=
  stagedOf_congr rfl

theorem stagedOf_takeFlit (n p l : Nat) (frame : List Byte) (s : State) :
    stagedOf n (takeFlit p l frame s).2 = stagedOf n s := by
  have hposts (x : List (Nat × Post)) (v : State) : stagedOf n { v with post := x } = stagedOf n v := stagedOf_congr rfl
  unfold takeFlit
  extract_lets w last k
  split
  · exact (stagedOf_giveCredit ..).trans (stagedOf_onLink ..)
  split
  · exact (stagedOf_linkFault ..).trans (stagedOf_giveCredit ..)
  split
  · rfl
  split
  · rfl
  split
  · rfl
  split
  · exact (stagedOf_linkFault ..).trans (stagedOf_giveCredit ..)
  split
  · rfl
  extract_lets a out dead written captured stored got q' closed faulted
  have hdead : stagedOf n dead = stagedOf n s := (hposts ..).trans (stagedOf_giveCredit ..)
  have hwritten : stagedOf n written = stagedOf n s := (stagedOf_sramWrite ..).trans (stagedOf_giveCredit ..)
  have hcaptured : stagedOf n captured = stagedOf n s := by
    show stagedOf n (if capturing _ written = true then _ else _) = _
    split
    · exact (hposts ..).trans hwritten
    · exact hwritten
  have hstored : stagedOf n stored = stagedOf n s := by
    show stagedOf n (if out = true then _ else _) = _
    split
    · exact (stagedOf_linkFault ..).trans hdead
    · exact (stagedOf_meterAdd ..).trans hcaptured
  have hclosed : stagedOf n closed = stagedOf n s := (stagedOf_closePart ..).trans hstored
  have hfaulted : stagedOf n faulted = stagedOf n s := (stagedOf_linkFault ..).trans hstored
  split
  · split
    · exact (stagedOf_signalPost ..).trans hclosed
    · exact hclosed
  split
  · exact (stagedOf_onLink ..).trans ((stagedOf_closePart ..).trans hfaulted)
  · exact (stagedOf_onLink ..).trans hstored

theorem stagedOf_drainLink (n p l k : Nat) (s : State) : stagedOf n (drainLink p l k s) = stagedOf n s := by
  induction k generalizing s with
  | zero => rfl
  | succ k ih =>
    unfold drainLink
    split
    · rfl
    · next f rest _ =>
      show stagedOf n (if (takeFlit p l f s).1 then _ else _) = _
      split
      · rw [ih, stagedOf_onLink]
        exact stagedOf_takeFlit ..
      · rfl

theorem stagedOf_drainLinks (n : Nat) (s : State) : stagedOf n (drainLinks s) = stagedOf n s := by
  refine forAll_keeps (g := stagedOf n) (fun x v => ?_) ..
  split
  · rfl
  · exact stagedOf_drainLink ..

theorem stagedOf_calMove (n : Nat) (s : State) : stagedOf n (calMove s) = stagedOf n s := by
  unfold calMove
  extract_lets t b gone
  split
  · rw [stagedOf_setFlds, setReg64, stagedOf_setReg, stagedOf_setReg]
  · rfl

/-! ## What the queues send -/

theorem stagedOf_copyWrite (n m : Nat) (c : Copy) (j : Nat) (bs : List Byte) (s : State) :
    stagedOf n (copyWrite m c j bs s) = stagedOf n s := by
  unfold copyWrite
  extract_lets a s1 s2
  have hmetered : stagedOf n s1 = stagedOf n s := forAll_keeps (g := stagedOf n) (fun _ _ => stagedOf_meterAdd ..) ..
  have hwritten : stagedOf n s2 = stagedOf n s1 := stagedOf_congr (queue_of_eventless (eventless_hbmWriteAll ..))
  rw [onCopy, stagedOf_onQueue, hwritten, hmetered]
  exact fun _ => rfl

theorem stagedOf_copyFlush (n m : Nat) (c : Copy) (s : State) : stagedOf n (copyFlush m c s) = stagedOf n s := by
  unfold copyFlush
  split
  · exact forAll_keeps (g := stagedOf n) (fun _ _ => stagedOf_copyWrite ..) ..
  · rfl

theorem stagedOf_creditWrite (n m : Nat) (s : State) : stagedOf n (creditWrite m s) = stagedOf n s := by
  unfold creditWrite
  extract_lets q early addr rec_
  split
  · rfl
  · rw [stagedOf_onQueue, stagedOf_emit]
    exact fun _ => rfl

theorem stagedOf_pumpPlot (n m : Nat) (s : State) : stagedOf n (pumpPlot m s) = stagedOf n s := by
  unfold pumpPlot
  split
  · rfl
  · rw [stagedOf_creditWrite]
    exact forAll_keeps (g := stagedOf n) (fun _ _ => stagedOf_copyFlush ..) ..

theorem stagedOf_hostRead (n f : Nat) (copy : Bool) (sq seq piece addr len : Nat) (s : State) :
    stagedOf n (hostRead f copy sq seq piece addr len s) = stagedOf n s :=
  (stagedOf_onFunc ..).trans (stagedOf_emit ..)

theorem stagedOf_issueNext (n m : Nat) (s : State) : stagedOf n (issueNext m s) = stagedOf n s := by
  unfold issueNext
  split
  · rfl
  · split
    · exact stagedOf_hostRead ..
    · split
      · exact stagedOf_hostRead ..
      · rfl

theorem stagedOf_shareTags (n k : Nat) (s : State) : stagedOf n (shareTags k s) = stagedOf n s := by
  have hturn (x : Nat) (v : State) : stagedOf n { v with tagTurn := x } = stagedOf n v := stagedOf_congr rfl
  induction k generalizing s with
  | zero => rfl
  | succ k ih =>
    unfold shareTags
    extract_lets before first s1
    have hround : stagedOf n s1 = stagedOf n s := by
      refine forAll_keeps (g := stagedOf n) (fun i v => ?_) ..
      extract_lets m s2
      have hissued : stagedOf n s2 = stagedOf n v := stagedOf_issueNext ..
      split
      · exact hissued
      · exact (hturn ..).trans hissued
    split
    · exact hround
    · rw [ih, hround]

theorem stagedOf_pumpQueues (n : Nat) (s : State) : stagedOf n (pumpQueues s) = stagedOf n s := by
  rw [pumpQueues, stagedOf_shareTags]
  exact forAll_keeps (g := stagedOf n) (fun _ _ => stagedOf_pumpPlot ..) ..

theorem stagedOf_stageTime (n : Nat) (s : State) : stagedOf n (stageTime s) = stagedOf n s := by
  unfold stageTime
  split
  · exact stagedOf_setFlds ..
  · rfl

theorem stagedOf_after (n : Nat) (u v : State) : stagedOf n (after u v) = stagedOf n (follow v) := by
  have hkept (x : Nat) (y : List Instr) (ds : List Due) (z : State) :
      stagedOf n { z with now := x, pending := y, due := ds } = stagedOf n z := stagedOf_congr rfl
  rw [after, hkept, showStatus, stagedOf_setFlds]

/-- What follows a command adds nothing to the staging of a plot. -/
theorem noneStaged_after {n : Nat} {v : State} (h : NoneStaged n v) (u : State) : NoneStaged n (after u v) := by
  rw [NoneStaged, stagedOf_after]
  refine noneStaged_settleDue 64 ?_
  rw [NoneStaged, stagedOf_stageTime, stagedOf_pumpQueues, stagedOf_calMove, stagedOf_drainLinks, stagedOf_sweepLinks]
  exact noneStaged_settleDue 64 h

/-! ## An ABORT with no room to start -/

/-- Queues of plots 1 and 0, out of the order of a canonical store: 63 commands have started within the last microsecond,
and an ABORT of sequence 0 has arrived for SQ 0 of plot 0. -/
def crowdedQueues : List (Nat × Queue) :=
  [(1, { starts := List.replicate 62 0 }), (0, { arrived := [(0, some 9)], starts := [0] })]

/-- A part with those queues, out of reset, with VF 1 enabled and SQ 0 of plot 0 enabled. -/
def crowded : State := { inReset := false, vfs := 1, regs := [(rPLOT_Q_CTRL 0, 1)], queue := crowdedQueues }

theorem awake_crowded : Awake 0 crowded crowded :=
  ⟨(clockTo_quiet (le_refl 0) rfl rfl rfl).symm, by decide⟩

/-- The fetch writes the queues of plot 0 at the head of the store as well; its start then counts twice, no room is left,
and the ABORT waits in staging. -/
theorem crowded_stages : (queueOf 0 (follow (fetchCommand 0 0 crowded))).staged ≠ [] := by decide +kernel

theorem exec_commandFetch_awake {t : Nat} {s u : State} (h : Awake t s u) (n q : Nat) :
    exec (.commandFetch t n q) s = .next (after u (fetchCommand n q u)) := congrArg _ (command_awake h (fetchCommand n q))

theorem crowded_keeps : ¬ NoneStaged 0 (after crowded (fetchCommand 0 0 crowded)) := by
  rw [NoneStaged, stagedOf_after, stagedOf]
  exact crowded_stages

/-- Refutes O20: room to start is judged once the fetch has written the queues. The statement takes it of the state
before, and of any store: in `crowded` the keys do not rise, the fetch's own write makes plot 0's last start count
twice, and the ABORT it fetches stays in staging where the statement has it start. -/
theorem not_queueCommandsAnswer : ¬ Obligations.QueueCommandsAnswer := by
  unfold Obligations.QueueCommandsAnswer
  intro h
  obtain ⟨-, hfetches⟩ := h
  obtain ⟨-, hfetch, -⟩ := hfetches 0 0 crowded crowded awake_crowded
  obtain ⟨hnext, -⟩ := hfetch 0 9 (by decide +kernel) (by decide +kernel) (by decide +kernel) (by decide +kernel)
  obtain ⟨-, habort, -⟩ := hnext (by decide +kernel)
  obtain ⟨z, hexec, hz⟩ := habort (by decide +kernel) (by decide +kernel) (by decide +kernel)
  have hnone : NoneStaged 0 z := by
    rw [NoneStaged, stagedOf, hz]
    decide +kernel
  have hafter := Host.Outcome.next.inj ((exec_commandFetch_awake awake_crowded 0 0).symm.trans hexec)
  refine crowded_keeps ?_
  rw [hafter]
  exact noneStaged_after (noneStaged_abortStart hnone ..) _

end Sys2Proof.Machine
end

/-! SUPPORT. What every command answers, and what every step keeps (95_what_each_step_holds.md; R506, R513). -/
section
namespace Sys2Proof.Machine

/-! ## The commands -/

/-- Every command has one effect, taken by the rule of power and reset or by that of a part that must be awake. -/
theorem exec_eq_command (c : Instr) :
    ∃ f : State → State, ∀ s, exec c s = .next (if isPower c then powerCommand c.at f s else command c.at f s) := by
  cases c <;> exact ⟨_, fun _ => rfl⟩

theorem step_front (c : Instr) (cs : List Instr) (s : State) :
    step { s with pending := c :: cs } = exec c { s with pending := cs } := rfl

/-- Settles O43: the front of the queue is what a step matches on. -/
theorem stepRunsFrontCommand : Obligations.StepRunsFrontCommand := step_front

/-- A command that finds the part asleep only lets time pass. -/
theorem command_sleeps {s : State} (h : alive s = false) (t : Nat) (f : State → State) :
    command t f s = { s with now := max s.now t } := by
  rw [command_asleep (by rw [alive_clockTo, h]), clockTo_asleep h]

/-- Settles O46: of the two rules of a command the one of power and reset is shut out. -/
theorem asleepPartIgnoresCommands : Obligations.AsleepPartIgnoresCommands := by
  intro c s hpower hasleep
  obtain ⟨f, hf⟩ := exec_eq_command c
  rw [hf, if_neg (by simp [hpower]), command_sleeps hasleep]

/-- What a command leaves of the queue, the clock and the consequences (95_what_each_step_holds.md). -/
def keepsQueueAndClock (t : Nat) (s v : State) : Prop :=
  v.pending = s.pending ∧ v.now = max s.now t ∧ (s.due = [] → v.due = [])

theorem powerCommand_keeps (t : Nat) (f : State → State) (s : State) : keepsQueueAndClock t s (powerCommand t f s) :=
  ⟨clockTo_pending t s, clockTo_now t s, fun _ => rfl⟩

theorem command_keeps (t : Nat) (f : State → State) (s : State) : keepsQueueAndClock t s (command t f s) := by
  cases h : alive s with
  | true =>
    rw [command_awake ⟨rfl, by rw [Alive, alive_clockTo, h]⟩]
    exact ⟨clockTo_pending t s, clockTo_now t s, fun _ => rfl⟩
  | false =>
    rw [command_sleeps h]
    exact ⟨rfl, rfl, id⟩

/-- Settles O45: both rules of a command end on the queue and the clock of its instant. -/
theorem commandsKeepQueueAndClock : Obligations.CommandsKeepQueueAndClock := by
  intro c s
  obtain ⟨f, hf⟩ := exec_eq_command c
  refine ⟨_, hf s, ?_⟩
  split
  · exact powerCommand_keeps ..
  · exact command_keeps ..

/-! ## The status registers -/

/-- The fields that show a unit. -/
def statusNames : List Fld := (statusFields State.reset).map Prod.fst

theorem statusFields_names (s : State) : (statusFields s).map Prod.fst = statusNames := rfl

theorem statusNames_ok : ∀ f ∈ statusNames, fieldOk f := by decide

theorem statusNames_apart : statusNames.Pairwise fieldsApart := by decide

/-- No status field lies over the stage or the role table's SET, which WAIT_ROLES, WAIT_REPLAN and WAIT_TIME follow. -/
theorem statusNames_apart_causes :
    ∀ f ∈ statusNames, fieldsApart GLB_STARTUP_STATUS_STAGE f ∧ fieldsApart GLB_ROLE_STATUS_SET f := by decide

theorem mem_statusNames {s : State} {x : Fld × Nat} (h : x ∈ statusFields s) : x.1 ∈ statusNames :=
  statusFields_names s ▸ List.mem_map_of_mem h

theorem b2n_lt (b : Bool) {k : Nat} (hk : k ≠ 0) : b2n b < 2 ^ k := by
  have hb : b2n b < 2 := by cases b <;> decide
  exact Nat.lt_of_lt_of_le hb (Nat.le_self_pow hk 2)

/-- Each unit's value fits the field that shows it. -/
theorem statusFields_fit (s : State) : ∀ x ∈ statusFields s, x.2 < 2 ^ (x.1.hi + 1 - x.1.lo) := by
  intro x hx
  rcases List.mem_append.mp hx with hx | hx
  · fin_cases hx
    iterate 3 exact b2n_lt _ Nat.one_ne_zero
    · exact Nat.mod_lt _ (by decide)
    all_goals exact b2n_lt _ Nat.one_ne_zero
  · obtain ⟨n, -, rfl⟩ := List.mem_map.mp hx
    exact b2n_lt _ Nat.one_ne_zero

/-- The units that the status fields show. -/
def statusUnits (s : State) :
    (Bool × Csc × List Word × Seq × Option Load × Option Nat) × RecClass × RecClass × Option Flush × Bool × List Abort :=
  ((s.extents, s.csc, s.sfifo, s.seq, s.dload, s.haltAt), s.recFault, s.recTrace, s.flush, s.flushWait, s.aborts)

theorem statusUnits_setFlds (fs : List (Fld × Nat)) (s : State) : statusUnits (setFlds fs s) = statusUnits s := by
  induction fs generalizing s with
  | nil => rfl
  | cons x fs ih => exact ih _

/-- The status fields follow the units, the stage and the role table alone. -/
theorem statusFields_congr {s v : State} (hunits : statusUnits v = statusUnits s) (hstage : stage v = stage s)
    (hroles : flag GLB_ROLE_STATUS_SET v = flag GLB_ROLE_STATUS_SET s) : statusFields v = statusFields s := by
  simp only [statusUnits, Prod.mk.injEq] at hunits
  obtain ⟨⟨hextents, hcsc, hfifo, hseq, hdload, hhalt⟩, hfault, htrace, hflush, hwait, haborts⟩ := hunits
  simp only [statusFields, rolesWait, hstage, hroles, hextents, hcsc, hfifo, hseq, hdload, hhalt, hfault, htrace, hflush, hwait,
    haborts]

theorem statusFields_showStatus (s : State) : statusFields (showStatus s) = statusFields s := by
  have hkept {g : Fld} (hg : fieldOk g) (hapart : ∀ f ∈ statusNames, fieldsApart g f) : fld g (showStatus s) = fld g s :=
    fld_setFlds_other hg _ s fun x hx => ⟨statusNames_ok _ (mem_statusNames hx), hapart _ (mem_statusNames hx)⟩
  refine statusFields_congr (statusUnits_setFlds ..) ?_ (congrArg (· != 0) ?_)
  · exact hkept (by decide) fun f hf => (statusNames_apart_causes f hf).1
  · exact hkept (by decide) fun f hf => (statusNames_apart_causes f hf).2

/-- Status fields shown show their units. -/
theorem shown_showStatus (s : State) : shown (showStatus s) := by
  intro x hx
  rw [statusFields_showStatus] at hx
  have hapart : (statusFields s).Pairwise fun x y => fieldsApart x.1 y.1 := by
    rw [← List.pairwise_map (f := Prod.fst) (R := fieldsApart), statusFields_names]
    exact statusNames_apart
  rw [showStatus, fld_setFlds_mem _ s (fun y hy => statusNames_ok _ (mem_statusNames hy)) hapart x hx,
    Nat.mod_eq_of_lt (statusFields_fit s x hx)]

/-! ## The invariant -/

/-- Whether the fields show their units is told by the registers and the units: the clock and the queue have no part. -/
theorem shown_congr {s v : State} (hregs : v.regs = s.regs) (hunits : statusUnits v = statusUnits s) (h : shown s) : shown v := by
  have hfields : statusFields v = statusFields s :=
    statusFields_congr hunits (fld_congr hregs _) (congrArg (· != 0) (fld_congr hregs _))
  intro x hx
  rw [fld_congr hregs]
  exact h x (hfields ▸ hx)

/-- The clock, the queue and the consequences that wait are no units. -/
theorem shown_retimed {s : State} (h : shown s) (t : Nat) (cs : List Instr) (ds : List Due) :
    shown { s with now := t, pending := cs, due := ds } := shown_congr (s := s) rfl rfl h

theorem inv_after (u v : State) : Inv (after u v) := ⟨shown_retimed (shown_showStatus (follow v)) u.now u.pending [], after_due u v⟩

theorem inv_afterPower (u v : State) : Inv (afterPower u v) :=
  ⟨shown_retimed (shown_showStatus (settleDue 64 v)) u.now u.pending [], afterPower_due u v⟩

/-- Time that passes on a part asleep, and the queue, are no part of the invariant. -/
theorem inv_retimed {s : State} (h : Inv s) (t : Nat) (cs : List Instr) : Inv { s with now := t, pending := cs } := by
  obtain ⟨hshown, hdue⟩ := h
  exact ⟨shown_retimed hshown t cs s.due, hdue⟩

theorem inv_command {s : State} (h : Inv s) (t : Nat) (f : State → State) : Inv (command t f s) := by
  cases hs : alive s with
  | true =>
    rw [command_awake ⟨rfl, by rw [Alive, alive_clockTo, hs]⟩]
    exact inv_after ..
  | false =>
    rw [command_sleeps hs]
    exact inv_retimed h ..

theorem inv_exec {c : Instr} {s t : State} (h : Inv s) (hexec : exec c s = .next t) : Inv t := by
  obtain ⟨f, hf⟩ := exec_eq_command c
  obtain rfl : _ = t := Host.Outcome.next.inj ((hf s).symm.trans hexec)
  split
  · exact inv_afterPower ..
  · exact inv_command h ..

/-- Settles O47: whatever the effect, a step ends by showing the status of a state that settled everything, or lets time
pass on a part asleep; the tick of an empty queue is a command too. -/
theorem stepKeepsInvariant : Obligations.StepKeepsInvariant := by
  intro s t hs hstep
  cases hq : s.pending with
  | nil =>
    rw [step_empty hq] at hstep
    obtain rfl : tick s = t := Host.Outcome.next.inj hstep
    exact inv_command hs ..
  | cons c cs =>
    have hfront : exec c { s with pending := cs } = .next t := by
      rw [← step_front, ← hq]
      exact hstep
    exact inv_exec (inv_retimed hs s.now cs) hfront

theorem shown_reset : shown State.reset := by
  unfold shown
  decide

/-- Settles O48: every register field of the fresh part is 0 and every unit idle, and its stores are empty. -/
theorem resetMeetsInvariant : Obligations.ResetMeetsInvariant :=
  ⟨⟨shown_reset, rfl⟩, by decide, rfl, rfl, rfl⟩

end Sys2Proof.Machine
end

/-! SUPPORT. The service protocol: requests acted on once, answered again, and answered on the port itself (R477, R485–R490). -/
section
namespace Sys2Proof.Machine

/-! ## Requests -/

section
variable {p : Peer} {seq : Nat} {s : State} (hup : serviceUp s = true)
include hup

/-- A TYPE that Crucible knows is acted on wherever the port is up. -/
theorem request_rom (hnew : s.fw.answered.find? (fun x => x.1 == p && x.2.1 == seq) = none) (type : Nat) (act : State → State) :
    request p type seq true act s = act s := by
  simp [request, hup, hnew]

theorem simpleRequest_rom (hnew : s.fw.answered.find? (fun x => x.1 == p && x.2.1 == seq) = none) (type : Nat)
    (act : State → Nat × State) : simpleRequest p type seq true act s = answer p type seq (act s).1 [] (act s).2 :=
  request_rom hup hnew type _

/-- A request already answered is answered again, whatever its TYPE. -/
theorem request_again {x : Peer × Nat × List Byte} (hkept : s.fw.answered.find? (fun x => x.1 == p && x.2.1 == seq) = some x)
    (type : Nat) (rom : Bool) (act : State → State) : request p type seq rom act s = emit (.service x.2.2) s := by
  simp [request, hup, hkept]

theorem simpleRequest_again {x : Peer × Nat × List Byte}
    (hkept : s.fw.answered.find? (fun x => x.1 == p && x.2.1 == seq) = some x) (type : Nat) (rom : Bool)
    (act : State → Nat × State) : simpleRequest p type seq rom act s = emit (.service x.2.2) s :=
  request_again hup hkept type rom _

end

/-! ## What the messages do -/

/-- The answer to STATUS: four registers. -/
def statusBytes (s : State) : List Byte :=
  [rFWU_STATUS, rFWU_UPD_STATUS, rFWU_RUN_VER, rFWU_ALT_VER].flatMap fun r => bytesLE 4 (reg r s).toNat

/-- Verification of a stream received starts, for the request that will be answered at its end. -/
def verifyStarts (p : Peer) (seq total : Nat) (s : State) : State :=
  updState 3 0 (onUpd (fun x => { x with total := total, waits := some (p, seq) }) s)

/-- The body of the calibration area with `data` at `off`, zeros before it where the body ends short of it. -/
def calPatched (off : Nat) (data b : List Byte) : List Byte :=
  let c := b ++ List.replicate (off - b.length) 0
  c.take off ++ data ++ c.drop (off + data.length)

section
variable {p : Peer} {seq : Nat} {s : State} (hup : serviceUp s = true)
  (hnew : s.fw.answered.find? (fun x => x.1 == p && x.2.1 == seq) = none)
include hup hnew

theorem fwStatusMsg_new : fwStatusMsg p seq s = answer p 1 seq 0 (statusBytes s) s := request_rom hup hnew 1 _

theorem fwBeginMsg_new (delta : Bool) (h : List Byte) :
    fwBeginMsg p seq delta h s = answer p 0x10 seq (fwBegin delta h s).1 [] (fwBegin delta h s).2 :=
  simpleRequest_rom hup hnew 0x10 _

theorem fwDataMsg_new (off : Nat) (data : List Byte) :
    fwDataMsg p seq off data s = answer p 0x11 seq (fwData off data s).1 [] (fwData off data s).2 :=
  simpleRequest_rom hup hnew 0x11 _

theorem fwActivateMsg_ready (n : Bool) (h : fld FWU_UPD_STATUS_STATE s = 4) :
    fwActivateMsg p seq n s = answer p 0x13 seq 0 [] (activate n s) := by
  rw [fwActivateMsg, simpleRequest_rom hup hnew, if_pos h]

theorem fwActivateMsg_notReady (n : Bool) (h : fld FWU_UPD_STATUS_STATE s ≠ 4) :
    fwActivateMsg p seq n s = answer p 0x13 seq 8 [] s := by
  rw [fwActivateMsg, simpleRequest_rom hup hnew, if_neg h]

theorem fwAbortMsg_idle (h : fld FWU_UPD_STATUS_STATE s = 0) : fwAbortMsg p seq s = answer p 0x14 seq 0 [] s := by
  rw [fwAbortMsg, simpleRequest_rom hup hnew, if_pos h]

theorem fwAbortMsg_abandons (h : fld FWU_UPD_STATUS_STATE s ≠ 0) :
    fwAbortMsg p seq s = answer p 0x14 seq 0 [] (updAbandon 0xC s) := by
  rw [fwAbortMsg, simpleRequest_rom hup hnew, if_neg h]

theorem fwEndMsg_receiving (n : Nat) (hfirst : s.fw.upd.waits ≠ some (p, seq)) (h : fld FWU_UPD_STATUS_STATE s = 2) :
    fwEndMsg p seq n s = verifyStarts p seq n s := by
  rw [fwEndMsg, request_rom hup hnew, if_neg hfirst, if_neg (not_not_intro h)]
  rfl

theorem fwEndMsg_notReceiving (n : Nat) (hfirst : s.fw.upd.waits ≠ some (p, seq)) (h : fld FWU_UPD_STATUS_STATE s ≠ 2) :
    fwEndMsg p seq n s = answer p 0x12 seq 8 [] s := by
  rw [fwEndMsg, request_rom hup hnew, if_neg hfirst, if_pos h]

theorem mramReadMsg_new (off n : Nat) :
    mramReadMsg p seq off n s = answer p 0x40 seq 0 (storeRead true off (min (min n 1024) (2 ^ 23 - off)) s) s :=
  request_rom hup hnew 0x40 _

theorem unknownType_new (type : Nat) : unknownType p seq type true s = answer p type seq 0xFFFF [] s := by
  rw [unknownType, if_neg (by simp), simpleRequest_rom hup hnew]

theorem calReadMsg_run (hrun : inCrucible s = false) (off n : Nat) {d : List Byte}
    (hd : d = (((areaBody calArea s).getD []).drop off).take (min n 1392)) :
    calReadMsg p seq off n s = answer p 0x20 seq 0 (bytesLE 4 off ++ bytesLE 4 d.length ++ d) s := by
  rw [calReadMsg, request_run hup hnew hrun, hd]

theorem calReadMsg_crucible (hcru : inCrucible s = true) (off n : Nat) :
    calReadMsg p seq off n s = answer p 0x20 seq 0xFFFF [] s := request_crucible hup hnew hcru 0x20 _

theorem calWriteMsg_fits (hrun : inCrucible s = false) {off : Nat} {data : List Byte}
    (hfits : off + data.length + 32 ≤ calArea.size) : calWriteMsg p seq off data s
      = answer p 0x21 seq 0 [] (writeArea calArea 1 (calPatched off data ((areaBody calArea s).getD [])) s) := by
  rw [calWriteMsg, simpleRequest_run hup hnew hrun, if_neg (Nat.not_lt.mpr hfits)]
  rfl

theorem calWriteMsg_tooLong (hrun : inCrucible s = false) {off : Nat} {data : List Byte}
    (hlong : calArea.size < off + data.length + 32) : calWriteMsg p seq off data s = answer p 0x21 seq 5 [] s := by
  rw [calWriteMsg, simpleRequest_run hup hnew hrun, if_pos hlong]

theorem calWriteMsg_crucible (hcru : inCrucible s = true) (off : Nat) (data : List Byte) :
    calWriteMsg p seq off data s = answer p 0x21 seq 0xFFFF [] s := simpleRequest_crucible hup hnew hcru 0x21 _

end

theorem arpRequest_own {s : State} (hup : serviceUp s = true) {n : Nat} (hn : n = (reg rFWU_SVC_ADDR s).toNat) (mac ip : Nat) :
    arpRequest mac ip n s = emit (.service (bytesBE 2 1 ++ bytesBE 2 0x0800 ++ [6, 4] ++ bytesBE 2 2
      ++ bytesBE 6 Config.macAddress ++ bytesBE 4 n ++ bytesBE 6 mac ++ bytesBE 4 ip)) s :=
  if_neg (by simp [hup, hn])

theorem icmpEcho_up {s : State} (hup : serviceUp s = true) (body : List Byte) :
    icmpEcho body s = emit (.service ([0, 0] ++ bytesBE 2 (inetSum body) ++ body)) s := if_pos hup

theorem flag_sgmiiStatus (up full : Bool) (s : State) :
    flag FWU_SVC_CFG_LINK_UP (sgmiiStatus up full s) = true ↔ up = true ∧ full = true := by
  rw [flag, sgmiiStatus, fld_setFld_same _ (by decide)]
  cases up <;> cases full <;> decide

/-! ## The commands -/

section
variable {t : Nat} {s u : State} (h : Awake t s u)
include h

theorem exec_fwStatus_awake (p : Peer) (seq : Nat) : exec (.fwStatus t p seq) s = .next (after u (fwStatusMsg p seq u)) :=
  congrArg _ (command_awake h _)

theorem exec_fwBegin_awake (p : Peer) (seq : Nat) (delta : Bool) (b : List Byte) :
    exec (.fwBegin t p seq delta b) s = .next (after u (fwBeginMsg p seq delta b u)) := congrArg _ (command_awake h _)

theorem exec_fwData_awake (p : Peer) (seq off : Nat) (data : List Byte) :
    exec (.fwData t p seq off data) s = .next (after u (fwDataMsg p seq off data u)) := congrArg _ (command_awake h _)

theorem exec_fwEnd_awake (p : Peer) (seq n : Nat) : exec (.fwEnd t p seq n) s = .next (after u (fwEndMsg p seq n u)) :=
  congrArg _ (command_awake h _)

theorem exec_fwActivate_awake (p : Peer) (seq : Nat) (n : Bool) :
    exec (.fwActivate t p seq n) s = .next (after u (fwActivateMsg p seq n u)) := congrArg _ (command_awake h _)

theorem exec_fwAbort_awake (p : Peer) (seq : Nat) : exec (.fwAbort t p seq) s = .next (after u (fwAbortMsg p seq u)) :=
  congrArg _ (command_awake h _)

theorem exec_mramRead_awake (p : Peer) (seq off n : Nat) :
    exec (.mramRead t p seq off n) s = .next (after u (mramReadMsg p seq off n u)) := congrArg _ (command_awake h _)

theorem exec_unknownType_awake (p : Peer) (seq type : Nat) (crcOk : Bool) :
    exec (.unknownType t p seq type crcOk) s = .next (after u (unknownType p seq type crcOk u)) :=
  congrArg _ (command_awake h _)

theorem exec_calRead_awake (p : Peer) (seq off n : Nat) :
    exec (.calRead t p seq off n) s = .next (after u (calReadMsg p seq off n u)) := congrArg _ (command_awake h _)

theorem exec_calWrite_awake (p : Peer) (seq off : Nat) (data : List Byte) :
    exec (.calWrite t p seq off data) s = .next (after u (calWriteMsg p seq off data u)) := congrArg _ (command_awake h _)

theorem exec_arpRequest_awake (mac ip n : Nat) : exec (.arpRequest t mac ip n) s = .next (after u (arpRequest mac ip n u)) :=
  congrArg _ (command_awake h _)

theorem exec_icmpEcho_awake (body : List Byte) : exec (.icmpEcho t body) s = .next (after u (icmpEcho body u)) :=
  congrArg _ (command_awake h _)

theorem exec_sgmiiLinkStatus_awake (up full : Bool) :
    exec (.sgmiiLinkStatus t up full) s = .next (after u (sgmiiStatus up full u)) := congrArg _ (command_awake h _)

end

/-- Settles O31: each request not answered before takes the branch that the state of the update names, in Crucible too. -/
theorem serviceMessagesAnswer : Obligations.ServiceMessagesAnswer := by
  refine ⟨fun t seq p s u hu hnew hup => ⟨?status, fun delta h st v hv => ?begin, fun off data st v hv => ?data, fun n hst => ?activate,
      fun n hst => ?refused, fun hst => ?idle, fun hst => ?abandons, fun n hfirst => ⟨fun hst => ?verify, fun hst => ?early⟩⟩,
    fun t s u hu => ⟨fun mac ip n hup hn => ?arp, fun body hup => ?icmp,
      fun up full => ⟨_, exec_sgmiiLinkStatus_awake hu up full, rfl, flag_sgmiiStatus up full u⟩⟩⟩
  case status => rw [exec_fwStatus_awake hu, fwStatusMsg_new hup hnew, statusBytes]
  case begin => rw [exec_fwBegin_awake hu, fwBeginMsg_new hup hnew, hv]
  case data => rw [exec_fwData_awake hu, fwDataMsg_new hup hnew, hv]
  case activate => rw [exec_fwActivate_awake hu, fwActivateMsg_ready hup hnew n hst]
  case refused => rw [exec_fwActivate_awake hu, fwActivateMsg_notReady hup hnew n hst]
  case idle => rw [exec_fwAbort_awake hu, fwAbortMsg_idle hup hnew hst]
  case abandons => rw [exec_fwAbort_awake hu, fwAbortMsg_abandons hup hnew hst]
  case verify => rw [exec_fwEnd_awake hu, fwEndMsg_receiving hup hnew n hfirst hst, verifyStarts]
  case early => rw [exec_fwEnd_awake hu, fwEndMsg_notReceiving hup hnew n hfirst hst]
  case arp => rw [exec_arpRequest_awake hu, arpRequest_own hup hn]
  case icmp => rw [exec_icmpEcho_awake hu, icmpEcho_up hup]

/-- Settles O32: every TYPE is a request, and a request that is among the answers kept is not acted on. -/
theorem serviceRepeatsAnswer : Obligations.ServiceRepeatsAnswer := by
  intro t seq p x s u hu hkept hup
  have again := fun type rom act => request_again hup hkept type rom act
  have simpleAgain := fun type rom act => simpleRequest_again hup hkept type rom act
  refine ⟨?status, fun delta h => ?begin, fun off data => ?data, fun n => ?end_, fun n => ?activate, ?abort, fun off n => ?mram,
    fun type => ?unknown, fun off n => ?calRead, fun off data => ?calWrite, fun bank es d => ?plan, fun n bank st d => ?report,
    fun rack bank => ?confirm, fun bank at_ => ?fire⟩
  case status => rw [exec_fwStatus_awake hu, fwStatusMsg, again]
  case begin => rw [exec_fwBegin_awake hu, fwBeginMsg, simpleAgain]
  case data => rw [exec_fwData_awake hu, fwDataMsg, simpleAgain]
  case end_ => rw [exec_fwEnd_awake hu, fwEndMsg, again]
  case activate => rw [exec_fwActivate_awake hu, fwActivateMsg, simpleAgain]
  case abort => rw [exec_fwAbort_awake hu, fwAbortMsg, simpleAgain]
  case mram => rw [exec_mramRead_awake hu, mramReadMsg, again]
  case unknown => rw [exec_unknownType_awake hu, unknownType, if_neg (by simp), simpleAgain]
  case calRead => rw [exec_calRead_awake hu, calReadMsg, again]
  case calWrite => rw [exec_calWrite_awake hu, calWriteMsg, simpleAgain]
  case plan => rw [exec_planStage, command_awake hu, planStageMsg, simpleAgain]
  case report => rw [exec_planReport, command_awake hu, planReportMsg, simpleAgain]
  case confirm => rw [exec_rackConfirm, command_awake hu, rackConfirmMsg, simpleAgain]
  case fire => rw [exec_fireTime, command_awake hu, fireTimeMsg, simpleAgain]

/-- Settles O51: what the store holds is read and written only where Chous runs, but for the MRAM. -/
theorem storeMessagesAnswer : Obligations.StoreMessagesAnswer := by
  intro t seq p s u hu hnew hup
  refine ⟨fun off n => ?mram, fun type => ⟨?unknown, ?dropped⟩,
    fun hrun => ⟨fun off n d hd => ?read, fun off data b c hb hc hfits => ?write, fun off data hlong => ?tooLong⟩,
    fun hcru => ⟨fun off n => ?readCrucible, fun off data => ?writeCrucible⟩⟩
  case mram => rw [exec_mramRead_awake hu, mramReadMsg_new hup hnew]
  case unknown => rw [exec_unknownType_awake hu, unknownType_new hup hnew]
  case dropped =>
    rw [exec_unknownType_awake hu]
    rfl
  case read => rw [exec_calRead_awake hu, calReadMsg_run hup hnew hrun off n hd]
  case write =>
    subst hc hb
    rw [exec_calWrite_awake hu, calWriteMsg_fits hup hnew hrun hfits, calPatched]
  case tooLong => rw [exec_calWrite_awake hu, calWriteMsg_tooLong hup hnew hrun hlong]
  case readCrucible => rw [exec_calRead_awake hu, calReadMsg_crucible hup hnew hcru]
  case writeCrucible => rw [exec_calWrite_awake hu, calWriteMsg_crucible hup hnew hcru]

end Sys2Proof.Machine
end

/-! SUPPORT. A burst of triggers (R455). -/
section
namespace Sys2Proof.Machine

/-- A trigger merged into the one that waits (R455, R460). -/
def mergeSnap (p t : Snap) : Snap :=
  { p with
    src := p.src ||| t.src
    merged := p.merged + 1
    entry := if p.entry = 0 then t.entry else p.entry
    flush := match t.flush with
      | none => p.flush
      | some f => match p.flush with
        | none => some f
        | some g => some (if g < f then f else g) }

theorem mergeSnap_flush (p t : Snap) : (mergeSnap p t).flush.isSome = (p.flush.isSome || t.flush.isSome) := by
  unfold mergeSnap
  cases t.flush <;> cases p.flush <;> rfl

/-- With a snapshot running and a trigger waiting, a further trigger merges. -/
theorem recTrigger_merges (a p t : Snap) (n : Nat) :
    recTrigger t { busy := some a, pending := some p, rnum := n } = { busy := some a, pending := some (mergeSnap p t), rnum := n } := rfl

/-- Triggers on a class with one waiting are merged into it, one after another. -/
theorem recTrigger_burst (a : Snap) (n : Nat) (ts : List Snap) (p : Snap) :
    ts.foldl (fun c t => recTrigger t c) { busy := some a, pending := some p, rnum := n }
      = { busy := some a, pending := some (ts.foldl mergeSnap p), rnum := n } := by
  induction ts generalizing p with
  | nil => rfl
  | cons t ts ih => rw [List.foldl_cons, recTrigger_merges, ih, List.foldl_cons]

theorem mergeSnap_burst_merged (ts : List Snap) (p : Snap) : (ts.foldl mergeSnap p).merged = p.merged + ts.length := by
  induction ts generalizing p with
  | nil => rfl
  | cons t ts ih =>
    rw [List.foldl_cons, ih, List.length_cons, Nat.add_comm ts.length, ← Nat.add_assoc]
    rfl

theorem mergeSnap_burst_src (ts : List Snap) (p : Snap) :
    (ts.foldl mergeSnap p).src = ts.foldl (fun m t => m ||| t.src) p.src := by
  induction ts generalizing p with
  | nil => rfl
  | cons t ts ih =>
    rw [List.foldl_cons, ih, List.foldl_cons]
    rfl

/-- A flush is to follow the merged trigger where one was to follow any of them. -/
theorem mergeSnap_burst_flush (ts : List Snap) (p : Snap) :
    (ts.foldl mergeSnap p).flush.isSome = true ↔ ∃ t ∈ p :: ts, t.flush.isSome = true := by
  induction ts generalizing p with
  | nil => simp
  | cons t ts ih => simp [ih, mergeSnap_flush, or_assoc]

/-- Settles O28, by induction on the triggers that merge. -/
theorem burstMakesTwoRecords : Obligations.BurstMakesTwoRecords := by
  intro n a b ts hb c
  have hc : c = { busy := some a, pending := some (ts.foldl mergeSnap b), rnum := n } := recTrigger_burst a n ts b
  refine ⟨by rw [hc], by rw [hc], ts.foldl mergeSnap b, by rw [hc], ?_, mergeSnap_burst_src ts b,
    (mergeSnap_burst_flush ts b).symm⟩
  rw [mergeSnap_burst_merged, hb, Nat.zero_add]

end Sys2Proof.Machine
end

/-! SUPPORT. Register accesses: where they go, GLB_STATUS, and what a VF reaches (R9, R10, R12, R13, R402, R538–R545). -/
section
namespace Sys2Proof.Machine

/-! ## Writes and reads by target -/

section
variable {a : Accessor} {off : Nat} {s : State}

theorem regWrite_unreached (h : reaches a s = false) (w : Word) (counts : Map Nat) : regWrite a off w counts s = s := by
  simp [regWrite, h]

theorem hostRegRead_unreached (h : reaches a s = false) :
    hostRegRead a off s = if gated s then s else emit .unsupported s := by
  simp [hostRegRead, h]

variable (hreach : reaches a s = true)
include hreach

theorem regWrite_unaligned (h : off % 4 ≠ 0) (w : Word) (counts : Map Nat) :
    regWrite a off w counts s = unalignedAccess a off true s := by
  simp [regWrite, hreach, h]

theorem hostRegRead_unaligned (h : off % 4 ≠ 0) : hostRegRead a off s = unalignedAccess a off false s := by
  simp [hostRegRead, hreach, h]

variable (h4 : off % 4 = 0)
include h4

theorem regWrite_reg {o : Nat} (ht : target a off = .reg o) (hrow : (regRow o).isSome = true) (w : Word) (counts : Map Nat) :
    regWrite a off w counts s = writeReg a o w counts s := by
  simp [regWrite, hreach, h4, ht, Option.isNone_eq_false_iff.mpr hrow]

theorem regWrite_reserved {o : Nat} (ht : target a off = .reg o) (hrow : (regRow o).isNone = true) (w : Word) (counts : Map Nat) :
    regWrite a off w counts s = s := by
  simp [regWrite, hreach, h4, ht, hrow]

theorem regWrite_table {f o : Nat} (ht : target a off = .table f o) (w : Word) (counts : Map Nat) :
    regWrite a off w counts s = tableWrite f o w s := by
  simp [regWrite, hreach, h4, ht]

theorem regWrite_door {n o : Nat} (ht : target a off = .door n o) (w : Word) (counts : Map Nat) :
    regWrite a off w counts s = doorWrite n o w s := by
  simp [regWrite, hreach, h4, ht]

theorem regWrite_pba {f o : Nat} (ht : target a off = .pba f o) (w : Word) (counts : Map Nat) :
    regWrite a off w counts s = s := by
  simp [regWrite, hreach, h4, ht]

theorem regWrite_nothing (ht : target a off = .none) (w : Word) (counts : Map Nat) : regWrite a off w counts s = s := by
  simp [regWrite, hreach, h4, ht]

theorem hostRegRead_reads : hostRegRead a off s = emit (.regData (readAt a off s).1) (readAt a off s).2 := by
  simp [hostRegRead, hreach, h4]

end

section
variable {t : Nat} {s u : State} (h : Awake t s u)
include h

theorem exec_registerWrite_awake (a : Accessor) (off : Nat) (w : Word) (counts : Map Nat) :
    exec (.registerWrite t a off w counts) s = .next (after u (regWrite a off w counts u)) := congrArg _ (command_awake h _)

theorem exec_designationWrite_awake (off : Nat) (w : Word) :
    exec (.designationWrite t off w) s = .next (after u (regWrite .sideband off w [] u)) := congrArg _ (command_awake h _)

theorem exec_rcRead_awake (a : Accessor) (off : Nat) : exec (.rcRead t a off) s = .next (after u (hostRegRead a off u)) :=
  congrArg _ (command_awake h _)

theorem exec_lowWordRead_awake (a : Accessor) (off : Nat) :
    exec (.lowWordRead t a off) s = .next (after u (hostRegRead a off u)) := congrArg _ (command_awake h _)

end

/-- Settles O37: an access that reaches the registers goes by its alignment, then by what its offset names. -/
theorem registerAccessesAnswer : Obligations.RegisterAccessesAnswer := by
  intro t off a s u hu
  simp only [exec_registerWrite_awake hu, exec_designationWrite_awake hu, exec_rcRead_awake hu, exec_lowWordRead_awake hu, and_self]
  refine ⟨fun w counts hr => ?unreached, fun hr w counts => ⟨fun h4 => ?unaligned, fun h4 =>
      ⟨fun o ht hrow => ⟨?register, ?designation⟩, fun f o ht => ?table, fun n o ht => ?door, ?nothing⟩⟩,
    fun hr hg => ?notAnswered, fun hr hg => ?unsupported, fun hr h4 => ?readUnaligned, fun hr h4 => ?reads⟩
  case unreached => rw [regWrite_unreached hr]
  case unaligned => rw [regWrite_unaligned hr h4]
  case register => rw [regWrite_reg hr h4 ht hrow]
  case designation =>
    rintro rfl
    rw [regWrite_reg hr h4 ht hrow]
  case table => rw [regWrite_table hr h4 ht]
  case door => rw [regWrite_door hr h4 ht]
  case nothing =>
    rintro (⟨o, ht, hrow⟩ | ⟨f, o, ht⟩ | ht)
    · rw [regWrite_reserved hr h4 ht hrow]
    · rw [regWrite_pba hr h4 ht]
    · rw [regWrite_nothing hr h4 ht]
  case notAnswered => rw [hostRegRead_unreached hr, if_pos hg]
  case unsupported => rw [hostRegRead_unreached hr, if_neg (by simp [hg])]
  case readUnaligned => rw [hostRegRead_unaligned hr h4]
  case reads => rw [hostRegRead_reads hr h4]

/-! ## GLB_STATUS -/

/-- The number whose bits below n are those of f. -/
def sumBits (f : Nat → Bool) (n : Nat) : Nat := ((List.range n).map fun i => b2n (f i) * 2 ^ i).sum

theorem sumBits_succ (f : Nat → Bool) (n : Nat) : sumBits f (n + 1) = 2 ^ n * b2n (f n) + sumBits f n := by
  simp [sumBits, List.range_succ, Nat.add_comm, Nat.mul_comm]

theorem sumBits_lt (f : Nat → Bool) (n : Nat) : sumBits f n < 2 ^ n := by
  induction n with
  | zero => exact Nat.one_pos
  | succ n ih =>
    have hbit : b2n (f n) < 2 ^ 1 := b2n_lt (f n) Nat.one_ne_zero
    rw [sumBits_succ, Nat.pow_succ]
    nlinarith

theorem testBit_b2n (b : Bool) : (b2n b).testBit 0 = b := by cases b <;> rfl

theorem testBit_sumBits (f : Nat → Bool) {n i : Nat} (h : i < n) : (sumBits f n).testBit i = f i := by
  induction n with
  | zero => cases h
  | succ n ih =>
    rw [sumBits_succ, Nat.testBit_two_pow_mul_add _ (sumBits_lt f n)]
    by_cases hi : i < n
    · rw [if_pos hi, ih hi]
    · obtain rfl : i = n := by omega
      rw [if_neg hi, Nat.sub_self, testBit_b2n]

theorem bits_single (x i : Nat) : bits x i i = b2n (x.testBit i) := by
  rw [bits, Nat.add_sub_cancel_left, Nat.shiftRight_eq_div_pow, Nat.testBit_eq_decide_div_mod_eq]
  rcases Nat.mod_two_eq_zero_or_one (x / 2 ^ i) with h | h <;> simp [h, b2n]

/-- Bits 22 to 31 of GLB_STATUS (R542). -/
def glbStatusTop (s : State) : List Bool :=
  [(List.range 6).any fun p => portState p s == 5, (List.range 6).any fun p => portState p s == 4, mstValid s,
    flag FWU_STATUS_TRIAL s, flag FWU_STATUS_AUTHENTIC s, isoOn s, flag GLB_THERM_STATUS_TRIPPED s, flag GLB_HALT_STATUS_HALTED s,
    flag SEQ_CORE_STATUS_DEGRADED s || anyFailed s, stage s == 8]

/-- The condition that each bit of GLB_STATUS shows (R542). -/
def glbStatusBit (s : State) (i : Nat) : Bool :=
  if i < 16 then plotState i s == 1 || plotState i s == 2
  else if i < 22 then portState (i - 16) s == 3
  else (glbStatusTop s).getD (i - 22) false

theorem glbStatusBit_plot {n : Nat} (h : n < 16) (s : State) : glbStatusBit s n = (plotState n s == 1 || plotState n s == 2) :=
  if_pos h

theorem glbStatusBit_port {p : Nat} (h : p < 6) (s : State) : glbStatusBit s (16 + p) = (portState p s == 3) := by
  rw [glbStatusBit, if_neg (by omega), if_pos (by omega), Nat.add_sub_cancel_left]

theorem glbStatusBit_top {k : Nat} (s : State) : glbStatusBit s (22 + k) = (glbStatusTop s).getD k false := by
  rw [glbStatusBit, if_neg (by omega), if_neg (by omega), Nat.add_sub_cancel_left]

/-- A sum of 32 bits by its parts: the top ten one by one, then six, then sixteen. -/
theorem sumBits_parts (f : Nat → Bool) :
    b2n (f 31) * 2 ^ 31 + b2n (f 30) * 2 ^ 30 + b2n (f 29) * 2 ^ 29 + b2n (f 28) * 2 ^ 28 + b2n (f 27) * 2 ^ 27
      + b2n (f 26) * 2 ^ 26 + b2n (f 25) * 2 ^ 25 + b2n (f 24) * 2 ^ 24 + b2n (f 23) * 2 ^ 23 + b2n (f 22) * 2 ^ 22
      + ((List.range 6).map fun p => b2n (f (16 + p)) * 2 ^ (16 + p)).sum + sumBits f 16 = sumBits f 32 := by
  simp only [sumBits_succ, List.range_succ, List.range_zero, List.nil_append, List.map_append, List.map_cons, List.map_nil,
    List.sum_append, List.sum_cons, List.sum_nil]
  ring

theorem glbStatus_eq_sumBits (s : State) : glbStatus s = sumBits (glbStatusBit s) 32 := by
  have hports : ((List.range 6).map fun p => b2n (portState p s == 3) * 2 ^ (16 + p))
      = (List.range 6).map fun p => b2n (glbStatusBit s (16 + p)) * 2 ^ (16 + p) :=
    List.map_congr_left fun p hp => by rw [glbStatusBit_port (List.mem_range.mp hp)]
  have hplots : ((List.range 16).map fun n => b2n (plotState n s == 1 || plotState n s == 2) * 2 ^ n)
      = (List.range 16).map fun n => b2n (glbStatusBit s n) * 2 ^ n :=
    List.map_congr_left fun n hn => by rw [glbStatusBit_plot (List.mem_range.mp hn)]
  rw [← sumBits_parts, glbStatus, hports, hplots]
  rfl

theorem regValue_glbStatus (s : State) : (regValue rGLB_STATUS s).toNat = sumBits (glbStatusBit s) 32 := by
  show (BitVec.ofNat 32 (glbStatus s)).toNat = _
  rw [glbStatus_eq_sumBits, BitVec.toNat_ofNat, Nat.mod_eq_of_lt (sumBits_lt ..)]

theorem bits_glbStatus (s : State) {i : Nat} (h : i < 32) :
    bits (regValue rGLB_STATUS s).toNat i i = b2n (glbStatusBit s i) := by
  rw [regValue_glbStatus, bits_single, testBit_sumBits _ h]

/-- A register with no field that a read clears stands through a read. -/
theorem clearRc_keeps {off : Nat} {r : RegRow} (hrow : regRow off = some r) (hrc : r.rc = 0) (s : State) : clearRc off s = s := by
  simp [clearRc, hrow, hrc]

theorem beforeCounts_keeps {off : Nat} {r : RegRow} (hrow : regRow off = some r) (hrc : r.rc = 0) (s : State) :
    beforeCounts off s = s := by
  simp [beforeCounts, hrow, hrc]

theorem regRow_glbStatus : regRow rGLB_STATUS = some ⟨0x000020, 1, 1, 1, 1, 0x0, 0x0, 0x0, 0x0, 0x0, 0x0⟩ := by decide

/-- A read of GLB_STATUS ends the reader's own latch of it and does nothing else. -/
theorem readReg_glbStatus (a : Accessor) (s : State) :
    (readReg a rGLB_STATUS s).2 = { s with latch := del (latchKey a rGLB_STATUS) s.latch } :=
  clearRc_keeps regRow_glbStatus rfl _

theorem get_del_cases {α : Type} (d : α) (j k : Nat) (m : Map α) : get d j (del k m) = get d j m ∨ get d j (del k m) = d := by
  by_cases h : j = k
  · exact .inr (h ▸ get_del_same ..)
  · exact .inl (get_del_other d h m)

/-- Settles O39: GLB_STATUS is the sum of its bits, and a read of it has neither a field to clear nor a word to latch. -/
theorem globalStatusShows : Obligations.GlobalStatusShows := by
  intro u w hw
  rw [hw]
  have top (k : Nat) (hk : 22 + k < 32) :
      bits (regValue rGLB_STATUS u).toNat (22 + k) (22 + k) = b2n ((glbStatusTop u).getD k false) := by
    rw [bits_glbStatus u hk, glbStatusBit_top]
  refine ⟨top 9 (by decide), top 8 (by decide), top 7 (by decide), top 6 (by decide), top 5 (by decide), top 4 (by decide),
    top 3 (by decide), top 2 (by decide), top 1 (by decide), top 0 (by decide), fun p hp => ?_, fun n hn => ?_,
    fun a => ⟨fun hfree => ?_, fun o => ?_, fun k => ?_⟩⟩
  · rw [bits_glbStatus u (by omega), glbStatusBit_port hp]
  · rw [bits_glbStatus u (by omega), glbStatusBit_plot hn]
  · rw [readReg_of_unlatched hfree, BitVec.ofNat_toNat, BitVec.setWidth_eq]
    rw [accrueFor, if_neg (by decide), beforeCounts_keeps regRow_glbStatus rfl]
  · rw [readReg_glbStatus]
    rfl
  · rw [readReg_glbStatus]
    exact get_del_cases ..

/-! ## What a VF reaches -/

theorem target_vf (n off : Nat) : target (.vf n) off
    = if off < 0x1000 ∨ (0x1000 ≤ off ∧ off < 0x1008) ∨ (0x1010 ≤ off ∧ off < 0x1020) then .reg (plotBase n + off)
      else if 0x10000 ≤ off ∧ off < 0x10014 then .door n (off - 0x10000)
      else if 0x200000 ≤ off ∧ off < 0x200080 then .table (n + 1) (off - 0x200000)
      else if 0x201000 ≤ off ∧ off < 0x201008 then .pba (n + 1) (off - 0x201000)
      else .none := rfl

section
variable {n off o : Nat}

theorem target_vf_reg (h : target (.vf n) off = .reg o) : o = plotBase n + off ∧ (off < 0x1008 ∨ 0x1010 ≤ off ∧ off < 0x1020) := by
  rw [target_vf] at h
  split_ifs at h with hreg hdoor htable hpba
  injection h with ho
  omega

theorem target_vf_door {m : Nat} (h : target (.vf n) off = .door m o) : m = n ∧ off = 0x10000 + o ∧ o < 0x14 := by
  rw [target_vf] at h
  split_ifs at h with hreg hdoor htable hpba
  injection h with hm ho
  omega

theorem target_vf_table {f : Nat} (h : target (.vf n) off = .table f o) : f = n + 1 ∧ off = 0x200000 + o ∧ o < 0x80 := by
  rw [target_vf] at h
  split_ifs at h with hreg hdoor htable hpba
  injection h with hf ho
  omega

theorem target_vf_pba {f : Nat} (h : target (.vf n) off = .pba f o) : f = n + 1 ∧ off = 0x201000 + o ∧ o < 8 := by
  rw [target_vf] at h
  split_ifs at h with hreg hdoor htable hpba
  injection h with hf ho
  omega

end

/-- The blocks of two plots share no register of the three ranges. -/
theorem plotBase_injective {n m off off' : Nat} (hoff : off < 0x10000) (hoff' : off' < 0x10000)
    (h : plotBase n + off = plotBase m + off') : m = n ∧ off' = off := by
  unfold plotBase at h
  omega

/-- PLOT_CTRL and PLOT_STATUS store no bit that a write gives them. -/
theorem regRow_plotCtrl {n : Nat} (hn : n < 16) :
    regRow (plotBase n + 0x1000) = some ⟨0x101000, 1, 1, 16, 65536, 0x0, 0x0, 0x0, 0x0, 0x0, 0x3⟩ := by
  interval_cases n <;> decide

theorem regRow_plotStatus {n : Nat} (hn : n < 16) :
    regRow (plotBase n + 0x1004) = some ⟨0x101004, 1, 1, 16, 65536, 0x0, 0x0, 0x0, 0x0, 0x0, 0x0⟩ := by
  interval_cases n <;> decide

theorem and_not_zero (x : Word) : x &&& ~~~BitVec.ofNat 32 0 = x := BitVec.and_allOnes

/-- The same registers and, but for latches and reports, the same units. -/
def sameRegsAndUnits (v s : State) : Prop :=
  (∀ o, reg o v = reg o s) ∧ unitPart { v with latch := [] } = unitPart { s with latch := [] }

theorem sameRegsAndUnits_setReg_self {off : Nat} {w : Word} {s : State} (h : w = reg off s) : sameRegsAndUnits (setReg off w s) s := by
  refine ⟨fun o => ?_, rfl⟩
  by_cases ho : o = off
  · rw [ho, reg_setReg_same, h]
  · exact reg_setReg_other ho w s

theorem sameRegsAndUnits_trans {u v w : State} (h : sameRegsAndUnits w v) (h' : sameRegsAndUnits v u) : sameRegsAndUnits w u := by
  obtain ⟨hregs, hunits⟩ := h
  obtain ⟨hregs', hunits'⟩ := h'
  exact ⟨fun o => (hregs o).trans (hregs' o), hunits.trans hunits'⟩

/-- A register that stores no bit of a write stands where the write of the sideband's bits comes first. -/
theorem hostFirst_keeps {off : Nat} {r : RegRow} (hrow : regRow off = some r) (hrw : r.rw = 0) {a : Accessor} (ha : a ≠ .sideband)
    (s : State) : sameRegsAndUnits (hostFirst a off s) s := by
  simp only [hostFirst, hrow, hrw, if_neg ha]
  split
  · exact sameRegsAndUnits_setReg_self (by rw [and_not_zero, BitVec.and_zero, BitVec.or_zero])
  · exact ⟨fun _ => rfl, rfl⟩

theorem plainWrite_keeps {off : Nat} {r : RegRow} (hrow : regRow off = some r) (hrw : r.rw = 0) (hw1c : r.w1c = 0) (w : Word)
    (s : State) : sameRegsAndUnits (plainWrite off w s) s := by
  refine ⟨fun o => ?_, ?_⟩
  · by_cases ho : o = off
    · rw [ho, reg_plainWrite_same hrow, hrw, hw1c, and_not_zero, BitVec.and_zero, BitVec.or_zero, BitVec.zero_and,
        and_not_zero]
    · exact reg_plainWrite ho w s
  · have hunits := unitPart_plainWrite off w s
    exact congrArg (fun s : State => { s with latch := [] }) hunits

theorem writeLatches_keeps (a : Accessor) (off : Nat) (s : State) : sameRegsAndUnits (writeLatches a off s) s :=
  ⟨fun o => reg_writeLatches a off o s, congrArg unitPart (latchless_writeLatches a off s)⟩

/-- PLOT_CTRL and PLOT_STATUS are read only from the VF of their plot. -/
theorem regWrite_vf_plotState {n off : Nat} (hn : n < 16) (hoff : off = 0x1000 ∨ off = 0x1004) (w : Word) (counts : Map Nat)
    (s : State) : sameRegsAndUnits (regWrite (.vf n) off w counts s) s := by
  cases hreach : reaches (.vf n) s with
  | false =>
    rw [regWrite_unreached hreach]
    exact ⟨fun _ => rfl, rfl⟩
  | true =>
    have ht : target (.vf n) off = .reg (plotBase n + off) := if_pos (by omega)
    have hblock : (plotBase n + off) / 0x100000 = 1 := by unfold plotBase; omega
    have hplot : (plotBase n + off - 0x100000) / 0x10000 = n := by unfold plotBase; omega
    have hin : (plotBase n + off) % 0x10000 = off := by unfold plotBase; omega
    rcases hoff with rfl | rfl
    · have hrow := regRow_plotCtrl hn
      rw [regWrite_reg hreach (by decide) ht (by rw [hrow]; rfl)]
      refine sameRegsAndUnits_trans (hostFirst_keeps hrow rfl (by simp) _) ?_
      simp only [hblock, hplot, hin, plotWrite, if_true]
      exact writeLatches_keeps ..
    · have hrow := regRow_plotStatus hn
      rw [regWrite_reg hreach (by decide) ht (by rw [hrow]; rfl)]
      refine sameRegsAndUnits_trans (hostFirst_keeps hrow rfl (by simp) _) ?_
      simp only [hblock, hplot, hin]
      exact sameRegsAndUnits_trans (plainWrite_keeps hrow rfl rfl w _) (writeLatches_keeps ..)

/-- Settles O42: the ranges of a VF's BAR0 are those of `target`, each within the VF's own plot. -/
theorem vfsReachTheirPlotAlone : Obligations.VfsReachTheirPlotAlone := by
  refine ⟨fun n off o h => target_vf_reg h, fun n off m o h => target_vf_door h, fun n off f o h => target_vf_table h,
    fun n off f o h => target_vf_pba h, fun n m off off' o h h' => ?_, fun n off w counts u h4 h => ⟨?_, fun hnone => ?_⟩,
    fun n off w counts u hn hoff => regWrite_vf_plotState hn hoff w counts u⟩
  · obtain ⟨rfl, hoff⟩ := target_vf_reg h
    obtain ⟨hsame, hoff'⟩ := target_vf_reg h'
    exact plotBase_injective (by omega) (by omega) hsame
  · rcases h with h | ⟨m, o, h⟩ <;> simp only [readAt, h]
  · cases hreach : reaches (.vf n) u with
    | false => rw [regWrite_unreached hreach]
    | true => rw [regWrite_nothing hreach h4 hnone]

end Sys2Proof.Machine
end

/-! SUPPORT. The recorder's triggers and snapshots, and the flush to MRAM (R451, R454, R455, R459–R464). -/
section
namespace Sys2Proof.Machine

/-! ## What a part that is awake may take for granted -/

theorem powered_of_awake {t : Nat} {s u : State} (h : Awake t s u) : u.powered = true := by
  have halive : alive u = true := h.2
  simp only [alive, Bool.and_eq_true] at halive
  exact halive.1

theorem released_of_awake {t : Nat} {s u : State} (h : Awake t s u) : u.inReset = false := by
  have halive : alive u = true := h.2
  simp only [alive, Bool.and_eq_true, Bool.not_eq_true'] at halive
  exact halive.2

/-! ## Triggers and snapshots -/

theorem regWrite_hmkCtrl {a : Accessor} {s : State} (h : Reaches a s) {w : Word} (hw : wfld HMK_CTRL_SNAP_NOW w = 1) :
    regWrite a rHMK_CTRL w [] s
      = hostFirst a rHMK_CTRL (trigger 5 0 none (plainWrite rHMK_CTRL w (writeLatches a rHMK_CTRL s))) := by
  have hdirect : regWrite a rHMK_CTRL w [] s = hostFirst a rHMK_CTRL
      (if wfld HMK_CTRL_SNAP_NOW w = 1 then trigger 5 0 none (plainWrite rHMK_CTRL w (writeLatches a rHMK_CTRL s))
        else plainWrite rHMK_CTRL w (writeLatches a rHMK_CTRL s)) :=
    regWrite_direct h (by decide) (by decide) (by decide) w []
  rw [hdirect, if_pos hw]

theorem periodic_due {s : State} {p : Nat} (hp : p = 1000 * fld HMK_PERIOD_PERIOD s) (hon : p ≠ 0) (hmst : mstValid s = true)
    (hat : mstNs s % p = 0) (honce : s.hmkAt ≠ mstNs s + 1) :
    periodic s = trigger 2 0 none { s with hmkAt := mstNs s + 1 } := by
  subst hp
  exact if_neg (by simp [hon, hmst, hat, honce])

theorem snapshotComplete_trace {s : State} {x : Snap} (h : s.recTrace.busy = some x) :
    snapshotComplete true s = leaveFlush x.flush (nextSnap true (writeTrace x s)) := by
  cases hflush : x.flush with
  | none => simp only [snapshotComplete, if_true, h, hflush, leaveFlush]
  | some f => simp only [snapshotComplete, if_true, h, hflush, leaveFlush]

theorem snapshotComplete_fault {s : State} {x : Snap} (h : s.recFault.busy = some x) :
    snapshotComplete false s = leaveFlush x.flush (nextSnap false (writeFault x s)) := by
  cases hflush : x.flush with
  | none => simp only [snapshotComplete, Bool.false_eq_true, if_false, h, hflush, leaveFlush]
  | some f => simp only [snapshotComplete, Bool.false_eq_true, if_false, h, hflush, leaveFlush]

/-- With no trigger waiting the class is idle again, and the other class stands. -/
theorem nextSnap_trace_idle {s : State} (h : s.recTrace.pending = none) :
    nextSnap true s = setFld HMK_STATUS_TRACE_BUSY 0 { s with recTrace := { s.recTrace with busy := none, pending := none } } := by
  simp only [nextSnap, if_true, h]
  rfl

theorem nextSnap_fault_idle {s : State} (h : s.recFault.pending = none) :
    nextSnap false s = setFld HMK_STATUS_FAULT_BUSY 0 { s with recFault := { s.recFault with busy := none, pending := none } } := by
  simp only [nextSnap, Bool.false_eq_true, if_false, h]
  rfl

theorem hallmarkClearEnd_due {s : State} (hclearing : flag HMK_STATUS_CLEARING s = true) (hout : s.inReset = false)
    (hdue : s.releaseAt + 120 * usT ≤ s.now) : hallmarkClearEnd s = setFld HMK_STATUS_CLEARING 0 s :=
  if_pos ⟨hclearing, by simp [hout], hdue⟩

section
variable {t : Nat} {s u : State} (h : Awake t s u)
include h

theorem exec_snapNow_awake (a : Accessor) (w : Word) :
    exec (.snapNow t a w) s = .next (after u (regWrite a rHMK_CTRL w [] u)) := congrArg _ (command_awake h _)

theorem exec_periodic_awake : exec (.periodic t) s = .next (after u (periodic u)) := congrArg _ (command_awake h _)

theorem exec_snapshotComplete_awake (trace : Bool) :
    exec (.snapshotComplete t trace) s = .next (after u (snapshotComplete trace u)) := congrArg _ (command_awake h _)

theorem exec_hallmarkClearEnd_awake : exec (.hallmarkClearEnd t) s = .next (after u (hallmarkClearEnd u)) :=
  congrArg _ (command_awake h _)

theorem exec_flushHoldoffEnd_awake : exec (.flushHoldoffEnd t) s = .next (after u (holdoffEnd u)) :=
  congrArg _ (command_awake h _)

theorem exec_flushRecordCommit_awake : exec (.flushRecordCommit t) s = .next (after u (flushCommit u)) :=
  congrArg _ (command_awake h _)

end

/-- Settles O26: the triggers by the register and by MST, the end of a snapshot of either class, the end of the clear. -/
theorem snapshotsAnswer : Obligations.SnapshotsAnswer := by
  refine ⟨fun t a w s u z hu hr hz hw => ?now_, fun t s u hu => ⟨fun p hp hon hmst hat honce => ?periodic, fun x hx => ?trace,
    fun x hx => ?fault, fun z => ⟨fun hz => ?traceIdle, fun hz => ?faultIdle⟩,
    fun hclearing hdue => ⟨_, exec_hallmarkClearEnd_awake hu, hallmarkClearEnd_due hclearing (released_of_awake hu) hdue, ?clear⟩⟩⟩
  case now_ => rw [exec_snapNow_awake hu, regWrite_hmkCtrl hr hw, hz]
  case periodic => rw [exec_periodic_awake hu, periodic_due hp hon hmst hat honce]
  case trace => rw [exec_snapshotComplete_awake hu, snapshotComplete_trace hx]
  case fault => rw [exec_snapshotComplete_awake hu, snapshotComplete_fault hx]
  case traceIdle =>
    rw [nextSnap_trace_idle hz, setFld_recTrace, setFld_recFault]
    exact ⟨rfl, rfl⟩
  case faultIdle =>
    rw [nextSnap_fault_idle hz, setFld_recTrace, setFld_recFault]
    exact ⟨rfl, rfl⟩
  case clear =>
    rw [hallmarkClearEnd_due hclearing (released_of_awake hu) hdue, flag, fld_setFld_same _ (by decide)]
    rfl

/-! ## The flush -/

theorem holdoffEnd_begins {s : State} (hwait : s.flushWait = true) (hidle : s.flush = none) (hover : holdoffOver s = true) :
    holdoffEnd s = flushBegin 0 (setFld HMK_FLUSH_STATUS_WAITING 0 { s with flushWait := false }) := by
  rw [holdoffEnd, if_pos ⟨hwait, by simp [hidle], hover⟩, flushDue, if_neg (by simp [hidle]), if_neg (by simp [hover]), if_pos hwait]
  rfl

section
variable {s : State} {f : Flush} (hrun : s.flush = some f) (hgoes : f.paused = false) (hhead : f.head = [])
include hrun hgoes hhead

theorem flushCommit_part1 {k : Nat} {ks : List Nat} (h1 : f.part1 = k :: ks) :
    flushCommit s = commitRecord k { f with part1 := ks } s := by
  simp [flushCommit, hrun, hgoes, hhead, h1]

theorem flushCommit_part2 {k : Nat} {ks : List Nat} (h1 : f.part1 = []) (h2 : f.part2 = k :: ks) :
    flushCommit s = commitRecord k { f with part2 := ks } s := by
  simp [flushCommit, hrun, hgoes, hhead, h1, h2]

theorem flushCommit_part3 {k : Nat} {ks : List Nat} (h1 : f.part1 = []) (h2 : f.part2 = []) (h3 : f.part3 = k :: ks) :
    flushCommit s = commitRecord k { f with part3 := ks, later := f.later + 1 } s := by
  simp [flushCommit, hrun, hgoes, hhead, h1, h2, h3]

end

theorem flushPause_idle {s : State} (h : s.flush = none) : flushPause s = { s with bkpFail := true } := by
  simp only [flushPause, h]

theorem flushPause_pauses {s : State} {f : Flush} (h : s.flush = some f) : flushPause s
    = setFld HMK_FLUSH_STATUS_PAUSED 1 { s with bkpFail := true, flush := some { f with paused := true } } := by
  simp only [flushPause, h]

theorem flushPause_bkpFail (s : State) : (flushPause s).bkpFail = true := by
  cases h : s.flush with
  | none => rw [flushPause_idle h]
  | some f => rw [flushPause_pauses h, setFld_bkpFail]

theorem flushResume_idle {s : State} (hsteady : pwrSteady s = true) (h : s.flush = none) :
    flushResume s = { s with bkpFail := false } := by
  rw [flushResume, if_neg (by simp [hsteady])]
  simp only [h]

theorem flushResume_goesOn {s : State} {f : Flush} (hsteady : pwrSteady s = true) (h : s.flush = some f) (hp : f.paused = true) :
    flushResume s = flushAdvance (flushHead
      (setFld HMK_FLUSH_STATUS_PAUSED 0 { s with bkpFail := false, flush := some { f with paused := false } })) := by
  rw [flushResume, if_neg (by simp [hsteady])]
  simp only [h, hp, if_true]

theorem exec_flushPause (t : Nat) (s : State) :
    exec (.flushPause t) s = .next (afterPower (clockTo t s) (flushPause (clockTo t s))) := rfl

theorem exec_bkpFail (t : Nat) (s : State) :
    exec (.bkpFail t) s = .next (afterPower (clockTo t s) (flushPause (clockTo t s))) := rfl

theorem exec_flushResume (t : Nat) (s : State) :
    exec (.flushResume t) s = .next (afterPower (clockTo t s) (flushResume (clockTo t s))) := rfl

/-- Settles O27: a flush begins, commits its records part by part, and is paused and resumed in any condition of the part. -/
theorem flushesAnswer : Obligations.FlushesAnswer := by
  refine ⟨fun t s u hu => ⟨fun hwait hidle hover => ?begins, fun f hrun hgoes hhead => ⟨fun k ks h1 => ?part1,
      fun k ks h1 h2 => ?part2, fun k ks h1 h2 h3 => ?part3⟩⟩,
    fun t s u hu => ⟨⟨flushPause u, hu ▸ exec_flushPause t s, hu ▸ exec_bkpFail t s, flushPause_bkpFail u, fun hidle => ?idle,
      fun f hrun => ?pauses⟩, fun hsteady => ⟨fun hidle => ?resumed, fun f hrun hp => ?goesOn⟩⟩⟩
  case begins => rw [exec_flushHoldoffEnd_awake hu, holdoffEnd_begins hwait hidle hover]
  case part1 => rw [exec_flushRecordCommit_awake hu, flushCommit_part1 hrun hgoes hhead h1]
  case part2 => rw [exec_flushRecordCommit_awake hu, flushCommit_part2 hrun hgoes hhead h1 h2]
  case part3 => rw [exec_flushRecordCommit_awake hu, flushCommit_part3 hrun hgoes hhead h1 h2 h3]
  case idle => rw [flushPause_idle hidle, hidle]
  case pauses =>
    rw [flushPause_pauses hrun, flag, fld_setFld_same _ (by decide), setFld_flush, setFld_mram]
    exact ⟨rfl, rfl, rfl⟩
  case resumed => rw [exec_flushResume, ← hu, flushResume_idle hsteady hidle]
  case goesOn => rw [exec_flushResume, ← hu, flushResume_goesOn hsteady hrun hp]

end Sys2Proof.Machine
end

/-! SUPPORT. Boot, trials and updates of the firmware (R480–R484, R487–R491, R496). -/
section
namespace Sys2Proof.Machine

/-! ## The boot record -/

/-- The write of an area in the NOR device changes that device alone. -/
theorem writeArea_nor {a : Area} (h : a.mram = false) (fmt : Nat) (body : List Byte) (s : State) :
    ∃ m, writeArea a fmt body s = { s with nor := m } := by
  simp only [writeArea, h, storeWrite, norErase, Bool.false_eq_true, if_false]
  exact ⟨_, rfl⟩

theorem onBoot_nor (f : BootRec → BootRec) (s : State) : ∃ m, onBoot f s = { s with nor := m } := by
  unfold onBoot writeBoot
  exact writeArea_nor rfl _ _ s

/-! ## The ROM's choice -/

section
variable {s : State} (hrom : s.fw.phase = .rom) (hstage : stage s = 2)
include hrom hstage

theorem boot_blank (h : bootRec s = none) : boot s = checkSlot 0 .blank s := by
  simp only [boot, if_neg (show ¬(s.fw.phase ≠ .rom ∨ stage s ≠ 2) by simp [hrom, hstage]), h]

variable {r : BootRec} (h : bootRec s = some r)
include h

theorem boot_requested (hst : r.state = 2) : boot s = enterCrucible s := by
  simp only [boot, if_neg (show ¬(s.fw.phase ≠ .rom ∨ stage s ≠ 2) by simp [hrom, hstage]), h, if_pos hst]

variable (hrun : r.state ≠ 2)
include hrun

theorem boot_decided (hst : r.state = 1) (hfall : s.fw.fall = 2 ∨ s.fw.fall = 4) : boot s = fallBack s.fw.fall s := by
  simp only [boot, if_neg (show ¬(s.fw.phase ≠ .rom ∨ stage s ≠ 2) by simp [hrom, hstage]), h, if_neg hrun, if_pos hst, if_pos hfall]

theorem boot_exhausted (hst : r.state = 1) (hfall : ¬(s.fw.fall = 2 ∨ s.fw.fall = 4)) (hboots : 3 ≤ trialBoots s) :
    boot s = fallBack 1 s := by
  simp only [boot, if_neg (show ¬(s.fw.phase ≠ .rom ∨ stage s ≠ 2) by simp [hrom, hstage]), h, if_neg hrun, if_pos hst,
    if_neg hfall, if_pos hboots]

theorem boot_tries (hst : r.state = 1) (hfall : ¬(s.fw.fall = 2 ∨ s.fw.fall = 4)) (hboots : trialBoots s < 3) :
    boot s = checkSlot r.active .active (setTrialBoots (trialBoots s + 1) s) := by
  simp only [boot, if_neg (show ¬(s.fw.phase ≠ .rom ∨ stage s ≠ 2) by simp [hrom, hstage]), h, if_neg hrun, if_pos hst,
    if_neg hfall, if_neg (Nat.not_le.mpr hboots)]

theorem boot_active (hst : r.state ≠ 1) : boot s = checkSlot r.active .active s := by
  simp only [boot, if_neg (show ¬(s.fw.phase ≠ .rom ∨ stage s ≠ 2) by simp [hrom, hstage]), h, if_neg hrun, if_neg hst]

end

/-! ## The check of a slot -/

/-- Does the slot under check pass: its image authentic, and not failed in its load just before? -/
def slotPasses (slot : Nat) (s : State) : Bool := imageOk slot s && !(s.fw.fall == 5 && slot == s.fw.slot)

section
variable {s : State} {slot : Nat} {why : Try} (hphase : s.fw.phase = .check slot why)
include hphase

theorem slotCheckEnd_starts (hpass : slotPasses slot s = true) (hwhy : why = .blank ∨ why = .active) :
    slotCheckEnd s = startSlot slot 0 s := by
  unfold slotPasses at hpass
  rcases hwhy with rfl | rfl <;> simp only [slotCheckEnd, hphase, hpass, if_true]

theorem slotCheckEnd_other (hpass : slotPasses slot s = true) (hwhy : why = .other) : slotCheckEnd s
    = startSlot slot 0 (writeBoot { (bootRec s).getD {} with
        bad := ((bootRec s).getD {}).bad ||| 2 ^ ((bootRec s).getD {}).active } s) := by
  unfold slotPasses at hpass
  subst hwhy
  simp only [slotCheckEnd, hphase, hpass, if_true]

theorem slotCheckEnd_fallen {c : Nat} (hpass : slotPasses slot s = true) (hwhy : why = .fall c) : slotCheckEnd s
    = startSlot slot c (writeBoot { (bootRec s).getD {} with
        active := slot, state := 0, bad := ((bootRec s).getD {}).bad ||| 2 ^ ((bootRec s).getD {}).active } s) := by
  unfold slotPasses at hpass
  subst hwhy
  simp only [slotCheckEnd, hphase, hpass, if_true]

variable (hfail : slotPasses slot s = false)
include hfail

theorem slotCheckEnd_blankFails (hwhy : why = .blank) (hslot : slot = 0) : slotCheckEnd s = checkSlot 1 .blank s := by
  unfold slotPasses at hfail
  subst hwhy
  simp only [slotCheckEnd, hphase, hfail, Bool.false_eq_true, if_false, if_pos hslot]

theorem slotCheckEnd_trialFails (hwhy : why = .active) (hst : ((bootRec s).getD {}).state = 1) :
    slotCheckEnd s = fallBack (if s.fw.fall = 5 then 5 else 3) s := by
  unfold slotPasses at hfail
  subst hwhy
  simp only [slotCheckEnd, hphase, hfail, Bool.false_eq_true, if_false, if_pos hst]

theorem slotCheckEnd_activeFails (hwhy : why = .active) (hst : ((bootRec s).getD {}).state ≠ 1) :
    slotCheckEnd s = checkSlot (1 - slot) .other s := by
  unfold slotPasses at hfail
  subst hwhy
  simp only [slotCheckEnd, hphase, hfail, Bool.false_eq_true, if_false, if_neg hst]

theorem slotCheckEnd_gives_up (hwhy : (why = .blank ∧ slot ≠ 0) ∨ why = .other ∨ ∃ c, why = .fall c) :
    slotCheckEnd s = enterCrucible s := by
  unfold slotPasses at hfail
  rcases hwhy with ⟨rfl, hslot⟩ | rfl | ⟨c, rfl⟩
  · simp only [slotCheckEnd, hphase, hfail, Bool.false_eq_true, if_false, if_neg hslot]
  · simp only [slotCheckEnd, hphase, hfail, Bool.false_eq_true, if_false]
  · simp only [slotCheckEnd, hphase, hfail, Bool.false_eq_true, if_false]

end

/-! ## The load of the components -/

/-- Component `id` is ready; with the sixth the load is over. -/
def componentTaken (id : Nat) (s : State) : State :=
  onFw (fun f => { f with
    ready := f.ready ||| 2 ^ id, loadAt := s.now, phase := if f.ready ||| 2 ^ id = 0x7E then .run else f.phase }) s

section
variable {s : State} {id : Nat} (hload : s.fw.phase = .load) (hlow : 2 ≤ id) (hhigh : id ≤ 6)
  (hsoon : s.now ≤ s.fw.loadAt + 50 * msT)
include hload hlow hhigh hsoon

theorem componentReady_fails (h : componentHolds id s = false) : componentReady id s = loadFails s := by
  rw [componentReady, if_neg (by simp only [hload, ne_eq, not_true, false_or]; omega), if_pos (by simp [h])]

theorem componentReady_taken (h : componentHolds id s = true) : componentReady id s = componentTaken id s := by
  rw [componentReady, if_neg (by simp only [hload, ne_eq, not_true, false_or]; omega), if_neg (by simp [h])]
  by_cases hlast : s.fw.ready ||| 2 ^ id = 0x7E
  · simp only [componentTaken, onFw, hlast, if_true]
  · simp only [componentTaken, onFw, hlast, if_false]

end

section
variable {t : Nat} {s u : State} (h : Awake t s u)
include h

theorem exec_boot_awake : exec (.boot t) s = .next (after u (boot u)) := congrArg _ (command_awake h _)

theorem exec_slotCheckEnd_awake : exec (.slotCheckEnd t) s = .next (after u (slotCheckEnd u)) :=
  congrArg _ (command_awake h _)

theorem exec_componentReady_awake (id : Nat) : exec (.componentReady t id) s = .next (after u (componentReady id u)) :=
  congrArg _ (command_awake h _)

theorem exec_componentLoadTimeout_awake : exec (.componentLoadTimeout t) s = .next (after u (componentTimeout u)) :=
  congrArg _ (command_awake h _)

end

/-- Settles O29: the ROM's choice goes by the boot record, the end of a check by its reason, a component by its hash. -/
theorem bootsAnswer : Obligations.BootsAnswer := by
  intro t s u hu
  simp only [exec_boot_awake hu, exec_slotCheckEnd_awake hu, exec_componentReady_awake hu, exec_componentLoadTimeout_awake hu]
  refine ⟨fun hrom hstage => ⟨fun h => ?blank, fun r h => ⟨fun hst => ?requested, fun hst hfall => ?decided,
      fun hst h2 h4 hboots => ?exhausted, fun hst h2 h4 hboots => ?tries, fun hst hrun => ?active⟩⟩,
    fun slot why pass r hphase hpass hr => ⟨fun hp => ⟨fun hwhy => ?starts, fun hwhy => ?other, fun c hwhy => ?fallen⟩,
      fun hp => ⟨fun hwhy hslot => ?blankFails, fun hwhy hst => ?trialFails, fun hwhy hst => ?activeFails, fun hwhy => ?givesUp⟩⟩,
    fun hload => ⟨fun id hlow hhigh hsoon => ⟨fun h => ?fails, fun h => ⟨componentTaken id u, ?taken, rfl, rfl, ?phase, rfl⟩⟩,
      fun hlate => ?timeout⟩⟩
  case blank => rw [boot_blank hrom hstage h]
  case requested => rw [boot_requested hrom hstage h hst]
  case decided => rw [boot_decided hrom hstage h (by omega) hst hfall]
  case exhausted => rw [boot_exhausted hrom hstage h (by omega) hst (by omega) hboots]
  case tries => rw [boot_tries hrom hstage h (by omega) hst (by omega) hboots]
  case active => rw [boot_active hrom hstage h hrun hst]
  case starts => rw [slotCheckEnd_starts hphase (hpass.symm.trans hp) hwhy]
  case other => rw [slotCheckEnd_other hphase (hpass.symm.trans hp) hwhy, hr]
  case fallen => rw [slotCheckEnd_fallen hphase (hpass.symm.trans hp) hwhy, hr]
  case blankFails => rw [slotCheckEnd_blankFails hphase (hpass.symm.trans hp) hwhy hslot]
  case trialFails => rw [slotCheckEnd_trialFails hphase (hpass.symm.trans hp) hwhy (hr ▸ hst)]
  case activeFails => rw [slotCheckEnd_activeFails hphase (hpass.symm.trans hp) hwhy (hr ▸ hst)]
  case givesUp => rw [slotCheckEnd_gives_up hphase (hpass.symm.trans hp) hwhy]
  case fails => rw [componentReady_fails hload hlow hhigh hsoon h]
  case taken => rw [componentReady_taken hload hlow hhigh hsoon h]
  case phase => exact congrArg (fun p => if u.fw.ready ||| 2 ^ id = 0x7E then BootPhase.run else p) hload
  case timeout => rw [componentTimeout, if_pos ⟨hload, hlate⟩]

end Sys2Proof.Machine
end

/-! SUPPORT. Trials, FWU_CTRL and updates of the firmware (R480, R483, R487–R491, R496). -/
section
namespace Sys2Proof.Machine

/-! ## The end of a trial -/

/-- The trial over: the record CONFIRMED, TRIAL clear. -/
def trialEnded (s : State) : State :=
  setFld FWU_STATUS_TRIAL 0 (onBoot (fun r => { r with state := 0 }) (onFw (fun f => { f with trial := false }) s))

theorem trialEnded_fw (s : State) : (trialEnded s).fw = { s.fw with trial := false } := by
  unfold trialEnded
  obtain ⟨m, h⟩ := onBoot_nor (fun r => { r with state := 0 }) (onFw (fun f => { f with trial := false }) s)
  rw [setFld_fw, h]
  rfl

theorem trialEnded_fuses (s : State) : (trialEnded s).fuses = s.fuses := by
  unfold trialEnded
  obtain ⟨m, h⟩ := onBoot_nor (fun r => { r with state := 0 }) (onFw (fun f => { f with trial := false }) s)
  rw [setFld_fuses, h]
  rfl

/-- Does the settings' HOLD_CONFIRM ask for the host's word? -/
def holdsConfirm (s : State) : Bool := Config.holdConfirm ((areaBody (settingsArea s.fw.slot) s).getD [])

/-- Does one of the conditions of a confirmation fail (R483)? -/
def notConfirmed (s : State) : Prop :=
  stage s < 4 ∨ 8 < stage s ∨ s.fw.wdog = true ∨ (List.range 6).all (fun p => portConfirms p s) = false ∨ chousUp s = false
    ∨ flag FWU_SVC_CFG_LINK_UP s = false ∨ (holdsConfirm s = true ∧ s.fw.pfConfirm = false)

theorem confirmation_waits {s : State} (h : notConfirmed s) : confirmation s = s := by
  unfold notConfirmed holdsConfirm at h
  rw [confirmation, if_pos]
  simpa only [Bool.not_eq_true', Bool.and_eq_true] using Or.inr h

theorem trialTimeout_fails {s : State} (htrial : onTrial s = true) (hlate : s.fw.bootAt + trialT ≤ s.now) (h : notConfirmed s) :
    trialTimeout s = trialFails 2 s := by
  simp only [trialTimeout, confirmation_waits h, if_pos (And.intro htrial hlate)]

section
variable {s : State} (htrial : onTrial s = true) (h : ¬ notConfirmed s)
include htrial h

theorem confirmation_ends : confirmation s = irq 21 (showAlt
    (if slotRaise s.fw.slot (trialEnded s) = true ∧ s.fuses.floor < slotSec s.fw.slot (trialEnded s) then
      { trialEnded s with fuses := { s.fuses with floor := slotSec s.fw.slot (trialEnded s) } } else trialEnded s)) := by
  unfold notConfirmed holdsConfirm at h
  rw [confirmation, if_neg (by simpa only [Bool.not_eq_true', Bool.and_eq_true, htrial, Bool.true_eq_false, false_or] using h)]
  change irq 21 (showAlt (if slotRaise (trialEnded s).fw.slot (trialEnded s) = true
    ∧ (trialEnded s).fuses.floor < slotSec (trialEnded s).fw.slot (trialEnded s) then
      { trialEnded s with fuses := { (trialEnded s).fuses with floor := slotSec (trialEnded s).fw.slot (trialEnded s) } }
    else trialEnded s)) = _
  rw [trialEnded_fw, trialEnded_fuses]

theorem confirmation_raises (hraise : slotRaise s.fw.slot (trialEnded s) = true)
    (hfloor : s.fuses.floor < slotSec s.fw.slot (trialEnded s)) : confirmation s = irq 21 (showAlt
      { trialEnded s with fuses := { s.fuses with floor := slotSec s.fw.slot (trialEnded s) } }) := by
  rw [confirmation_ends htrial h, if_pos ⟨hraise, hfloor⟩]

theorem confirmation_keeps_floor (hraise : slotRaise s.fw.slot (trialEnded s) = false
    ∨ slotSec s.fw.slot (trialEnded s) ≤ s.fuses.floor) : confirmation s = irq 21 (showAlt (trialEnded s)) := by
  rw [confirmation_ends htrial h, if_neg]
  rintro ⟨hyes, hlow⟩
  rcases hraise with hno | hhigh
  · exact Bool.false_ne_true (hno.symm.trans hyes)
  · omega

end

section
variable {t : Nat} {s u : State} (h : Awake t s u)
include h

theorem exec_confirmation_awake : exec (.confirmation t) s = .next (after u (confirmation u)) := congrArg _ (command_awake h _)

theorem exec_trialTimeout_awake : exec (.trialTimeout t) s = .next (after u (trialTimeout u)) := congrArg _ (command_awake h _)

theorem exec_confirm_awake (a : Accessor) (w : Word) :
    exec (.confirm t a w) s = .next (after u (regWrite a rFWU_CTRL w [] u)) := congrArg _ (command_awake h _)

theorem exec_reject_awake (a : Accessor) (w : Word) :
    exec (.reject t a w) s = .next (after u (regWrite a rFWU_CTRL w [] u)) := congrArg _ (command_awake h _)

theorem exec_crucible_awake (a : Accessor) (w : Word) :
    exec (.crucible t a w) s = .next (after u (regWrite a rFWU_CTRL w [] u)) := congrArg _ (command_awake h _)

theorem exec_activate_awake (a : Accessor) (w : Word) :
    exec (.activate t a w) s = .next (after u (regWrite a rFWU_CTRL w [] u)) := congrArg _ (command_awake h _)

theorem exec_updateVerifyEnd_awake (e : Bool) : exec (.updateVerifyEnd t e) s = .next (after u (updateVerifyEnd e u)) :=
  congrArg _ (command_awake h _)

theorem exec_updateTimeout_awake : exec (.updateTimeout t) s = .next (after u (updateTimeout u)) :=
  congrArg _ (command_awake h _)

end

/-- A write of FWU_CTRL that reaches it. -/
theorem regWrite_fwuCtrl {a : Accessor} {s : State} (h : Reaches a s) (w : Word) :
    regWrite a rFWU_CTRL w [] s = hostFirst a rFWU_CTRL (fwuCtrl a w (writeLatches a rFWU_CTRL s)) :=
  regWrite_direct h (by decide) (by decide) (by decide) w []

/-- Settles O30: a trial ends by its conditions, and one write of FWU_CTRL does its four acts one after another. -/
theorem trialsAnswer : Obligations.TrialsAnswer := by
  constructor
  · intro t s u hu
    simp only [exec_confirmation_awake hu, exec_trialTimeout_awake hu]
    refine ⟨fun z htrial hlow hhigh hwdog hports hchous hlink hhold hz => ?confirmed,
      fun htrial hlate hfail => ⟨_, congrArg (fun v => Host.Outcome.next (after u v)) (trialTimeout_fails htrial hlate hfail), rfl⟩⟩
    case confirmed =>
      have hok : ¬ notConfirmed u := by
        unfold notConfirmed holdsConfirm
        rintro (h | h | h | h | h | h | ⟨h, h'⟩)
        · omega
        · omega
        · exact Bool.false_ne_true (hwdog.symm.trans h)
        · exact Bool.false_ne_true (h.symm.trans hports)
        · exact Bool.false_ne_true (h.symm.trans hchous)
        · exact Bool.false_ne_true (h.symm.trans hlink)
        · rcases hhold with hno | hyes
          · exact Bool.false_ne_true (hno.symm.trans h)
          · exact Bool.false_ne_true (h'.symm.trans hyes)
      change z = trialEnded u at hz
      rw [hz]
      refine ⟨congrArg Fw.trial (trialEnded_fw u), ?_, fun hraise hfloor => ?_, fun hraise => ?_⟩
      · unfold trialEnded flag
        rw [fld_setFld_same FWU_STATUS_TRIAL (by decide)]
        decide
      · rw [confirmation_raises htrial hok hraise hfloor]
      · rw [confirmation_keeps_floor htrial hok hraise]
  · intro t a w s u z z1 z2 z3 z4 hu hreach hz h1 h2 h3 h4
    have hwrite : regWrite a rFWU_CTRL w [] u = hostFirst a rFWU_CTRL z4 := by
      rw [regWrite_fwuCtrl hreach, h4, h3, h2, h1, hz, ← fld_writeLatches a rFWU_CTRL FWU_UPD_STATUS_STATE u]
      rfl
    simp only [exec_confirm_awake hu, exec_reject_awake hu, exec_crucible_awake hu, exec_activate_awake hu, hwrite, and_self]

/-! ## Updates -/

/-- A showing of the other slot moves FWU_STATUS and FWU_ALT_VER alone. -/
theorem showAlt_upd (s : State) : (showAlt s).fw = s.fw ∧ (showAlt s).fuses = s.fuses ∧ (showAlt s).mram = s.mram := by
  simp only [showAlt, setReg_fw, setReg_fuses, setReg_mram, setFld_fw, setFld_fuses, setFld_mram, and_self]

section
variable {delta : Bool} {h : List Byte} {s : State}

theorem fwBegin_busy (hbusy : fld FWU_UPD_STATUS_STATE s = 2 ∨ fld FWU_UPD_STATUS_STATE s = 3
    ∨ (inCrucible s = true ∧ delta = true)) : fwBegin delta h s = (8, s) := by
  rw [fwBegin, if_pos hbusy]

variable (hfree : ¬(fld FWU_UPD_STATUS_STATE s = 2 ∨ fld FWU_UPD_STATUS_STATE s = 3 ∨ (inCrucible s = true ∧ delta = true)))
include hfree

theorem fwBegin_trial (hrun : inCrucible s = false) (htrial : s.fw.trial = true) : fwBegin delta h s = (6, updState 0 6 s) := by
  rw [fwBegin, if_neg hfree, if_pos (by simp [hrun, htrial])]

variable (hsure : inCrucible s = true ∨ s.fw.trial = false)
include hsure

theorem fwBegin_refused {r : Nat} (hr : headerReason h s.fuses = some r) : fwBegin delta h s = (r, updState 0 r s) := by
  rw [fwBegin, if_neg hfree, if_neg (by rcases hsure with h | h <;> simp [h])]
  simp only [hr]

/-- The target slot marked bad and erased with its settings, its header written. -/
def slotErased (h : List Byte) (s : State) : State :=
  storeWrite false (slotAt (targetSlot s)) h (norErase (settingsArea (targetSlot s)).copy0 (2 * 2 ^ 20)
    (norErase (slotAt (targetSlot s)) slotSize (markBad (targetSlot s) s)))

/-- The update an accepted header begins. -/
def updateBegun (delta : Bool) (h : List Byte) (s : State) : State :=
  onUpd (fun _ => { slot := targetSlot s, delta := delta, header := h, next := 512, at_ := (slotErased h s).now }) (slotErased h s)

theorem fwBegin_accepted (hr : headerReason h s.fuses = none) : fwBegin delta h s = (0, setFld FWU_UPD_STATUS_KIB 0 (updState 2 0
    (if inCrucible (updateBegun delta h s) then updateBegun delta h s else showAlt (updateBegun delta h s)))) := by
  rw [fwBegin, if_neg hfree, if_neg (by rcases hsure with h | h <;> simp [h])]
  simp only [hr, updateBegun, slotErased]
  rfl

end

theorem slotErased_nor (h : List Byte) (s : State) : ∃ m, slotErased h s = { s with nor := m } := by
  obtain ⟨m, hm⟩ := onBoot_nor (fun r => { r with bad := r.bad ||| 2 ^ targetSlot s }) s
  simp only [slotErased, markBad, hm, storeWrite, norErase, Bool.false_eq_true, if_false]
  exact ⟨_, rfl⟩

theorem updateBegun_upd (delta : Bool) (h : List Byte) (s : State) :
    (updateBegun delta h s).fw.upd = { slot := targetSlot s, delta := delta, header := h, next := 512, at_ := s.now }
    ∧ (updateBegun delta h s).fuses = s.fuses ∧ (updateBegun delta h s).mram = s.mram := by
  obtain ⟨m, hm⟩ := slotErased_nor h s
  rw [updateBegun, hm]
  exact ⟨rfl, rfl, rfl⟩

/-- A free status, from its parts. -/
theorem update_free {delta : Bool} {s : State} (h2 : fld FWU_UPD_STATUS_STATE s ≠ 2) (h3 : fld FWU_UPD_STATUS_STATE s ≠ 3)
    (h : inCrucible s = false ∨ delta = false) :
    ¬(fld FWU_UPD_STATUS_STATE s = 2 ∨ fld FWU_UPD_STATUS_STATE s = 3 ∨ (inCrucible s = true ∧ delta = true)) := by
  rintro (h' | h' | ⟨hc, hd⟩)
  · exact h2 h'
  · exact h3 h'
  · rcases h with h | h
    · exact Bool.false_ne_true (h.symm.trans hc)
    · exact Bool.false_ne_true (h.symm.trans hd)

/-- The state that receiving shows. -/
theorem received_shows (s : State) :
    fld FWU_UPD_STATUS_STATE (setFld FWU_UPD_STATUS_KIB 0 (updState 2 0 s)) = 2
    ∧ fld FWU_UPD_STATUS_REASON (setFld FWU_UPD_STATUS_KIB 0 (updState 2 0 s)) = 0
    ∧ fld FWU_UPD_STATUS_KIB (setFld FWU_UPD_STATUS_KIB 0 (updState 2 0 s)) = 0 := by
  refine ⟨?_, ?_, fld_setFld_same FWU_UPD_STATUS_KIB (by decide) 0 _⟩
  · rw [fld_setFld_other (by decide) (by decide) (by decide)]
    exact (fld_setFld_other (by decide) (by decide) (by decide) ..).trans (fld_setFld_same FWU_UPD_STATUS_STATE (by decide) 2 _)
  · rw [fld_setFld_other (by decide) (by decide) (by decide)]
    exact fld_setFld_same FWU_UPD_STATUS_REASON (by decide) 0 _

theorem received_keeps (s : State) : (setFld FWU_UPD_STATUS_KIB 0 (updState 2 0 s)).fw = s.fw
    ∧ (setFld FWU_UPD_STATUS_KIB 0 (updState 2 0 s)).fuses = s.fuses
    ∧ (setFld FWU_UPD_STATUS_KIB 0 (updState 2 0 s)).mram = s.mram := by
  have hplain : updState 2 0 s = setFlds [(FWU_UPD_STATUS_STATE, 2), (FWU_UPD_STATUS_REASON, 0)] s := rfl
  have hunit := unitPart_setFlds [(FWU_UPD_STATUS_STATE, 2), (FWU_UPD_STATUS_REASON, 0)] s
  simp only [hplain, setFld_fw, setFld_fuses, setFld_mram, fw_of_unit hunit, fuses_of_unit hunit, mram_of_unit hunit, and_self]

section
variable {off : Nat} {data : List Byte} {s : State}

theorem fwData_closed (h : fld FWU_UPD_STATUS_STATE s ≠ 2) : fwData off data s = (8, s) := by rw [fwData, if_pos h]

theorem fwData_outOfOrder (h : fld FWU_UPD_STATUS_STATE s = 2) (hoff : off ≠ s.fw.upd.next) :
    fwData off data s = (8, onUpd (fun x => { x with at_ := s.now }) s) := by
  rw [fwData, if_neg (not_not_intro h)]
  exact if_pos hoff

theorem bodyWrite_fits {v : State} (h : v.fw.upd.written + data.length ≤ leAt v.fw.upd.header 0x10 4) : bodyWrite data v
    = setFld FWU_UPD_STATUS_KIB ((v.fw.upd.written + data.length) / 1024)
        (onUpd (fun x => { x with written := x.written + data.length })
          (storeWrite false (slotAt v.fw.upd.slot + 512 + v.fw.upd.written) data v)) := by
  rw [bodyWrite, if_neg (show ¬ bodyLen v < _ from Nat.not_lt.mpr h)]
  rfl

/-- The update once a full image's bytes came in order, before they are stored. -/
def dataTaken (data : List Byte) (s : State) : State :=
  onUpd (fun x => { x with at_ := s.now, next := x.next + data.length }) s

/-- The bytes of a full image are appended at the place that follows. -/
theorem fwData_appends (h : fld FWU_UPD_STATUS_STATE s = 2) (hoff : off = s.fw.upd.next) (hfull : s.fw.upd.delta = false)
    (hroom : s.fw.upd.written + data.length ≤ leAt s.fw.upd.header 0x10 4) : fwData off data s = (0,
      setFld FWU_UPD_STATUS_KIB ((s.fw.upd.written + data.length) / 1024)
        (onUpd (fun x => { x with written := x.written + data.length })
          (storeWrite false (slotAt s.fw.upd.slot + 512 + s.fw.upd.written) data (dataTaken data s)))) := by
  have hbody : bodyWrite data (dataTaken data s) = setFld FWU_UPD_STATUS_KIB ((s.fw.upd.written + data.length) / 1024)
      (onUpd (fun x => { x with written := x.written + data.length })
        (storeWrite false (slotAt s.fw.upd.slot + 512 + s.fw.upd.written) data (dataTaken data s))) := bodyWrite_fits hroom
  have hstate : fld FWU_UPD_STATUS_STATE (bodyWrite data (dataTaken data s)) = 2 := by
    rw [hbody, fld_setFld_other (by decide) (by decide) (by decide)]
    exact h
  have hrun : fwData off data s = (if fld FWU_UPD_STATUS_STATE (bodyWrite data (dataTaken data s)) = 5 then
      fld FWU_UPD_STATUS_REASON (bodyWrite data (dataTaken data s)) else 0, bodyWrite data (dataTaken data s)) := by
    rw [fwData, if_neg (not_not_intro h)]
    refine (if_neg (not_not_intro hoff)).trans ?_
    simp only [onUpd, onFw, hfull, Bool.false_eq_true, if_false, dataTaken]
  rw [hrun, hstate, if_neg (by decide), hbody]

end

/-- Settles O33: each branch of the begin, the data, the check and the deadline of an update. -/
theorem updatesAnswer : Obligations.UpdatesAnswer := by
  refine ⟨fun delta h u => ⟨fwBegin_busy, fun h2 h3 hc => ⟨fun hrun htrial => ?trial, fun hsure => ⟨fun r hr => ?refused, fun hr => ?accepted⟩⟩⟩,
    fun off data u => ⟨fwData_closed, fwData_outOfOrder, fun h hoff hfull hroom hsmall => ?appends⟩,
    fun t s u hu => ?_⟩
  case trial => exact fwBegin_trial (update_free h2 h3 hc) hrun htrial
  case refused => exact fwBegin_refused (update_free h2 h3 hc) hsure hr
  case accepted =>
    have hshow (v : State) : (if inCrucible v then v else showAlt v).fw = v.fw
        ∧ (if inCrucible v then v else showAlt v).fuses = v.fuses ∧ (if inCrucible v then v else showAlt v).mram = v.mram := by
      split
      · exact ⟨rfl, rfl, rfl⟩
      · exact showAlt_upd v
    obtain ⟨hfw, hfuses, hmram⟩ := hshow (updateBegun delta h u)
    obtain ⟨bfw, bfuses, bmram⟩ := updateBegun_upd delta h u
    rw [fwBegin_accepted (update_free h2 h3 hc) hsure hr]
    revert hfw hfuses hmram
    generalize (if inCrucible (updateBegun delta h u) then updateBegun delta h u else showAlt (updateBegun delta h u)) = v
    intro hfw hfuses hmram
    obtain ⟨hstate, hreason, hkib⟩ := received_shows v
    obtain ⟨kfw, kfuses, kmram⟩ := received_keeps v
    exact ⟨rfl, hstate, hreason, hkib, (congrArg Fw.upd (kfw.trans hfw)).trans bfw, (kfuses.trans hfuses).trans bfuses,
      (kmram.trans hmram).trans bmram⟩
  case appends =>
    refine ⟨_, fwData_appends h hoff hfull hroom, ?_, ?_, ?_, ?_⟩
    · rw [setFld_fw, hoff]
      rfl
    · rw [setFld_nor]
      rfl
    · rw [setFld_mram]
      rfl
    rw [fld_setFld_same FWU_UPD_STATUS_KIB (by decide)]
    exact Nat.mod_eq_of_lt (by change _ < 2 ^ 16; omega)
  simp only [exec_updateVerifyEnd_awake hu, exec_updateTimeout_awake hu]
  refine ⟨fun e r h3 hr => ?fails, fun e z h3 hr hz => ?passes, fun hlate => ⟨fun h0 h4 => ?abandoned, fun h4 => ?readyAbandoned⟩⟩
  case fails =>
    rw [updateVerifyEnd, if_neg (not_not_intro h3)]
    simp only [hr]
    rfl
  case passes =>
    rw [updateVerifyEnd, if_neg (not_not_intro h3), hz]
    simp only [hr]
  case abandoned => rw [updateTimeout, if_pos ⟨h0, hlate⟩, updAbandon, if_neg h4]
  case readyAbandoned => rw [updateTimeout, if_pos ⟨by omega, hlate⟩, updAbandon, if_pos h4]; rfl

end Sys2Proof.Machine
end

/-! SUPPORT. Heat, the watchdog, injection, aborts and halts (R434–R436, R439, R442, R444, R445). -/
section
namespace Sys2Proof.Machine

section
variable {t : Nat} {s u : State} (h : Awake t s u)
include h

theorem exec_sensorRead_awake (temps : List Nat) : exec (.sensorRead t temps) s = .next (after u (sensorRead temps u)) :=
  congrArg _ (command_awake h _)

theorem exec_tripOpticsOff_awake : exec (.tripOpticsOff t) s = .next (after u (tripOpticsOff u)) := congrArg _ (command_awake h _)

theorem exec_watchdogExpiry_awake : exec (.watchdogExpiry t) s = .next (after u (watchdogExpiry u)) :=
  congrArg _ (command_awake h _)

theorem exec_chousRestart_awake : exec (.chousRestart t) s = .next (after u (chousRestart u)) := congrArg _ (command_awake h _)

theorem exec_injArm_awake (a : Accessor) (w : Word) (counts : Map Nat) :
    exec (.injArm t a w counts) s = .next (after u (regWrite a rGLB_INJ_CTRL w counts u)) := congrArg _ (command_awake h _)

theorem exec_injDoneClear_awake (a : Accessor) (w : Word) :
    exec (.injDoneClear t a w) s = .next (after u (regWrite a rGLB_INJ_CTRL w [] u)) := congrArg _ (command_awake h _)

theorem exec_abortComplete_awake (n : Nat) : exec (.abortComplete t n) s = .next (after u (abortComplete n u)) :=
  congrArg _ (command_awake h _)

theorem exec_haltAllComplete_awake : exec (.haltAllComplete t) s = .next (after u (haltAllComplete u)) :=
  congrArg _ (command_awake h _)

theorem exec_haltAll_awake (a : Accessor) (w : Word) :
    exec (.haltAll t a w) s = .next (after u (regWrite a rGLB_HALT_CTRL w [] u)) := congrArg _ (command_awake h _)

theorem exec_resume_awake (a : Accessor) (w : Word) :
    exec (.resume t a w) s = .next (after u (regWrite a rGLB_HALT_CTRL w [] u)) := congrArg _ (command_awake h _)

end

/-! ## Injection -/

/-- A write of GLB_INJ_CTRL that reaches it. -/
theorem regWrite_injCtrl {a : Accessor} {s : State} (h : Reaches a s) (w : Word) (counts : Map Nat) :
    regWrite a rGLB_INJ_CTRL w counts s = hostFirst a rGLB_INJ_CTRL (injCtrl a w counts (writeLatches a rGLB_INJ_CTRL s)) :=
  regWrite_direct h (by decide) (by decide) (by decide) w counts

/-- KIND and TARGET stored. -/
def injStored (w : Word) (s : State) : State :=
  setFlds [(GLB_INJ_CTRL_KIND, wfld GLB_INJ_CTRL_KIND w), (GLB_INJ_CTRL_TARGET, wfld GLB_INJ_CTRL_TARGET w)] s

theorem fld_injStored {f : Fld} (hf : fieldOk f) (h : fieldsApart f GLB_INJ_CTRL_KIND ∧ fieldsApart f GLB_INJ_CTRL_TARGET)
    (w : Word) (s : State) : fld f (injStored w s) = fld f s :=
  fld_setFlds_other hf _ s (by
    intro x hx
    simp only [List.mem_cons, List.not_mem_nil, or_false] at hx
    rcases hx with rfl | rfl
    · exact ⟨show fieldOk GLB_INJ_CTRL_KIND by decide, h.1⟩
    · exact ⟨show fieldOk GLB_INJ_CTRL_TARGET by decide, h.2⟩)

theorem injStored_shows (w : Word) (s : State) : fld GLB_INJ_CTRL_KIND (injStored w s) = wfld GLB_INJ_CTRL_KIND w
    ∧ fld GLB_INJ_CTRL_TARGET (injStored w s) = wfld GLB_INJ_CTRL_TARGET w := by
  have hmem := fld_setFlds_mem [(GLB_INJ_CTRL_KIND, wfld GLB_INJ_CTRL_KIND w), (GLB_INJ_CTRL_TARGET, wfld GLB_INJ_CTRL_TARGET w)] s
    (by simp [fieldOk]) (by simp [fieldsApart])
  simp only [List.forall_mem_cons] at hmem
  obtain ⟨hkind, htarget, -⟩ := hmem
  exact ⟨hkind.trans (Nat.mod_mod ..), htarget.trans (Nat.mod_mod ..)⟩

section
variable {a : Accessor} {w : Word} {counts : Map Nat} {s : State}

/-- Does ARM meet what R445 discards it for? -/
def injRefused (w : Word) (s : State) : Prop :=
  isoOn s = true ∨ flag GLB_INJ_CTRL_BUSY s = true ∨ wfld GLB_INJ_CTRL_KIND w = 0 ∨ 10 < wfld GLB_INJ_CTRL_KIND w

theorem injRefused_stored : injRefused w (injStored w s) ↔ injRefused w s := by
  simp only [injRefused, isoOn, flag, fld_injStored (f := SEQ_ISO_CTRL_ISO_ON) (by decide) (by decide),
    fld_injStored (f := GLB_INJ_CTRL_BUSY) (by decide) (by decide)]

theorem injCtrl_clears (hdone : wfld GLB_INJ_CTRL_DONE w = 1) (harm : wfld GLB_INJ_CTRL_ARM w = 0) :
    injCtrl a w counts s = injStored w (clearW1c rGLB_INJ_CTRL w { s with dark := [] }) := by
  simp only [injCtrl, if_pos hdone, if_pos harm, injStored]

section
variable (hdone : wfld GLB_INJ_CTRL_DONE w = 0) (harm : wfld GLB_INJ_CTRL_ARM w = 1)
include hdone harm

theorem injCtrl_refuses (h : injRefused w s) : injCtrl a w counts s = discard a rGLB_INJ_CTRL (injStored w s) := by
  rw [← injRefused_stored] at h
  simp only [injCtrl, hdone, harm, Nat.zero_ne_one, Nat.one_ne_zero, if_false]
  exact if_pos h

theorem injCtrl_arms (h : ¬ injRefused w s) : injCtrl a w counts s
    = injAtOnce (wfld GLB_INJ_CTRL_KIND w) (wfld GLB_INJ_CTRL_TARGET w) counts (setFld GLB_INJ_CTRL_BUSY 1
      { injStored w s with inj := some (wfld GLB_INJ_CTRL_KIND w, wfld GLB_INJ_CTRL_TARGET w,
          reg64 rGLB_INJ_ADDR_LO rGLB_INJ_ADDR_HI s) }) := by
  have haddr : reg64 rGLB_INJ_ADDR_LO rGLB_INJ_ADDR_HI (injStored w s) = reg64 rGLB_INJ_ADDR_LO rGLB_INJ_ADDR_HI s := by
    unfold reg64 injStored
    rw [reg_setFlds_other _ s (by simp), reg_setFlds_other _ s (by simp)]
  rw [← injRefused_stored] at h
  rw [← haddr]
  simp only [injCtrl, hdone, harm, Nat.zero_ne_one, Nat.one_ne_zero, if_false]
  exact if_neg h

end
end

theorem regRow_injCtrl : regRow rGLB_INJ_CTRL
    = some ⟨0x002020, 1, 1, 1, 1, 0x0, 0x0, 0xFFFFFFF, 0x20000000, 0x0, 0x80000000⟩ := by decide

/-- DONE written 1 clears, where hardware did not set it in the same cycle. -/
theorem fld_clearW1c_injDone {w : Word} {s : State} (hdone : wfld GLB_INJ_CTRL_DONE w = 1)
    (hsets : get 0 rGLB_INJ_CTRL (updates s).sets = 0) : fld GLB_INJ_CTRL_DONE (clearW1c rGLB_INJ_CTRL w s) = 0 := by
  have hbit : w.getLsbD 29 = true := by
    have hw : bits w.toNat 29 29 = 1 := hdone
    rw [bits_single] at hw
    exact (by simpa [b2n] using hw : w.toNat.testBit 29 = true)
  have hreg : reg rGLB_INJ_CTRL (clearW1c rGLB_INJ_CTRL w s)
      = reg rGLB_INJ_CTRL s &&& ~~~(w &&& BitVec.ofNat 32 0x20000000 &&& ~~~BitVec.ofNat 32 0) := by
    simp only [clearW1c, regRow_injCtrl, hsets, reg_setReg_same]
  have hclear : (reg rGLB_INJ_CTRL (clearW1c rGLB_INJ_CTRL w s)).getLsbD 29 = false := by
    rw [hreg]
    simp [hbit]
  show bits _ 29 29 = 0
  rw [bits_single, show (reg rGLB_INJ_CTRL (clearW1c rGLB_INJ_CTRL w s)).toNat.testBit 29 = false from hclear]
  rfl

/-! ## The watchdog -/

theorem watchdogExpiry_counts {s : State} (h : s.wdogAt = none) : watchdogExpiry s
    = bump GLB_WDOG_STATUS_EXPIRIES 1 { s with wdogAt := some s.now, fw := { s.fw with wdog := true } } := by
  rw [watchdogExpiry, if_pos]
  rw [chousUp, h]
  rfl

theorem chousRestart_due {s : State} {at_ : Nat} (h : s.wdogAt = some at_) (hdue : at_ + msT ≤ s.now) :
    chousRestart s = devFault 14 1 (min (fld GLB_WDOG_STATUS_EXPIRIES s) 0x3FFF) { s with wdogAt := none } := by
  simp only [chousRestart, h, if_neg (Nat.not_lt.mpr hdue)]

theorem tripOpticsOff_due {s : State} {at_ : Nat} (h : s.tripAt = some at_) (hdue : at_ + 260 * usT ≤ s.now) :
    tripOpticsOff s = cscOff (loop bankOff 6 s) := by
  simp only [tripOpticsOff, h, if_neg (Nat.not_lt.mpr hdue)]

/-- Settles O25: each command on its condition; a write of GLB_INJ_CTRL by what stands against ARM. -/
theorem heatWatchdogInjectionAnswer : Obligations.HeatWatchdogInjectionAnswer := by
  constructor
  · intro t s u hu
    simp only [exec_sensorRead_awake hu, exec_tripOpticsOff_awake hu, exec_watchdogExpiry_awake hu, exec_chousRestart_awake hu]
    refine ⟨fun temps z hz => ?sensors, fun at_ h hdue => ?optics, fun h => ?expiry, fun at_ h hdue => ?restart⟩
    case sensors => rw [sensorRead, ← hz]
    case optics => rw [tripOpticsOff_due h hdue]
    case expiry =>
      rw [watchdogExpiry_counts h]
      exact ⟨_, rfl, rfl, rfl, fld_bump_same GLB_WDOG_STATUS_EXPIRIES (by decide) 1 _⟩
    case restart =>
      rw [chousRestart_due h hdue]
      exact ⟨_, rfl, wdogAt_of_unit (unitPart_devFault ..), rfl⟩
  · intro t a w counts kind target s u z hu hreach hkind htarget hz
    have hstored : z = injStored w (writeLatches a rGLB_INJ_CTRL u) := by rw [hz, hkind, htarget]; rfl
    have hrefused : injRefused w (writeLatches a rGLB_INJ_CTRL u)
        ↔ isoOn u = true ∨ flag GLB_INJ_CTRL_BUSY u = true ∨ kind = 0 ∨ 10 < kind := by
      rw [injRefused, isoOn, isoOn, flag_writeLatches, flag_writeLatches, ← hkind]
    simp only [exec_injArm_awake hu, exec_injDoneClear_awake hu, regWrite_injCtrl hreach]
    refine ⟨fun harm hdone => ⟨fun hiso hbusy hlow hhigh => ?arms, fun hno => ?refuses⟩, fun harm hdone => ?clears⟩
    case arms =>
      rw [injCtrl_arms hdone harm (by rw [hrefused, hiso, hbusy]; simp only [Bool.false_eq_true, false_or]; omega), hkind, htarget, hstored, reg64, reg64,
        reg_writeLatches, reg_writeLatches]
    case refuses => rw [injCtrl_refuses hdone harm (hrefused.mpr hno), hstored]
    case clears =>
      rw [injCtrl_clears hdone harm, hkind, htarget]
      obtain ⟨hshowKind, hshowTarget⟩ := injStored_shows w (clearW1c rGLB_INJ_CTRL w { writeLatches a rGLB_INJ_CTRL u with dark := [] })
      refine ⟨_, rfl, ?_, fun hsets => ?_, hshowKind, hshowTarget⟩
      · exact (dark_of_unit (unitPart_setFlds ..)).trans (dark_of_unit (unitPart_clearW1c ..))
      · rw [fld_injStored (by decide) (by decide)]
        exact fld_clearW1c_injDone hdone ((congrArg (fun x => get 0 rGLB_INJ_CTRL x.sets) (updates_writeLatches ..)).trans hsets)

/-! ## Aborts and halts -/

/-- The abort of plot n over, as R434 shows it. -/
def abortEnded (n : Nat) (s : State) : State :=
  setFld (PLOT_FAULT_STATUS_ABORTING n) 0 { s with aborts := s.aborts.filter fun b => b.plot != n }

theorem aborting_abortEnded (n : Nat) (s : State) : aborting n (abortEnded n s) = false := by
  unfold abortEnded aborting flag
  rw [fld_setFld_same (PLOT_FAULT_STATUS_ABORTING n) (by simp [fieldOk])]
  rfl

theorem abortComplete_done {n : Nat} {a : Abort} {s : State} (h : abortOf n s = some a) (hscrub : s.seq.scrubEnd = none)
    (hrequests : openRequests n s = []) (htransfers : plotTransfers n s = false) {x y : State}
    (hy : y = if a.code = 4 then abortEnded n s
      else plotFault n 8 a.code (min ((s.now - a.at_) / usT) 0x3FFF) 0 (abortEnded n s))
    (hx : x = forAll (fun (c : Nat × Nat) => complete n c.1 c.2 stOK 0 0) a.cmds y) :
    abortComplete n s = if (func (n + 1) x).flr then flrEnd n x else x := by
  have hdur : min ((s.now - a.at_) / usT) 0x3FFF = durUs a.at_ 0x3FFF (abortEnded n s) := by
    rw [durUs, abortEnded, setFld_now]
  rw [hdur] at hy
  rw [hx, hy]
  simp only [abortComplete, h]
  exact if_neg (by simp [hscrub, hrequests, htransfers])

/-- The halt over, as R435 shows it. -/
def haltEnded (at_ : Nat) (s : State) : State :=
  setFlds [(GLB_HALT_STATUS_HALTING, 0), (GLB_HALT_STATUS_HALTED, 1), (GLB_HALT_STATUS_LAST_DUR, durUs at_ 0xFFFF s)]
    { s with haltAt := none }

theorem haltEnded_shows (at_ : Nat) (s : State) : fld GLB_HALT_STATUS_HALTING (haltEnded at_ s) = 0
    ∧ fld GLB_HALT_STATUS_HALTED (haltEnded at_ s) = 1
    ∧ fld GLB_HALT_STATUS_LAST_DUR (haltEnded at_ s) = min ((s.now - at_) / usT) 0xFFFF := by
  have hmem := fld_setFlds_mem [(GLB_HALT_STATUS_HALTING, 0), (GLB_HALT_STATUS_HALTED, 1),
    (GLB_HALT_STATUS_LAST_DUR, durUs at_ 0xFFFF s)] { s with haltAt := none } (by simp [fieldOk]) (by simp [fieldsApart])
  simp only [List.forall_mem_cons] at hmem
  obtain ⟨hhalting, hhalted, hdur, -⟩ := hmem
  exact ⟨hhalting, hhalted, hdur.trans (Nat.mod_eq_of_lt (by unfold durUs; omega))⟩

theorem haltAllComplete_done {at_ : Nat} {s : State} (h : s.haltAt = some at_) (haborts : s.aborts = []) : haltAllComplete s
    = devFault 8 4 (min ((s.now - at_) / usT) 0x3FFF) (haltEnded at_ s) := by
  have hdur : min ((s.now - at_) / usT) 0x3FFF = durUs at_ 0x3FFF (haltEnded at_ s) := by
    rw [durUs, haltEnded, now_of_unit (unitPart_setFlds ..)]
  rw [hdur]
  simp only [haltAllComplete, h]
  exact if_neg (by simp [haborts])

/-- A write of GLB_HALT_CTRL that reaches it. -/
theorem regWrite_haltCtrl {a : Accessor} {s : State} (h : Reaches a s) (w : Word) :
    regWrite a rGLB_HALT_CTRL w [] s = hostFirst a rGLB_HALT_CTRL (haltCtrl a w (writeLatches a rGLB_HALT_CTRL s)) :=
  regWrite_direct h (by decide) (by decide) (by decide) w []

section
variable {a : Accessor} {w : Word} {s : State}

theorem haltCtrl_halts (hhalt : wfld GLB_HALT_CTRL_HALT_ALL w = 1) (hresume : wfld GLB_HALT_CTRL_RESUME w = 0) :
    haltCtrl a w s = haltAll 1 s := by
  simp only [haltCtrl, hhalt, hresume, if_true, Nat.zero_ne_one, if_false]

theorem haltCtrl_resumes (hhalt : wfld GLB_HALT_CTRL_HALT_ALL w = 0) (hresume : wfld GLB_HALT_CTRL_RESUME w = 1) :
    haltCtrl a w s = resume a s := by
  simp only [haltCtrl, hhalt, hresume, if_true, Nat.zero_ne_one, if_false]

end

/-- Does R436 discard RESUME? -/
def resumeRefused (s : State) : Prop :=
  flag GLB_HALT_STATUS_HALTING s = true ∨ flag GLB_THERM_STATUS_TRIPPED s = true ∨ isoOn s = true ∧ dieAct s = true

theorem resume_refused {a : Accessor} {s : State} (h : resumeRefused s) : resume a s = discard a rGLB_HALT_CTRL s := by
  rw [resume, if_pos]
  rcases h with h | h | ⟨hiso, hact⟩
  · simp [h]
  · simp [h]
  · simp [hiso, hact]

theorem resume_ends {a : Accessor} {s : State} (h : ¬ resumeRefused s) : resume a s = setFld GLB_HALT_STATUS_HALTED 0 s := by
  rw [resume, if_neg]
  simp only [Bool.or_eq_true, Bool.and_eq_true]
  rintro ((hhalting | hact) | htripped)
  · exact h (.inl hhalting)
  · exact h (.inr (.inr hact))
  · exact h (.inr (.inl htripped))

/-- Settles O24: each command on its condition, HALT_ALL and RESUME by the halt that the write finds. -/
theorem abortsAndHaltsAnswer : Obligations.AbortsAndHaltsAnswer := by
  constructor
  · intro t s u hu
    simp only [exec_abortComplete_awake hu, exec_haltAllComplete_awake hu]
    refine ⟨fun n a x y z h hscrub hrequests htransfers hz hy hx => ?abort, fun at_ h haborts => ?halt⟩
    case abort =>
      have hend : z = abortEnded n u := hz
      rw [hend] at hy ⊢
      rw [abortComplete_done h hscrub hrequests htransfers hy hx]
      exact ⟨aborting_abortEnded n u, rfl⟩
    case halt =>
      rw [haltAllComplete_done h haborts]
      obtain ⟨hhalting, hhalted, hdur⟩ := haltEnded_shows at_ u
      refine ⟨_, rfl, ?_, ?_, ?_, ?_, _, rfl⟩
      · exact (haltAt_of_unit (unitPart_devFault ..)).trans (haltAt_of_unit (unitPart_setFlds ..))
      · rw [fld_devFault (by decide), hhalted]
      · rw [fld_devFault (by decide), hhalting]
      · rw [fld_devFault (by decide), hdur]
  · intro t a w s u z hu hreach hz
    have hhalted : halted z = halted u := by rw [hz, halted, halted, flag_writeLatches, flag_writeLatches]
    have hrefused : resumeRefused z ↔ resumeRefused u := by
      have htherm : (writeLatches a rGLB_HALT_CTRL u).therm = u.therm :=
        (congrArg State.therm (latchless_writeLatches a rGLB_HALT_CTRL u) : _)
      simp only [hz, resumeRefused, isoOn, dieAct, flag_writeLatches, htherm]
    simp only [exec_haltAll_awake hu, exec_resume_awake hu, regWrite_haltCtrl hreach, ← hz]
    refine ⟨fun hall hresume => ?_, fun hall hresume => ?_⟩
    · rw [haltCtrl_halts hall hresume]
      refine ⟨fun h => ?starts, fun h => ?during⟩
      case starts =>
        have hnow : z.now = u.now := by rw [hz, writeLatches_now]
        rw [haltAll, if_neg (by rw [hhalted, h]; decide), hnow]
      case during => rw [haltAll, if_pos (hhalted.trans h), if_neg (by decide)]
    · rw [haltCtrl_resumes hall hresume]
      refine ⟨fun hhalting htripped hiso => ?ends, fun h => ?refused⟩
      case ends =>
        rw [resume_ends]
        rw [hrefused, resumeRefused, hhalting, htripped]
        rcases hiso with h | h <;> simp [h]
      case refused => rw [resume_refused (hrefused.mpr h)]

end Sys2Proof.Machine
end

/-! SUPPORT. Start-up and power-down (R501, R502, R508–R513). -/
section
namespace Sys2Proof.Machine

section
variable {t : Nat} {s u : State} (h : Awake t s u)
include h

theorem exec_refValid_awake : exec (.refValid t) s = .next (after u (refValid u)) := congrArg _ (command_awake h _)

theorem exec_computeHbm_awake : exec (.computeHbm t) s = .next (after u (computeHbm u)) := congrArg _ (command_awake h _)

theorem exec_sideband_awake : exec (.sideband t) s = .next (after u (sideband u)) := congrArg _ (command_awake h _)

theorem exec_optics_awake (cal : Map Int) : exec (.optics t cal) s = .next (after u (opticsStage cal u)) :=
  congrArg _ (command_awake h _)

theorem exec_bringUpPlan_awake : exec (.bringUpPlan t) s = .next (after u (bringUpPlan u)) := congrArg _ (command_awake h _)

theorem exec_ready_awake : exec (.ready t) s = .next (after u (readyStage u)) := congrArg _ (command_awake h _)

theorem exec_perstN_awake : exec (.perstN t) s = .next (after u (flrFunc 0 u)) := congrArg _ (command_awake h _)

theorem exec_fwReset_awake (a : Accessor) (w : Word) :
    exec (.fwReset t a w) s = .next (after u (regWrite a rGLB_RESET_CTRL w [] u)) := congrArg _ (command_awake h _)

theorem exec_refLost_awake : exec (.refLost t) s = .next (after u (refLost u)) := congrArg _ (command_awake h _)

theorem exec_powerDown_awake : exec (.powerDown t) s = .next (after u (powerDown u)) := congrArg _ (command_awake h _)

theorem exec_powerDownStep_awake : exec (.powerDownStep t) s = .next (after u (downStep u)) := congrArg _ (command_awake h _)

end

/-! ## The stages -/

/-- The fields that a stage's entry shows. -/
theorem enterStage_shows {n : Nat} (hn : n < 16) (s : State) : stage (enterStage n s) = n
    ∧ fld GLB_STARTUP_STATUS_STAGE_MS (enterStage n s) = min ((s.now - s.releaseAt) / msT) 0xFFFF := by
  have hmem := fld_setFlds_mem [(GLB_STARTUP_STATUS_STAGE, n), (GLB_STARTUP_STATUS_STAGE_MS, stageMs s)] s (by simp [fieldOk])
    (by simp [fieldsApart])
  simp only [List.forall_mem_cons] at hmem
  obtain ⟨hstage, hms, -⟩ := hmem
  exact ⟨hstage.trans (Nat.mod_eq_of_lt (by omega)), hms.trans (Nat.mod_eq_of_lt (by unfold stageMs; omega))⟩

theorem unitPart_enterStage (n : Nat) (s : State) : unitPart (enterStage n s) = unitPart s := unitPart_setFlds ..

/-- REF steered: the clocks locked, the times of AON begun. -/
def refSteered (s : State) : State :=
  { setReg rGLB_CLK_STATUS 0xFFFC0000 s with sdl := { s.sdl with refAt := some s.now, at_ := s.now, todAt := s.now } }

theorem refValid_steers {t : Nat} {s u : State} (h : Awake t s u) (hstage : stage u = 1) (hte : u.testEn = false) :
    refValid u = onFw (fun f => { f with phase := .rom, bootAt := u.now }) (enterStage 2 (refSteered u)) := by
  have hnow : (enterStage 2 (refSteered u)).now = (refSteered u).now := now_of_unit (unitPart_enterStage 2 _)
  have hrun : refValid u = onFw (fun f => { f with phase := .rom, bootAt := (enterStage 2 (refSteered u)).now })
      (enterStage 2 (refSteered u)) := if_neg (by simp [powered_of_awake h, released_of_awake h, hstage, hte])
  rw [hrun, hnow]
  rfl

theorem opticsStage_lights {s : State} (hstage : stage s = 4) (hroles : flag GLB_ROLE_STATUS_SET s = true)
    (hextents : s.extents = true) (cal : Map Int) : opticsStage cal s
      = loop (fun p s => bankEnable p (flag (OPT_BANK_CTRL_ENABLE p) s) (setFld (OPT_BANK_CTRL_ENABLE p) 1 s)) 6
        (setFld ANL_CTRL_ENABLE 1 (onAnl (fun x => { x with rxBegun := false }) (loadCal cal (enterStage 5 s)))) := by
  rw [opticsStage, if_neg (by simp [hstage, rolesWait, hroles, hextents])]

/-- A write of GLB_RESET_CTRL that reaches it. -/
theorem regWrite_resetCtrl {a : Accessor} {s : State} (h : Reaches a s) (w : Word) :
    regWrite a rGLB_RESET_CTRL w [] s = hostFirst a rGLB_RESET_CTRL (resetCtrl a w (writeLatches a rGLB_RESET_CTRL s)) :=
  regWrite_direct h (by decide) (by decide) (by decide) w []

/-- Settles O35: each stage on its condition, FW_RESET by its KEY and what the write finds. -/
theorem startUpAnswers : Obligations.StartUpAnswers := by
  constructor
  · intro t s u hu
    simp only [exec_refValid_awake hu, exec_computeHbm_awake hu, exec_sideband_awake hu, exec_optics_awake hu,
      exec_bringUpPlan_awake hu, exec_ready_awake hu, exec_perstN_awake hu]
    refine ⟨fun hstage hte => ?ref, fun hstage hphase => ?compute, fun hstage hscrub htrained => ?sideband,
      fun cal hstage hroles hextents => ?optics, fun hstage hsettled => ?plan, fun hstage hmst => ?ready, trivial⟩
    case ref =>
      obtain ⟨hat, hms⟩ := enterStage_shows (show 2 < 16 by decide) (refSteered u)
      have hunit := unitPart_enterStage 2 (refSteered u)
      rw [refValid_steers hu hstage hte]
      refine ⟨_, rfl, ?_, ?_, rfl, rfl, ?_, ?_⟩
      · rw [stage, fld_onFw, ← stage, hat]
      · rw [reg_onFw, enterStage, reg_setFlds_other _ _ (by simp),
          reg_congr (show (refSteered u).regs = (setReg rGLB_CLK_STATUS 0xFFFC0000 u).regs from rfl), reg_setReg_same]
      · rw [onFw_sdl, sdl_of_unit hunit]
        rfl
      · rw [fld_onFw, hms, show (refSteered u).now = u.now from rfl, show (refSteered u).releaseAt = u.releaseAt from rfl]
    case compute => rw [computeHbm, if_neg (by simp [hstage, hphase])]
    case sideband =>
      rw [sideband, if_neg (by simp [hstage, hscrub, htrained])]
      refine ⟨_, rfl, rfl, ?_⟩
      rw [stage, fld_setFld_other (by decide) (by decide) (by decide)]
      exact (enterStage_shows (show 4 < 16 by decide) u).1
    case optics => rw [opticsStage_lights hstage hroles hextents]
    case plan =>
      rw [bringUpPlan, if_neg (by simp [hstage, hsettled])]
      exact ⟨_, _, _, rfl, rfl, rfl, rfl⟩
    case ready => rw [readyStage, if_pos ⟨hstage, hmst⟩]
  · intro t a w s u z hu hreach hz
    have hstage : stage z = stage u := by rw [hz, stage, stage, fld_writeLatches]
    have hhalting : flag GLB_HALT_STATUS_HALTING z = flag GLB_HALT_STATUS_HALTING u := by rw [hz, flag_writeLatches]
    rw [exec_fwReset_awake hu, regWrite_resetCtrl hreach, ← hz]
    refine ⟨fun h => ?none, fun h hkey hup hno => ?resets, fun h hbad => ?discards⟩
    case none => rw [resetCtrl, if_pos h]
    case resets => rw [resetCtrl, if_neg (by omega), if_neg (by simp [hkey, hstage, hup, hhalting, hno])]
    case discards => rw [resetCtrl, if_neg (by omega), if_pos (by rw [hstage, hhalting]; exact hbad)]

/-! ## Power-down -/

theorem downStep_early {s : State} {t k : Nat} (h : s.down = some (t, k)) (hearly : s.now < t + downTime k) : downStep s = s := by
  simp only [downStep, h, if_pos (Or.inr hearly)]

theorem downStep_due {s : State} {t k : Nat} (h : s.down = some (t, k)) (hk : k < 4) (hdue : t + downTime k ≤ s.now) :
    downStep s = downAct k { s with down := some (t, k + 1) } := by
  simp only [downStep, h, if_neg (show ¬(4 ≤ k ∨ s.now < t + downTime k) by omega)]

/-- The third step takes the locks and the link from view. -/
theorem downAct_unlocks (s : State) : fld GLB_CLK_STATUS_PLL_C_LOCK (downAct 2 s) = 0 ∧ fld GLB_PCIE_STATUS_LINK_UP (downAct 2 s) = 0 := by
  refine ⟨?_, fld_setFld_same GLB_PCIE_STATUS_LINK_UP (by decide) 0 _⟩
  have hmem := fld_setFlds_mem [(GLB_CLK_STATUS_PLL_C_LOCK, 0), (GLB_CLK_STATUS_PLL_P_LOCK, 0), (GLB_CLK_STATUS_PLL_L_LOCK, 0),
    (GLB_CLK_STATUS_PLL_H_LOCK, 0)] s (by decide) (by decide) (GLB_CLK_STATUS_PLL_C_LOCK, 0) (.head _)
  exact (fld_setFld_other (by decide) (by decide) (by decide) ..).trans hmem

/-- Settles O36: power-down by what begins it, and its steps by their times. -/
theorem powerDownAnswers : Obligations.PowerDownAnswers := by
  intro t s u hu
  simp only [exec_powerDown_awake hu, exec_refLost_awake hu, exec_powerDownStep_awake hu]
  refine ⟨fun hlow hdown hlong => ?begins, fun href z hz => ⟨fun hdown => ?lost, fun hdown => ?lostAgain⟩,
    fun t0 k hdown hk => ⟨fun hdue => ?step, fun hearly => ?early⟩⟩
  case begins =>
    have hunit := unitPart_enterStage 9 { u with down := some (u.pwrLowAt, 0) }
    rw [powerDown, if_neg (by simp [hlow, powered_of_awake hu, released_of_awake hu, hdown, hlong])]
    exact ⟨_, rfl, down_of_unit hunit, (enterStage_shows (by decide) _).1, (hbm_of_unit hunit).trans rfl, (link_of_unit hunit).trans rfl⟩
  case lost =>
    rw [refLost, if_neg (by simp [href]), hz]
    exact congrArg (fun v => Host.Outcome.next (after u v)) (if_neg (show ¬ u.down.isSome = true by simp [hdown]))
  case lostAgain =>
    rw [refLost, if_neg (by simp [href]), hz]
    exact congrArg (fun v => Host.Outcome.next (after u v)) (if_pos (show u.down.isSome = true from Option.isSome_iff_ne_none.mpr hdown))
  case step =>
    rw [downStep_due hdown hk hdue]
    refine ⟨_, rfl, rfl, ?_, ?_⟩
    · rintro (rfl | rfl) <;> rfl
    · rintro rfl
      exact downAct_unlocks _
  case early => rw [downStep_early hdown hearly]

end Sys2Proof.Machine
end

/-! SUPPORT. What an abort and the CSC's end leave of the time (R433, R511). -/
section
namespace Sys2Proof.Machine

/-- The time of a state. -/
@[irreducible] def timeOf (s : State) : Nat := s.now

theorem timeOf_eq (s : State) : timeOf s = s.now := by rw [timeOf]

theorem timeOf_congr {s v : State} (h : v.now = s.now) : timeOf v = timeOf s := by rw [timeOf_eq, timeOf_eq, h]

theorem timeOf_of_unit {s v : State} (h : unitPart v = unitPart s) : timeOf v = timeOf s := timeOf_congr (now_of_unit h)

theorem timeOf_of_linkless {s v : State} (h : linklessPart v = linklessPart s) : timeOf v = timeOf s :=
  timeOf_congr (now_of_linkless h)

@[simp] theorem timeOf_setFld (f : Fld) (v : Nat) (s : State) : timeOf (setFld f v s) = timeOf s := timeOf_congr (setFld_now ..)

@[simp] theorem timeOf_setReg (off : Nat) (w : Word) (s : State) : timeOf (setReg off w s) = timeOf s :=
  timeOf_congr (setReg_now ..)

@[simp] theorem timeOf_setFlds (fs : List (Fld × Nat)) (s : State) : timeOf (setFlds fs s) = timeOf s :=
  timeOf_of_unit (unitPart_setFlds ..)

@[simp] theorem timeOf_onTally (f : Tally → Tally) (s : State) : timeOf (onTally f s) = timeOf s := timeOf_congr (onTally_now ..)

@[simp] theorem timeOf_onSeq (f : Seq → Seq) (s : State) : timeOf (onSeq f s) = timeOf s := timeOf_congr (onSeq_now ..)

@[simp] theorem timeOf_onRun (f : Run → Run) (s : State) : timeOf (onRun f s) = timeOf s := timeOf_onSeq ..

@[simp] theorem timeOf_onQueue (n : Nat) (f : Queue → Queue) (s : State) : timeOf (onQueue n f s) = timeOf s :=
  timeOf_congr (onQueue_now ..)

@[simp] theorem timeOf_onFunc (n : Nat) (f : Func → Func) (s : State) : timeOf (onFunc n f s) = timeOf s :=
  timeOf_congr (onFunc_now ..)

@[simp] theorem timeOf_onCsc (f : Csc → Csc) (s : State) : timeOf (onCsc f s) = timeOf s := timeOf_congr (onCsc_now ..)

@[simp] theorem timeOf_meterAdd (k p x : Nat) (s : State) : timeOf (meterAdd k p x s) = timeOf s :=
  timeOf_congr (meterAdd_now ..)

/-! ## The Tally unit -/

@[simp] theorem timeOf_complete (n q k st d x : Nat) (s : State) : timeOf (complete n q k st d x s) = timeOf s :=
  timeOf_congr (now_of_queueless (queueless_complete ..))

@[simp] theorem timeOf_completeCmd (c : Option (Nat × Nat × Nat)) (st d x : Nat) (s : State) :
    timeOf (completeCmd c st d x s) = timeOf s := timeOf_congr (now_of_queueless (queueless_completeCmd ..))

@[simp] theorem timeOf_capEvent (k p b c d : Nat) (l : List Byte) (s : State) : timeOf (capEvent k p b c d l s) = timeOf s :=
  timeOf_congr (now_of_eventless (eventless_capEvent ..))

@[simp] theorem timeOf_tallyFault (n kind src id rel : Nat) (s : State) : timeOf (tallyFault n kind src id rel s) = timeOf s :=
  timeOf_of_unit (by simp [tallyFault])

@[simp] theorem timeOf_refuseSlot (u : Nat) (w : Waiter) (s : State) : timeOf (refuseSlot u w s) = timeOf s := by
  unfold refuseSlot
  split
  · rfl
  · split <;> exact timeOf_congr rfl

@[simp] theorem timeOf_moveTally (i v : Nat) (s : State) : timeOf (moveTally i v s) = timeOf s := by
  simp only [moveTally, setTally, timeOf_onTally]

@[simp] theorem timeOf_noteSrc (i k : Nat) (src : Word) (s : State) : timeOf (noteSrc i k src s) = timeOf s := timeOf_onTally ..

theorem timeOf_tallyOp (u : Nat) (due : List TOp) (op : TOp) (s : State) : timeOf (tallyOp u due op s) = timeOf s := by
  cases op with
  | register e w =>
    simp only [tallyOp]
    split
    · split
      · rw [timeOf_refuseSlot, timeOf_tallyFault]
      · exact timeOf_onTally ..
    · exact timeOf_onTally ..
  | fault m kind rel => exact timeOf_tallyFault ..
  | touch => rfl
  | unwatch e gen =>
    simp only [tallyOp]
    exact timeOf_onTally ..
  | inc m rel v src cmd =>
    simp only [tallyOp]
    split
    · rw [timeOf_completeCmd, timeOf_tallyFault]
    · rw [timeOf_completeCmd]
      split
      · rw [timeOf_capEvent, timeOf_noteSrc, timeOf_moveTally]
      · rw [timeOf_noteSrc, timeOf_moveTally]
  | rebase e w =>
    simp only [tallyOp]
    rw [timeOf_onTally, timeOf_noteSrc]
    exact forAll_keeps (g := timeOf) (fun _ _ => timeOf_moveTally ..) ..
  | hostWake m sq seq v =>
    simp only [tallyOp]
    exact timeOf_complete ..

theorem timeOf_groupWake (u : Nat) (op : TOp) (s : State) : timeOf (groupWake u op s) = timeOf s := by
  unfold groupWake
  split
  · split
    · exact timeOf_onTally ..
    · rfl
  · rfl

theorem timeOf_satisfy (u e : Nat) (w : Watch) (s : State) : timeOf (satisfy u e w s) = timeOf s := by
  unfold satisfy
  split
  · split
    · rfl
    · exact timeOf_onTally ..
  · split <;> simp only [timeOf_onTally]

theorem timeOf_tallyCycle (u : Nat) (s : State) : timeOf (tallyCycle u s) = timeOf s := by
  unfold tallyCycle
  extract_lets due s1 s2 s3
  have hopen : timeOf s1 = timeOf s := by
    show timeOf (openCycle _ _) = _
    unfold openCycle
    split <;> simp only [timeOf_onTally]
  have hops : timeOf s2 = timeOf s1 := forAll_keeps (g := timeOf) (fun _ _ => timeOf_tallyOp ..) ..
  have hwakes : timeOf s3 = timeOf s2 := forAll_keeps (g := timeOf) (fun _ _ => timeOf_groupWake ..) ..
  rw [← hopen, ← hops, ← hwakes]
  refine forAll_keeps (g := timeOf) (fun p t => ?_) ..
  split
  · exact timeOf_satisfy ..
  · rfl

theorem timeOf_tallyRun (s : State) : timeOf (tallyRun s) = timeOf s := by
  unfold tallyRun
  generalize 3 * s.tally.ops.length + s.tally.watch.length + 1 = fuel
  induction fuel generalizing s with
  | zero => rfl
  | succ fuel ih =>
    unfold tallyAdvance
    split
    · rfl
    · split
      · rfl
      · rw [ih, timeOf_tallyCycle]

/-! ## The end of a run -/

theorem timeOf_countHolds (c : Nat) (s : State) : timeOf (countHolds c s) = timeOf s := by
  rw [countHolds, timeOf_onRun, accrueHold]
  split
  · rfl
  · split
    · rfl
    · simp only [addSat, timeOf_onRun, timeOf_setFld]

theorem timeOf_meterRun (upTo : Nat) (s : State) : timeOf (meterRun upTo s) = timeOf s := by
  unfold meterRun
  split
  · split
    · rw [timeOf_onSeq, timeOf_meterAdd]
    · rfl
  · rfl

theorem timeOf_disarmed (s : State) : timeOf (setTrig none s) = timeOf s := (timeOf_setFlds ..).trans (timeOf_onCsc ..)

theorem timeOf_runDisarm (n : Nat) (s : State) : timeOf (runDisarm n s) = timeOf s := by
  unfold runDisarm
  split
  · split
    · exact timeOf_disarmed s
    · rfl
  · rfl

theorem timeOf_runEnd (cause : Nat) (s : State) : timeOf (runEnd cause s) = timeOf s := by
  unfold runEnd
  split
  · rfl
  · extract_lets s1 s2 s3 s4 s5 s6 s7 cmd s8 s9
    have hheld : timeOf s2 = timeOf s := (timeOf_countHolds ..).trans (timeOf_tallyRun s)
    have hcaptured : timeOf s4 = timeOf s := (timeOf_capEvent ..).trans ((timeOf_meterRun ..).trans hheld)
    have hdisarmed : timeOf s6 = timeOf s := (timeOf_runDisarm ..).trans ((timeOf_onTally ..).trans hcaptured)
    have hcleared : timeOf s8 = timeOf s := (timeOf_onSeq ..).trans ((timeOf_onTally ..).trans ((timeOf_setFlds ..).trans hdisarmed))
    have h : timeOf s9 = timeOf s := (timeOf_congr rfl : timeOf s9 = timeOf s8).trans hcleared
    split
    · exact h
    · rw [timeOf_completeCmd, h]

/-! ## An abort -/

theorem timeOf_dropDescs (n : Nat) (s : State) : timeOf (dropDescs n s) = timeOf s := by
  unfold dropDescs
  split
  · rfl
  · exact timeOf_congr rfl

theorem timeOf_dropLoads (n : Nat) (s : State) : timeOf (dropLoads n s) = timeOf s := by
  unfold dropLoads
  extract_lets s1
  have hprogram : timeOf s1 = timeOf s := by
    show timeOf (if _ then _ else _) = _
    split
    · rw [dropImage, timeOf_onSeq, timeOf_onSeq]
    · rfl
  split
  · rw [timeOf_setFld, timeOf_dropDescs, ← hprogram]
    exact timeOf_congr rfl
  · exact hprogram

theorem timeOf_cancelHost (n : Nat) (status : Option Nat) (s : State) : timeOf (cancelHost n status s) = timeOf s := by
  refine forAll_keeps (g := timeOf) (fun p v => ?_) ..
  cases status with
  | none => exact timeOf_onTally ..
  | some st => exact (timeOf_complete ..).trans (timeOf_onTally ..)

theorem timeOf_cutPlotSends (n : Nat) (record : Bool) (s : State) : timeOf (cutPlotSends n record s) = timeOf s :=
  forAll_keeps (g := timeOf) (fun _ _ => timeOf_of_linkless (linkless_cutSends ..)) ..

theorem timeOf_cutPlotPosts (n : Nat) (record : Bool) (s : State) : timeOf (cutPlotPosts n record s) = timeOf s :=
  forAll_keeps (g := timeOf) (fun _ _ => timeOf_of_linkless (linkless_cutPosts ..)) ..

theorem timeOf_abortObjects (n : Nat) (s : State) : timeOf (abortObjects n s) = timeOf s := by
  unfold abortObjects
  extract_lets s1 s2 s3 s4
  have hrun : timeOf s1 = timeOf s := by
    show timeOf (if _ then _ else _) = _
    split
    · exact timeOf_runEnd ..
    · rfl
  have hdropped : timeOf s2 = timeOf s1 := by
    rw [show s2 = cancelSeq n (tallyRun (runDisarm n (dropLoads n (dropRunnable n s1)))) from rfl, cancelSeq, timeOf_onTally,
      timeOf_tallyRun, timeOf_runDisarm, timeOf_dropLoads, dropRunnable, timeOf_onSeq]
  have hended : timeOf (endRequests n s2) = timeOf s2 := timeOf_congr rfl
  have hcut : timeOf s3 = timeOf s2 := (timeOf_cutPlotPosts ..).trans ((timeOf_cutPlotSends ..).trans hended)
  have hfenced : timeOf s4 = timeOf s3 := (timeOf_onFunc ..).trans (timeOf_cancelHost ..)
  have hparted (x : Option Nat) (v : State) : timeOf { v with linkPlot := x } = timeOf v := timeOf_congr rfl
  rw [hparted, hfenced, hcut, hdropped, hrun]

theorem timeOf_abortCmds (n : Nat) (start : Option (Nat × Nat × Nat)) (s : State) : timeOf (abortCmds n start s) = timeOf s := by
  unfold abortCmds
  extract_lets x all s1 s2
  have hpassed : timeOf s1 = timeOf s := forAll_keeps (g := timeOf) (fun _ _ => timeOf_onQueue ..) ..
  have hstaged : timeOf s2 = timeOf s1 := timeOf_onQueue ..
  rw [← hpassed, ← hstaged]
  refine forAll_keeps (g := timeOf) (fun c v => ?_) ..
  split
  · rfl
  · exact timeOf_complete ..

theorem timeOf_scrubBegin (s : State) : timeOf (scrubBegin s) = timeOf s := by
  have htimed (x : Seq) (v : State) : timeOf { v with seq := x } = timeOf v := timeOf_congr rfl
  have hstorage (v : State) : timeOf (scrubStorage v) = timeOf v := timeOf_congr rfl
  unfold scrubBegin
  rw [htimed, hstorage, timeOf_setFld]

theorem timeOf_idleRest (n : Nat) (s : State) : timeOf (idleRest n s) = timeOf s := by
  unfold idleRest
  split
  · rw [timeOf_setFld, timeOf_scrubBegin]
    exact timeOf_congr rfl
  · rfl

theorem timeOf_abortStart (n code : Nat) (cmd : Option (Nat × Nat)) (s : State) : timeOf (abortStart n code cmd s) = timeOf s := by
  unfold abortStart
  split
  · exact timeOf_congr rfl
  · extract_lets start s1 s2
    have hmarked : timeOf s1 = timeOf s := (timeOf_setFld ..).trans (timeOf_congr rfl)
    have hbegun : timeOf s2 = timeOf s1 := by
      show timeOf (if _ then _ else _) = _
      split
      · exact timeOf_of_unit (unitPart_raise ..)
      · rfl
    rw [timeOf_idleRest, timeOf_abortCmds, timeOf_abortObjects, hbegun, hmarked]

/-! ## Power-down -/

theorem timeOf_cscOff (s : State) : timeOf (cscOff s) = timeOf s := by
  unfold cscOff
  extract_lets s1 s2 s3
  have hcleared (v : State) : timeOf (clearEntries v) = timeOf v := timeOf_congr rfl
  have helements (v : State) : timeOf (elementsOff v) = timeOf v := timeOf_congr rfl
  have hstatus : timeOf s2 = timeOf s1 :=
    (hcleared ..).trans (loop_keeps (g := timeOf) (fun _ _ => timeOf_setReg ..) 8 s1)
  have hlinks : timeOf s3 = timeOf s2 := by
    refine forAll_keeps (g := timeOf) (fun x v => ?_) ..
    split
    · rfl
    · exact timeOf_of_linkless (linkless_setPhase ..)
  rw [timeOf_onCsc, timeOf_setReg, helements, hlinks, hstatus]
  exact timeOf_disarmed s

/-- Power-down begins at its instant. -/
theorem downBegin_now (t : Nat) (s : State) : (downBegin t s).now = s.now := by
  have haborts (v : State) :
      timeOf (forAll (fun n s => if plotState n s = 0 then s else abortStart n 1 none s) (List.range 16) v) = timeOf v := by
    refine forAll_keeps (g := timeOf) (fun n v => ?_) ..
    split
    · rfl
    · exact timeOf_abortStart ..
  have hdown (x : Option (Nat × Nat)) (v : State) : timeOf { v with down := x } = timeOf v := timeOf_congr rfl
  rw [← timeOf_eq, ← timeOf_eq, downBegin, timeOf_cscOff, haborts, enterStage, timeOf_setFlds, hdown]

end Sys2Proof.Machine
end

/-! SUPPORT. Power and reset (R459, R464, R499, R503–R505, R511, R513, R525, R549). -/
section
namespace Sys2Proof.Machine

theorem exec_powerOnReset (t : Nat) (s : State) :
    exec (.powerOnReset t) s = .next (afterPower (clockTo t s) (powerOnReset (clockTo t s))) := rfl

theorem exec_powerLoss (t : Nat) (s : State) :
    exec (.powerLoss t) s = .next (afterPower (clockTo t s) (powerLoss (clockTo t s))) := rfl

theorem exec_pinReset (t : Nat) (lost : List Nat) (s : State) :
    exec (.pinReset t lost) s = .next (afterPower (clockTo t s) (pinResetCmd lost (clockTo t s))) := rfl

theorem exec_firmwareReset (t : Nat) (lost : List Nat) (s : State) :
    exec (.firmwareReset t lost) s = .next (afterPower (clockTo t s) (firmwareReset lost (clockTo t s))) := rfl

theorem exec_resetRelease (t : Nat) (sel : Bool) (addr : Nat) (te : Bool) (s : State) :
    exec (.resetRelease t sel addr te) s = .next (afterPower (clockTo t s) (resetRelease sel addr te (clockTo t s))) := rfl

theorem exec_pwrfailFall (t : Nat) (s : State) :
    exec (.pwrfailFall t) s = .next (afterPower (clockTo t s) (pwrFall (clockTo t s))) := rfl

theorem exec_pwrfailRise (t : Nat) (s : State) :
    exec (.pwrfailRise t) s = .next (afterPower (clockTo t s) (pwrRise (clockTo t s))) := rfl

/-! ## What a reset keeps -/

/-- The outputs that a reset lets go of are all it does to them. -/
theorem outputsReset_out (s : State) : ∃ o, outputsReset s = { s with out := o } := by
  have hloop (f : Nat → State → State) (hf : ∀ n v, ∃ o, f n v = { v with out := o }) (n : Nat) (v : State) :
      ∃ o, loop f n v = { v with out := o } := by
    induction n with
    | zero => exact ⟨v.out, rfl⟩
    | succ n ih =>
      obtain ⟨o, ho⟩ := ih
      obtain ⟨o', ho'⟩ := hf n { v with out := o }
      exact ⟨o', by rw [loop, ho, ho']⟩
  have hif (c : Bool) (x : Out) (v : State) : ∃ o, (if c then emit x v else v) = { v with out := o } := by
    cases c
    · exact ⟨v.out, rfl⟩
    · exact ⟨_, rfl⟩
  unfold outputsReset
  extract_lets s1 s2
  obtain ⟨o1, h1⟩ := hif s.thermtrip (.pin .thermtripN true) s
  obtain ⟨o2, h2⟩ := hif (flag GLB_SFIFO_STATUS_HOLD s1) (.pin .flowHoldN true) s1
  obtain ⟨o3, h3⟩ := hloop (fun n s => if (get {} n s.sdl.pin).fall.isSome then emit (.pin (.tpOut n) false) s else s)
    (fun n v => hif ..) 4 s2
  refine ⟨o3, h3.trans ?_⟩
  rw [show s2 = _ from h2, show s1 = _ from h1]

/-- A part reset: what `bare` keeps of it, whatever its outputs. -/
theorem bare_outputsReset (s : State) : ∃ o, bare (outputsReset s) = bare { s with out := o } := by
  obtain ⟨o, h⟩ := outputsReset_out s
  exact ⟨o, by rw [h]⟩

theorem powerOnReset_shows (s : State) : ∃ v, powerOnReset s = v ∧ reg rGLB_RESET_CAUSE v = 0x80000000
    ∧ (∀ o, o ≠ rGLB_RESET_CAUSE → reg o v = reg o State.reset) ∧ v.powered = true ∧ v.inReset = true
    ∧ v.hbm.byte = [] ∧ v.cores.sram = [] ∧ v.tally = State.reset.tally ∧ v.recs = [] ∧ v.sfifo = [] ∧ v.meter = []
    ∧ v.nor = s.nor ∧ v.mram = s.mram ∧ v.fuses = s.fuses := by
  obtain ⟨o, h⟩ := bare_outputsReset s
  refine ⟨_, rfl, ?_⟩
  unfold powerOnReset
  rw [h]
  refine ⟨reg_setReg_same .., fun o' ho => ?_, rfl, rfl, rfl, rfl, rfl, rfl, rfl, rfl, rfl, rfl, rfl⟩
  rw [reg_setReg_other ho]
  exact reg_congr rfl _

theorem powerLoss_shows (s : State) : ∃ v, powerLoss s = v ∧ v.powered = false ∧ v.regs = State.reset.regs ∧ v.flush = none
    ∧ v.nor = s.nor ∧ v.mram = s.mram ∧ v.fuses = s.fuses := by
  obtain ⟨o, h⟩ := bare_outputsReset s
  refine ⟨_, rfl, ?_⟩
  unfold powerLoss
  rw [h]
  exact ⟨rfl, rfl, rfl, rfl, rfl, rfl⟩

/-! ## A pin reset -/

/-- The registers of a reset by pin or firmware, over those of `bare`. -/
theorem reg_keptRegs_other (firmware : Bool) (s b : State) {o : Nat}
    (h : o ≠ rGLB_RESET_CAUSE ∧ o ≠ rHMK_STATUS ∧ o ≠ rHBM_CTRL ∧ o ≠ rHMK_FAULT_STATUS) :
    reg o (keptRegs firmware s b) = reg o b := by
  obtain ⟨hcause, hstatus, hctrl, hfault⟩ := h
  unfold keptRegs
  rw [reg_setReg_other hcause, reg_setFlds_other _ _ (by simp [hstatus, hctrl]), reg_setReg_other hfault]

theorem setFlds_only (fs : List (Fld × Nat)) : ∀ s, ∃ r, setFlds fs s = { s with regs := r } := by
  induction fs with
  | nil => exact fun s => ⟨s.regs, rfl⟩
  | cons x fs ih =>
    intro s
    obtain ⟨r, h⟩ := ih (setFld x.1 x.2 s)
    exact ⟨r, h⟩

theorem keptRegs_only (firmware : Bool) (s b : State) : ∃ r, keptRegs firmware s b = { b with regs := r } := by
  obtain ⟨r, h⟩ := setFlds_only
    [(HMK_STATUS_PRESERVED, 1), (HMK_STATUS_CLEARING, 0), (HBM_CTRL_RATE_CEIL, fld HBM_CTRL_RATE_CEIL s)]
    (setReg rHMK_FAULT_STATUS (reg rHMK_FAULT_STATUS s) b)
  simp only [keptRegs, h]
  exact ⟨_, rfl⟩

/-- The fields that a reset by pin or firmware shows. -/
theorem keptRegs_shows (firmware : Bool) (s b : State) :
    fld GLB_RESET_CAUSE_PIN_COUNT (keptRegs firmware s b) = min (fld GLB_RESET_CAUSE_PIN_COUNT s + 1) 0xFFFF
    ∧ fld HMK_STATUS_PRESERVED (keptRegs firmware s b) = 1 ∧ reg rHMK_FAULT_STATUS (keptRegs firmware s b) = reg rHMK_FAULT_STATUS s
    ∧ fld HBM_CTRL_RATE_CEIL (keptRegs firmware s b) = fld HBM_CTRL_RATE_CEIL s := by
  have hmem := fld_setFlds_mem
    [(HMK_STATUS_PRESERVED, 1), (HMK_STATUS_CLEARING, 0), (HBM_CTRL_RATE_CEIL, fld HBM_CTRL_RATE_CEIL s)]
    (setReg rHMK_FAULT_STATUS (reg rHMK_FAULT_STATUS s) b) (by simp [fieldOk]) (by simp [fieldsApart])
  simp only [List.forall_mem_cons] at hmem
  obtain ⟨hpreserved, -, hceil, -⟩ := hmem
  unfold keptRegs
  refine ⟨?count, ?_, ?_, ?_⟩
  case count =>
    rw [fld, reg_setReg_same, BitVec.toNat_ofNat, causeWord]
    show _ >>> 0 % 2 ^ 16 = _
    rw [Nat.shiftRight_zero]
    split <;> omega
  · rw [fld, reg_setReg_other (by decide)]
    exact hpreserved
  · rw [reg_setReg_other (by decide), reg_setFlds_other _ _ (by simp), reg_setReg_same]
  · rw [fld, reg_setReg_other (by decide)]
    exact hceil.trans (Nat.mod_mod ..)

/-- What a reset by pin or firmware writes over, its registers apart. -/
def pinKept (lost : List Nat) (s b : State) : State :=
  { b with
    hbm := hbmKept lost s.hbm
    recs := s.recs
    recFault := { rnum := s.recFault.rnum }
    recTrace := { rnum := s.recTrace.rnum }
    fw := { fall := s.fw.fall, slot := s.fw.slot }
    strapI3c := s.strapI3c
    strapAddr := s.strapAddr
    testEn := s.testEn
    pwrHigh := s.pwrHigh
    pwrHighAt := s.pwrHighAt
    pwrLowAt := s.pwrLowAt
    bkpFail := s.bkpFail }

theorem pinReset_eq (firmware : Bool) (lost : List Nat) (s : State) :
    ∃ o, pinReset firmware lost s = keptRegs firmware s (pinKept lost s (bare { s with out := o })) := by
  obtain ⟨o, h⟩ := bare_outputsReset s
  refine ⟨o, ?_⟩
  unfold pinReset
  rw [h]
  rfl

theorem pinReset_registers (firmware : Bool) (lost : List Nat) (s : State) :
    fld GLB_RESET_CAUSE_PIN_COUNT (pinReset firmware lost s) = min (fld GLB_RESET_CAUSE_PIN_COUNT s + 1) 0xFFFF
    ∧ fld HMK_STATUS_PRESERVED (pinReset firmware lost s) = 1 ∧ flag HMK_CTRL_ENABLE (pinReset firmware lost s) = false
    ∧ reg rHMK_FAULT_STATUS (pinReset firmware lost s) = reg rHMK_FAULT_STATUS s
    ∧ fld HBM_CTRL_RATE_CEIL (pinReset firmware lost s) = fld HBM_CTRL_RATE_CEIL s := by
  obtain ⟨o, h⟩ := pinReset_eq firmware lost s
  obtain ⟨hcount, hpreserved, hfault, hceil⟩ := keptRegs_shows firmware s (pinKept lost s (bare { s with out := o }))
  have hreg : reg rHMK_CTRL (pinReset firmware lost s) = reg rHMK_CTRL State.reset := by
    rw [h, reg_keptRegs_other firmware s _ (by decide)]
    exact reg_congr rfl _
  refine ⟨h ▸ hcount, h ▸ hpreserved, ?_, h ▸ hfault, h ▸ hceil⟩
  rw [flag, fld, hreg]
  decide

theorem pinReset_units (firmware : Bool) (lost : List Nat) (s : State) : (pinReset firmware lost s).inReset = true
    ∧ (pinReset firmware lost s).recs = s.recs ∧ (pinReset firmware lost s).recFault.rnum = s.recFault.rnum
    ∧ (pinReset firmware lost s).recTrace.rnum = s.recTrace.rnum ∧ (pinReset firmware lost s).hbm = hbmKept lost s.hbm
    ∧ (pinReset firmware lost s).nor = s.nor ∧ (pinReset firmware lost s).mram = s.mram
    ∧ (pinReset firmware lost s).fuses = s.fuses ∧ (pinReset firmware lost s).strapI3c = s.strapI3c
    ∧ (pinReset firmware lost s).cores.sram = [] ∧ (pinReset firmware lost s).sfifo = [] := by
  obtain ⟨o, h⟩ := pinReset_eq firmware lost s
  obtain ⟨r, hr⟩ := keptRegs_only firmware s (pinKept lost s (bare { s with out := o }))
  rw [h, hr]
  exact ⟨rfl, rfl, rfl, rfl, rfl, rfl, rfl, rfl, rfl, rfl, rfl⟩

/-! ## The release, and PWRFAIL_N -/

theorem startUp_shows (s : State) : (startUp s).inReset = false ∧ stage (startUp s) = 1 ∧ (startUp s).releaseAt = s.now
    ∧ (startUp s).strapI3c = s.strapI3c ∧ (startUp s).strapAddr = s.strapAddr ∧ (startUp s).testEn = s.testEn := by
  have hunit := unitPart_enterStage 1 { s with inReset := false, releaseAt := s.now }
  exact ⟨inReset_of_unit hunit, (enterStage_shows (by decide) _).1, (releaseAt_of_unit hunit).trans rfl,
    (strapI3c_of_unit hunit).trans rfl, (strapAddr_of_unit hunit).trans rfl, (testEn_of_unit hunit).trans rfl⟩

theorem powerDown_idle {s : State} (h : s.inReset = true ∨ s.powered = false ∨ s.down ≠ none ∨ s.now < s.pwrLowAt + 20 * usT) :
    powerDown s = s := by
  rw [powerDown, if_pos]
  rcases h with h | h | h | h
  · simp [h]
  · simp [h]
  · simp [Option.isSome_iff_ne_none.mpr h]
  · simp [h]

theorem powerDown_begins {s : State} (hlow : s.pwrHigh = false) (hreset : s.inReset = false) (hpowered : s.powered = true)
    (hdown : s.down = none) (hlong : s.pwrLowAt + 20 * usT ≤ s.now) : powerDown s = downBegin s.pwrLowAt s := by
  rw [powerDown, if_neg (by simp [hlow, hreset, hpowered, hdown, hlong])]

/-- Settles O34: each command of power and reset, by what it keeps and what it shows. -/
theorem resetsAnswer : Obligations.ResetsAnswer := by
  intro t s u hu
  simp only [exec_powerOnReset, exec_powerLoss, exec_pinReset, exec_firmwareReset, exec_resetRelease, exec_pwrfailFall,
    exec_pwrfailRise, ← hu]
  refine ⟨?por, ?loss, fun lost hpowered => ?pin, fun lost hpowered => ?pinOff, fun lost hpowered hreset hdue hhalting => ?firmware,
    fun sel addr te hpowered hreset => ?release, fun hhigh => ⟨fun h => ?fallAsleep, fun hreset hpowered => ?fall⟩,
    fun hlow => ⟨fun h => ?rise, fun hreset hpowered hdown hlong => ?riseLate⟩⟩
  case por =>
    obtain ⟨v, rfl, h⟩ := powerOnReset_shows u
    exact ⟨_, rfl, h⟩
  case loss =>
    obtain ⟨v, rfl, h⟩ := powerLoss_shows u
    exact ⟨_, rfl, h⟩
  case pin =>
    obtain ⟨hcount, hpreserved, henable, hfault, hceil⟩ := pinReset_registers false lost u
    obtain ⟨hreset, hrecs, hrnumF, hrnumT, hhbm, hnor, hmram, hfuses, hstrap, hsram, hsfifo⟩ := pinReset_units false lost u
    rw [pinResetCmd, if_pos hpowered]
    exact ⟨_, rfl, hreset, hcount, hpreserved, henable, hfault, hceil, hrecs, hrnumF, hrnumT, congrArg Hbm.byte hhbm,
      congrArg Hbm.word hhbm, hnor, hmram, hfuses, hstrap, hsram, hsfifo⟩
  case pinOff => rw [pinResetCmd, if_neg (by simp [hpowered])]
  case firmware => rw [firmwareReset, if_neg (by simp [hpowered, hreset, hdue, hhalting])]
  case release =>
    rw [resetRelease, if_neg (by simp [hpowered, hreset])]
    exact ⟨_, rfl, startUp_shows _⟩
  case fallAsleep =>
    rw [pwrFall, if_neg (by simp [hhigh])]
    exact congrArg (fun v => Host.Outcome.next (afterPower u v)) (if_pos (by simpa using h))
  case fall =>
    rw [pwrFall, if_neg (by simp [hhigh])]
    exact congrArg (fun v => Host.Outcome.next (afterPower u v)) (if_neg (by simp [hreset, hpowered]))
  case rise =>
    rw [pwrRise, if_neg (by simp [hlow]), powerDown_idle h]
  case riseLate =>
    rw [pwrRise, if_neg (by simp [hlow]), powerDown_begins hlow hreset hpowered hdown hlong]
    exact congrArg (fun x => Host.Outcome.next (afterPower u { downBegin u.pwrLowAt u with pwrHigh := true, pwrHighAt := some x }))
      (downBegin_now u.pwrLowAt u)

end Sys2Proof.Machine
end

/-! SUPPORT. Slices, plots, isolation and metering (R404, R405, R407, R409, R410, R414, R418, R420). -/
section
namespace Sys2Proof.Machine

section
variable {t : Nat} {s u : State} (h : Awake t s u)
include h

theorem exec_drainStart_awake : exec (.drainStart t) s = .next (after u (drainStart u)) := congrArg _ (command_awake h _)

theorem exec_sendStop_awake : exec (.sendStop t) s = .next (after u (sendStop u)) := congrArg _ (command_awake h _)

theorem exec_receiveClose_awake : exec (.receiveClose t) s = .next (after u (receiveClose u)) := congrArg _ (command_awake h _)

theorem exec_sliceStart_awake (counts : Map Nat) : exec (.sliceStart t counts) s = .next (after u (sliceStart counts u)) :=
  congrArg _ (command_awake h _)

theorem exec_meteringBoundary_awake : exec (.meteringBoundary t) s = .next (after u (meterBoundary u)) :=
  congrArg _ (command_awake h _)

theorem exec_pendingRecordWrite_awake : exec (.pendingRecordWrite t) s = .next (after u (writeRecords u)) :=
  congrArg _ (command_awake h _)

theorem exec_teardown_awake (n : Nat) : exec (.teardown t n) s = .next (after u (teardown n u)) := congrArg _ (command_awake h _)

theorem exec_openPlot_awake (a : Accessor) (n : Nat) (w : Word) :
    exec (.openPlot t a n w) s = .next (after u (regWrite a (rPLOT_CTRL n) w [] u)) := congrArg _ (command_awake h _)

theorem exec_closePlot_awake (a : Accessor) (n : Nat) (w : Word) :
    exec (.closePlot t a n w) s = .next (after u (regWrite a (rPLOT_CTRL n) w [] u)) := congrArg _ (command_awake h _)

theorem exec_isoEn_awake (a : Accessor) (w : Word) :
    exec (.isoEn t a w) s = .next (after u (regWrite a rSEQ_ISO_CTRL w [] u)) := congrArg _ (command_awake h _)

end

/-! ## The slice's instants -/

theorem comesTo_due {s : State} {before : Nat} (hmst : mstValid s = true) (hslice : sliceNs s ≠ 0)
    (hdue : nextStart s ≤ mstNs s + before) : comesTo before s = true := by
  simp [comesTo, hmst, hslice, hdue]

/-- The drain of a slice that is not drained (R409). -/
theorem beginDrain_shows {s : State} (h : s.slice.drained = false) : ∃ v, beginDrain s = v ∧ v.slice.drained = true
    ∧ fld SEQ_SLICE_STATUS_DRAINING v = 1 ∧ v.link = (runEnd 2 s).link := by
  rw [beginDrain, if_neg (by simp [h])]
  exact ⟨_, rfl, rfl, fld_setFld_same SEQ_SLICE_STATUS_DRAINING (by decide) 1 _, setFld_link ..⟩

/-- The fields that a slice's start shows. -/
abbrev sliceFields (p : Option Nat) (e : Nat) : List (Fld × Nat) :=
  [(SEQ_SLICE_STATUS_PLOT, p.getD 0), (SEQ_SLICE_STATUS_IDLE, b2n p.isNone), (SEQ_SLICE_STATUS_DRAINING, 0),
    (SEQ_SLICE_STATUS_ENTRY, e)]

/-- The Sundial and status of slice N, of plot p and entry e. -/
def sliceShown (p : Option Nat) (e N : Nat) (s : State) : State :=
  setFlds (sliceFields p e) (onSdl (fun d => { d with nextSlice := N + 1 }) (switchVt p s))

/-- The cores scrubbed and the transfers told forgotten, as a slice starts. -/
def sliceScrubbed (s : State) : State :=
  onSeq (fun q => { q with issuedInSlice := false }) (scrubBegin { s with reported := [] })

/-- Slice N begun, of plot p and entry e. -/
def sliceEntered (p : Option Nat) (e N : Nat) (s : State) : State :=
  { sliceScrubbed (sliceShown p e N s) with slice := ⟨p, N, (sliceScrubbed (sliceShown p e N s)).now, false, false, false⟩ }

theorem sliceShown_keeps (p : Option Nat) (e N : Nat) (s : State) :
    timeOf (sliceShown p e N s) = timeOf s ∧ (sliceShown p e N s).sdl.nextSlice = N + 1 := by
  constructor
  · rw [sliceShown, timeOf_setFlds]
    exact timeOf_congr rfl
  · rw [sliceShown, sdl_of_unit (unitPart_setFlds ..)]
    rfl

theorem scrubBegin_keeps (s : State) : (scrubBegin s).sdl = s.sdl ∧ (scrubBegin s).reported = s.reported := by
  have hparted (x : Seq) (v : State) : { v with seq := x }.sdl = v.sdl ∧ { v with seq := x }.reported = v.reported := ⟨rfl, rfl⟩
  have hstorage (v : State) : (scrubStorage v).sdl = v.sdl ∧ (scrubStorage v).reported = v.reported := ⟨rfl, rfl⟩
  unfold scrubBegin
  rw [(hparted ..).1, (hparted ..).2, (hstorage _).1, (hstorage _).2, setFld_sdl, setFld_reported]
  exact ⟨rfl, rfl⟩

theorem sliceScrubbed_keeps (s : State) : timeOf (sliceScrubbed s) = timeOf s ∧ (sliceScrubbed s).sdl = s.sdl
    ∧ (sliceScrubbed s).reported = [] := by
  obtain ⟨hsdl, hreported⟩ := scrubBegin_keeps { s with reported := [] }
  unfold sliceScrubbed
  refine ⟨?_, ?_, ?_⟩
  · rw [timeOf_onSeq, timeOf_scrubBegin]
    exact timeOf_congr rfl
  · rw [onSeq_sdl, hsdl]
  · rw [onSeq_reported, hreported]

theorem sliceEntered_shows (p : Option Nat) (e N : Nat) (s : State) :
    (sliceEntered p e N s).slice = ⟨p, N, s.now, false, false, false⟩ ∧ (sliceEntered p e N s).reported = []
    ∧ (sliceEntered p e N s).sdl.nextSlice = N + 1 := by
  obtain ⟨htime, hnext⟩ := sliceShown_keeps p e N s
  obtain ⟨htime', hsdl, hreported⟩ := sliceScrubbed_keeps (sliceShown p e N s)
  have hnow : (sliceScrubbed (sliceShown p e N s)).now = s.now := by
    rw [← timeOf_eq, ← timeOf_eq, htime', htime]
  refine ⟨?_, hreported, (congrArg Sundial.nextSlice hsdl).trans hnext⟩
  rw [← hnow]
  rfl

section
variable {s z : State} {counts : Map Nat} {N e : Nat} (hstage : stage s = 8) (hcomes : comesTo 0 s = true)
  (hz : z = forceRequests (closeReceives (stopSends (beginDrain s)))) (hN : N = mstNs z / sliceNs z)
include hstage hcomes hz hN

theorem sliceStart_idle (howner : sliceOwner N z = (none, e)) :
    sliceStart counts s = trigger 3 0 none (boundary 2 counts (sliceEntered none e N z)) := by
  rw [sliceStart, if_neg (by rw [← stage]; simp [hstage, hcomes])]
  simp only [← hz, ← hN, howner]
  rfl

theorem sliceStart_owned {q : Nat} (howner : sliceOwner N z = (some q, e)) : sliceStart counts s = trigger 3 0 none (boundary 2 counts
    (homeSwap q (N * sliceNs (sliceEntered (some q) e N z)) (sliceEntered (some q) e N z))) := by
  rw [sliceStart, if_neg (by rw [← stage]; simp [hstage, hcomes])]
  simp only [← hz, ← hN, howner]
  rfl

end

/-! ## Metering -/

theorem closeRecord_mtrNext (n : Nat) (final : Bool) (s : State) : (closeRecord n final s).mtrNext = s.mtrNext := by
  have hrun : (meterRun (cycle s) s).mtrNext = s.mtrNext := by
    unfold meterRun
    split
    · split <;> rfl
    · rfl
  rw [← hrun]
  rfl

theorem writeRecords_mtrNext (s : State) : (writeRecords s).mtrNext = s.mtrNext := by
  refine loop_keeps (g := State.mtrNext) (fun n s => ?_) 16 s
  unfold writeRecord
  extract_lets m
  split
  · rfl
  · split
    · rfl
    · exact (mtrNext_of_unit (unitPart_irq ..)).trans rfl

theorem meterBoundary_closes {s z : State} (henable : flag MTR_CTRL_ENABLE s = true) (hperiod : fld MTR_CTRL_PERIOD s * 1000000 ≠ 0)
    (hdue : meterTime s % (fld MTR_CTRL_PERIOD s * 1000000) = 0) (hnew : s.mtrNext ≠ meterTime s + 1)
    (hz : z = writeRecords (forAll (fun n s => if plotState n s = 0 then s else closeRecord n false s) (List.range 16)
      { s with mtrNext := meterTime s + 1 })) :
    meterBoundary s = if chousUp s then meterCheckpoint z else z := by
  have hrun : meteringBoundary s = z := by
    rw [hz]
    exact if_neg (by simp [henable, hperiod, hdue, hnew])
  have hnext : z.mtrNext = meterTime s + 1 := by
    rw [hz, writeRecords_mtrNext]
    refine forAll_keeps (g := State.mtrNext) (fun n v => ?_) ..
    split
    · rfl
    · exact closeRecord_mtrNext ..
  simp only [meterBoundary, hrun, hnext, ne_eq, hnew.symm, not_false_eq_true, true_and]

/-! ## OPEN, CLOSE and ISO_EN -/

/-- A write of PLOT_CTRL that reaches it: OPEN, then CLOSE. -/
theorem regWrite_plotCtrl {a : Accessor} {n : Nat} {s : State} (h : Reaches a s) (hn : n < 16) (w : Word) :
    regWrite a (rPLOT_CTRL n) w [] s
      = hostFirst a (rPLOT_CTRL n) (plotWrite a n 0x1000 w (writeLatches a (rPLOT_CTRL n) s)) := by
  have hrow : (regRow (rPLOT_CTRL n)).isSome = true := by
    rw [show rPLOT_CTRL n = plotBase n + 0x1000 by unfold rPLOT_CTRL plotBase; omega, regRow_plotCtrl hn]
    rfl
  have hblock : rPLOT_CTRL n / 0x100000 = 1 := by unfold rPLOT_CTRL; omega
  have hplot : (rPLOT_CTRL n - 0x100000) / 0x10000 = n := by unfold rPLOT_CTRL; omega
  have hoff : rPLOT_CTRL n % 0x10000 = 0x1000 := by unfold rPLOT_CTRL; omega
  rw [regWrite_direct h (by unfold rPLOT_CTRL; omega) (by unfold rPLOT_CTRL; omega) hrow]
  simp only [writeReg, hblock, hplot, hoff]

section
variable {a : Accessor} {n : Nat} {w : Word} {s : State} (ha : a ≠ .vf n)
include ha

theorem plotWrite_opens (hopen : wfld (PLOT_CTRL_OPEN n) w = 1) (hclose : wfld (PLOT_CTRL_CLOSE n) w = 0) :
    plotWrite a n 0x1000 w s = openPlot a n s := by
  rw [plotWrite, if_neg (by decide), if_pos rfl, if_neg ha]
  simp only [hopen, hclose, if_true, Nat.zero_ne_one, if_false]

theorem plotWrite_closes (hopen : wfld (PLOT_CTRL_OPEN n) w = 0) (hclose : wfld (PLOT_CTRL_CLOSE n) w = 1) :
    plotWrite a n 0x1000 w s = closePlot n s := by
  rw [plotWrite, if_neg (by decide), if_pos rfl, if_neg ha]
  simp only [hopen, hclose, if_true, Nat.zero_ne_one, if_false]

end

/-- A write of SEQ_ISO_CTRL that reaches it. -/
theorem regWrite_isoCtrl {a : Accessor} {s : State} (h : Reaches a s) (w : Word) :
    regWrite a rSEQ_ISO_CTRL w [] s = hostFirst a rSEQ_ISO_CTRL (isoWrite a w (writeLatches a rSEQ_ISO_CTRL s)) :=
  regWrite_direct h (by decide) (by decide) (by decide) w []

section
variable {a : Accessor} {w : Word} {s : State}

theorem isoOn_asked (hiso : isoOn s = false) : isoOn (setFld SEQ_ISO_CTRL_ISO_EN 1 s) = false := by
  rw [isoOn, flag, fld_setFld_other (by decide) (by decide) (by decide)]
  exact hiso

theorem isoWrite_leaves (hen : wfld SEQ_ISO_CTRL_ISO_EN w = 0) (hrun : runOn s = false) : isoWrite a w s
    = thermIso (showHot (setFlds [(SEQ_ISO_CTRL_ISO_EN, 0), (SEQ_ISO_CTRL_ISO_ON, 0)] s)) := by
  rw [isoWrite, if_pos hen, if_neg (by simp [hrun])]

variable (hen : wfld SEQ_ISO_CTRL_ISO_EN w = 1) (hiso : isoOn s = false)
include hen hiso

theorem isoWrite_refused {r : Nat} (h : isoRefused (setFld SEQ_ISO_CTRL_ISO_EN 1 s) = some r) :
    isoWrite a w s = setFld SEQ_ISO_CTRL_REASON r (setFld SEQ_ISO_CTRL_ISO_EN 1 s) := by
  rw [isoWrite, if_neg (by omega)]
  simp only [isoOn_asked hiso, Bool.false_eq_true, if_false, h]

theorem isoWrite_enters (h : isoRefused (setFld SEQ_ISO_CTRL_ISO_EN 1 s) = none) (hcap : flag HMK_CAP_CFG_CAP_EN s = false) :
    isoWrite a w s = thermIso (showHot (setFld SEQ_ISO_CTRL_ISO_ON 1 (setFld SEQ_ISO_CTRL_ISO_EN 1 s))) := by
  have hoff : flag HMK_CAP_CFG_CAP_EN (setFld SEQ_ISO_CTRL_ISO_ON 1 (setFld SEQ_ISO_CTRL_ISO_EN 1 s)) = false := by
    rw [flag, fld_setFld_other (by decide) (by decide) (by decide), fld_setFld_other (by decide) (by decide) (by decide)]
    exact hcap
  rw [isoWrite, if_neg (by omega)]
  simp only [isoOn_asked hiso, Bool.false_eq_true, if_false, h, hoff, false_and]

end

/-- Settles O23: the slice's instants, the start by its owner, and each write on its condition. -/
theorem plotCommandsAnswer : Obligations.PlotCommandsAnswer := by
  refine ⟨fun t s u hu => ?commands, fun t n a w s u z hu hreach hn hz => ?plots, fun t a w s u z hu hreach hz => ?iso⟩
  case commands =>
    simp only [exec_drainStart_awake hu, exec_sendStop_awake hu, exec_receiveClose_awake hu, exec_sliceStart_awake hu,
      exec_meteringBoundary_awake hu, exec_pendingRecordWrite_awake hu, exec_teardown_awake hu]
    refine ⟨fun hmst hslice => ⟨fun hdue hdrained => ?drain, fun hdue => ?send, fun hdue => ?receive,
        fun counts z N hdue hstage hz hN => ?start⟩,
      fun p hp henable hperiod hdue hnew z hz => ?meter, trivial, fun n hclosing habort htags => ?teardown⟩
    case drain =>
      obtain ⟨v, rfl, hshow⟩ := beginDrain_shows hdrained
      rw [drainStart, if_pos (comesTo_due hmst hslice hdue)]
      exact ⟨_, rfl, hshow⟩
    case send => rw [sendStop, if_pos (comesTo_due hmst hslice hdue)]
    case receive =>
      rw [receiveClose, if_pos (comesTo_due hmst hslice hdue)]
      exact ⟨_, rfl, rfl⟩
    case start =>
      have hcomes := comesTo_due (before := 0) hmst hslice hdue
      obtain ⟨e, howner⟩ : ∃ e, sliceOwner N z = ((sliceOwner N z).1, e) := ⟨_, rfl⟩
      cases hp : (sliceOwner N z).1 with
      | none =>
        rw [hp] at howner
        obtain ⟨hshow, hreported, hnext⟩ := sliceEntered_shows none e N z
        rw [sliceStart_idle hstage hcomes hz hN howner]
        exact ⟨_, rfl, fun _ => ⟨congrArg Slice.number hshow, congrArg Slice.owner hshow, congrArg Slice.start hshow,
          congrArg Slice.drained hshow, congrArg Slice.sendStop hshow, congrArg Slice.recvClose hshow, hreported, hnext⟩, by simp⟩
      | some q =>
        rw [hp] at howner
        obtain ⟨hshow, -, -⟩ := sliceEntered_shows (some q) e N z
        rw [sliceStart_owned hstage hcomes hz hN howner]
        refine ⟨_, rfl, by simp, fun q' hq => ?_⟩
        obtain rfl : q = q' := Option.some.inj hq
        exact ⟨_, rfl, congrArg Slice.number hshow, congrArg Slice.owner hshow, congrArg Slice.start hshow,
          congrArg Slice.drained hshow⟩
    case meter =>
      rw [hp] at hperiod hdue
      rw [meterBoundary_closes henable hperiod hdue hnew hz]
    case teardown => rw [teardown, if_neg (by simp [hclosing, habort, htags])]
  case plots =>
    have hstate : plotState n z = plotState n u := by rw [hz, plotState, plotState, fld_writeLatches]
    have ha : a ≠ .vf n := hreach.2 n
    simp only [exec_openPlot_awake hu, exec_closePlot_awake hu, regWrite_plotCtrl hreach hn, ← hz]
    refine ⟨fun hopen hclose hfree hisr htr hwr hhome => ?opened, fun hopen hclose hwas => ?close⟩
    case opened =>
      rw [plotWrite_opens ha hopen hclose, openPlot, if_neg (by simp [hstate, hfree]), if_pos]
      · refine ⟨_, rfl, rfl, ?_⟩
        rw [plotState, fld_setFld_same (PLOT_STATUS_STATE n) (by simp [fieldOk])]
        rfl
      · rw [hz, isoOn, flag_writeLatches, flag_writeLatches, flag_writeLatches, flag_writeLatches, flag_writeLatches]
        exact ⟨hisr, htr, hwr, by simpa [isoOn] using hhome⟩
    case close => rw [plotWrite_closes ha hopen hclose, closePlot, if_pos (hstate.trans hwas)]
  case iso =>
    have hiso : isoOn z = isoOn u := by rw [hz, isoOn, isoOn, flag_writeLatches]
    have hrun : runOn z = runOn u := by rw [hz, runOn, runOn, writeLatches_seq]
    have hcap : flag HMK_CAP_CFG_CAP_EN z = flag HMK_CAP_CFG_CAP_EN u := by rw [hz, flag_writeLatches]
    simp only [exec_isoEn_awake hu, regWrite_isoCtrl hreach, ← hz]
    refine ⟨fun hen hidle => ?leaves, fun hen hoff y hy => ⟨fun r h => ?refused, fun h hno => ?enters⟩⟩
    case leaves => rw [isoWrite_leaves hen (hrun.trans hidle)]
    case refused =>
      rw [hy] at h ⊢
      rw [isoWrite_refused hen (hiso.trans hoff) h]
    case enters =>
      rw [hy] at h ⊢
      rw [isoWrite_enters hen (hiso.trans hoff) h (hcap.trans hno)]

end Sys2Proof.Machine
end
